-- ==== Sys2Proof/Word.lean ====
section
/-!
DEFINITION. The words the block is made of: 64-bit register words, bytes, and the sparse store in which an array of
the block is held (entries listed by rising key; a key that is not listed holds the array's default).
-/

namespace Sys2Proof

/-- A register word or program word (R31, R580). -/
abbrev Word := BitVec 64

/-- One byte. -/
abbrev Byte := BitVec 8

/-- A sparse array: (key, value) pairs with strictly rising keys and no pair equal to the array's default. -/
abbrev Store (α : Type) := List (Nat × α)

end Sys2Proof
end

