-- ==== Sys2Proof/Packet.lean ====
section
/-!
DEFINITION. Packets and the other data that a command of the block carries: the header fields of R76, the payload,
and what the units of the packet suffered on their way (R72 to R75).
-/

namespace Sys2Proof

/-- A packet: the header fields of R76 (widths in brackets), the PLEN payload bytes, and the state of its units.
`hcrc` and `pcrc` are the check values the packet carries, `nData` the data units that arrived with it, `dataBad` how many
of them hold an uncorrectable error (R75), `sbvc` says that a unit's sideband VC differs from the header's (R78), `rsv`
are the reserved header bits [495:401], `viaUp` (the model's own, not a header field) that it arrived on the die
through a port with UP = 1 (R186), and `inPort` (likewise) the input by which it entered the brick it is delivered at
(R244). -/
structure Packet where
  vc : Nat := 0          -- [3]
  op : Nat := 0          -- OPCODE [6], R79
  ver : Nat := 2         -- [4]
  epoch : Bool := false  -- R94
  rmode : Nat := 0       -- [2]
  hopidx : Nat := 0      -- [5]
  la : Nat := 0          -- [3]
  route : Nat := 0       -- [72], hop h at bits [3h+2:3h]
  dst : Nat := 0         -- [30] coordinate, or flat identifier in [23:0]
  src : Nat := 0         -- [30]
  flow : Nat := 0        -- [12]
  tracker : Nat := 0     -- [18]
  pseq : Nat := 0        -- [16]
  pcount : Nat := 1      -- [16]
  len : Nat := 0         -- [7] data units
  plen : Nat := 0        -- [14] payload bytes
  status : Nat := 0      -- [8]
  addr : Nat := 0        -- [57]
  group : Nat := 0       -- [12]
  cseq : Nat := 0        -- [16]
  seg : Nat := 0         -- [16]
  member : Nat := 0      -- [17]
  last : Bool := false
  mcast : Bool := false
  reduce : Bool := false
  resend : Bool := false
  steer : Bool := false
  moved : Bool := false
  hint : Nat := 0        -- [30]
  payload : List Byte := []
  hcrc : Nat := 0        -- [16], R77
  pcrc : Nat := 0        -- [32], R84
  nData : Nat := 0
  dataBad : Nat := 0
  sbvc : Bool := false
  rsv : Nat := 0         -- [95]
  viaUp : Bool := false
  inPort : Nat := 0
  deriving DecidableEq, Repr

/-- The port by which an access reaches a register: the Management Port, or a brick's Local Port target channel with its
requester identifier and tag (R549, R559). -/
inductive Via where
  | mp
  | lp (rid tag : Nat)
  deriving DecidableEq, Repr

/-- What the ECC and CPAR checks of a router input find in the beats that arrive with a packet, the idle beats before it
among them (R73 to R75, R455): the slices in which a single-bit error was corrected; an uncorrectable error or a CPAR
failure in the header unit; the data units in which an uncorrectable error is new; the data unit (1 = the first) that
fails CPAR; and how many data units came with no header unit before them. -/
structure RxError where
  corrected : Nat := 0
  header : Bool := false
  bad : Nat := 0
  cpar : Option Nat := none
  stray : Nat := 0
  deriving DecidableEq, Repr

/-- The result of the SECDED check of one fetched word (R48, R116). -/
inductive Secded where
  | single
  | double
  deriving DecidableEq, Repr

/-- The boundary with a far clock of R490. -/
inductive Boundary where
  | localPort (b : Nat)
  | managementPort
  | lane (p l : Nat)
  | bridge (p : Nat)
  | voltage
  deriving DecidableEq, Repr

/-- What a lane reports in LOS_LOL and LOS_LOL_CLEAR (R436, R450). -/
inductive LaneSignal where
  | los
  | lol
  | oeFault
  | oeWarn
  deriving DecidableEq, Repr

/-- What a checked unit of a lane did (R297): an adder or aligned-integer lane the wrapped 64-bit sum `r` of `a` and `b`
with its carry out, the exponent path of a floating addition its two copies, the multiplier array the product `p`. -/
inductive LaneWork where
  | adder (a b r : Nat) (carry : Bool)
  | exponent (x y : Nat)
  | product (a b p : Nat)
  deriving DecidableEq, Repr

/-- The work of a lane of a lane group. -/
structure LaneSeen where
  lg : Nat
  lane : Nat
  work : LaneWork
  deriving DecidableEq, Repr

/-- What lanes did in the two executions of a reducer operation (R267, R297, R298); the lanes that are not listed worked
right. The second execution takes place only where the check finds a mismatch in the first. -/
structure Residue where
  first : List LaneSeen := []
  second : List LaneSeen := []
  deriving DecidableEq, Repr

end Sys2Proof
end

