-- ==== Sys2Proof/Syntax.lean ====
section
/-!
DEFINITION. The commands of the block: one constructor per row of spec/opcode_table.json, with the operands the step
needs. Operand names: `b` brick index y * 16 + x; `u` stream as an event names it (R373: 0x0000 + e for transfer engine
e, 0x0100 + s for reducer slot s); `e` transfer engine; `s` group slot; `p` router port, lane port or output; `t`
tracker; `c` counter or channel; `q` queue; `r` ring or move record; `l` lane; `d` bridge port; `i`, `k` an index;
`v` the word written; `via` the port an access came by; `rid`, `tag` requester identifier and tag of a Local Port request.
-/

namespace Sys2Proof

/-- A command (one step of the part, whole and indivisible). -/
inductive Instr where
  /-- WAIT (R36). A stream executes WAIT: it computes the target from v, s and the iteration index, and either proceeds or enters WAITING. -/
  | wait (b u : Nat)
  /-- WAIT_SATISFIED (R41). A stream in WAITING samples its counter, finds it satisfies the target by R40, and proceeds in the next cycle. -/
  | waitSatisfied (b u : Nat)
  /-- SIGNAL (R38). SIGNAL with REM = 0 adds n to counter c of the stream's own brick. -/
  | signal (b u : Nat)
  /-- SIGNAL_R (R43). SIGNAL.R claims a pool tracker and sends a COUNTER packet on VC4 along a source route table entry, or faults if the entry is beyond the table. -/
  | signalR (b e : Nat)
  /-- LOOP (R35). LOOP branches to its target while fewer than n branches have been taken, and otherwise falls through. -/
  | loopBack (b u : Nat)
  /-- HALT (R37). HALT puts the stream in HALTED; at a reducer slot OPEN advances by 1. -/
  | halt (b u : Nat)
  /-- ILLEGAL_INSTRUCTION (R32). A fetched word with a bad class, opcode, reserved bit or operand stops its stream in FAULTED with PROGRAM_FAULT. -/
  | illegalInstruction (b u : Nat)
  /-- PROGRAM_MEMORY_ERROR (R48). A fetch finds a SECDED error in program memory: a single-bit error is corrected and counted; a double-bit error faults the stream. -/
  | programMemoryError (b u : Nat) (err : Secded)
  /-- WATCHDOG_EXPIRY (R46). A waiting stream's watchdog reaches the NI_WDOG bound; the stream enters FAULTED, a PROGRAM_FAULT event is posted and NI_PFAULT records it. -/
  | watchdogExpiry (b u : Nat)
  /-- RESTART (R49). A write of 1 to RESTART in XFR_STAT or RDC_STAT restarts a HALTED or FAULTED stream at its entry address. -/
  | restart (b u : Nat) (v : Word)
  /-- COPY (R207). COPY reads its descriptor and issues WRITE packets from SA to lake address DA along a route entry. -/
  | copy (b e : Nat) (ok : Bool)
  /-- MCAST (R207). MCAST, valid only at the root brick, issues MCAST packets replicated along the group's tree. -/
  | mcast (b e : Nat) (ok : Bool)
  /-- CONTRIB (R312). CONTRIB puts a member tracker in COLLECT and sends the member's contribution as segment parts toward its tree parent. -/
  | contrib (b e : Nat) (ok : Bool)
  /-- GATHER (R336). GATHER reads its gather block and predicted set and starts the fetch phase of the gather engine. -/
  | gather (b e : Nat) (ok : Bool)
  /-- STORE_C (R331). STORE.C starts the compressor on a dense source, to be written in compressed form at lake address DA. -/
  | storeC (b e : Nat) (ok : Bool)
  /-- SEND (R367). SEND offers the 32-byte message at SA to a send channel, under a send tracker. -/
  | send (b e : Nat) (ok : Bool)
  /-- RLOAD (R207). RLOAD issues directory-routed READREQ packets for a lake range, to be committed at local address DA. -/
  | rload (b e : Nat) (ok : Bool)
  /-- RSTORE (R207). RSTORE issues directory-routed WRITE packets from SA to the lake at DA. -/
  | rstore (b e : Nat) (ok : Bool)
  /-- FENCE (R209). FENCE holds its engine until every transfer it started earlier has completed at the source. -/
  | fence (b e : Nat)
  /-- FENCE_RELEASE (R209). The last earlier transfer of a fenced engine completes, and FENCE retires. -/
  | fenceRelease (b e : Nat)
  /-- TRACKER_CLAIM (R208). A descriptor instruction that waited for its tracker to be IDLE claims it, and the transfer starts. -/
  | trackerClaim (b e : Nat)
  /-- REMOTE_LINE_RELEASE (R229). A remote-memory packet held behind an unanswered packet of the same requester on the same line is issued once that packet is answered. -/
  | remoteLineRelease (b t : Nat)
  /-- POOL_TRACKER_CLAIM (R225). An LP operation or SIGNAL.R held for want of a pool tracker claims one when it becomes IDLE. -/
  | poolTrackerClaim (b : Nat)
  /-- SEGIN (R254). SEGIN binds the next set, or keeps the current one, and waits for the named children's complete parts, a free A and, with XW, a complete X. -/
  | segin (b s : Nat)
  /-- SEGIN_SATISFIED (R253). A stream waiting in SEGIN finds its set complete and A not held, and proceeds. -/
  | seginSatisfied (b s : Nat)
  /-- SEGOUT (R254). SEGOUT queues a buffer as one segment part, up as CONTRIB or DISPATCH or down as RESULT, with its trailer combined by R264. -/
  | segout (b s : Nat)
  /-- SEGMENT_EMITTED (R251). The last packet of a SEGOUT or EMIT part leaves; the child parts are acknowledged and, unless HOLD, the set is emitted. -/
  | segmentEmitted (b s : Nat)
  /-- SEGMENT_ACK (R253). A parent's ACK of an emitted segment reaches the reducer, ends the hold on A and frees the set. -/
  | segmentAck (b : Nat)
  /-- ADD (R279). ADD combines the named operands element by element in the fixed order of R256, rounding or saturating as the format requires. -/
  | add (b s : Nat) (r : Residue)
  /-- MAX (R281). MAX takes the elementwise maximumNumber of the named operands. -/
  | max (b s : Nat) (r : Residue)
  /-- MIN (R281). MIN takes the elementwise minimumNumber of the named operands. -/
  | min (b s : Nat) (r : Residue)
  /-- SCALE (R292). SCALE multiplies a binary32 buffer by a scalar, truncating toward zero. -/
  | scale (b s : Nat) (r : Residue)
  /-- CVT (R294). CVT converts a buffer between formats, or with XS rounds a still-mode A64 sum once. -/
  | cvt (b s : Nat) (r : Residue)
  /-- EXPMAX (R285). EXPMAX writes the maximum EXP8 exponent code of each element over the named operands. -/
  | expmax (b s : Nat) (r : Residue)
  /-- ALIGN (R286). ALIGN converts each float element to A64 at the scale given by X and G, flooring. -/
  | align (b s : Nat) (r : Residue)
  /-- SORT (R258). SORT sorts a record buffer in place by record order. -/
  | sort (b s : Nat)
  /-- MERGE (R258). MERGE writes into S the merge of the named record buffers by record order. -/
  | merge (b s : Nat)
  /-- FILTER (R258). FILTER keeps in place the records whose key lies in, or with INV outside, a dispatch entry's range. -/
  | filter (b s : Nat)
  /-- TOPK (R258). TOPK writes the first k records of a buffer in descending or ascending record order. -/
  | topk (b s : Nat)
  /-- REDUCER_GATHER (R258). The reducer GATHER appends rows of a buffer selected by an INT32 index buffer, writing zero rows for indices out of range. -/
  | reducerGather (b s : Nat)
  /-- EMIT (R258). EMIT splits a sorted buffer into runs by dispatch entry ranges and sends each run as a DISPATCH part. -/
  | emit (b s : Nat)
  /-- CONNECT (R99). A course CONNECT window opens, joining the output to one input for one flow and its replica outputs. -/
  | connect (b p : Nat)
  /-- IDLE (R100). A course IDLE window opens, in which no packet starts on the output. -/
  | idle (b p : Nat)
  /-- SHARED (R100). A course SHARED window opens, admitting VC2 to VC7 under shared-plane arbitration. -/
  | shared (b p : Nat)
  /-- CLOSING_WINDOW (R101). The closing window SHARED 0 opens and lasts until the next course boundary. -/
  | closingWindow (b p : Nat)
  /-- REPEAT (R102). REPEAT executes the preceding b course instructions n more times. -/
  | repeatBody (b p : Nat)
  /-- MARK (R103). MARK ends a part of the course program, and with WRAP returns the sequencer to address 0. -/
  | mark (b p : Nat)
  /-- SYNC (R104). SYNC adds n to a counter of its brick when the next timed window opens. -/
  | sync (b p : Nat)
  /-- COURSE_SAFE (R116). A course-word fetch finds a double-bit error, and the output enters SAFE with every cycle a closing window. -/
  | courseSafe (b p : Nat) (err : Secded)
  /-- COURSE_BOUNDARY (R96). CPHASE returns to zero, COURSE advances and every brick of the die begins a new course in the same FCLK. -/
  | courseBoundary (fclks : Nat) (slack : List (Nat × Nat × Nat))
  /-- BOUNDARY_MESSAGE (R24). A course-boundary message reaches a mortar stop, which corrects it by its position so the boundary takes effect die-wide in one FCLK. -/
  | boundaryMessage (b time : Nat)
  /-- TIME_MESSAGE (R119). A mortar time message carries COURSE, CPHASE and INC to a brick's copy of the course clock. -/
  | timeMessage (b : Nat)
  /-- DRAIN_INJECTION_STOP (R137). TRIP MCLK before a boundary from the swap target on, scheduled injection stops and bricks report whether they still hold scheduled packets. -/
  | drainInjectionStop
  /-- IMAGE_START (R65). At the swap boundary the banks swap, held scheduled packets are discarded, counters are cleared if CLRCNT, RWL fields lock and enabled engines start. -/
  | imageStart
  /-- TIM_CTL_SRC_WRITE (R122). A write of a non-zero SRC puts the die's time state in ACQUIRE; SRC = 0 makes it a time root. -/
  | timCtlSrcWrite (v : Word)
  /-- TIM_SET (R127). A write to TIM_SET while no image runs is held for the next boundary; while an image runs it is ignored with LOCKVIO. -/
  | timSet (v : Word)
  /-- TIM_NOW_READ (R128). A read of TIM_NOW returns GTIME and latches COURSE of the same instant into TIM_COURSE. -/
  | timNowRead
  /-- TREF_EDGE (R126). A rising edge of the time reference input gives a die with SRC = 1 an offset sample. -/
  | trefEdge
  /-- HOLDOVER_ENTRY (R122). After 256 courses without a sample a tracking or locked die enters HOLDOVER and freezes INC. -/
  | holdoverEntry
  /-- TIME_LOST (R125). After HOLDMAX courses in HOLDOVER the die enters LOST, and its time-timed windows are treated as IDLE. -/
  | timeLost
  /-- IMAGE_CHECK (R60). The check command starts the check pass, which writes nothing. -/
  | imageCheck
  /-- IMAGE_WRITE (R62). The write command, given in CHECKED, starts quiescing the die before the write pass. -/
  | imageWrite
  /-- IMAGE_ABORT (R67). The abort command returns the loader from CHECKING, CHECKED or REJECTED to its state before the check pass. -/
  | imageAbort
  /-- IMAGE_DATA (R69). A write to GLB_IMGDATA appends 8 bytes to the image in CHECKING or WRITING. -/
  | imageData (v : Word)
  /-- IN_BAND_SECTION (R60). An image section arrives in band on VC6 at a brick's NI or the root loader, which checks or writes it and reports over mortar. -/
  | inBandSection (b : Nat) (data : List Byte)
  /-- QUIESCE_DONE (R62). Every stream has reached a stopping point, and the write pass begins. -/
  | quiesceDone
  /-- QUIESCE_TIMEOUT (R62). Quiescing exceeds 1 ms; ERR reads BUSY and the stopped streams resume. -/
  | quiesceTimeout
  /-- WRITE_PASS_RELEASE (R180). An image held in CHECKED while WLOCK is set, or while a GPD entry is MOVING, begins its write pass once that condition clears. -/
  | writePassRelease
  /-- PROGRAM_WINDOW_WRITE (R71). Firmware writes a program word through the program-memory window, which takes effect only while the streams are stopped or in the open range. -/
  | programWindowWrite (b off : Nat) (v : Word)
  /-- LP_PROGRAM_WRITE (R58). A core writes a transfer program word through the Local Port, accepted only within the open range. -/
  | lpProgramWrite (b rid tag off : Nat) (v : Word)
  /-- COUNTER_SET (R39). A write to NI_CNTVAL sets a sync counter, ordered against other sets and adds of the same FCLK. -/
  | counterSet (via : Via) (b c : Nat) (v : Word)
  /-- COUNTER_ADD_WRITE (R38). A write to NI_CNTADD adds AMOUNT to a sync counter. -/
  | counterAddWrite (via : Via) (b c : Nat) (v : Word)
  /-- COUNTER (R81). An arriving COUNTER packet is checked against the arrival history and adds its amount to a counter once. -/
  | counter (b : Nat)
  /-- ROUTE_SOURCE (R87). A header unit reaches a router input in source mode and is sent out by the hop that HOPIDX names. -/
  | routeSource (b p : Nat) (err : RxError)
  /-- ROUTE_COORDINATE (R88). A header in coordinate mode is routed X then Y to its destination brick, or toward its exit selector. -/
  | routeCoordinate (b p : Nat) (err : RxError)
  /-- MCAST_REPLICATE (R187). An MCAST-flagged packet is replicated to its replica set by the brick's tree-node entry. -/
  | mcastReplicate (b p : Nat) (err : RxError)
  /-- FLAT_LOOKUP (R91). A directory slice resolves a flat identifier to a coordinate and forwards the packet, or answers DIR_MISS. -/
  | flatLookup (b : Nat)
  /-- INGRESS_REWRITE (R176). A packet that passed the checks at a lane or bridge ingress is rewritten by the ingress rules before entering the router. -/
  | ingressRewrite (b p : Nat) (arrival : Option Packet)
  /-- SHARED_ARBITRATE (R144). A free output in a shared window chooses a candidate by finish tag and round-robin and starts it. -/
  | sharedArbitrate (b p : Nat)
  /-- SCHEDULED_START (R111). A scheduled packet held at an NI, reducer or input starts once its output is in a matching window in which it fits. -/
  | scheduledStart (b p : Nat)
  /-- MISSBOUND_EXPIRY (R112). A scheduled packet waits MISSBOUND cycles at an input without a fitting window and is discarded. -/
  | missboundExpiry (b p : Nat)
  /-- HOLD_QUEUE_RELEASE (R113). The head of a port's hold queue is released when its output is in a matching window in which it fits. -/
  | holdQueueRelease (b p : Nat)
  /-- HOLD_QUEUE_EXPIRY (R113). The head of a hold queue has waited 4,800 FCLK and is discarded. -/
  | holdQueueExpiry (b p : Nat)
  /-- HEADMAX_EXPIRY (R458). A shared-plane header has stood HEADMAX µs in an input chain and its packet is discarded. -/
  | headmaxExpiry (b p : Nat)
  /-- WRITE (R211). A WRITE reaches its consumer, is checked against its tracker and committed to memory, or discarded as a duplicate or clash. -/
  | write (b : Nat)
  /-- MCAST_DELIVERY (R211). An MCAST packet delivered through L is committed under the tracker it names. -/
  | mcastDelivery (b : Nat)
  /-- READREQ (R230). A READREQ at a home enters the request store and is answered with a READRESP of the committed bytes. -/
  | readreq (b : Nat)
  /-- READRESP (R207). A READRESP reaches its tracker and is committed at the destination or into a gather tile. -/
  | readresp (b : Nat)
  /-- ACK (R215). An ACK reaches a source tracker and acknowledges the packets it names; at the count the tracker completes. -/
  | ack (b : Nat)
  /-- NACK (R215). A NACK makes the source tracker resend the packet it names, or complete with CRC_RESEND_EXHAUSTED. -/
  | nack (b : Nat)
  /-- ERROR (R217). An ERROR reaches a source tracker, which takes its STATUS and issues no new packet. -/
  | error (b : Nat)
  /-- FENCE_NOTICE (R195). A FENCE_NOTICE reaches the spring, which sets the member-mask bits of the fenced range. -/
  | fenceNotice (b : Nat)
  /-- ACK_TIMER (R212). ACKT has passed since the oldest unacknowledged accepted packet, and the destination sends an ACK. -/
  | ackTimer (b t : Nat)
  /-- HOLE_TIMER (R214). A DEST tracker's hole or silence has lasted HOLE, and it sends a NACK for b(t). -/
  | holeTimer (b t : Nat)
  /-- RESEND_TIMER (R215). A source has gone one fifth of its timeout without advance and resends every unacknowledged packet. -/
  | resendTimer (b t : Nat)
  /-- INITIATOR_TIMEOUT (R226). A tracker's timer reaches the initiator timeout and the tracker completes with TIMEOUT. -/
  | initiatorTimeout (b t : Nat)
  /-- LINGER_EXPIRY (R216). A tracker in LINGER reaches its linger time and returns to IDLE. -/
  | lingerExpiry (b t : Nat)
  /-- NOTICE_WAIT_EXPIRY (R195). NWAIT passes after the spring's last packet, and the spring's tracker completes with OK or PARTIAL. -/
  | noticeWaitExpiry (b t : Nat)
  /-- COALESCE_TIMEOUT (R223). COAL has passed since a batch's oldest record entered COMPLETING, and the batch is written. -/
  | coalesceTimeout (b r : Nat)
  /-- TRK_RIDX_WRITE (R222). A write of CONS advances a completion ring, letting trackers held on a full ring place their records. -/
  | trkRidxWrite (via : Via) (b r : Nat) (v : Word)
  /-- TRK_RBASE_WRITE (R237). A write to TRK_RBASE enables a ring and zeroes its indices, or disables it and drops waiting records. -/
  | trkRbaseWrite (via : Via) (b r : Nat) (v : Word)
  /-- LPM_RESPONSE (R556). A memory-master response arrives; a write response commits data or a record batch, and an error response is handled by R556. -/
  | lpmResponse (b tag : Nat) (err : Bool)
  /-- LP_LOAD (R228). A Local Port load reads 1 to 64 bytes of one lake line on a pool tracker. -/
  | lpLoad (b rid tag addr n : Nat)
  /-- LP_STORE (R228). A Local Port store writes 1 to 64 bytes of one lake line and is accepted once its pool tracker is claimed. -/
  | lpStore (b rid tag addr : Nat) (data : List Byte)
  /-- FENCE_READ (R228). A fence read returns once the requester's earlier LP operations complete, with the first failing status since its last fence read. -/
  | fenceRead (b rid tag : Nat)
  /-- CONTRIB_FILE (R249). A CONTRIB part reaching port C is filed by group, sequence and child slot, or discarded as stray, duplicate or without room. -/
  | contribFile (b : Nat)
  /-- RESULT_AT_REDUCER (R249). A RESULT reaching port C fills X of a still-mode slot, ends the collective on a fault segment, or is discarded. -/
  | resultAtReducer (b : Nat)
  /-- RESULT_DELIVERY (R314). A RESULT entering an NI through L is committed by every member tracker due that segment. -/
  | resultDelivery (b : Nat)
  /-- DISPATCH_FILE (R249). A DISPATCH part with REDUCE = 1, or addressed to EP 2, is filed at the reducer. -/
  | dispatchFile (b : Nat)
  /-- DISPATCH_DELIVERY (R318). A DISPATCH part arriving at EP 0 is taken by tracker DTRK and written with its run header. -/
  | dispatchDelivery (b : Nat)
  /-- GRP_ABORT (R322). A write to GRP_ABORT faults every slot of the group and completes every tracker in COLLECT for it with the written status. -/
  | grpAbort (v : Word)
  /-- FENCE_BITS_WRITE (R191). A write to BRK_RTCTL.FENCE fences outputs from the next FCLK and faults slots waiting on fenced children. -/
  | fenceBitsWrite (b : Nat) (v : Word)
  /-- ROUTE_FLIP_WRITE (R179). A write of 1 to GLB_ROUTE.FLIP requests a route epoch toggle at the next boundary. -/
  | routeFlipWrite (v : Word)
  /-- ROUTE_FLIP (R179). At the boundary the route epoch toggles, WLOCK is set and HOLDLEFT loaded. -/
  | routeFlip
  /-- ROUTE_TABLE_WRITE (R180). A write to GLB_RTPKG or GLB_RTSYS reaches every brick's copy, or is discarded with LOCKVIO for an active or locked bank. -/
  | routeTableWrite (addr : Nat) (v : Word)
  /-- ROUTE_ENTRY_COMMIT (R197). A write to NI_RTHI commits the staged NI_RTLO word and itself to the selected route entry. -/
  | routeEntryCommit (b : Nat) (v : Word)
  /-- SHAPER_WRITE (R150). A write of RATE or BURST keeps the shaper's token count clipped to BURST, or with FWREFILL sets it to BURST. -/
  | shaperWrite (addr : Nat) (v : Word)
  /-- SLOT_WRITE (R271). A write to RDC_SLOT takes effect only while the slot's stream is STOPPED or HALTED, and is otherwise discarded with LOCKVIO. -/
  | slotWrite (b s : Nat) (v : Word)
  /-- PARTITION_WRITE (R273). A write to RDC_PART takes effect only while every slot naming it is STOPPED or HALTED. -/
  | partitionWrite (b i : Nat) (v : Word)
  /-- COMPRESS_SCAN_DONE (R334). The compressor's scan pass fixes every block's treatment and T, and the write pass issues the compressed stream. -/
  | compressScanDone (b : Nat)
  /-- MERGE_PHASE_START (R339). Once every fetch is issued and any merge wait is satisfied, the gather engine reads the operand arrays and writes the activations. -/
  | mergePhaseStart (b : Nat)
  /-- MERGE_WAIT_TIMEOUT (R339). A merge wait reaches XFR_BOUND; the merge phase is abandoned and the tracker completes with TIMEOUT. -/
  | mergeWaitTimeout (b : Nat)
  /-- RESIDUAL_POST (R342). A residual descriptor waiting for credit on its channel is sent as a MESSAGE when credit arrives. -/
  | residualPost (b : Nat)
  /-- RESIDUAL_PAUSE_EXPIRY (R343). A merge paused on a full RESID partition reaches XFR_BOUND; posting stops and the tracker completes with WOULD_BLOCK. -/
  | residualPauseExpiry (b : Nat)
  /-- MESSAGE (R368). A MESSAGE at a receive queue is checked for epoch, grant entry, sequence and reservation, then committed and acknowledged. -/
  | message (b : Nat)
  /-- STEERED_MESSAGE (R372). A steered MESSAGE is taken by its chosen queue if STEEROK and a free slot, and otherwise refused with WOULD_BLOCK. -/
  | steeredMessage (b : Nat)
  /-- CREDIT (R362). A CREDIT GRANT or REVOKE reaches a send channel and opens, raises, closes or is ignored by epoch. -/
  | credit (b : Nat)
  /-- CHANNEL_ACK (R369). An ACK for a channel frees the acknowledged messages from the resend store. -/
  | channelAck (b : Nat)
  /-- CHANNEL_NACK (R369). A NACK for a channel makes it resend from the named message by go-back-N. -/
  | channelNack (b : Nat)
  /-- CHANNEL_ERROR (R370). An ERROR with STALE_EPOCH, CLOSED or NO_ROUTE closes the channel and fails its unacknowledged messages. -/
  | channelError (b : Nat)
  /-- CHANNEL_RESEND_TIMER (R369). A channel without advance for one fifth of its timeout resends every unacknowledged message. -/
  | channelResendTimer (b c : Nat)
  /-- CHANNEL_TIMEOUT (R369). A message reaches its initiator timeout unacknowledged and the channel closes with TIMEOUT. -/
  | channelTimeout (b c : Nat)
  /-- MQ_SEND (R366). A send through MQ_SEND offers a message to a channel and reports OK, CLOSED or WOULD_BLOCK. -/
  | mqSend (b rid tag : Nat) (data : List Byte)
  /-- SEND_ACCEPT (R365). A waiting sender is accepted by its channel once credit and a resend-store entry are available. -/
  | sendAccept (b c : Nat)
  /-- SEND_BLOCK_EXPIRY (R365). A send waits 4,096 FCLK without acceptance and returns WOULD_BLOCK. -/
  | sendBlockExpiry (b c : Nat)
  /-- MQ_GRANT (R363). The queue owner reserves slots for a channel and sends a CREDIT GRANT with the new limit. -/
  | mqGrant (via : Via) (b : Nat) (v : Word)
  /-- QUEUE_RESET (R356). A queue reset discards its messages, raises EPOCH, revokes every grant and clears the grant table. -/
  | queueReset (via : Via) (b q : Nat) (v : Word)
  /-- MQ_POP (R357). A read of byte 0 of MQ_POP pops the head message and latches it with its source. -/
  | mqPop (via : Via) (b q : Nat)
  /-- EVENT_POP (R374). A read of MQ_EVPOP pops the oldest event entry of the NI event FIFO. -/
  | eventPop (via : Via) (b : Nat)
  /-- MQ_CHCFG_WRITE (R359). A write to MQ_CHCFG puts an idle or closed channel without unacknowledged messages in IDLE, or is discarded with LOCKVIO. -/
  | mqChcfgWrite (via : Via) (b c : Nat) (v : Word)
  /-- CREDIT_BATCH (R364). A queue sends a CREDIT to each grant entry whose limit has risen, at most once per CBATCH. -/
  | creditBatch (b q : Nat)
  /-- CREDIT_REFRESH (R364). Every CREFRESH the queue sends its current limit again to every entry with reserved slots. -/
  | creditRefresh (b q : Nat)
  /-- EVENT_STALE (R375). The event FIFO has stayed non-empty and unpopped for EVSTALE, and a stale-read notice is issued. -/
  | eventStale (b : Nat)
  /-- DIRECTORY_LOOKUP (R390). A slice looks up a slice-routed packet's address and forwards, rewrites or answers it by the entry found. -/
  | directoryLookup (b : Nat)
  /-- PLACEMENT_EVALUATION (R395). At its interval boundary a slice picks a move candidate, starts a move, and halves heat and ages its entries. -/
  | placementEvaluation (b : Nat)
  /-- START (R397). DIRREQ START asks the die's root for a move grant. -/
  | startMove (b : Nat)
  /-- END (R397). DIRREQ END tells the root that a move is no longer active. -/
  | endMove (b : Nat)
  /-- RESERVE (R397). DIRREQ RESERVE takes the lowest valid pooled frame of the target die. -/
  | reserve (b : Nat)
  /-- RELEASE (R397). DIRREQ RELEASE returns a frame to the pool, or to PLC_LOG when the pool has no free entry. -/
  | release (b : Nat)
  /-- PREPARE (R397). DIRREQ PREPARE makes the target slice's entry a remote entry in state MOVING. -/
  | prepare (b : Nat)
  /-- CANCEL (R397). DIRREQ CANCEL returns the prepared target entry to state HOME. -/
  | cancel (b : Nat)
  /-- INSTALL (R397). DIRREQ INSTALL makes the target slice's entry a home entry for the new home and frame. -/
  | install (b : Nat)
  /-- MOVE (R399). DIRREQ MOVE opens a move record at the old home, which starts copying the page in chunks. -/
  | movePage (b : Nat)
  /-- REPORT (R398). DIRREQ REPORT tells the coordinator whether the copy reached FORWARD or was aborted. -/
  | report (b : Nat)
  /-- FLIP (R401). DIRREQ FLIP starts the old home's forwarding lease. -/
  | flip (b : Nat)
  /-- REFRESH (R402). DIRREQ REFRESH updates a requester slice's remote entry when its epoch is newer. -/
  | refresh (b : Nat)
  /-- DIRRESP (R398). A DIRRESP reaches the coordinator, which advances or unwinds its move. -/
  | dirresp (b : Nat)
  /-- CHUNK (R399). A CHUNK packet is committed at the new home and acknowledged as a WRITE is. -/
  | chunk (b : Nat)
  /-- COPY_ROUND_DONE (R399). Every chunk stream of a round is acknowledged; a clean dirty map moves the record to FORWARD, otherwise another round or an abort follows. -/
  | copyRoundDone (b r : Nat)
  /-- FORWARD_LEASE_EXPIRY (R401). The old home's lease ends; the record logs its old frame in PLC_LOG or waits in LOGWAIT. -/
  | forwardLeaseExpiry (b r : Nat)
  /-- LOGWAIT_RELEASE (R401). A record waiting in LOGWAIT adds its PLC_LOG record once the log has room, and is freed. -/
  | logwaitRelease (b r : Nat)
  /-- ENTRY_LEASE_EXPIRY (R398). LEASE µs after the flip, the coordinator's FORWARDING entry becomes an ordinary remote entry in state HOME. -/
  | entryLeaseExpiry (b i : Nat)
  /-- GPD_COMMIT (R412). A write to word 2 of GPD_DATA commits the staged entry words, clears heat and sets AGE to 255. -/
  | gpdCommit (b : Nat) (v : Word)
  /-- PLC_LOG_POP (R409). A read of PLC_LOG pops one logged frame record. -/
  | plcLogPop
  /-- MGMT (R583). An in-band MGMT register access at the root brick is applied and answered with ACK, READRESP or ERROR. -/
  | mgmt
  /-- TRAINING_DONE (R426). The PHY reports a lane trained, and the lane waits for a MARK. -/
  | trainingDone (p l : Nat) (eq : Word)
  /-- HUNT_LOCK (R426). A lane in HUNT sees 64 consecutive valid sync headers and becomes LOCKED. -/
  | huntLock (p l : Nat)
  /-- HUNT_UNLOCK (R426). A locked lane sees 16 invalid headers in 64 blocks and returns to HUNT. -/
  | huntUnlock (p l : Nat)
  /-- HUNT_TIMEOUT (R426). A lane stays 10 µs in HUNT and enters TRAIN for a retrain. -/
  | huntTimeout (p l : Nat)
  /-- RETRAIN_CHECK (R436). A lane not LOCKED 1 ms after entering TRAIN counts a failed retrain, which may retire it. -/
  | retrainCheck (p l : Nat)
  /-- LANE_ADD_TIMER (R435). A lane LOCKED for 1 ms and not retired is added to its direction's active set. -/
  | laneAddTimer (p l : Nat)
  /-- FIRST_LOCK_TIMEOUT (R427). 20 µs after the first lane locks, the receiving end chooses its first active set. -/
  | firstLockTimeout (p : Nat)
  /-- LOS_LOL (R436). A lane reports LOS, LOL or an optical-engine fault outside IDLE and EXIT. -/
  | losLol (p l : Nat) (sig : LaneSignal)
  /-- LOS_TIMEOUT (R436). LOS or LOL lasts beyond LOSMAX and the lane is retired. -/
  | losTimeout (p l : Nat)
  /-- FEC_INTERVAL (R436). A 100 ms interval ends; too many uncorrectable codewords retire the lane and the lane margin PEAK and RUN are updated. -/
  | fecInterval (p l corr uncorr peak : Nat)
  /-- INIT (R427). An INIT control block arrives; two identical INITs with matching LLR and credits bring the link UP, otherwise INITMIS is set. -/
  | init (p die port : Nat) (llr : Bool) (cred : List Nat)
  /-- LSET (R435). An LSET with ECHO = 0 reaches the transmitting end, which echoes it and stripes on the new mask. -/
  | lset (p mask : Nat)
  /-- LSET_ECHO (R435). An LSET with ECHO = 1 reaches the receiving end, which switches to the named mask. -/
  | lsetEcho (p mask : Nat)
  /-- LSET_REPEAT (R435). The receiving end repeats an unechoed LSET every 1 µs. -/
  | lsetRepeat (p : Nat)
  /-- LINK_PACKET_RX (R428). A packet arrives at a lane ingress and is accepted in LSEQ order or refused with NAK, and its link fields are taken. -/
  | linkPacketRx (p : Nat) (pkt : Packet) (lseq lack : Nat) (nak : Bool) (cvc ctot : Nat) (good : Bool)
  /-- NAK (R428). A NAK arrives at a transmitter, which rewinds and replays every kept packet from the named LSEQ. -/
  | nak (p lack : Nat)
  /-- REPLAY_TIMEOUT (R428). The oldest unacknowledged packet has waited RTMO without LACK advancing, and a replay starts. -/
  | replayTimeout (p : Nat)
  /-- LCTL (R430). An LCTL control slot updates LACK, NAK and every credit total at the sender. -/
  | lctl (p : Nat) (nak : Bool) (lack : Nat) (totals : List Nat)
  /-- TSREQ_SEND (R431). At CPHASE 1,000 ns the downstream die sends TSREQ in its first free control slot. -/
  | tsreqSend (t1 : Nat)
  /-- TSREQ (R431). A TSREQ reaches the upstream die, which answers with TSRESP carrying t2 and t3. -/
  | tsreq (p t2 t3 : Nat)
  /-- TSRESP (R432). A TSRESP reaches the downstream die, which forms the offset sample and delay and updates INC and its time state. -/
  | tsresp (p t2 t3 t4 : Nat)
  /-- IDLE_ENTRY (R433). A quiet transmit direction sends IDLEIN and enters electrical idle. -/
  | idleEntry (p : Nat)
  /-- IDLEIN (R433). An IDLEIN broadcast row puts the receiving lanes in IDLE. -/
  | idlein (p : Nat)
  /-- IDLE_EXIT (R434). An idle direction leaves idle on a need or every 64 courses and starts its exit burst. -/
  | idleExit (p : Nat)
  /-- EXIT_BURST_END (R434). 256 ns after exit, striping resumes and lanes not yet LOCKED leave the active set. -/
  | exitBurstEnd (p : Nat)
  /-- LINK_ENABLE (R427). Setting LNK_CTL.EN takes a lane port link out of DOWN into TRAINING. -/
  | linkEnable (p : Nat) (v : Word)
  /-- LINK_DISABLE (R427). Clearing LNK_CTL.EN takes the link to DOWN. -/
  | linkDisable (p : Nat) (v : Word)
  /-- LINK_RETRAIN (R442). A write of 1 to LNK_CTL.RETRAIN takes the link to DOWN and trains it again. -/
  | linkRetrain (p : Nat) (v : Word)
  /-- LANE_RETIRE (R436). Firmware writes 1 to LN_CTL.RETIRED and the lane is retired. -/
  | laneRetire (p l : Nat) (v : Word)
  /-- LANE_RELEASE (R436). Firmware writes 0 to LN_CTL.RETIRED and both directions of the lane enter TRAIN. -/
  | laneRelease (p l : Nat) (v : Word)
  /-- PHY_LINK_UP (R439). The bridge PHY reports link up, and the bridge link moves from TRAINING to INIT. -/
  | phyLinkUp (d : Nat)
  /-- PHY_LINK_DOWN (R439). The bridge PHY link goes down and the bridge link returns to DOWN. -/
  | phyLinkDown (d : Nat)
  /-- BRIDGE_INIT (R438, R439). Two INIT fragments, as bridge control fields, arrive on a bridge; two identical pairs bring the link UP. -/
  | bridgeInit (d frag0 frag1 : Nat)
  /-- BRIDGE_INIT_TIMEOUT (R452). INIT fragments fail to match twice within 20 µs and D2D_ERR.INITMIS is set. -/
  | bridgeInitTimeout (d : Nat)
  /-- BRIDGE_CREDIT (R440). A CREDIT in a bridge control field updates the credit total of one VC. -/
  | bridgeCredit (d ctl : Nat)
  /-- BRIDGE_TSREQ (R441). A TSREQ beat reaches the upstream end of a bridge, which answers with TSRESP fragments. -/
  | bridgeTsreq (d t2 t3 : Nat)
  /-- BRIDGE_TSRESP (R441). The eight TSRESP fragments arrive, and the downstream die forms its time sample. -/
  | bridgeTsresp (d : Nat) (frags : List Nat) (t4 : Nat)
  /-- BRIDGE_ENABLE (R452). Setting D2D_CTL.EN enables a bridge port. -/
  | bridgeEnable (d : Nat) (v : Word)
  /-- BRIDGE_DISABLE (R439). Clearing D2D_CTL.EN takes the bridge link to DOWN. -/
  | bridgeDisable (d : Nat) (v : Word)
  /-- BRIDGE_RETRAIN (R452). A write of 1 to D2D_CTL.RETRAIN takes the bridge link to DOWN and retrains it. -/
  | bridgeRetrain (d : Nat) (v : Word)
  /-- PORT_RETIRE (R479). A write of 1 to a GLB_PORTRET bit retires the port as a permanent classification does. -/
  | portRetire (bridge : Bool) (n : Nat)
  /-- PORT_RELEASE (R464). A write of 0 to a GLB_PORTRET bit releases the port, which trains again if enabled. -/
  | portRelease (bridge : Bool) (n : Nat)
  /-- FAULT_DONE (R468). A write of 1 to GLB_FLTCTL.DONE sets DONEPEND. -/
  | faultDone (v : Word)
  /-- EPISODE_END (R468). At a boundary with DONEPEND and no old-epoch traffic, replay or down port, the recovery episode ends with a RECOVERED entry. -/
  | episodeEnd
  /-- FLTLOG_POP (R478). A read of GLB_FLTLOG pops its oldest entry. -/
  | fltlogPop
  /-- COLD_RESET (R491). The cold reset input clears the whole block, including RWS fields and the black box. -/
  | coldReset
  /-- WARM_RESET (R492). The warm reset input resets the block while keeping RWS fields, the black box, lane training results and queue epochs. -/
  | warmReset
  /-- WARM (R505). A write of 1 to RST_CTL.WARM raises a warm reset of the block. -/
  | warm (v : Word)
  /-- ENUM (R22). A write of 1 to RST_CTL.ENUM starts mortar enumeration. -/
  | enum (v : Word)
  /-- ENUMERATION_DONE (R23). Mortar enumeration assigns stop positions and reports STOPS and TRIP. -/
  | enumerationDone (ret : Nat)
  /-- ROOTCK_LOSS (R484). No ROOTCK edge is seen for 16 reference cycles; RCKLOSS is set and CLKLOSS asserted. -/
  | rootckLoss
  /-- ROOTCK_RETURN (R484). ROOTCK returns and the block performs a warm reset before any clock reaches its logic. -/
  | rootckReturn
  /-- FREQUENCY_MEASURE (R483). Every 1,024 reference cycles the ROOTCK error is measured into FERR and FBAD. -/
  | frequencyMeasure (ferr : Int)
  /-- HEARTBEAT_STOP (R490). A far side's heartbeat does not change for 1,024 MCLK and the boundary is treated as stopped. -/
  | heartbeatStop (far : Boundary)
  /-- HEARTBEAT_RESUME (R490). A stopped boundary's heartbeat resumes and the resynchronisation handshake starts. -/
  | heartbeatResume (far : Boundary)
  /-- RESYNC_DONE (R497). The RDY handshake completes and traffic resumes across the FIFO boundary. -/
  | resyncDone (far : Boundary)
  /-- LP_RESET (R496). The cluster's Local Port reset input closes the bridge and resets its queues. -/
  | lpReset (b : Nat)
  /-- LPRST (R508). A write of 1 to RST_BRK.LPRST resets the brick's Local Port bridge. -/
  | lprst (b : Nat) (v : Word)
  /-- POWER_DOWN_REQUEST (R496). The cluster's power-down request moves an open bridge to CLOSING. -/
  | powerDownRequest (b : Nat)
  /-- LP_CLOSING_DONE (R496). Every accepted packet is committed and answered; the bridge enters CLOSED and raises the acknowledge. -/
  | lpClosingDone (b : Nat)
  /-- POWER_UP (R496). The cluster is out of reset, powered and beating, and the closed bridge enters RESYNC. -/
  | powerUp (b : Nat)
  /-- ISOLATE (R493). A write of 1 to RST_BRK.ISOLATE isolates the brick, or is refused if a neighbour's output is not fenced. -/
  | isolate (b : Nat) (v : Word)
  /-- ISOLATE_RELEASE (R494). A write of 0 to ISOLATE schedules the brick's exit from isolation at the next boundary. -/
  | isolateRelease (b : Nat) (v : Word)
  /-- ISOLATION_EXIT (R494). At the boundary the brick's links are emptied and hop credits set to 4 at both ends. -/
  | isolationExit (b : Nat)
  /-- COMPUTE_GATE (R499). A write of 1 to PWR_BRK.CGATE puts the compute domain in CLOSING and faults its collectives with DOMAIN_OFF. -/
  | computeGate (b : Nat) (v : Word)
  /-- COMPUTE_UNGATE (R502). A write of 0 to CGATE starts WAKING from OFF, or takes effect on reaching OFF. -/
  | computeUngate (b : Nat) (v : Word)
  /-- COMPUTE_CLOSING_DONE (R499). Every fault segment has left and the sparse path is empty; the compute domain is switched OFF. -/
  | computeClosingDone (b : Nat)
  /-- WAKING_DONE (R501). The supply ramp ends, and the compute domain becomes ON at the next boundary. -/
  | wakingDone (b : Nat)
  /-- VREQ_ACK (R521). The regulator acknowledges a supply request; ACKED takes the value and the settle time starts. -/
  | vreqAck (v : Nat)
  /-- SETTLE_EXPIRY (R521). SETTLE µs after the acknowledge, LOWCNT counting resumes. -/
  | settleExpiry
  /-- DOWN (R523). A write of 1 to AGE_VREQ.DOWN requests one supply step down. -/
  | down (v : Word)
  /-- SEGMENT_MODE_CHANGE (R520). A stretcher segment whose TWO changed takes its new mode at a boundary, at both stops in one FCLK. -/
  | segmentModeChange (i : Nat)
  /-- AGE_PLAN_WRITE (R523). Firmware writes TWO of a segment, which changes mode at the next boundary. -/
  | agePlanWrite (i : Nat) (v : Word)
  /-- STRESS_HOUR (R515). A stress hour passes; the oscillators are measured into DRIFT, HOURS advances and a history sample may be stored. -/
  | stressHour (b fref fstress : Nat)
  /-- AGE_HIST_WRITE (R517). A write to AGE_HIST refits the drift model and recomputes EOL. -/
  | ageHistWrite (b k : Nat) (v : Word)
  /-- TRACE_RECORD (R530). A trace record reaches the root and is written at WR of the trace SRAM, or dropped. -/
  | traceRecord (b : Nat)
  /-- PRB_TCTL_ENABLE (R530). Writing EN from 0 to 1 sets WR to 0 and clears FULL and WRAPPED. -/
  | prbTctlEnable (v : Word)
  /-- CONGESTION_INTERVAL (R531). At the end of N courses each output reports BUSY and BACK to the root. -/
  | congestionInterval (b : Nat) (busy : List Nat)
  /-- CONGESTION_MAP_COMPLETE (R532). The root holds every brick's report, toggles BANK, raises SEQ and with CMSEND sends the map. -/
  | congestionMapComplete
  /-- BLACK_BOX_ENTRY (R534). A black-box entry reaches the root and is written at NEXT. -/
  | blackBoxEntry (b : Nat)
  /-- FREEZE (R535). A write of 1 to BBX_CTL.FREEZE freezes the black box. -/
  | freeze (v : Word)
  /-- FREEZE_COMPLETE (R536). 2 × TRIP MCLK after a freezing event the FREEZE entry is written and FROZEN and CAUSE are set. -/
  | freezeComplete
  /-- UNFREEZE (R537). A write of 1 to UNFREEZE clears FROZEN, CAUSE, LATE and RSTS and resumes recording. -/
  | unfreeze (v : Word)
  /-- MBIST_RUN (R568). The wrapper instruction MBIST_RUN runs the memory self-test of every brick. -/
  | mbistRun
  /-- MBIST_DONE (R503). Memory self-test ends; BISTDONE is set and failing bricks are marked in RST_BISTMAP. -/
  | mbistDone (failed : List Nat)
  /-- MBIST_READ (R568). The wrapper instruction MBIST_READ shifts out RST_BISTMAP. -/
  | mbistRead
  /-- WS_BYPASS (R568). The wrapper instruction WS_BYPASS selects the bypass register. -/
  | wsBypass
  /-- WS_EXTEST (R568). The wrapper instruction WS_EXTEST lets boundary cells drive and capture the ports. -/
  | wsExtest
  /-- WS_INTEST (R568). The wrapper instruction WS_INTEST selects internal scan. -/
  | wsIntest
  /-- REGISTER_WRITE (R580). A write to a register without behaviour of its own applies its fields, clearing W1C counters and flags and marking LOCKVIO on locked fields. -/
  | registerWrite (via : Via) (addr : Nat) (v : Word)
  /-- ARRIVAL_HISTORY_EXPIRY (R225). An arrival-history entry keyed by (SRC, TRACKER) reaches the linger time and is freed, so later arrivals are no longer refused with HISTFULL. -/
  | arrivalHistoryExpiry (b src trk : Nat)
  /-- MARK_CODEWORD (R425). A MARK codeword arrives on a lane, moving it from TRAIN to HUNT with the deskew check, or realigning it at the end of an exit burst. -/
  | markCodeword (p l count : Nat) (skewed : Bool)
  /-- LOS_LOL_CLEAR (R436). LOS or LOL of a lane clears after a short loss, and the lane enters TRAIN. -/
  | losLolClear (p l : Nat) (sig : LaneSignal)
  /-- LCTL_SEND_DUE (R430). A credit, LACK or NAK change has waited 64 slot times unsent, and an LCTL carrying every total goes in the next free slot. -/
  | lctlSendDue (p : Nat)
  /-- WAKE_PATTERN (R434). A receive lane in IDLE sees its partner's exit burst begin and enters EXIT. -/
  | wakePattern (p : Nat)
  /-- COLD_RESET_RELEASE (R482). The cold reset input is released; the divider chain starts aligned and memory self-test begins unless the wrapper's test mode holds it. -/
  | coldResetRelease (testmode : Bool)
  /-- WARM_RESET_RELEASE (R566). A held warm reset input is released and the block leaves warm reset. -/
  | warmResetRelease
  /-- TELEMETRY (R528). A TELEMETRY packet carrying a trace record or congestion map reaches its destination endpoint and is consumed. -/
  | telemetry (b : Nat)
  /-- REDUCER_HOLE_TIMER (R249). A child's segment part has stayed incomplete at the reducer for TRK_CTL.HOLE, and the reducer NACKs the missing packet. -/
  | reducerHoleTimer (b s child : Nat)
  /-- SEGMENT_ERROR (R321). An ERROR answering a part a reducer slot sent reaches the slot, which faults collective OPEN with the ERROR's status. -/
  | segmentError (b : Nat)
  /-- SEGMENT_NACK (R251). A NACK for a part a reducer slot sent reaches the slot, which resends the part from its held buffer. -/
  | segmentNack (b : Nat)
  /-- SEGMENT_RESEND_TIMER (R251). A part a reducer slot sent stays unacknowledged for one fifth of the initiator timeout, and the slot resends the whole part. -/
  | segmentResendTimer (b s seg : Nat)
  /-- INTERRUPT_RETURN (R557). The return toggle of a Local Port interrupt line matches, and any merged events cause one further change of the toggle. -/
  | interruptReturn (b : Nat) (queues : Bool)
  deriving DecidableEq, Repr

end Sys2Proof
end

