-- ==== Sys2Proof/Decode.lean ====
section
/-!
DEFINITION. The command that a word spells by the bits of spec/opcode_table.json. No row of the table gives its command
bits (the commands are accesses, events and arrivals at the block's ports), so no word spells one.
-/

namespace Sys2Proof

/-- The command spelled by `nbits` bits of `w`: none, since the table gives no row any bits. -/
def decodeTableWord (_nbits _w : Nat) : Option Instr := none

end Sys2Proof
end

