-- ==== Sys2Proof/Machine/Bits.lean ====
section
/-!
DEFINITION. Bit fields, byte order and modular comparison: bit 0 is the least significant bit (R6) and every multi-byte
field is little-endian (R7).
-/

namespace Sys2Proof.Machine

/-- Bits [hi:lo] of a number (R6). -/
def bits (n hi lo : Nat) : Nat := (n >>> lo) % 2 ^ (hi + 1 - lo)

/-- Bits [hi:lo] of a number replaced by `v` (cut to the width of the field). -/
def setBits (n hi lo v : Nat) : Nat :=
  n - (bits n hi lo <<< lo) + ((v % 2 ^ (hi + 1 - lo)) <<< lo)

/-- Field [hi:lo] of a register or program word. -/
def fld (w : Word) (hi lo : Nat) : Nat := bits w.toNat hi lo

/-- Bit `i` of a word. -/
def flag (w : Word) (i : Nat) : Bool := w.toNat.testBit i

/-- A word with field [hi:lo] replaced. -/
def withFld (w : Word) (hi lo v : Nat) : Word := BitVec.ofNat 64 (setBits w.toNat hi lo v)

/-- 1 for true. -/
def b2n (b : Bool) : Nat := if b then 1 else 0

/-- A number from (lo, value) pairs that do not overlap. -/
def packFields : List (Nat × Nat) → Nat
  | [] => 0
  | (lo, v) :: r => (v <<< lo) + packFields r

/-- A word from (lo, value) pairs. -/
def mkWord (l : List (Nat × Nat)) : Word := BitVec.ofNat 64 (packFields l)

/-- The `n` low bytes of a number, least significant first (R7). -/
def leBytes : Nat → Nat → List Byte
  | 0, _ => []
  | n + 1, v => BitVec.ofNat 8 v :: leBytes n (v / 256)

/-- The number that bytes spell, least significant first (R7). -/
def leNat : List Byte → Nat
  | [] => 0
  | b :: r => b.toNat + 256 * leNat r

/-- `n` bytes of a byte list from offset `o`; missing bytes read 0. -/
def bytesAt (l : List Byte) (o n : Nat) : List Byte :=
  let t := (l.drop o).take n
  t ++ List.replicate (n - t.length) 0

/-- The `n`-byte little-endian number at offset `o`. -/
def natAt (l : List Byte) (o n : Nat) : Nat := leNat (bytesAt l o n)

/-- `a` precedes or equals `b` modulo 2^w: ((b - a) mod 2^w) < 2^(w-1) (R40, R147). -/
def serialLe (w a b : Nat) : Bool := decide ((b + 2 ^ w - a % 2 ^ w) % 2 ^ w < 2 ^ (w - 1))

/-- ⌈a / b⌉. -/
def ceilDiv (a b : Nat) : Nat := (a + b - 1) / b

/-- Addition that stops at `max` (a saturating counter). -/
def satAdd (max a n : Nat) : Nat := min max (a + n)

/-- The number of one bits among the low `n` bits. -/
def popCount : Nat → Nat → Nat
  | 0, _ => 0
  | n + 1, v => v % 2 + popCount n (v / 2)

/-- The least `i < n` with `p i`. -/
def findBelow (n : Nat) (p : Nat → Bool) : Option Nat := (List.range n).find? p

end Sys2Proof.Machine
end

