-- ==== Sys2Proof/Machine/RegTable.lean ====
section
/-!
DEFINITION. The register table: the name, place (R578 and the register index of 19_registers.md) and field map of every
register, with each field's access code (R580) and reset value.
-/

namespace Sys2Proof.Machine

/-- The access codes of the field tables. `w1c` is a single flag or a counter cleared by all ones, `w1m` a mask of flags
(R580). -/
inductive Access where
  | rw | ro | wo | w1c | w1m | w1s | rwl | rp | rws
  deriving DecidableEq, Repr

/-- The windows of R578. -/
inductive Window where
  | glb | brick | lane
  deriving DecidableEq, Repr

/-- One field of a register. -/
structure Field where
  hi : Nat
  lo : Nat
  acc : Access
  reset : Nat := 0
  deriving DecidableEq, Repr

/-- The registers of the block, by their names in the register index. -/
inductive RegName where
  | GLB_IDENT
  | GLB_MORTAR
  | BRK_PORTS
  | GLB_IMAGE
  | GLB_IMGID
  | GLB_IMGDATA
  | GLB_PMSEL
  | NI_CNTVAL
  | NI_CNTADD
  | XFR_STAT
  | RDC_STAT
  | NI_WDOG
  | NI_PFAULT
  | BRK_PKTERR
  | GPD_EPENT
  | CRS_SWAP
  | TIM_NOW
  | TIM_COURSE
  | TIM_INC
  | TIM_CTL
  | TIM_STAT
  | TIM_SET
  | CRS_CTL
  | CRS_ERR
  | CRS_STAT
  | CRS_LGUARD
  | SHW_CTL
  | SHW_ERR
  | SHW_SVC
  | SHW_SUB
  | GLB_ROUTE
  | GLB_RTPKG
  | GLB_RTSYS
  | NI_RTSEL
  | NI_RTLO
  | NI_RTHI
  | BRK_RTCTL
  | BRK_RTERR
  | TRK_CTL
  | TRK_TMO
  | TRK_ERR
  | TRK_RBASE
  | TRK_RIDX
  | TRK_BIND
  | TRK_STAT
  | RDC_CTL
  | RDC_ERR
  | RDC_AMODE
  | RDC_RESLOG
  | RDC_SLOT
  | RDC_GFLAG
  | RDC_PART
  | GRP_ABORT
  | GRP_DESC0
  | GRP_DESC1
  | GRP_TSEL
  | GRP_TDATA
  | GRP_ERR
  | SPC_CNT
  | SPC_ERR
  | SPC_FIRST
  | SPC_UROW
  | MQ_CTL
  | MQ_ERR
  | MQ_GRANT
  | MQ_SRES
  | MQ_EVSTAT
  | MQ_CHSEL
  | MQ_CHSTAT
  | MQ_SEND
  | MQ_EVPOP
  | MQ_QCFG
  | MQ_QSTAT
  | MQ_POP
  | MQ_CHCFG
  | GPD_CTL
  | PLC_POL
  | PLC_TIME
  | PLC_STAT
  | PLC_LOG
  | PLC_FRAME
  | PLC_STMAP
  | PLC_STSET
  | GPD_SEL
  | GPD_DATA
  | GPD_ERR
  | PLC_REC
  | LNK_CTL
  | LNK_STAT
  | LNK_PEER
  | LNK_ERR
  | LNK_CRED
  | LNK_TSCFG
  | LNK_TSYNC
  | LN_CTL
  | LN_STAT
  | LN_CNT
  | D2D_CTL
  | D2D_STAT
  | D2D_ERR
  | D2D_TSCFG
  | GLB_FLTCTL
  | GLB_FLTSTAT
  | GLB_FLTLOG
  | GLB_PORTRET0
  | GLB_PORTRET1
  | BRK_FLT
  | BRK_SUSPECT
  | CLK_STAT
  | RST_CTL
  | RST_STAT
  | RST_BISTMAP
  | RST_BRK
  | PWR_BRK
  | CLK_LP
  | BBX_CTL
  | BBX_STAT
  | BBX_SEL
  | BBX_DATA
  | PRB_TCTL
  | PRB_TSTAT
  | PRB_TSEL
  | PRB_TDATA
  | PRB_CMCTL
  | PRB_CMSTAT
  | AGE_CTL
  | AGE_VREQ
  | AGE_PLANSUM
  | AGE_PLAN
  | PRB_CMAP
  | AGE_MARGIN
  | AGE_DRIFT
  | AGE_FIT
  | AGE_MON
  | AGE_HIST
  | PRB_CTL
  | PRB_MATCH
  | PRB_CNT
  | LN_MARGIN
  | GLB_IRQSTAT
  | GLB_IRQEN
  | GLB_EVSUM
  | NI_LPERR
  deriving DecidableEq, Repr

/-- One row of the register index: window, offset, and for an array its (count, stride) pairs. -/
structure RegRow where
  name : RegName
  win : Window
  off : Nat
  dims : List (Nat × Nat) := []
  deriving DecidableEq, Repr

/-- The place of a register (R578 and the register index). -/
def regRow : RegName → RegRow
  | .GLB_IDENT => ⟨.GLB_IDENT, .glb, 0x0, []⟩
  | .GLB_MORTAR => ⟨.GLB_MORTAR, .glb, 0x8, []⟩
  | .BRK_PORTS => ⟨.BRK_PORTS, .brick, 0x0, []⟩
  | .GLB_IMAGE => ⟨.GLB_IMAGE, .glb, 0x20, []⟩
  | .GLB_IMGID => ⟨.GLB_IMGID, .glb, 0x28, []⟩
  | .GLB_IMGDATA => ⟨.GLB_IMGDATA, .glb, 0x30, []⟩
  | .GLB_PMSEL => ⟨.GLB_PMSEL, .glb, 0x38, []⟩
  | .NI_CNTVAL => ⟨.NI_CNTVAL, .brick, 0x2000, [(256, 0x8)]⟩
  | .NI_CNTADD => ⟨.NI_CNTADD, .brick, 0x2800, [(256, 0x8)]⟩
  | .XFR_STAT => ⟨.XFR_STAT, .brick, 0x3000, [(16, 0x8)]⟩
  | .RDC_STAT => ⟨.RDC_STAT, .brick, 0x3100, [(64, 0x8)]⟩
  | .NI_WDOG => ⟨.NI_WDOG, .brick, 0x3400, []⟩
  | .NI_PFAULT => ⟨.NI_PFAULT, .brick, 0x3408, []⟩
  | .BRK_PKTERR => ⟨.BRK_PKTERR, .brick, 0x10, []⟩
  | .GPD_EPENT => ⟨.GPD_EPENT, .brick, 0x6000, [(512, 0x8)]⟩
  | .CRS_SWAP => ⟨.CRS_SWAP, .glb, 0x80, []⟩
  | .TIM_NOW => ⟨.TIM_NOW, .glb, 0x100, []⟩
  | .TIM_COURSE => ⟨.TIM_COURSE, .glb, 0x108, []⟩
  | .TIM_INC => ⟨.TIM_INC, .glb, 0x110, []⟩
  | .TIM_CTL => ⟨.TIM_CTL, .glb, 0x118, []⟩
  | .TIM_STAT => ⟨.TIM_STAT, .glb, 0x120, []⟩
  | .TIM_SET => ⟨.TIM_SET, .glb, 0x128, []⟩
  | .CRS_CTL => ⟨.CRS_CTL, .brick, 0x100, []⟩
  | .CRS_ERR => ⟨.CRS_ERR, .brick, 0x108, []⟩
  | .CRS_STAT => ⟨.CRS_STAT, .brick, 0x140, [(8, 0x8)]⟩
  | .CRS_LGUARD => ⟨.CRS_LGUARD, .lane, 0x80, []⟩
  | .SHW_CTL => ⟨.SHW_CTL, .brick, 0x200, []⟩
  | .SHW_ERR => ⟨.SHW_ERR, .brick, 0x208, []⟩
  | .SHW_SVC => ⟨.SHW_SVC, .brick, 0x400, [(8, 0x30), (6, 0x8)]⟩
  | .SHW_SUB => ⟨.SHW_SUB, .brick, 0x7000, [(1104, 0x8)]⟩
  | .GLB_ROUTE => ⟨.GLB_ROUTE, .glb, 0x200, []⟩
  | .GLB_RTPKG => ⟨.GLB_RTPKG, .glb, 0x400, [(2, 0x20), (4, 0x8)]⟩
  | .GLB_RTSYS => ⟨.GLB_RTSYS, .glb, 0x10000, [(2, 0x2000), (768, 0x8)]⟩
  | .NI_RTSEL => ⟨.NI_RTSEL, .brick, 0x300, []⟩
  | .NI_RTLO => ⟨.NI_RTLO, .brick, 0x308, []⟩
  | .NI_RTHI => ⟨.NI_RTHI, .brick, 0x310, []⟩
  | .BRK_RTCTL => ⟨.BRK_RTCTL, .brick, 0x318, []⟩
  | .BRK_RTERR => ⟨.BRK_RTERR, .brick, 0x320, []⟩
  | .TRK_CTL => ⟨.TRK_CTL, .brick, 0x3500, []⟩
  | .TRK_TMO => ⟨.TRK_TMO, .brick, 0x3508, []⟩
  | .TRK_ERR => ⟨.TRK_ERR, .brick, 0x3510, []⟩
  | .TRK_RBASE => ⟨.TRK_RBASE, .brick, 0x3540, [(8, 0x8)]⟩
  | .TRK_RIDX => ⟨.TRK_RIDX, .brick, 0x3580, [(8, 0x8)]⟩
  | .TRK_BIND => ⟨.TRK_BIND, .brick, 0xa000, [(512, 0x8)]⟩
  | .TRK_STAT => ⟨.TRK_STAT, .brick, 0xb000, [(1024, 0x8)]⟩
  | .RDC_CTL => ⟨.RDC_CTL, .brick, 0x3800, []⟩
  | .RDC_ERR => ⟨.RDC_ERR, .brick, 0x3808, []⟩
  | .RDC_AMODE => ⟨.RDC_AMODE, .brick, 0x3810, []⟩
  | .RDC_RESLOG => ⟨.RDC_RESLOG, .brick, 0x3818, []⟩
  | .RDC_SLOT => ⟨.RDC_SLOT, .brick, 0x3900, [(64, 0x8)]⟩
  | .RDC_GFLAG => ⟨.RDC_GFLAG, .brick, 0x3c00, [(64, 0x8)]⟩
  | .RDC_PART => ⟨.RDC_PART, .brick, 0x3e00, [(32, 0x8)]⟩
  | .GRP_ABORT => ⟨.GRP_ABORT, .glb, 0x300, []⟩
  | .GRP_DESC0 => ⟨.GRP_DESC0, .glb, 0x20000, [(4096, 0x10)]⟩
  | .GRP_DESC1 => ⟨.GRP_DESC1, .glb, 0x20008, [(4096, 0x10)]⟩
  | .GRP_TSEL => ⟨.GRP_TSEL, .brick, 0x3f00, []⟩
  | .GRP_TDATA => ⟨.GRP_TDATA, .brick, 0x3f08, []⟩
  | .GRP_ERR => ⟨.GRP_ERR, .brick, 0x3f10, []⟩
  | .SPC_CNT => ⟨.SPC_CNT, .brick, 0x3600, []⟩
  | .SPC_ERR => ⟨.SPC_ERR, .brick, 0x3608, []⟩
  | .SPC_FIRST => ⟨.SPC_FIRST, .brick, 0x3610, []⟩
  | .SPC_UROW => ⟨.SPC_UROW, .brick, 0x3618, []⟩
  | .MQ_CTL => ⟨.MQ_CTL, .brick, 0x4000, []⟩
  | .MQ_ERR => ⟨.MQ_ERR, .brick, 0x4008, []⟩
  | .MQ_GRANT => ⟨.MQ_GRANT, .brick, 0x4010, []⟩
  | .MQ_SRES => ⟨.MQ_SRES, .brick, 0x4018, []⟩
  | .MQ_EVSTAT => ⟨.MQ_EVSTAT, .brick, 0x4020, []⟩
  | .MQ_CHSEL => ⟨.MQ_CHSEL, .brick, 0x4028, []⟩
  | .MQ_CHSTAT => ⟨.MQ_CHSTAT, .brick, 0x4030, []⟩
  | .MQ_SEND => ⟨.MQ_SEND, .brick, 0x4040, [(8, 0x8)]⟩
  | .MQ_EVPOP => ⟨.MQ_EVPOP, .brick, 0x4080, [(8, 0x8)]⟩
  | .MQ_QCFG => ⟨.MQ_QCFG, .brick, 0x4200, [(64, 0x8)]⟩
  | .MQ_QSTAT => ⟨.MQ_QSTAT, .brick, 0x4400, [(64, 0x8)]⟩
  | .MQ_POP => ⟨.MQ_POP, .brick, 0x4800, [(64, 0x40), (8, 0x8)]⟩
  | .MQ_CHCFG => ⟨.MQ_CHCFG, .brick, 0xd000, [(1024, 0x8)]⟩
  | .GPD_CTL => ⟨.GPD_CTL, .glb, 0x500, []⟩
  | .PLC_POL => ⟨.PLC_POL, .glb, 0x508, []⟩
  | .PLC_TIME => ⟨.PLC_TIME, .glb, 0x510, []⟩
  | .PLC_STAT => ⟨.PLC_STAT, .glb, 0x518, []⟩
  | .PLC_LOG => ⟨.PLC_LOG, .glb, 0x520, []⟩
  | .PLC_FRAME => ⟨.PLC_FRAME, .glb, 0x600, [(64, 0x8)]⟩
  | .PLC_STMAP => ⟨.PLC_STMAP, .glb, 0x800, [(32, 0x8)]⟩
  | .PLC_STSET => ⟨.PLC_STSET, .glb, 0x900, [(64, 0x18), (3, 0x8)]⟩
  | .GPD_SEL => ⟨.GPD_SEL, .brick, 0x600, []⟩
  | .GPD_DATA => ⟨.GPD_DATA, .brick, 0x608, []⟩
  | .GPD_ERR => ⟨.GPD_ERR, .brick, 0x610, []⟩
  | .PLC_REC => ⟨.PLC_REC, .brick, 0x640, [(4, 0x8)]⟩
  | .LNK_CTL => ⟨.LNK_CTL, .lane, 0x0, []⟩
  | .LNK_STAT => ⟨.LNK_STAT, .lane, 0x8, []⟩
  | .LNK_PEER => ⟨.LNK_PEER, .lane, 0x10, []⟩
  | .LNK_ERR => ⟨.LNK_ERR, .lane, 0x18, []⟩
  | .LNK_CRED => ⟨.LNK_CRED, .lane, 0x20, []⟩
  | .LNK_TSCFG => ⟨.LNK_TSCFG, .lane, 0x28, []⟩
  | .LNK_TSYNC => ⟨.LNK_TSYNC, .lane, 0x30, []⟩
  | .LN_CTL => ⟨.LN_CTL, .lane, 0x100, [(4, 0x20)]⟩
  | .LN_STAT => ⟨.LN_STAT, .lane, 0x108, [(4, 0x20)]⟩
  | .LN_CNT => ⟨.LN_CNT, .lane, 0x110, [(4, 0x20)]⟩
  | .D2D_CTL => ⟨.D2D_CTL, .glb, 0x1000, [(16, 0x40)]⟩
  | .D2D_STAT => ⟨.D2D_STAT, .glb, 0x1008, [(16, 0x40)]⟩
  | .D2D_ERR => ⟨.D2D_ERR, .glb, 0x1010, [(16, 0x40)]⟩
  | .D2D_TSCFG => ⟨.D2D_TSCFG, .glb, 0x1018, [(16, 0x40)]⟩
  | .GLB_FLTCTL => ⟨.GLB_FLTCTL, .glb, 0x1800, []⟩
  | .GLB_FLTSTAT => ⟨.GLB_FLTSTAT, .glb, 0x1808, []⟩
  | .GLB_FLTLOG => ⟨.GLB_FLTLOG, .glb, 0x1810, []⟩
  | .GLB_PORTRET0 => ⟨.GLB_PORTRET0, .glb, 0x1818, []⟩
  | .GLB_PORTRET1 => ⟨.GLB_PORTRET1, .glb, 0x1820, []⟩
  | .BRK_FLT => ⟨.BRK_FLT, .brick, 0x700, []⟩
  | .BRK_SUSPECT => ⟨.BRK_SUSPECT, .brick, 0x708, []⟩
  | .CLK_STAT => ⟨.CLK_STAT, .glb, 0x1c00, []⟩
  | .RST_CTL => ⟨.RST_CTL, .glb, 0x1c10, []⟩
  | .RST_STAT => ⟨.RST_STAT, .glb, 0x1c18, []⟩
  | .RST_BISTMAP => ⟨.RST_BISTMAP, .glb, 0x1c20, [(4, 0x8)]⟩
  | .RST_BRK => ⟨.RST_BRK, .brick, 0x800, []⟩
  | .PWR_BRK => ⟨.PWR_BRK, .brick, 0x808, []⟩
  | .CLK_LP => ⟨.CLK_LP, .brick, 0x810, []⟩
  | .BBX_CTL => ⟨.BBX_CTL, .glb, 0x2000, []⟩
  | .BBX_STAT => ⟨.BBX_STAT, .glb, 0x2008, []⟩
  | .BBX_SEL => ⟨.BBX_SEL, .glb, 0x2010, []⟩
  | .BBX_DATA => ⟨.BBX_DATA, .glb, 0x2020, [(4, 0x8)]⟩
  | .PRB_TCTL => ⟨.PRB_TCTL, .glb, 0x2040, []⟩
  | .PRB_TSTAT => ⟨.PRB_TSTAT, .glb, 0x2048, []⟩
  | .PRB_TSEL => ⟨.PRB_TSEL, .glb, 0x2050, []⟩
  | .PRB_TDATA => ⟨.PRB_TDATA, .glb, 0x2060, [(4, 0x8)]⟩
  | .PRB_CMCTL => ⟨.PRB_CMCTL, .glb, 0x2080, []⟩
  | .PRB_CMSTAT => ⟨.PRB_CMSTAT, .glb, 0x2088, []⟩
  | .AGE_CTL => ⟨.AGE_CTL, .glb, 0x2100, []⟩
  | .AGE_VREQ => ⟨.AGE_VREQ, .glb, 0x2108, []⟩
  | .AGE_PLANSUM => ⟨.AGE_PLANSUM, .glb, 0x2110, []⟩
  | .AGE_PLAN => ⟨.AGE_PLAN, .glb, 0x2140, [(24, 0x8)]⟩
  | .PRB_CMAP => ⟨.PRB_CMAP, .glb, 0x4000, [(2, 0x1000), (256, 0x10), (2, 0x8)]⟩
  | .AGE_MARGIN => ⟨.AGE_MARGIN, .brick, 0x900, []⟩
  | .AGE_DRIFT => ⟨.AGE_DRIFT, .brick, 0x908, []⟩
  | .AGE_FIT => ⟨.AGE_FIT, .brick, 0x910, []⟩
  | .AGE_MON => ⟨.AGE_MON, .brick, 0x940, [(16, 0x8)]⟩
  | .AGE_HIST => ⟨.AGE_HIST, .brick, 0x9c0, [(20, 0x8)]⟩
  | .PRB_CTL => ⟨.PRB_CTL, .brick, 0xa80, [(4, 0x18)]⟩
  | .PRB_MATCH => ⟨.PRB_MATCH, .brick, 0xa88, [(4, 0x18)]⟩
  | .PRB_CNT => ⟨.PRB_CNT, .brick, 0xa90, [(4, 0x18)]⟩
  | .LN_MARGIN => ⟨.LN_MARGIN, .lane, 0x118, [(4, 0x20)]⟩
  | .GLB_IRQSTAT => ⟨.GLB_IRQSTAT, .glb, 0x40, []⟩
  | .GLB_IRQEN => ⟨.GLB_IRQEN, .glb, 0x48, []⟩
  | .GLB_EVSUM => ⟨.GLB_EVSUM, .glb, 0x60, [(4, 0x8)]⟩
  | .NI_LPERR => ⟨.NI_LPERR, .brick, 0x820, []⟩

/-- The registers of the global window. -/
def globalRegs : List RegName :=
  ([.GLB_IDENT, .GLB_MORTAR, .GLB_IMAGE, .GLB_IMGID, .GLB_IMGDATA, .GLB_PMSEL, .CRS_SWAP, .TIM_NOW, .TIM_COURSE,
    .TIM_INC] : List RegName) ++
  ([.TIM_CTL, .TIM_STAT, .TIM_SET, .GLB_ROUTE, .GLB_RTPKG, .GLB_RTSYS, .GRP_ABORT, .GRP_DESC0, .GRP_DESC1,
    .GPD_CTL] : List RegName) ++
  ([.PLC_POL, .PLC_TIME, .PLC_STAT, .PLC_LOG, .PLC_FRAME, .PLC_STMAP, .PLC_STSET, .D2D_CTL, .D2D_STAT,
    .D2D_ERR] : List RegName) ++
  ([.D2D_TSCFG, .GLB_FLTCTL, .GLB_FLTSTAT, .GLB_FLTLOG, .GLB_PORTRET0, .GLB_PORTRET1, .CLK_STAT, .RST_CTL, .RST_STAT,
    .RST_BISTMAP] : List RegName) ++
  ([.BBX_CTL, .BBX_STAT, .BBX_SEL, .BBX_DATA, .PRB_TCTL, .PRB_TSTAT, .PRB_TSEL, .PRB_TDATA, .PRB_CMCTL,
    .PRB_CMSTAT] : List RegName) ++
  ([.AGE_CTL, .AGE_VREQ, .AGE_PLANSUM, .AGE_PLAN, .PRB_CMAP, .GLB_IRQSTAT, .GLB_IRQEN, .GLB_EVSUM] : List RegName)

/-- The registers of a brick page. -/
def brickRegs : List RegName :=
  ([.BRK_PORTS, .NI_CNTVAL, .NI_CNTADD, .XFR_STAT, .RDC_STAT, .NI_WDOG, .NI_PFAULT, .BRK_PKTERR, .GPD_EPENT,
    .CRS_CTL] : List RegName) ++
  ([.CRS_ERR, .CRS_STAT, .SHW_CTL, .SHW_ERR, .SHW_SVC, .SHW_SUB, .NI_RTSEL, .NI_RTLO, .NI_RTHI,
    .BRK_RTCTL] : List RegName) ++
  ([.BRK_RTERR, .TRK_CTL, .TRK_TMO, .TRK_ERR, .TRK_RBASE, .TRK_RIDX, .TRK_BIND, .TRK_STAT, .RDC_CTL,
    .RDC_ERR] : List RegName) ++
  ([.RDC_AMODE, .RDC_RESLOG, .RDC_SLOT, .RDC_GFLAG, .RDC_PART, .GRP_TSEL, .GRP_TDATA, .GRP_ERR, .SPC_CNT,
    .SPC_ERR] : List RegName) ++
  ([.SPC_FIRST, .SPC_UROW, .MQ_CTL, .MQ_ERR, .MQ_GRANT, .MQ_SRES, .MQ_EVSTAT, .MQ_CHSEL, .MQ_CHSTAT,
    .MQ_SEND] : List RegName) ++
  ([.MQ_EVPOP, .MQ_QCFG, .MQ_QSTAT, .MQ_POP, .MQ_CHCFG, .GPD_SEL, .GPD_DATA, .GPD_ERR, .PLC_REC,
    .BRK_FLT] : List RegName) ++
  ([.BRK_SUSPECT, .RST_BRK, .PWR_BRK, .CLK_LP, .AGE_MARGIN, .AGE_DRIFT, .AGE_FIT, .AGE_MON, .AGE_HIST,
    .PRB_CTL] : List RegName) ++
  ([.PRB_MATCH, .PRB_CNT, .NI_LPERR] : List RegName)

/-- The registers of a lane-port page. -/
def laneRegs : List RegName :=
  ([.CRS_LGUARD, .LNK_CTL, .LNK_STAT, .LNK_PEER, .LNK_ERR, .LNK_CRED, .LNK_TSCFG, .LNK_TSYNC, .LN_CTL,
    .LN_STAT] : List RegName) ++
  ([.LN_CNT, .LN_MARGIN] : List RegName)

/-- The fields of a register that are not reserved, from the field map that the register index names. -/
def regFields : RegName → List Field
  -- R19
  | .GLB_IDENT => [⟨63, 48, .ro, 2⟩, ⟨47, 40, .ro, 0⟩, ⟨39, 34, .ro, 0⟩, ⟨33, 29, .ro, 0⟩, ⟨28, 28, .ro, 0⟩,
      ⟨20, 20, .ro, 0⟩, ⟨19, 15, .ro, 0⟩, ⟨14, 10, .ro, 0⟩]
  -- R23
  | .GLB_MORTAR => [⟨31, 16, .ro, 0⟩, ⟨8, 0, .ro, 0⟩]
  -- R18
  | .BRK_PORTS => [⟨23, 18, .ro, 0⟩, ⟨17, 12, .ro, 0⟩, ⟨11, 10, .ro, 0⟩, ⟨9, 8, .ro, 0⟩, ⟨7, 4, .ro, 0⟩,
      ⟨3, 0, .ro, 0⟩]
  -- R68
  | .GLB_IMAGE => [⟨55, 40, .ro, 0⟩, ⟨39, 32, .ro, 0⟩, ⟨31, 16, .ro, 0⟩, ⟨8, 8, .w1c, 0⟩, ⟨7, 7, .ro, 0⟩,
      ⟨6, 4, .ro, 0⟩, ⟨3, 3, .ro, 0⟩, ⟨1, 0, .wo, 0⟩]
  -- R69
  | .GLB_IMGID => [⟨63, 0, .ro, 0⟩]
  -- R69
  | .GLB_IMGDATA => [⟨63, 0, .wo, 0⟩]
  -- R70
  | .GLB_PMSEL => [⟨1, 0, .rw, 0⟩]
  -- R53
  | .NI_CNTVAL => [⟨31, 0, .rw, 0⟩]
  -- R53
  | .NI_CNTADD => [⟨31, 0, .wo, 0⟩]
  -- R50
  | .XFR_STAT => [⟨63, 63, .w1s, 0⟩, ⟨58, 56, .ro, 0⟩, ⟨55, 48, .ro, 0⟩, ⟨43, 32, .ro, 0⟩, ⟨31, 0, .ro, 0⟩]
  -- R50
  | .RDC_STAT => [⟨63, 63, .w1s, 0⟩, ⟨58, 56, .ro, 0⟩, ⟨55, 48, .ro, 0⟩, ⟨43, 32, .ro, 0⟩, ⟨31, 0, .ro, 0⟩]
  -- R51
  | .NI_WDOG => [⟨51, 32, .rwl, 1000⟩, ⟨19, 0, .rwl, 1000⟩]
  -- R52
  | .NI_PFAULT => [⟨63, 48, .ro, 0⟩, ⟨32, 32, .w1c, 0⟩, ⟨31, 16, .w1m, 0⟩]
  -- R95
  | .BRK_PKTERR => [⟨63, 48, .w1c, 0⟩, ⟨47, 32, .w1c, 0⟩, ⟨31, 16, .w1c, 0⟩, ⟨15, 0, .w1c, 0⟩]
  -- R93
  | .GPD_EPENT => [⟨63, 63, .rw, 0⟩, ⟨53, 24, .rw, 0⟩, ⟨23, 0, .rw, 0⟩]
  -- R138
  | .CRS_SWAP => [⟨63, 62, .ro, 0⟩, ⟨61, 61, .w1c, 0⟩, ⟨60, 60, .w1c, 0⟩, ⟨59, 56, .rw, 8⟩, ⟨55, 48, .ro, 0⟩,
      ⟨47, 0, .rw, 0⟩]
  -- R128
  | .TIM_NOW => [⟨63, 0, .ro, 0⟩]
  -- R128
  | .TIM_COURSE => [⟨47, 0, .ro, 0⟩]
  -- R128
  | .TIM_INC => [⟨39, 0, .ro, 458129844907⟩]
  -- R129
  | .TIM_CTL => [⟨63, 48, .rwl, 4096⟩, ⟨47, 40, .rwl, 100⟩, ⟨39, 36, .rw, 4⟩, ⟨35, 32, .rw, 8⟩, ⟨13, 8, .rw, 0⟩,
      ⟨1, 0, .rw, 0⟩]
  -- R130
  | .TIM_STAT => [⟨47, 32, .ro, 0⟩, ⟨31, 16, .ro, 0⟩, ⟨8, 8, .ro, 0⟩, ⟨2, 0, .ro, 0⟩]
  -- R131
  | .TIM_SET => [⟨47, 0, .wo, 0⟩]
  -- R139
  | .CRS_CTL => [⟨47, 40, .rwl, 24⟩, ⟨31, 16, .rwl, 66⟩, ⟨11, 0, .rwl, 66⟩]
  -- R140
  | .CRS_ERR => [⟨63, 48, .w1c, 0⟩, ⟨47, 32, .w1c, 0⟩, ⟨23, 16, .w1m, 0⟩, ⟨15, 8, .w1c, 0⟩, ⟨1, 1, .w1c, 0⟩,
      ⟨0, 0, .w1c, 0⟩]
  -- R141
  | .CRS_STAT => [⟨57, 57, .ro, 0⟩, ⟨56, 56, .ro, 0⟩, ⟨55, 55, .ro, 0⟩, ⟨50, 48, .ro, 0⟩, ⟨47, 42, .ro, 0⟩,
      ⟨33, 32, .ro, 3⟩, ⟨31, 16, .ro, 0⟩, ⟨8, 0, .ro, 0⟩]
  -- R134
  | .CRS_LGUARD => [⟨23, 16, .ro, 0⟩, ⟨15, 8, .ro, 0⟩, ⟨2, 0, .ro, 0⟩]
  -- R161
  | .SHW_CTL => [⟨0, 0, .rw, 0⟩]
  -- R162
  | .SHW_ERR => [⟨63, 48, .w1c, 0⟩, ⟨47, 32, .w1c, 0⟩, ⟨31, 16, .w1c, 0⟩]
  -- R163
  | .SHW_SVC => [⟨48, 32, .rw, 0⟩, ⟨31, 16, .rw, 0⟩, ⟨7, 0, .rw, 0⟩]
  -- R164
  | .SHW_SUB => [⟨48, 32, .rw, 0⟩, ⟨31, 16, .rw, 0⟩, ⟨7, 0, .rw, 16⟩]
  -- R200
  | .GLB_ROUTE => [⟨47, 32, .rwl, 1024⟩, ⟨31, 16, .ro, 0⟩, ⟨2, 2, .ro, 0⟩, ⟨1, 1, .w1s, 0⟩, ⟨0, 0, .ro, 0⟩]
  -- R201
  | .GLB_RTPKG => [⟨63, 63, .rw, 0⟩, ⟨62, 62, .rw, 0⟩, ⟨61, 59, .rw, 0⟩, ⟨55, 0, .rw, 0⟩]
  -- R201
  | .GLB_RTSYS => [⟨63, 63, .rw, 0⟩, ⟨62, 62, .rw, 0⟩, ⟨61, 59, .rw, 0⟩, ⟨55, 0, .rw, 0⟩]
  -- R196
  | .NI_RTSEL => [⟨13, 13, .rw, 0⟩, ⟨11, 0, .rw, 0⟩]
  -- R197
  | .NI_RTLO => [⟨63, 0, .rw, 0⟩]
  -- R197
  | .NI_RTHI => [⟨63, 63, .rw, 0⟩, ⟨62, 62, .rw, 0⟩, ⟨61, 60, .rw, 0⟩, ⟨53, 24, .rw, 0⟩, ⟨7, 0, .rw, 0⟩]
  -- R198
  | .BRK_RTCTL => [⟨47, 32, .rw, 40⟩, ⟨9, 9, .rwl, 0⟩, ⟨8, 8, .rwl, 0⟩, ⟨7, 0, .rw, 0⟩]
  -- R199
  | .BRK_RTERR => [⟨63, 48, .w1c, 0⟩, ⟨47, 32, .w1c, 0⟩, ⟨31, 16, .w1c, 0⟩, ⟨15, 0, .w1c, 0⟩]
  -- R232
  | .TRK_CTL => [⟨63, 48, .rwl, 200⟩, ⟨47, 32, .rwl, 200⟩, ⟨31, 24, .rw, 4⟩, ⟨23, 16, .rw, 10⟩, ⟨11, 0, .rw, 500⟩]
  -- R233
  | .TRK_TMO => [⟨51, 32, .rw, 2000⟩, ⟨19, 0, .rw, 20⟩]
  -- R234
  | .TRK_ERR => [⟨63, 48, .w1c, 0⟩, ⟨47, 32, .w1c, 0⟩, ⟨31, 16, .w1c, 0⟩, ⟨15, 8, .w1c, 0⟩, ⟨7, 0, .w1c, 0⟩]
  -- R237
  | .TRK_RBASE => [⟨63, 63, .rw, 0⟩, ⟨59, 56, .rw, 0⟩, ⟨47, 7, .rw, 0⟩]
  -- R238
  | .TRK_RIDX => [⟨63, 32, .ro, 0⟩, ⟨31, 0, .rw, 0⟩]
  -- R235
  | .TRK_BIND => [⟨63, 63, .rw, 0⟩, ⟨62, 62, .rw, 0⟩, ⟨61, 59, .rw, 0⟩, ⟨55, 48, .rw, 0⟩, ⟨47, 32, .rw, 0⟩,
      ⟨31, 16, .rw, 0⟩]
  -- R236
  | .TRK_STAT => [⟨63, 61, .ro, 0⟩, ⟨60, 60, .ro, 0⟩, ⟨55, 40, .ro, 0⟩, ⟨39, 24, .ro, 0⟩, ⟨15, 0, .ro, 0⟩]
  -- R269
  | .RDC_CTL => [⟨1, 0, .rws, 0⟩]
  -- R270
  | .RDC_ERR => [⟨63, 48, .w1c, 0⟩, ⟨47, 32, .w1c, 0⟩, ⟨31, 16, .w1c, 0⟩, ⟨15, 8, .w1c, 0⟩, ⟨7, 0, .w1c, 0⟩]
  -- R301
  | .RDC_AMODE => [⟨4, 0, .rwl, 23⟩]
  -- R302
  | .RDC_RESLOG => [⟨43, 43, .w1c, 0⟩, ⟨42, 42, .ro, 0⟩, ⟨41, 36, .ro, 0⟩, ⟨35, 30, .ro, 0⟩, ⟨29, 29, .ro, 0⟩,
      ⟨28, 24, .ro, 0⟩]
  -- R271
  | .RDC_SLOT => [⟨63, 63, .rw, 0⟩, ⟨62, 62, .rw, 0⟩, ⟨61, 61, .rw, 0⟩, ⟨60, 60, .rw, 0⟩, ⟨59, 57, .rw, 0⟩,
      ⟨56, 55, .rw, 0⟩, ⟨54, 52, .rw, 0⟩, ⟨51, 47, .rw, 0⟩, ⟨46, 42, .rw, 0⟩, ⟨41, 36, .rw, 0⟩, ⟨35, 24, .rw, 0⟩,
      ⟨21, 12, .rw, 0⟩, ⟨9, 0, .rw, 0⟩]
  -- R272
  | .RDC_GFLAG => [⟨63, 48, .ro, 0⟩, ⟨44, 40, .w1m, 0⟩, ⟨31, 0, .ro, 4294967295⟩]
  -- R273
  | .RDC_PART => [⟨63, 63, .rw, 0⟩, ⟨62, 61, .rw, 0⟩, ⟨16, 8, .rw, 0⟩, ⟨7, 0, .rw, 0⟩]
  -- R324
  | .GRP_ABORT => [⟨19, 12, .wo, 0⟩, ⟨11, 0, .wo, 0⟩]
  -- R304
  | .GRP_DESC0 => [⟨63, 63, .ro, 0⟩, ⟨62, 62, .ro, 0⟩, ⟨61, 61, .ro, 0⟩, ⟨60, 60, .ro, 0⟩, ⟨59, 58, .ro, 0⟩,
      ⟨57, 55, .ro, 0⟩, ⟨51, 46, .ro, 0⟩, ⟨45, 42, .ro, 0⟩, ⟨41, 38, .ro, 0⟩, ⟨37, 28, .ro, 0⟩, ⟨16, 0, .ro, 0⟩]
  -- R304
  | .GRP_DESC1 => [⟨63, 48, .ro, 0⟩, ⟨47, 40, .ro, 0⟩, ⟨39, 30, .ro, 0⟩, ⟨23, 0, .ro, 0⟩]
  -- R325
  | .GRP_TSEL => [⟨9, 7, .rw, 0⟩, ⟨6, 0, .rw, 0⟩]
  -- R325
  | .GRP_TDATA => [⟨63, 0, .ro, 0⟩]
  -- R326
  | .GRP_ERR => [⟨63, 48, .w1c, 0⟩, ⟨47, 32, .w1c, 0⟩, ⟨31, 16, .w1c, 0⟩]
  -- R350
  | .SPC_CNT => [⟨63, 48, .w1c, 0⟩, ⟨47, 32, .w1c, 0⟩, ⟨31, 16, .w1c, 0⟩, ⟨15, 0, .w1c, 0⟩]
  -- R351
  | .SPC_ERR => [⟨63, 48, .w1c, 0⟩, ⟨47, 32, .w1c, 0⟩]
  -- R352
  | .SPC_FIRST => [⟨63, 32, .rw, 4294967295⟩, ⟨31, 0, .rw, 4294967295⟩]
  -- R353
  | .SPC_UROW => [⟨31, 0, .rw, 4294967295⟩]
  -- R376
  | .MQ_CTL => [⟨47, 32, .rw, 10⟩, ⟨23, 16, .rw, 32⟩, ⟨15, 0, .rw, 50⟩]
  -- R377
  | .MQ_ERR => [⟨63, 48, .w1c, 0⟩, ⟨47, 32, .w1c, 0⟩, ⟨31, 16, .w1c, 0⟩, ⟨15, 8, .w1c, 0⟩, ⟨7, 0, .w1c, 0⟩]
  -- R378
  | .MQ_GRANT => [⟨59, 54, .wo, 0⟩, ⟨53, 53, .wo, 0⟩, ⟨52, 47, .wo, 0⟩, ⟨46, 37, .wo, 0⟩, ⟨36, 10, .wo, 0⟩]
  -- R379
  | .MQ_SRES => [⟨8, 8, .ro, 0⟩, ⟨7, 0, .ro, 0⟩]
  -- R380
  | .MQ_EVSTAT => [⟨25, 25, .rw, 0⟩, ⟨24, 17, .rw, 0⟩, ⟨16, 16, .w1c, 0⟩, ⟨9, 0, .ro, 0⟩]
  -- R381
  | .MQ_CHSEL => [⟨9, 0, .rw, 0⟩]
  -- R381
  | .MQ_CHSTAT => [⟨63, 62, .ro, 0⟩, ⟨61, 56, .ro, 0⟩, ⟨47, 32, .ro, 0⟩, ⟨31, 16, .ro, 0⟩, ⟨15, 0, .ro, 0⟩]
  -- R366
  | .MQ_SEND => [⟨63, 0, .wo, 0⟩]
  -- R373
  | .MQ_EVPOP => [⟨63, 0, .rp, 0⟩]
  -- R382
  | .MQ_QCFG => [⟨63, 63, .rw, 0⟩, ⟨62, 62, .w1s, 0⟩, ⟨61, 61, .rw, 0⟩, ⟨60, 60, .rw, 0⟩, ⟨59, 52, .rw, 0⟩,
      ⟨15, 0, .ro, 0⟩]
  -- R383
  | .MQ_QSTAT => [⟨21, 16, .ro, 0⟩, ⟨13, 8, .ro, 0⟩, ⟨4, 0, .ro, 0⟩]
  -- R357
  | .MQ_POP => [⟨63, 0, .rp, 0⟩]
  -- R384
  | .MQ_CHCFG => [⟨63, 63, .rw, 0⟩, ⟨62, 62, .rw, 0⟩, ⟨61, 61, .rw, 0⟩, ⟨60, 49, .rw, 0⟩, ⟨48, 43, .rw, 0⟩,
      ⟨36, 10, .rw, 0⟩]
  -- R405
  | .GPD_CTL => [⟨4, 0, .rwl, 9⟩]
  -- R406
  | .PLC_POL => [⟨63, 63, .rw, 0⟩, ⟨59, 56, .rw, 2⟩, ⟨55, 48, .rw, 8⟩, ⟨43, 40, .rw, 4⟩, ⟨39, 32, .rw, 16⟩,
      ⟨31, 16, .rw, 256⟩, ⟨7, 0, .rw, 128⟩]
  -- R407
  | .PLC_TIME => [⟨23, 16, .rw, 4⟩, ⟨15, 0, .rw, 1000⟩]
  -- R408
  | .PLC_STAT => [⟨63, 48, .w1c, 0⟩, ⟨47, 32, .w1c, 0⟩, ⟨31, 16, .w1c, 0⟩, ⟨3, 0, .ro, 0⟩]
  -- R409
  | .PLC_LOG => [⟨63, 63, .rp, 0⟩, ⟨62, 55, .rp, 0⟩, ⟨26, 0, .rp, 0⟩]
  -- R410
  | .PLC_FRAME => [⟨63, 63, .rw, 0⟩, ⟨34, 27, .rw, 0⟩, ⟨26, 0, .rw, 0⟩]
  -- R411
  | .PLC_STMAP => [⟨63, 0, .rw, 0⟩]
  -- R411
  | .PLC_STSET => [⟨63, 0, .rw, 0⟩]
  -- R412
  | .GPD_SEL => [⟨13, 11, .rw, 0⟩, ⟨10, 0, .rw, 0⟩]
  -- R413
  | .GPD_DATA => [⟨63, 0, .rw, 0⟩]
  -- R414
  | .GPD_ERR => [⟨63, 48, .w1c, 0⟩, ⟨47, 32, .w1c, 0⟩, ⟨31, 16, .w1c, 0⟩]
  -- R415
  | .PLC_REC => [⟨63, 62, .ro, 0⟩, ⟨61, 58, .ro, 0⟩, ⟨31, 0, .ro, 0⟩]
  -- R442
  | .LNK_CTL => [⟨47, 40, .rw, 4⟩, ⟨39, 36, .rw, 8⟩, ⟨35, 24, .rw, 2⟩, ⟨3, 3, .rwl, 0⟩, ⟨2, 2, .rwl, 1⟩,
      ⟨1, 1, .w1s, 0⟩, ⟨0, 0, .rw, 0⟩]
  -- R443
  | .LNK_STAT => [⟨59, 56, .ro, 0⟩, ⟨55, 52, .ro, 0⟩, ⟨51, 51, .ro, 0⟩, ⟨50, 50, .ro, 0⟩, ⟨49, 48, .ro, 0⟩,
      ⟨43, 32, .ro, 0⟩, ⟨31, 16, .ro, 0⟩, ⟨15, 0, .ro, 0⟩]
  -- R444
  | .LNK_PEER => [⟨45, 27, .ro, 0⟩, ⟨26, 21, .ro, 0⟩, ⟨1, 1, .ro, 0⟩, ⟨0, 0, .ro, 0⟩]
  -- R445
  | .LNK_ERR => [⟨63, 48, .w1c, 0⟩, ⟨47, 32, .w1c, 0⟩, ⟨31, 16, .w1c, 0⟩, ⟨15, 8, .w1c, 0⟩, ⟨0, 0, .w1c, 0⟩]
  -- R446
  | .LNK_CRED => [⟨47, 40, .rwl, 16⟩, ⟨39, 32, .rwl, 24⟩, ⟨31, 24, .rwl, 32⟩, ⟨23, 16, .rwl, 32⟩, ⟨15, 8, .rwl, 96⟩,
      ⟨7, 0, .rwl, 48⟩]
  -- R447
  | .LNK_TSCFG => [⟨63, 48, .rw, 0⟩, ⟨31, 16, .rw, 0⟩, ⟨15, 0, .rw, 0⟩]
  -- R448
  | .LNK_TSYNC => [⟨47, 32, .ro, 0⟩, ⟨31, 16, .w1c, 0⟩]
  -- R449
  | .LN_CTL => [⟨47, 40, .rw, 8⟩, ⟨35, 32, .rw, 3⟩, ⟨31, 16, .rw, 10⟩, ⟨0, 0, .rws, 0⟩]
  -- R450
  | .LN_STAT => [⟨63, 61, .ro, 0⟩, ⟨60, 60, .ro, 0⟩, ⟨59, 59, .ro, 0⟩, ⟨58, 58, .ro, 0⟩, ⟨57, 57, .ro, 0⟩,
      ⟨56, 56, .ro, 0⟩, ⟨55, 55, .ro, 0⟩, ⟨51, 48, .ro, 0⟩, ⟨47, 32, .ro, 0⟩]
  -- R451
  | .LN_CNT => [⟨63, 32, .w1c, 0⟩, ⟨31, 16, .w1c, 0⟩, ⟨15, 0, .w1c, 0⟩]
  -- R452
  | .D2D_CTL => [⟨1, 1, .w1s, 0⟩, ⟨0, 0, .rw, 0⟩]
  -- R452
  | .D2D_STAT => [⟨45, 27, .ro, 0⟩, ⟨26, 23, .ro, 0⟩, ⟨2, 2, .ro, 0⟩, ⟨1, 0, .ro, 0⟩]
  -- R452
  | .D2D_ERR => [⟨63, 48, .w1c, 0⟩, ⟨47, 40, .w1c, 0⟩, ⟨0, 0, .w1c, 0⟩]
  -- R447
  | .D2D_TSCFG => [⟨63, 48, .rw, 0⟩, ⟨31, 16, .rw, 0⟩, ⟨15, 0, .rw, 0⟩]
  -- R476
  | .GLB_FLTCTL => [⟨47, 40, .rwl, 10⟩, ⟨39, 36, .rwl, 3⟩, ⟨31, 24, .rwl, 10⟩, ⟨15, 8, .rwl, 3⟩, ⟨0, 0, .w1s, 0⟩]
  -- R477
  | .GLB_FLTSTAT => [⟨47, 40, .w1c, 0⟩, ⟨38, 32, .ro, 0⟩, ⟨31, 16, .ro, 0⟩, ⟨1, 1, .ro, 0⟩, ⟨0, 0, .ro, 0⟩]
  -- R478
  | .GLB_FLTLOG => [⟨63, 63, .rp, 0⟩, ⟨62, 60, .rp, 0⟩, ⟨59, 56, .rp, 0⟩, ⟨55, 40, .rp, 0⟩, ⟨39, 32, .rp, 0⟩,
      ⟨31, 0, .rp, 0⟩]
  -- R479
  | .GLB_PORTRET0 => [⟨55, 0, .rws, 0⟩]
  -- R479
  | .GLB_PORTRET1 => [⟨15, 0, .rws, 0⟩]
  -- R480
  | .BRK_FLT => [⟨63, 56, .rws, 0⟩, ⟨55, 48, .w1c, 0⟩, ⟨47, 32, .w1c, 0⟩, ⟨31, 16, .w1c, 0⟩, ⟨15, 8, .w1c, 0⟩,
      ⟨0, 0, .rws, 0⟩]
  -- R481
  | .BRK_SUSPECT => [⟨63, 63, .w1c, 0⟩, ⟨60, 60, .ro, 0⟩, ⟨59, 48, .ro, 0⟩, ⟨29, 0, .ro, 0⟩]
  -- R504
  | .CLK_STAT => [⟨35, 35, .w1c, 0⟩, ⟨34, 34, .w1c, 0⟩, ⟨33, 33, .rws, 0⟩, ⟨32, 32, .ro, 0⟩, ⟨15, 0, .ro, 0⟩]
  -- R505
  | .RST_CTL => [⟨1, 1, .w1s, 0⟩, ⟨0, 0, .w1s, 0⟩]
  -- R506
  | .RST_STAT => [⟨23, 16, .ro, 0⟩, ⟨8, 8, .ro, 0⟩, ⟨5, 4, .ro, 0⟩, ⟨3, 0, .ro, 0⟩]
  -- R507
  | .RST_BISTMAP => [⟨63, 0, .ro, 0⟩]
  -- R508
  | .RST_BRK => [⟨7, 6, .ro, 2⟩, ⟨2, 2, .w1c, 0⟩, ⟨1, 1, .w1s, 0⟩, ⟨0, 0, .rw, 0⟩]
  -- R509
  | .PWR_BRK => [⟨9, 8, .ro, 0⟩, ⟨0, 0, .rw, 0⟩]
  -- R510
  | .CLK_LP => [⟨16, 16, .w1c, 0⟩, ⟨15, 0, .w1c, 0⟩]
  -- R545
  | .BBX_CTL => [⟨63, 48, .rwl, 221⟩, ⟨47, 32, .rwl, 10554⟩, ⟨1, 1, .w1s, 0⟩, ⟨0, 0, .w1s, 0⟩]
  -- R545
  | .BBX_STAT => [⟨63, 63, .rws, 0⟩, ⟨62, 59, .rws, 0⟩, ⟨47, 32, .w1c, 0⟩, ⟨31, 24, .rws, 0⟩, ⟨12, 12, .rws, 0⟩,
      ⟨11, 0, .rws, 0⟩]
  -- R545
  | .BBX_SEL => [⟨11, 0, .rw, 0⟩]
  -- R545
  | .BBX_DATA => [⟨63, 0, .ro, 0⟩]
  -- R543
  | .PRB_TCTL => [⟨63, 63, .rw, 0⟩, ⟨62, 62, .rw, 0⟩, ⟨61, 61, .rw, 0⟩, ⟨29, 0, .rw, 0⟩]
  -- R543
  | .PRB_TSTAT => [⟨63, 48, .w1c, 0⟩, ⟨33, 33, .ro, 0⟩, ⟨32, 32, .ro, 0⟩, ⟨13, 0, .ro, 0⟩]
  -- R543
  | .PRB_TSEL => [⟨13, 0, .rw, 0⟩]
  -- R543
  | .PRB_TDATA => [⟨63, 0, .ro, 0⟩]
  -- R544
  | .PRB_CMCTL => [⟨63, 63, .rw, 0⟩, ⟨62, 62, .rw, 0⟩, ⟨15, 0, .rw, 64⟩]
  -- R544
  | .PRB_CMSTAT => [⟨63, 32, .ro, 0⟩, ⟨0, 0, .ro, 0⟩]
  -- R540
  | .AGE_CTL => [⟨63, 48, .rwl, 50000⟩, ⟨47, 40, .rwl, 50⟩, ⟨39, 36, .rwl, 4⟩, ⟨32, 32, .rwl, 1⟩, ⟨25, 16, .rwl, 10⟩,
      ⟨9, 0, .rwl, 25⟩]
  -- R540
  | .AGE_VREQ => [⟨11, 8, .rws, 0⟩, ⟨7, 4, .rws, 0⟩, ⟨1, 1, .w1s, 0⟩, ⟨0, 0, .ro, 0⟩]
  -- R540
  | .AGE_PLANSUM => [⟨63, 32, .rws, 0⟩, ⟨0, 0, .w1c, 0⟩]
  -- R540
  | .AGE_PLAN => [⟨63, 63, .ro, 0⟩, ⟨1, 1, .ro, 0⟩, ⟨0, 0, .rws, 0⟩]
  -- R544
  | .PRB_CMAP => [⟨63, 0, .ro, 0⟩]
  -- R538
  | .AGE_MARGIN => [⟨43, 43, .ro, 0⟩, ⟨42, 40, .ro, 0⟩, ⟨39, 36, .ro, 0⟩, ⟨25, 16, .rw, 1023⟩, ⟨9, 0, .ro, 1023⟩]
  -- R539
  | .AGE_DRIFT => [⟨63, 32, .rws, 0⟩, ⟨31, 0, .ro, 0⟩]
  -- R539
  | .AGE_FIT => [⟨63, 63, .ro, 0⟩, ⟨55, 48, .ro, 0⟩, ⟨47, 32, .ro, 0⟩, ⟨31, 0, .ro, 4294967295⟩]
  -- R538
  | .AGE_MON => [⟨25, 16, .rw, 1023⟩, ⟨9, 0, .ro, 1023⟩]
  -- R539
  | .AGE_HIST => [⟨63, 63, .rws, 0⟩, ⟨31, 0, .rws, 0⟩]
  -- R542
  | .PRB_CTL => [⟨63, 63, .rw, 0⟩, ⟨62, 62, .rw, 0⟩, ⟨61, 61, .rw, 0⟩, ⟨60, 58, .rw, 0⟩, ⟨57, 50, .rw, 0⟩,
      ⟨49, 44, .rw, 0⟩, ⟨43, 41, .rw, 0⟩]
  -- R542
  | .PRB_MATCH => [⟨63, 32, .rw, 0⟩, ⟨31, 0, .rw, 0⟩]
  -- R542
  | .PRB_CNT => [⟨63, 32, .w1c, 0⟩, ⟨31, 0, .w1c, 0⟩]
  -- R541
  | .LN_MARGIN => [⟨47, 40, .ro, 0⟩, ⟨35, 32, .rw, 10⟩, ⟨20, 20, .ro, 0⟩, ⟨19, 16, .ro, 0⟩]
  -- R574
  | .GLB_IRQSTAT => [⟨7, 7, .w1c, 0⟩, ⟨6, 6, .w1c, 0⟩, ⟨5, 5, .ro, 0⟩, ⟨4, 4, .w1c, 0⟩, ⟨3, 3, .ro, 0⟩,
      ⟨2, 2, .ro, 0⟩, ⟨1, 1, .w1c, 0⟩, ⟨0, 0, .ro, 0⟩]
  -- R575
  | .GLB_IRQEN => [⟨7, 0, .rw, 0⟩]
  -- R576
  | .GLB_EVSUM => [⟨63, 0, .ro, 0⟩]
  -- R577
  | .NI_LPERR => [⟨63, 48, .w1c, 0⟩, ⟨47, 32, .w1c, 0⟩, ⟨31, 16, .w1c, 0⟩]

end Sys2Proof.Machine
end

