-- ==== Sys2Proof/Machine/Store.lean ====
section
/-!
DEFINITION. Sparse arrays in one canonical form: keys strictly rise and no entry equals the array's default, so that
equal arrays are equal data. `look` reads, `put` writes and keeps the form.
-/

namespace Sys2Proof.Machine

/-- The value at key `k`; an unlisted key holds the default `d`. -/
def look {α : Type} (d : α) : Store α → Nat → α
  | [], _ => d
  | (j, v) :: r, k => if j = k then v else look d r k

/-- The list without key `k`. -/
def erase {α : Type} : Store α → Nat → Store α
  | [], _ => []
  | (j, v) :: r, k => if j = k then erase r k else (j, v) :: erase r k

/-- The list with `v` at key `k` (keys rise). -/
def insert {α : Type} : Store α → Nat → α → Store α
  | [], k, v => [(k, v)]
  | (j, w) :: r, k, v =>
    if j = k then (k, v) :: r else if k < j then (k, v) :: (j, w) :: r else (j, w) :: insert r k v

/-- Write `v` at key `k`; writing the default removes the entry. -/
def put {α : Type} [DecidableEq α] (d : α) (m : Store α) (k : Nat) (v : α) : Store α :=
  if v = d then erase m k else insert m k v

/-- Change the value at key `k`. -/
def modify {α : Type} [DecidableEq α] (d : α) (m : Store α) (k : Nat) (f : α → α) : Store α :=
  put d m k (f (look d m k))

/-- Keys strictly rise. -/
def keysRise {α : Type} : Store α → Bool
  | [] => true
  | [_] => true
  | (j, _) :: (k, v) :: r => decide (j < k) && keysRise ((k, v) :: r)

/-- The canonical form: keys strictly rise and no entry equals the default. -/
def Canonical {α : Type} [DecidableEq α] (d : α) (m : Store α) : Prop :=
  keysRise m = true ∧ ∀ e ∈ m, e.2 ≠ d

/-- What a lookup in FCLK `now` finds where `cur` stands: the value from before the writes of that FCLK, if `old` = (FCLK + 1,
value) is of it. -/
def asStood {α : Type} (now : Nat) (old : Nat × α) (cur : α) : α := if old.1 = now + 1 then old.2 else cur

/-- Keep the entries whose key satisfies `p`. -/
def keepKeys {α : Type} (m : Store α) (p : Nat → Bool) : Store α := m.filter (fun e => p e.1)

end Sys2Proof.Machine
end

