-- ==== Sys2Proof/Machine/State.lean ====
section
/-!
DEFINITION. The state of the block: the surroundings it reads and writes (`Env`: the build parameters and cluster
memory), every piece of state the spec gives the block itself (`Block`, in groups), and the queue of waiting commands.
Keys of the arrays: brick `b` = y * 16 + x; (brick, port) b * 8 + p; (brick, tracker) b * 1024 + t; (brick, stream)
b * 1024 + u with u = e or 0x100 + s (R373); (lane port, lane) p * 4 + l.
-/

namespace Sys2Proof.Machine

/-! ### The build (R15 to R19, R546, R547) -/

/-- The role of an express port (R17): none, lane port `p`, bridge port `p`, or stretcher. -/
inductive XRole where
  | none
  | lane (p : Nat)
  | bridge (p : Nat)
  | stretcher
  deriving DecidableEq, Repr

/-- The build parameters (R546) and the die's own coordinate (R85). They never change. `roles` holds the edge roles of
XA (key 2b) and XB (key 2b + 1); stretcher roles follow from R15 and R16. -/
structure Build where
  meshX : Nat := 16
  meshY : Nat := 16
  switchProfile : Bool := false
  stretch : Bool := true
  step : Nat := 0
  lanePorts : Nat := 16
  bridgePorts : Nat := 16
  roles : Store XRole := []
  lpUnbuilt : List Nat := []
  refclkKHz : Nat := 100000
  bridgeBW : Nat := 1152
  scanCh : Nat := 1
  pod : Nat := 0
  pkg : Nat := 0
  die : Nat := 0
  deriving DecidableEq, Repr

/-- What surrounds the block: its build, and the bytes of cluster memory (R203), listed by rising address (brick index
times 2^48 plus local address) where they differ from 0x00. -/
structure Env where
  build : Build := {}
  mem : List Host.Cell := []
  deriving DecidableEq, Repr

/-! ### Clock and global time (R117 to R131) -/

/-- The time states of R122. -/
inductive TimeState where
  | root | acquire | tracking | locked | holdover | lost
  deriving DecidableEq, Repr

/-- The course clock and the time servo. `phase` counts 2^-40 ns within the course (R118; CPHASE is its upper part),
`cyc` the FCLK since the boundary, `now` the FCLK since reset. `servoF` is the integral term f of R121 in units of
2^-40 ns / 2^16 (log 12). -/
structure Clock where
  course : Nat := 0
  phase : Nat := 0
  cyc : Nat := 0
  now : Nat := 0
  inc : Nat := 458129844907
  latched : Nat := 0            -- TIM_COURSE
  setHeld : Option Nat := none  -- TIM_SET held (R127)
  servoF : Int := 0
  st : TimeState := .root
  good : Nat := 0               -- consecutive samples within the LOCKED limit
  since : Nat := 0              -- SINCE
  offset : Int := 0             -- OFFSET, 1/16 ns
  holdCourses : Nat := 0        -- courses in HOLDOVER
  lhalt : Bool := false         -- R125
  lhaltEnd : Bool := false      -- the halt ends at the next boundary
  due : Store (Option Nat) := []  -- brick: FCLK (as `now` counts) in which the boundary that its message told takes effect (R24)
  upWide : Bool := false        -- the upstream reports WIDE (R124)
  deriving DecidableEq, Repr

/-! ### Program streams (R31 to R52) -/

/-- The stream states of R45. -/
inductive StreamState where
  | stopped | running | waiting | halted | faulted
  deriving DecidableEq, Repr

/-- A transfer descriptor as read (R204). -/
structure Desc where
  trk : Nat := 0
  tag : Nat := 0
  entry : Nat := 0
  vc : Nat := 0
  record : Bool := false
  ring : Nat := 0
  cinc : Bool := false
  cnt : Nat := 0
  len : Nat := 0
  sa : Nat := 0
  da : Nat := 0
  group : Nat := 0
  cseq : Nat := 0
  member : Nat := 0
  mmask : Nat := 0
  opx : List Byte := []
  deriving DecidableEq, Repr

/-- The operations that a source tracker serves (R207, R225). -/
inductive XferOp where
  | copy | mcast | contrib | gather | storeC | send | rload | rstore
  | lpLoad | lpStore | signalR | dirreq | chunk | mgmt | reducerPart
  deriving DecidableEq, Repr

/-- What holds a stream that is RUNNING: nothing; a tracker that is not IDLE (R208); a pool tracker (R225); FENCE
(R209); a SEGIN whose set, of segment `k`, is not complete (R254). -/
inductive Hold where
  | none
  | tracker (op : XferOp) (d : Desc)
  | pool
  | fence
  | segin (k : Nat)
  deriving DecidableEq, Repr

/-- One reducer or transfer stream (R45, R50). `wcnt` and `wtarget` are those of its latest WAIT; `loops` lists (address of
a LOOP, branches taken since it was entered) (R35, R36); `word` is the instruction it has fetched and stands at, while it
waits or is held. -/
structure Stream where
  st : StreamState := .stopped
  pc : Nat := 0
  wcnt : Nat := 0
  wtarget : Nat := 0
  loops : List (Nat × Nat) := []
  hold : Hold := .none
  word : Option Word := none
  deriving DecidableEq, Repr

/-- What reached a counter in one FCLK (R39): the FCLK + 1 (0: none), the rank of the set that stands (0: none, 1 the
image-start clear, 2 a Local Port write, 3 a Management Port write), and the sum of the adds. -/
structure CountTick where
  at_ : Nat := 0
  rank : Nat := 0
  adds : Nat := 0
  deriving DecidableEq, Repr

/-- Programs, streams and counters. `ticks` by counter; `xferOld` by word of the transfer memories: FCLK + 1 of its last
write and the word before it (R58). -/
structure Programs where
  streams : Store Stream := []
  counters : Store Nat := []            -- b * 256 + c (R38)
  ticks : Store CountTick := []
  xferMem : Store Word := []            -- b * 4096 + a (R31)
  xferOld : Store (Nat × Word) := []
  rdcMem : Store Word := []             -- b * 1024 + a
  entries : Store Word := []            -- b * 16 + e: entry word in force (R57)
  openRange : Store Word := []          -- b: open-range word in force
  memFaults : List (Nat × Nat) := []    -- double-bit errors: (key, GTIME) (R461)
  deriving DecidableEq, Repr

/-! ### The image loader (R54 to R71) -/

/-- GLB_IMAGE.STATE (R68). -/
inductive LoadState where
  | empty | checking | checked | rejected | quiescing | writing | running | loadFailed
  deriving DecidableEq, Repr

/-- The loader. `checked` holds the image of the check pass, `cur` the bytes of the current pass, `prev` the state
before the check pass (R67), `saved` the streams stopped by quiescing as they stood (R62). -/
structure Loader where
  st : LoadState := .empty
  prev : LoadState := .empty
  run : Bool := false
  locked : Bool := false
  err : Nat := 0
  errSec : Nat := 0
  errBrick : Nat := 0
  checked : List Byte := []
  cur : List Byte := []
  imageId : Nat := 0           -- GLB_IMGID, the image in force
  skewNs : Nat := 40           -- SKEW_NS in force; none: the margin of 40 (R133)
  flat : Bool := false         -- FLAGS.FLAT of the image in force (R89)
  written : Bool := false      -- the write pass has ended and image start is awaited
  writeAsked : Bool := false   -- a write command is held in CHECKED (R136, R180, R393)
  flipsEpoch : Bool := false   -- the written image carries ROUTE SUB 1 or SUB 2 (R179)
  saved : List (Nat × Stream) := []
  deriving DecidableEq, Repr

/-! ### The scheduled plane (R97 to R116, R135 to R141) -/

/-- CRS_STAT.KIND. -/
inductive WinKind where
  | idle | connect | shared | closing
  deriving DecidableEq, Repr

/-- The course sequencer of one output: `at_` instructions of its part's trace (REPEAT expanded) are executed; `ahead`
that the part is that of the course to come (its MARK is executed and the boundary is not there); `owed` the SYNC adds
not yet applied (R104); `safe` SAFE (R116); `dflt` that
the output runs the default course until the next image start, its brick having been isolated (R491). Which part runs and which window is in force follow from COURSE and the time
within the course (R103, R107). -/
structure Sequencer where
  at_ : Nat := 0
  ahead : Bool := false
  owed : List (Nat × Nat) := []
  safe : Bool := false
  dflt : Bool := false
  deriving DecidableEq, Repr

/-- A packet staged at an injection point with its subscriber (R143; none: offered at the service level directly), and
the outputs it owes (none: not yet routed). `fixed`: it has begun on an output, or a slice forwards it, so its EPOCH
stands (R94). `ready`: the FCLK in which its last unit can be held in a lane port, at one unit an FCLK from its routing on
(R422). -/
structure Staged where
  sub : Option Nat := none
  pkt : Packet
  owed : Option (List Nat) := none
  fixed : Bool := false
  ready : Nat := 0
  deriving DecidableEq, Repr

/-- A packet in a router input chain: the outputs it still owes (none: not yet routed), and how many of its units have had
a place in the chain, each against a hop credit (R152). The others stand in the chains behind it, nearest first, as
(b * 8 + input, places there), and the last of them wait at the output that sends them. `ready` is as in `Staged`. -/
structure Chained where
  pkt : Packet
  owed : Option (List Nat) := none
  units : Nat := 1
  behind : List (Nat × Nat) := []
  ready : Nat := 0
  deriving DecidableEq, Repr

/-- The router, the injection points, the receive FIFOs and the course sequencers. Keys: `stage` b * 2 + (0 for L, 1
for C); `chain`, `credit`, `seq` b * 8 + port; `rx` b * 8 + class (0 NI, 2 reducer, 3 slice, 4 placement, 5 loader);
`vtime`, `ftag`, `rrobin` of R145 by output b * 8 + p, by service (b * 8 + p) * 8 + s; the subscriber level by
injection point and service (b * 2 + i) * 8 + s, and by subscriber ((b * 8 + s) * 2048 + sub); `headStart`, `subStart`
the start tags and weights of the heads, by the keys of `ftag` and `subTag`; a head's with its input and subscriber. -/
structure Network where
  chain : Store (List Chained) := []
  stage : Store (List Staged) := []
  rx : Store (List Packet) := []
  credit : Store Nat := []                 -- default 4 (R152)
  courseProg : Store (List Word) := []     -- (b * 8 + p) * 2 + bank
  bank : Bool := false                     -- active bank of course memories and NI route tables
  seq : Store Sequencer := []
  vtime : Store Nat := []
  ftag : Store Nat := []
  rrobin : Store Nat := []
  headStart : Store (Option (Nat × Nat × Nat × Option Nat)) := []
  subStart : Store (Option (Nat × Nat)) := []
  busy : Store Nat := []                   -- b * 8 + p: FCLK from which the output holds no packet (R14)
  subVtime : Store Nat := []
  subTag : Store Nat := []
  offered : Store (Option Nat) := []       -- (b * 2 + i) * 8 + s: the winner offered (R148)
  tokens : Store (Int × Nat) := []         -- by register address: count with 16 fraction bits, FCLK of that count
  shaped : Store (Nat × Word × Int) := []  -- by register address: FCLK + 1 of a write, word and count before it (R151)
  hold : Store (List Packet) := []         -- b * 8 + port: hold queue (R113)
  routeOld : Store (Nat × Word × Word) := [] -- (b * 2 + bank) * 4096 + e: FCLK + 1 of a commit, words before it (R169)
  pktClear : Store (Nat × Word) := []      -- brick: FCLK + 1 of a write of BRK_PKTERR, word written (R95)
  sprayLast : Store Nat := []              -- (b * 8 + port) * 1024 + entry: last choice (R183)
  sprayS : Store Nat := []                 -- (b * 8 + port) * 64 + lane port: units sent since the boundary
  backlog : Store Nat := []                -- lane port: units reported at the last boundary (R184)
  noticeCache : Store (List (Nat × Nat × Nat)) := []
  linkFaults : List (Nat × Nat) := []      -- (b * 8 + p, GTIME) of router link failures (R461)
  injStop : Bool := false                  -- scheduled injection stopped (R137)
  target : Nat := 0                        -- swap target (R135)
  routeMem : Store Word := []              -- ((b * 2 + bank) * 4096 + e) * 2 + word (R165)
  pkgTable : Store Word := []              -- bank * 4 + d
  sysTable : Store Word := []              -- bank * 768 + i
  epoch : Bool := false
  flipPending : Bool := false
  holdLeft : Nat := 0
  deriving DecidableEq, Repr

/-! ### Transfers and trackers (R202 to R238) -/

/-- The tracker states of R210. -/
inductive TrackerState where
  | idle | source | dest | completing | linger | collect
  deriving DecidableEq, Repr

/-- A segment part that a tracker in COLLECT takes (R314, R318): its first packet, the packets placed as (PSEQ, bytes),
the PSEQs committed to memory, and whether the part is taken whole. -/
structure TakenPart where
  head : Packet := {}
  placed : List (Nat × List Byte) := []
  committed : List Nat := []
  done : Bool := false
  deriving DecidableEq, Repr

/-- A packet that a source has still to stage (R159): packet `part` of unit `unit` (a PSEQ, or a part of a contribution),
and whether it is sent again. -/
structure ToSend where
  unit : Nat
  part : Nat := 0
  again : Bool := false
  deriving DecidableEq, Repr

/-- A tracker and the stream it counts. `b` is the lowest PSEQ not yet acknowledged (source) or seen (destination),
`seen` the PSEQs at or above `b` that are; `answered` those answered with ERROR; `issued` the units issued so far, `todo`
what of them has still to be staged; `resends` (PSEQ, times); `serial` its place in the order in which operations started;
`isDest` that it counts a stream which ends here. `eng` is the engine or none; `rid`, `tag` belong to an LP operation; `data` to an LP store. -/
structure Tracker where
  st : TrackerState := .idle
  op : XferOp := .copy
  sys : Bool := false
  owner : Nat := 0
  pcount : Nat := 0
  b : Nat := 0
  seen : List Nat := []
  answered : List Nat := []
  issued : Nat := 0
  done : Nat := 0
  resent : Nat := 0
  resends : List (Nat × Nat) := []
  nacked : List (Nat × Nat) := []   -- (PSEQ, GTIME) of the last NACK of each (R215)
  todo : List ToSend := []
  reading : Option Nat := none      -- the access that reads the source data of the first of `todo` (R553)
  serial : Nat := 0
  isDest : Bool := false
  ackDue : Nat := 0
  dupAck : Option Nat := none       -- GTIME of the last repeated ACK (R212)
  status : Nat := 0
  stop : Bool := false          -- an ERROR came: no new packet (R217)
  moved : Bool := false
  aflags : Nat := 0
  firstIdx : Nat := 0xFFFFFFFF
  bytes : Nat := 0
  fenced : Nat := 0
  gtime : Nat := 0
  desc : Desc := {}
  eng : Option Nat := none
  rid : Nat := 0
  rtag : Nat := 0
  data : List Byte := []
  dst : Nat := 0                -- destination coordinate of the stream
  hdr : Packet := {}            -- header of the last packet taken by a destination
  epochs : List (Nat × Bool) := [] -- (PSEQ, route epoch of its last sending) (R468)
  parts : Store TakenPart := [] -- COLLECT: by segment, or by SRC * 2^16 + segment for a DISPATCH destination
  deriving DecidableEq, Repr

/-- A completion waiting to be written to a ring: tracker, whether it stands at the source, its record, and the counter
add that follows it (R219, R223). -/
structure Record where
  trk : Nat
  bytes : List Byte
  add : Option (Nat × Nat)
  deriving DecidableEq, Repr

/-- A completion ring (R221): PROD and CONS, records placed in the open batch, records
waiting on a full ring, and the batch being written. -/
structure Ring where
  prod : Nat := 0
  cons : Nat := 0
  batch : List Record := []
  waiting : List Record := []
  writing : List Record := []
  deriving DecidableEq, Repr

/-- What a memory-master request is for (R553 to R556). -/
inductive MemUse where
  | packet (p : Packet)                  -- data of a WRITE, MCAST, READRESP or CHUNK packet
  | alone (p : Packet)                   -- data of a packet that no tracker counts
  | memberData (t : Nat) (p : Packet)    -- a RESULT segment for member tracker t
  | runData (t : Nat) (p : Packet)       -- a DISPATCH part for tracker t
  | batch (r : Nat)                      -- completion records of ring r
  | source (t : Nat)                     -- the source data of a packet of tracker t (a read)
  | message (t : Nat)                    -- the message of the SEND on tracker t (a read)
  | scan (t : Nat)                       -- the source of the STORE.C on tracker t, for its scan pass (a read)
  | gatherRow (t j : Nat)                -- bytes of tile row j of gather tracker t
  | gatherActs (t n : Nat)               -- n bytes of activations of gather tracker t
  | plain                                -- a write of the block's own (the member mask)
  deriving DecidableEq, Repr

/-- A memory-master request, of one unit of 128 bytes: the bytes it writes, as (address, bytes) runs; the access that it is
part of, by number; the bytes that the whole access writes; and whether another request of the access has failed (R553,
R556). -/
structure MemReq where
  runs : List (Nat × List Byte) := []
  use : MemUse
  id : Nat := 0
  len : Nat := 0
  bad : Bool := false
  deriving DecidableEq, Repr

/-- An LP operation that the target channel holds for a pool tracker (R225). -/
structure LpOp where
  rid : Nat
  tag : Nat
  addr : Nat
  len : Nat
  data : Option (List Byte)      -- some for a store
  deriving DecidableEq, Repr

/-- What a response of the target channel waits for: a send's acceptance on channel `c` (R366), a pool tracker (R225),
the load on pool tracker `t`, or what a fence read awaits (R228). -/
inductive LpWait where
  | send (c : Nat)
  | held
  | load (t : Nat)
  | fence
  deriving DecidableEq, Repr

/-- A response owed to a requester identifier (R551): not there yet, or there and behind an earlier one. -/
inductive LpDue where
  | waits (tag : Nat) (w : LpWait)
  | ready (tag status : Nat) (data : List Byte)
  deriving DecidableEq, Repr

/-- A fence read that waits (R228): the LP operations before it that are not complete, as a count of the held ones and
the pool trackers of the started ones. -/
structure FenceRead where
  rid : Nat
  tag : Nat
  held : Nat
  trks : List Nat
  deriving DecidableEq, Repr

/-- Trackers and what belongs to them. Keys: `trk` b * 1024 + t; `ring` b * 8 + r; `lpm` b * 1024 + tag, `lpmWait` brick: requests
that wait for a tag (R553); `order` b * 16 + e: the trackers of the started transfers of engine e that have packets to
issue, in start order (R208); `history`
brick: (SRC, TRACKER) keys of COUNTER packets (R225); `lpHeld` brick; `lpFail` b * 64 + rid: first failing status
since the last fence read; `fenceReads` brick; `lpDue` b * 64 + rid: the
responses owed, in the order of the requests (R551); `requests` brick: READREQ in the store (R155). `starts` counts the
operations that have started and the memory accesses made, in one sequence. -/
structure Transfers where
  trk : Store Tracker := []
  ring : Store Ring := []
  lpm : Store (Option MemReq) := []
  lpmWait : Store (List MemReq) := []
  order : Store (List Nat) := []
  history : Store (List (Nat × Nat)) := []
  lpHeld : Store (List LpOp) := []
  lpFail : Store Nat := []
  fenceReads : Store (List FenceRead) := []
  lpDue : Store (List LpDue) := []
  requests : Store (List Packet) := []
  starts : Nat := 0
  deriving DecidableEq, Repr

/-- What the block has answered or sent at its ports (R549, R559, R562, R564, R565, R568), oldest first. -/
inductive Answer where
  | mp (data : Word) (err : Bool)
  | lp (b rid tag status : Nat) (data : List Byte)
  | wrapper (data : List Word)
  /-- A packet sent over lane port `p` with its link fields (R421). -/
  | lanePacket (p : Nat) (q : Packet) (lseq lack : Nat) (nak : Bool) (cvc ctot : Nat)
  | lctl (p : Nat) (nak : Bool) (lack : Nat) (totals : List Nat)
  | lset (p mask : Nat) (echo : Bool)
  | idlein (p : Nat)
  /-- The INIT that a lane port's broadcast rows carry (R423, R427): own die, port, LLR and the six LNK_CRED values. -/
  | init (p die port : Nat) (llr : Bool) (cred : List Nat)
  /-- MARKs of one count on lanes of a port (R425). -/
  | mark (p : Nat) (lanes : List Nat)
  /-- The exit burst of a transmit direction begins (R434). -/
  | burst (p : Nat)
  /-- A time-sync request or answer over a lane port or bridge port (R431, R441). -/
  | tsreq (bridge : Bool) (p t1 : Nat)
  | tsresp (bridge : Bool) (p t2 t3 : Nat)
  | bridgePacket (d : Nat) (q : Packet)
  /-- A bridge control field that is not idle (R438). -/
  | bridgeControl (d field : Nat)
  /-- The kept equalisation settings returned to a lane's PHY (R491). -/
  | laneSettings (p l : Nat) (eq : Word)
  /-- The supply steps requested of the regulator (R521). -/
  | supply (steps : Nat)
  deriving DecidableEq, Repr

/-! ### Events, faults, the black box -/

/-- An entry of the event FIFO (R373). -/
structure Event where
  type : Nat
  status : Nat := 0
  source : Nat := 0
  arg0 : Nat := 0
  arg1 : Nat := 0
  gtime : Nat := 0
  deriving DecidableEq, Repr

/-- An entry of the black box (R533). -/
structure BoxEntry where
  gtime : Nat := 0
  source : Nat := 0xFFFF
  kind : Nat := 0
  status : Nat := 0
  arg0 : Nat := 0
  arg1 : Nat := 0
  evType : Nat := 0
  evSource : Nat := 0
  deriving DecidableEq, Repr

/-- Event FIFOs, failure histories (R461), the fault log (R478), the recovery episode (R467, R468), the black box with
a freeze underway (R536: GTIME of the freezing event and CAUSE) and the interrupt toggles of the Local Ports (R557:
b * 2 + (0 LPI_EVT, 1 LPI_Q) to (toggle, return, owed)). `boxWait` holds the entries still underway to the root. -/
structure Faults where
  events : Store (List Event) := []
  evLatch : Store (Option Event) := []
  log : List Word := []
  recovering : Bool := false
  donePend : Bool := false
  triggers : Nat := 0
  laneHist : List (Nat × Nat) := []
  portHist : List (Nat × Nat) := []
  rdcHist : List (Nat × Nat) := []
  box : Store (Option BoxEntry) := []
  boxWait : List BoxEntry := []
  freezing : Option (Nat × Nat) := none
  lpi : Store (Bool × Bool × Bool) := []
  deriving DecidableEq, Repr

/-! ### The reducer and the groups (R239 to R273, R303 to R326) -/

/-- A child's segment part as it is placed (R247, R249): its first packet, the packets placed as (PSEQ, bytes), and,
once complete, its trailer and number of data bytes; `acked` that it has been acknowledged (R251). -/
structure Part where
  head : Packet := {}
  placed : List (Nat × List Byte) := []
  complete : Bool := false
  trailer : List Byte := []
  len : Nat := 0
  acked : Bool := false
  deriving DecidableEq, Repr

/-- A buffer set (R246 to R255): its tag (CSEQ, k); the parts by child slot * 2 + phase (X at 14); the buffers by code
(0 to 6 C0 to C6, 7 A, 8 X), each as long as the data written to it; whether A is held (R253), X complete, the segment
emitted; the flags raised, and the index fault of GATHER. -/
structure BufSet where
  tag : Option (Nat × Nat) := none
  parts : Store Part := []
  bufs : Store (List Byte) := []
  aHeld : Bool := false
  xDone : Bool := false
  emitted : Bool := false
  aflags : Nat := 0
  firstIdx : Nat := 0xFFFFFFFF
  xidx : Nat := 0xFFFFFFFF
  status : Nat := 0
  deriving DecidableEq, Repr

/-- A part that a slot has queued and not yet seen acknowledged (R251 to R253): its packets, the segment k and the set
it came from, whether it has been offered to input C (R252), whether its last packet has left, whether its leaving emits
the set (HOLD = 0), whether it goes down the tree, whether it was sent from A, the packets of it still to be staged
(R159), whether it was NACKed, and how often it was resent. -/
structure OutPart where
  pkts : List Packet := []
  cseq : Nat := 0
  seg : Nat := 0
  seqk : Nat := 0
  set : Option Nat := none
  offered : Bool := false
  gone : Bool := false
  emits : Bool := false
  down : Bool := false
  fromA : Bool := false
  left : List Packet := []
  nacked : Bool := false
  resent : Nat := 0
  deriving DecidableEq, Repr

/-- A group slot at work (R243 to R255): OPEN, NEXT, the current set and the phase of the last SEGIN, the sets, the
records in S, the key type of the last SORT, MERGE or TOPK, and whether the segment emitted last had FINAL = 1;
the parts that have left down the tree in OPEN and the sequence before, as (CSEQ, SEG, PCOUNT) (R321). -/
structure Slot where
  openSeq : Nat := 0
  next : Nat := 0
  cur : Option Nat := none
  phase : Nat := 0
  sets : Store BufSet := []
  s : List Byte := []
  kt : Nat := 0
  finalOut : Bool := false
  out : List OutPart := []
  downs : List (Nat × Nat × Nat) := []
  deriving DecidableEq, Repr

/-- Reducers and groups. Keys: `slots` b * 64 + s; `dtab` b * 8192 + j: the 32 bytes of dispatch entry j; `desc`
g * 2 + word; `tree` (b * 128 + i) * 8 + word; `treeOld` is the last FCLK, plus 1, that wrote tree nodes, and all of them
before it (R306); `slotOld` is the last FCLK, plus 1, that wrote words of RDC_SLOT, and those words before it, by
b * 64 + s (R271). -/
structure Reducers where
  slots : Store Slot := []
  dtab : Store (List Byte) := []
  desc : Store Word := []
  tree : Store Word := []
  treeOld : Nat × Store Word := (0, [])
  slotOld : Nat × Store Word := (0, [])
  deriving DecidableEq, Repr

/-! ### Health and observation (R511 to R545) -/

/-- Trace records waiting at each mortar stop and the records it failed to emit (R528), the trace SRAM (R529); the mode
a stretcher segment takes at the next boundary, whether the policy set it, and the FCLK at which it was set (R520, R523), a supply
step that settles (R521); of the interval of the congestion map (R531), by output (b * 8 + p): the largest backlog, the
shared-window cycles and the units of VC2 to VC7 sent, and the courses it has lasted; the bricks whose report the root
holds (R532). Of the trace SRAM (R529, R530): MCLK + 1 of its last write, the trace records that wait for it, and of the last
trace record written the MCLK, the entry and what the entry held before. -/
structure Health where
  traces : Store (List (List Byte)) := []
  lost : Store Nat := []
  traceMem : Store (List Byte) := []
  planNext : Store (Option (Bool × Bool × Nat)) := []
  settling : Bool := false
  back : Store Nat := []
  shared : Store Nat := []
  carried : Store Nat := []
  courses : Nat := 0
  reported : List Nat := []
  sramAt : Nat := 0
  traceBuf : List (List Byte) := []
  traceOld : Option (Nat × Nat × List Byte) := none
  deriving DecidableEq, Repr

/-! ### Links (R416 to R452) -/

/-- The link layer of a lane port (R427 to R435) or, without retry and lanes, of a bridge port (R439, R440). `kept` is
the retry buffer as (LSEQ, packet), `replay` the LSEQ still to be sent again, `replayAt` where the last replay started
and `replays` how many have started there in a row; `expected`, `nak` the receiver's side, with what was last told of
them; `sent`, `peer`, `cred` the sender's credits by VC (SENT, the partner's CTOT, the partner's LNK_CRED fields);
`ctot`, `told` the receiver's totals by VC with those last told, `lastVc` the VC told last; `stale` the packets in the
receive buffer that came before the last DOWN; `init` the partner's last INIT and whether it came twice in a row;
`asked` the mask of an LSET not yet echoed; `request` that the TSREQ of this course has left and awaits its TSRESP
(t1); `answered` that the course has its sample; `bursts` the exit bursts underway, oldest first: true its own, false the
partner's. -/
structure LinkLayer where
  kept : List (Nat × Packet) := []
  replay : List Nat := []
  replayAt : Option Nat := none
  replays : Nat := 0
  expected : Nat := 0
  nak : Bool := false
  toldAck : Nat := 0
  toldNak : Bool := false
  sent : Store Nat := []
  peer : Store Nat := []
  cred : List Nat := []
  ctot : Store Nat := []
  told : Store Nat := []
  lastVc : Nat := 7
  stale : Nat := 0
  init : Option (Nat × Nat × Bool × List Nat) := none
  asked : Option Nat := none
  request : Option Nat := none
  answered : Bool := false
  bursts : List Bool := []
  deriving DecidableEq, Repr

/-- What a lane's receive direction holds beside LN_STAT (R425, R426): trained and waiting for a MARK, entered TRAIN for
a retrain, kept in HUNT for its skew. -/
structure LaneRx where
  trained : Bool := false
  retrain : Bool := false
  skewed : Bool := false
  deriving DecidableEq, Repr

/-- Lane and bridge ports. Keys: `port`, `rxBuf` lane port p, or 64 + bridge port d; `lane`, `eq` p * 4 + l. `rxBuf`:
packets accepted at the port that have not entered the router; `eq` the lane training results (R491). -/
structure Links where
  port : Store LinkLayer := []
  rxBuf : Store (List Packet) := []
  lane : Store LaneRx := []
  eq : Store Word := []
  deriving DecidableEq, Repr
/-! ### Message channels and queues (R354 to R384) -/

/-- A grant entry (R354): the sending brick (coordinate bits [29:3]) and channel, NEXT, RES, RENEW, the LIMIT of the last
CREDIT, and the GTIME of the last NACK (R368). -/
structure Grant where
  brick : Nat
  chan : Nat
  next : Nat := 0
  res : Nat := 0
  renew : Bool := false
  told : Nat := 0
  nackAt : Option Nat := none
  deriving DecidableEq, Repr

/-- A message in a queue slot (R355, R357). -/
structure Message where
  src : Nat
  chan : Nat
  steered : Bool := false
  data : List Byte
  deriving DecidableEq, Repr

/-- A receive queue: its messages in commit order, its grant table and owner epoch (R354, R356); `late` is the FCLK of the
last commit, plus 1, and how many messages committed in it (R357). -/
structure RxQueue where
  msgs : List Message := []
  grants : List Grant := []
  epoch : Nat := 0
  late : Nat × Nat := (0, 0)
  deriving DecidableEq, Repr

/-- The channel states of R359. -/
inductive ChanState where
  | idle | opened | closed
  deriving DecidableEq, Repr

/-- A message that a channel accepted and has not seen acknowledged (R365, R369): its sequence number, data, lake address,
the send tracker it completes (none: MQ_SEND), or the GATHER whose residual descriptor it is (R342), and the route epoch it was started under (none: not started, R182). -/
structure SentMsg where
  seq : Nat
  data : List Byte
  addr : Nat := 0
  trk : Option Nat := none
  residual : Bool := false
  sent : Option Bool := none
  again : Bool := false
  quiet : Bool := false
  deriving DecidableEq, Repr

/-- A send channel (R359, R381). -/
structure Channel where
  st : ChanState := .idle
  epoch : Nat := 0
  limit : Nat := 0
  next : Nat := 0
  unacked : List SentMsg := []
  deriving DecidableEq, Repr

/-- Who waits for a send to be accepted (R365). -/
inductive Sender where
  | engine (t : Nat)
  | residual (t : Nat)
  | lp (rid tag : Nat)
  | mp
  deriving DecidableEq, Repr

/-- A send that waits on a channel. -/
structure WaitSend where
  chan : Nat
  who : Sender
  data : List Byte
  addr : Nat
  deriving DecidableEq, Repr

/-- Queues, channels and waiting sends. Keys: `queue` b * 64 + q; `popped` b * 64 + q, the latched 64 bytes of MQ_POP
(R357); `chan` b * 1024 + c; `waits` brick, in the order in which they began to wait. -/
structure Queues where
  queue : Store RxQueue := []
  popped : Store (List Byte) := []
  chan : Store Channel := []
  waits : Store (List WaitSend) := []
  deriving DecidableEq, Repr


/-! ### The sparse path (R327 to R353) -/

/-- The phases of a GATHER (R338, R339): fetching (the merge has not begun), reading the header and occupancy arrays,
reading the values, writing the activations and posting residual descriptors. -/
inductive GatherPhase where
  | fetch | arrays | values | output
  deriving DecidableEq, Repr

/-- A GATHER at work (R336 to R346). `rows` are the tile's rows (none: a zero row, R345), `reqs` the read requests in
PSEQ order (lake address, bytes, local destination or none for operand data), the first `nFetch` of them the fetch
phase; `got` the operand data by PSEQ; `posts` the residual descriptors not yet taken by the channel or the partition
(those in the RESID partition wait on their channel, R365); `open_` those accepted by the channel and not yet acknowledged; `writes` the
memory writes outstanding; `rowGot` bytes committed by tile row; `stopped` that posting has stopped (R343) and `mergeOver`
that the merge phase was abandoned or has ended. -/
structure GatherJob where
  rows : List (Option Nat) := []
  wbase : Nat := 0
  rowb : Nat := 0
  nrows : Nat := 0
  abase : Nat := 0
  afmt : Nat := 0
  tbase : Nat := 0
  tmax : Nat := 0
  lossy : Bool := false
  mw : Bool := false
  mcnt : Nat := 0
  mval : Nat := 0
  rpart : Nat := 0
  chan : Nat := 0
  reqs : List (Nat × Nat × Option Nat) := []
  nFetch : Nat := 0
  blocks : List Nat := []
  valueOf : List Nat := []       -- for each request after the arrays, its block
  phase : GatherPhase := .fetch
  got : Store (List Byte) := []
  posts : List (List Byte) := []
  open_ : Nat := 0
  writes : Nat := 0
  rowGot : Store Nat := []
  stopped : Bool := false
  mergeOver : Bool := false
  started : Bool := false
  deriving DecidableEq, Repr

/-- The sparse path. Keys: `compress`, `gathers` brick: the trackers of started STORE.C and GATHER transfers that are not
over, in start order (R347); `jobs` b * 1024 + t. -/
structure Sparse where
  compress : Store (List Nat) := []
  gathers : Store (List Nat) := []
  jobs : Store GatherJob := []
  deriving DecidableEq, Repr


/-! ### The lake and placement (R385 to R415) -/

/-- The states of a GPD entry (R413). -/
inductive GpdState where
  | pinned | home | moving | forwarding
  deriving DecidableEq, Repr

/-- A GPD entry (R413); `heat` lists the slots (die, count), at most four. -/
structure GpdEntry where
  v : Bool := false
  st : GpdState := .pinned
  lenm1 : Nat := 0
  base : Nat := 0
  epoch : Nat := 0
  age : Nat := 0
  home : Nat := 0
  total : Nat := 0
  frame : Nat := 0
  heat : List (Nat × Nat) := []
  deriving DecidableEq, Repr

/-- The states of a move record (R415). -/
inductive MoveState where
  | free | copy | forward | logwait
  deriving DecidableEq, Repr

/-- A move record of an old home (R399 to R401): the page's lake address, the old and the new frame, the new home, the
coordinator's coordinate, the round, the dirty map, the chunks that commits have set in an FCLK (its number + 1, and a
mask), the chunks of the round not yet begun, the chunk streams in flight (chunk, tracker), and whether its FLIP has
come. -/
structure MoveRec where
  st : MoveState := .free
  addr : Nat := 0
  frame : Nat := 0
  nframe : Nat := 0
  newHome : Nat := 0
  coordTo : Nat := 0
  round : Nat := 0
  dirty : Nat := 0
  hit : Nat × Nat := (0, 0)
  todo : List Nat := []
  flight : List (Nat × Nat) := []
  flipped : Bool := false
  deriving DecidableEq, Repr

/-- The steps of a coordinator (R398): the DIRREQ that it awaits an answer to, or that it waits for the REPORT or for an
install repeated at the next interval end. -/
inductive CoordStep where
  | start | reserve | prepare | move | report | install | installAgain
  deriving DecidableEq, Repr

/-- A move that a slice coordinates (R398): the entry, the target die (coordinate bits [29:11]), the step, the new frame
and its brick, the old home, and the result of a REPORT that came before the answer to MOVE. -/
structure Coordinator where
  entry : Nat := 0
  die : Nat := 0
  step : CoordStep := .start
  frame : Nat := 0
  newHome : Nat := 0
  oldHome : Nat := 0
  oldFrame : Nat := 0
  trk : Option Nat := none
  early : Option Bool := none
  deriving DecidableEq, Repr

/-- An entry of a placement arrival history (R396): (SRC, TRACKER) and the stored answer. -/
structure DirSeen where
  src : Nat
  trk : Nat
  answer : List Byte
  deriving DecidableEq, Repr

/-- Directory slices and placement. Keys: `entry` b * 2048 + i; `entryOld` the same, `endOld` b * 512 + i of GPD_EPENT,
`frameOld` i of PLC_FRAME: FCLK + 1 of firmware's last write, and what stood there before the writes of that FCLK (R91,
R392, R410); `staged` b: words 0 and 1 of GPD_DATA; `seen` b * 8 + EP (EP 5: the in-band accesses of R583); `refreshed` b:
the refresh cache of (SRC die, page); `coord` b; `recs` b * 4 + r; `steerLast` b * 64 + set; `steered`
(b * 256 + target brick) * 64 + queue: messages steered since the boundary; `occ` brick * 64 + queue as last reported.
The root of the die holds the moves granted and not ended, the course of the last grant, and PLC_LOG. `asks` brick:
DIRREQ that wait for a pool tracker, as (destination, endpoint, lake address, payload). -/
structure Placement where
  entry : Store GpdEntry := []
  entryOld : Store (Nat × GpdEntry) := []
  endOld : Store (Nat × Word) := []
  frameOld : Store (Nat × Word) := []
  staged : Store (Word × Word) := []
  seen : Store (List DirSeen) := []
  refreshed : Store (List (Nat × Nat)) := []
  coord : Store (Option Coordinator) := []
  recs : Store MoveRec := []
  steerLast : Store Nat := []
  steered : Store Nat := []
  occ : Store Nat := []
  active : List Nat := []
  lastGrant : Option Nat := none
  log : List (Nat × Nat) := []
  asks : Store (List (Nat × Nat × List Byte)) := []
  deriving DecidableEq, Repr


/-! ### Resets, clocks and power (R482 to R510, R568) -/

/-- Resets and power beside their registers: cold and warm reset inputs held, ROOTCK lost (R484), an enumeration
underway (R22), memory self-test running or held by the wrapper's test mode (R503, R568), the wrapper's instruction;
the boundaries found stopped (R490) and those in the handshake of R497; the bricks isolated (R493) and those that leave
isolation at the next boundary (R494); the compute domains whose ramp has ended (R501); the ring position of each
brick's mortar stop, as enumeration assigned it (R22); the clusters out of reset and powered, as their last POWER_UP found
them (R496). -/
structure Resets where
  coldHeld : Bool := false
  warmHeld : Bool := false
  rootLost : Bool := false
  enumerating : Bool := false
  testing : Bool := false
  testHeld : Bool := false
  wrapper : Nat := 0
  stopped : List Boundary := []
  resync : List Boundary := []
  isolated : List Nat := []
  leaving : List Nat := []
  ramped : List Nat := []
  position : Store Nat := []
  clusterUp : List Nat := []
  deriving DecidableEq, Repr

/-! ### The block and the machine -/

/-- A register write that applies from the FCLK after it: of TRK_BIND, TRK_RBASE and TRK_RIDX (R231), by brick and index,
and of BRK_RTCTL (R191). -/
inductive LateWrite where
  | bind (b t : Nat) (v : Word)
  | rbase (b r : Nat) (v : Word)
  | ridx (b r : Nat) (v : Word)
  | rtctl (b : Nat) (v : Word)
  deriving DecidableEq, Repr

/-- The brick of such a write. -/
def LateWrite.brick : LateWrite → Nat
  | .bind b _ _ => b
  | .rbase b _ _ => b
  | .ridx b _ _ => b
  | .rtctl b _ => b

/-- Everything the block holds. `regs` are the register words that have no other home, by window address (a register
not listed holds its reset value, `regReset`). `fresh`, by the same address: FCLK + 1 of the last event of a register whose
events apply after a clear of their FCLK, its word before the events of that FCLK, and those events together. `late`: writes of this
FCLK that apply from the next on, oldest first. `free` counts the free values drawn (the model's own, log 8). -/
structure Block where
  regs : Store Word := []
  clk : Clock := {}
  prog : Programs := {}
  img : Loader := {}
  net : Network := {}
  xfr : Transfers := {}
  rdc : Reducers := {}
  flt : Faults := {}
  mq : Queues := {}
  spc : Sparse := {}
  gpd : Placement := {}
  hlth : Health := {}
  lnk : Links := {}
  rst : Resets := {}
  fresh : Store (Nat × Word × Word) := []
  late : List LateWrite := []
  out : List Answer := []
  free : Nat := 0
  deriving DecidableEq, Repr

/-- The machine: surroundings, block, and the commands that wait, first in, first out. -/
structure State where
  env : Env := {}
  blk : Block := {}
  pending : List Instr := []
  deriving DecidableEq, Repr

/-- Why the model stops: never. The spec gives every command of the table an effect, no effect, or an answer, so the type
has no constructor and nothing raises it. Safe. -/
inductive Fault where
  deriving DecidableEq, Repr

/-- A command the model gives no meaning. -/
inductive Refusal where
  /-- Raised by an arm of Dispatch.lean for a command that is not modelled. Safe. -/
  | notModelled (mnemonic : String)
  deriving DecidableEq, Repr

/-- The edge roles of the built block (log 1): lane port `p` on XB of brick (0, p), bridge port `p` on XA of brick
(15, p). -/
def resetRoles : Store XRole :=
  (List.range 16).flatMap fun y =>
    [(2 * (y * 16) + 1, XRole.lane y), (2 * (y * 16 + 15), XRole.bridge y)]

/-- The machine right after cold reset: every register at its reset value, every memory empty, no command waiting. The
build is the accelerator profile on a 16 by 16 mesh with 16 lane ports and 16 bridge ports (log 1). -/
def State.reset : State := { env := { build := { roles := resetRoles } } }

end Sys2Proof.Machine
end

