-- ==== Sys2Proof/Machine/WiloriOp.lean ====
section
/-!
DEFINITION. The Wilori operations as data: the control operations common to reducer and transfer streams (R33), the
transfer operations (R202), the reducer operations (R254) and the course operations (R98).
-/

namespace Sys2Proof.Machine

/-- The control operations of R33. -/
inductive CtlOp where
  | wait (c s v : Nat)
  | signal (c n : Nat)
  | signalR (c e n : Nat)
  | loop (n t : Nat)
  | halt
  deriving DecidableEq, Repr

/-- The transfer operations that name a descriptor (R202). -/
inductive DescOp where
  | copy | mcast | contrib | gather | storeC | send | rload | rstore
  deriving DecidableEq, Repr

/-- A transfer instruction. -/
inductive XferInstr where
  | ctl (o : CtlOp)
  | desc (o : DescOp) (stride daddr : Nat)
  | fence
  deriving DecidableEq, Repr

/-- The reducer operations of R254, with their SFLAGS. -/
inductive RdcInstr where
  | ctl (o : CtlOp)
  | segin (adv xw endj : Bool) (m p endAt : Nat)
  | segout (down hold sh rec_ : Bool) (src fmt flow : Nat)
  | add (dst fo fi m : Nat)
  | max (dst fo fi m : Nat)
  | min (dst fo fi m : Nat)
  | scale (dst fo src s : Nat)
  | cvt (ieee xs : Bool) (dst fo src fi : Nat)
  | expmax (dst fi m : Nat)
  | align (dst src fi : Nat)
  | sort (desc : Bool) (b kt : Nat)
  | merge (desc : Bool) (kt m : Nat)
  | filter (inv : Bool) (b kt j : Nat)
  | topk (asc : Bool) (dst kt src n : Nat)
  | gather (dst f src ix r : Nat)
  | emit (src n j : Nat)
  deriving DecidableEq, Repr

/-- The course operations of R98. -/
inductive CourseInstr where
  | connect (inp slots flow rmask : Nat)
  | idle (slots : Nat)
  | shared (slots : Nat)
  | rep (n b : Nat)
  | mark (wrap : Bool)
  | sync (c n : Nat)
  deriving DecidableEq, Repr

end Sys2Proof.Machine
end

