-- ==== Sys2Proof/Machine/Wilori.lean ====
section
/-!
DEFINITION. Decoding and encoding of Wilori words (R31 to R35, R98, R202, R254). A word that breaks its encoding decodes
to none: it rejects the image with OPCODE at load and faults its stream at fetch (R32).
-/

namespace Sys2Proof.Machine

/-- Bit fields of the frame of R31 and of the operands, as numbers. -/
abbrev wf (w : Nat) (hi lo : Nat) : Nat := bits w hi lo

/-- The frame of R31 is right for the class: CLASS matches, bits 55, 53 and 52 are zero, and EVT is zero in the course
class. -/
def frameOk (cls : Nat) (w : Nat) : Bool :=
  wf w 63 62 == cls && wf w 55 55 == 0 && wf w 53 52 == 0 && (cls != 1 || wf w 54 54 == 0)

/-- EVT of a word (R31). -/
def wordEvt (w : Nat) : Bool := wf w 54 54 == 1

/-- Control operations (R33); `r` allows SIGNAL.R (R34). -/
def decodeCtl (r : Bool) (w : Nat) : Option CtlOp :=
  let sf := wf w 51 48
  match wf w 61 56 with
  | 1 => if sf = 0 then some (.wait (wf w 47 40) (wf w 39 32) (wf w 31 0)) else none
  | 2 =>
    if sf = 0 then
      if wf w 39 32 = 0 then some (.signal (wf w 47 40) (wf w 31 0)) else none
    else if sf = 1 ∧ r = true then some (.signalR (wf w 47 40) (wf w 39 24) (wf w 23 0)) else none
  | 3 => if sf = 0 ∧ wf w 31 12 = 0 then some (.loop (wf w 47 32) (wf w 11 0)) else none
  | 4 => if wf w 51 0 = 0 then some .halt else none
  | _ => none

/-- The descriptor operation of an OP value (R202). -/
def descOpOf : Nat → Option DescOp
  | 5 => some .copy
  | 6 => some .mcast
  | 7 => some .contrib
  | 8 => some .gather
  | 9 => some .storeC
  | 10 => some .send
  | 11 => some .rload
  | 12 => some .rstore
  | _ => none

/-- A transfer word (R202). -/
def decodeXfer (w : Nat) : Option XferInstr :=
  if frameOk 3 w then
    match decodeCtl true w with
    | some o => some (.ctl o)
    | none =>
      if wf w 61 56 = 13 then (if wf w 51 0 = 0 then some .fence else none)
      else match descOpOf (wf w 61 56) with
        | some o =>
          if wf w 51 48 = 0 ∧ wf w 43 42 = 0 then some (.desc o (wf w 47 44) (wf w 41 0)) else none
        | none => none
  else none

/-- A buffer code of R255 is not reserved. -/
def bufOk (c : Nat) : Bool := decide (c < 10)
/-- A format code of R260 is not reserved. -/
def fmtOk (c : Nat) : Bool := decide (c < 10)
/-- A key type of R257 is not reserved. -/
def ktypeOk (c : Nat) : Bool := decide (c < 3)

/-- A reducer word (R254). -/
def decodeRdc (w : Nat) : Option RdcInstr :=
  if frameOk 2 w then
    match decodeCtl false w with
    | some o => some (.ctl o)
    | none =>
      let sf := wf w 51 48
      match wf w 61 56 with
      | 5 =>
        if wf w 51 51 = 0 ∧ wf w 47 36 = 0 ∧ wf w 27 25 = 0 ∧ wf w 23 10 = 0 then
          some (.segin (w.testBit 48) (w.testBit 49) (w.testBit 50) (wf w 35 28) (wf w 24 24) (wf w 9 0))
        else none
      | 6 =>
        if wf w 39 32 = 0 ∧ wf w 19 0 = 0 ∧ bufOk (wf w 47 44) = true ∧ fmtOk (wf w 43 40) = true ∧
           (wf w 50 50 = 1 ↔ wf w 31 20 = 0) then
          some (.segout (w.testBit 48) (w.testBit 49) (w.testBit 50) (w.testBit 51) (wf w 47 44) (wf w 43 40)
            (wf w 31 20))
        else none
      | 7 =>
        if sf = 0 ∧ wf w 27 0 = 0 ∧ bufOk (wf w 47 44) = true ∧ fmtOk (wf w 43 40) = true ∧ fmtOk (wf w 39 36) = true then
          some (.add (wf w 47 44) (wf w 43 40) (wf w 39 36) (wf w 35 28)) else none
      | 8 =>
        if sf = 0 ∧ wf w 27 0 = 0 ∧ bufOk (wf w 47 44) = true ∧ fmtOk (wf w 43 40) = true ∧ fmtOk (wf w 39 36) = true then
          some (.max (wf w 47 44) (wf w 43 40) (wf w 39 36) (wf w 35 28)) else none
      | 9 =>
        if sf = 0 ∧ wf w 27 0 = 0 ∧ bufOk (wf w 47 44) = true ∧ fmtOk (wf w 43 40) = true ∧ fmtOk (wf w 39 36) = true then
          some (.min (wf w 47 44) (wf w 43 40) (wf w 39 36) (wf w 35 28)) else none
      | 10 =>
        if sf = 0 ∧ wf w 35 32 = 0 ∧ bufOk (wf w 47 44) = true ∧ fmtOk (wf w 43 40) = true ∧ bufOk (wf w 39 36) = true then
          some (.scale (wf w 47 44) (wf w 43 40) (wf w 39 36) (wf w 31 0)) else none
      | 11 =>
        if wf w 51 50 = 0 ∧ wf w 31 0 = 0 ∧ bufOk (wf w 47 44) = true ∧ fmtOk (wf w 43 40) = true ∧
           bufOk (wf w 39 36) = true ∧ fmtOk (wf w 35 32) = true then
          some (.cvt (w.testBit 48) (w.testBit 49) (wf w 47 44) (wf w 43 40) (wf w 39 36) (wf w 35 32)) else none
      | 12 =>
        if sf = 0 ∧ wf w 43 40 = 0 ∧ wf w 27 0 = 0 ∧ bufOk (wf w 47 44) = true ∧ fmtOk (wf w 39 36) = true then
          some (.expmax (wf w 47 44) (wf w 39 36) (wf w 35 28)) else none
      | 13 =>
        if sf = 0 ∧ wf w 43 40 = 0 ∧ wf w 31 0 = 0 ∧ bufOk (wf w 47 44) = true ∧ bufOk (wf w 39 36) = true ∧
           fmtOk (wf w 35 32) = true then
          some (.align (wf w 47 44) (wf w 39 36) (wf w 35 32)) else none
      | 14 =>
        if wf w 51 49 = 0 ∧ wf w 39 0 = 0 ∧ bufOk (wf w 47 44) = true ∧ ktypeOk (wf w 43 40) = true then
          some (.sort (w.testBit 48) (wf w 47 44) (wf w 43 40)) else none
      | 15 =>
        if wf w 51 49 = 0 ∧ wf w 47 44 = 0 ∧ wf w 39 36 = 0 ∧ wf w 27 0 = 0 ∧ ktypeOk (wf w 43 40) = true then
          some (.merge (w.testBit 48) (wf w 43 40) (wf w 35 28)) else none
      | 16 =>
        if wf w 51 49 = 0 ∧ wf w 39 8 = 0 ∧ bufOk (wf w 47 44) = true ∧ ktypeOk (wf w 43 40) = true then
          some (.filter (w.testBit 48) (wf w 47 44) (wf w 43 40) (wf w 7 0)) else none
      | 17 =>
        if wf w 51 49 = 0 ∧ wf w 35 32 = 0 ∧ wf w 15 0 = 0 ∧ bufOk (wf w 47 44) = true ∧ ktypeOk (wf w 43 40) = true ∧
           bufOk (wf w 39 36) = true ∧ wf w 31 16 ≠ 0 then
          some (.topk (w.testBit 48) (wf w 47 44) (wf w 43 40) (wf w 39 36) (wf w 31 16)) else none
      | 18 =>
        if sf = 0 ∧ wf w 15 0 = 0 ∧ bufOk (wf w 47 44) = true ∧ fmtOk (wf w 43 40) = true ∧ bufOk (wf w 39 36) = true ∧
           bufOk (wf w 35 32) = true ∧ wf w 31 16 ≠ 0 then
          some (.gather (wf w 47 44) (wf w 43 40) (wf w 39 36) (wf w 35 32) (wf w 31 16)) else none
      | 19 =>
        if sf = 0 ∧ wf w 43 16 = 0 ∧ bufOk (wf w 47 44) = true ∧ wf w 15 8 ≠ 0 then
          some (.emit (wf w 47 44) (wf w 15 8) (wf w 7 0)) else none
      | _ => none
  else none

/-- A course word (R98). -/
def decodeCourse (w : Nat) : Option CourseInstr :=
  if frameOk 1 w then
    let sf := wf w 51 48
    let slots := wf w 44 32
    match wf w 61 56 with
    | 1 =>
      if sf = 0 ∧ wf w 19 8 = 0 ∧ slots ≠ 0 ∧ slots ≤ 4800 ∧ wf w 31 20 ≠ 0 then
        some (.connect (wf w 47 45) slots (wf w 31 20) (wf w 7 0)) else none
    | 2 => if sf = 0 ∧ wf w 47 45 = 0 ∧ wf w 31 0 = 0 ∧ slots ≠ 0 ∧ slots ≤ 4800 then some (.idle slots) else none
    | 3 => if sf = 0 ∧ wf w 47 45 = 0 ∧ wf w 31 0 = 0 ∧ slots ≤ 4800 then some (.shared slots) else none
    | 4 =>
      if sf = 0 ∧ wf w 31 5 = 0 ∧ wf w 47 32 ≠ 0 ∧ wf w 47 32 ≤ 4799 ∧ wf w 4 0 ≠ 0 ∧ wf w 4 0 ≤ 16 then
        some (.rep (wf w 47 32) (wf w 4 0)) else none
    | 5 => if wf w 51 49 = 0 ∧ wf w 47 0 = 0 then some (.mark (w.testBit 48)) else none
    | 6 => if sf = 0 ∧ wf w 39 16 = 0 ∧ wf w 15 0 ≠ 0 then some (.sync (wf w 47 40) (wf w 15 0)) else none
    | _ => none
  else none

/-- A word of a class: CLASS, OP, EVT, SFLAGS and operands (R31). -/
def frame (cls op : Nat) (evt : Bool) (sf : Nat) (operands : Nat) : Nat :=
  cls * 2 ^ 62 + op * 2 ^ 56 + b2n evt * 2 ^ 54 + sf * 2 ^ 48 + operands

/-- The word of a control operation (R33). -/
def encodeCtl (cls : Nat) (evt : Bool) : CtlOp → Nat
  | .wait c s v => frame cls 1 evt 0 (c * 2 ^ 40 + s * 2 ^ 32 + v)
  | .signal c n => frame cls 2 evt 0 (c * 2 ^ 40 + n)
  | .signalR c e n => frame cls 2 evt 1 (c * 2 ^ 40 + e * 2 ^ 24 + n)
  | .loop n t => frame cls 3 evt 0 (n * 2 ^ 32 + t)
  | .halt => frame cls 4 evt 0 0

/-- OP of a descriptor operation (R202). -/
def opOfDesc : DescOp → Nat
  | .copy => 5
  | .mcast => 6
  | .contrib => 7
  | .gather => 8
  | .storeC => 9
  | .send => 10
  | .rload => 11
  | .rstore => 12

/-- The word of a transfer instruction (R202). -/
def encodeXfer (evt : Bool) : XferInstr → Nat
  | .ctl o => encodeCtl 3 evt o
  | .desc o st da => frame 3 (opOfDesc o) evt 0 (st * 2 ^ 44 + da)
  | .fence => frame 3 13 evt 0 0

/-- The word of a reducer instruction (R254). -/
def encodeRdc (evt : Bool) : RdcInstr → Nat
  | .ctl o => encodeCtl 2 evt o
  | .segin adv xw endj m p e =>
    frame 2 5 evt (b2n adv + 2 * b2n xw + 4 * b2n endj) (m * 2 ^ 28 + p * 2 ^ 24 + e)
  | .segout down hold sh rec_ src fmt flow =>
    frame 2 6 evt (b2n down + 2 * b2n hold + 4 * b2n sh + 8 * b2n rec_) (src * 2 ^ 44 + fmt * 2 ^ 40 + flow * 2 ^ 20)
  | .add d fo fi m => frame 2 7 evt 0 (d * 2 ^ 44 + fo * 2 ^ 40 + fi * 2 ^ 36 + m * 2 ^ 28)
  | .max d fo fi m => frame 2 8 evt 0 (d * 2 ^ 44 + fo * 2 ^ 40 + fi * 2 ^ 36 + m * 2 ^ 28)
  | .min d fo fi m => frame 2 9 evt 0 (d * 2 ^ 44 + fo * 2 ^ 40 + fi * 2 ^ 36 + m * 2 ^ 28)
  | .scale d fo src s => frame 2 10 evt 0 (d * 2 ^ 44 + fo * 2 ^ 40 + src * 2 ^ 36 + s)
  | .cvt ieee xs d fo src fi =>
    frame 2 11 evt (b2n ieee + 2 * b2n xs) (d * 2 ^ 44 + fo * 2 ^ 40 + src * 2 ^ 36 + fi * 2 ^ 32)
  | .expmax d fi m => frame 2 12 evt 0 (d * 2 ^ 44 + fi * 2 ^ 36 + m * 2 ^ 28)
  | .align d src fi => frame 2 13 evt 0 (d * 2 ^ 44 + src * 2 ^ 36 + fi * 2 ^ 32)
  | .sort de b kt => frame 2 14 evt (b2n de) (b * 2 ^ 44 + kt * 2 ^ 40)
  | .merge de kt m => frame 2 15 evt (b2n de) (kt * 2 ^ 40 + m * 2 ^ 28)
  | .filter inv b kt j => frame 2 16 evt (b2n inv) (b * 2 ^ 44 + kt * 2 ^ 40 + j)
  | .topk asc d kt src n => frame 2 17 evt (b2n asc) (d * 2 ^ 44 + kt * 2 ^ 40 + src * 2 ^ 36 + n * 2 ^ 16)
  | .gather d f src ix r =>
    frame 2 18 evt 0 (d * 2 ^ 44 + f * 2 ^ 40 + src * 2 ^ 36 + ix * 2 ^ 32 + r * 2 ^ 16)
  | .emit src n j => frame 2 19 evt 0 (src * 2 ^ 44 + n * 2 ^ 8 + j)

/-- The word of a course instruction (R98). -/
def encodeCourse : CourseInstr → Nat
  | .connect i s f m => frame 1 1 false 0 (i * 2 ^ 45 + s * 2 ^ 32 + f * 2 ^ 20 + m)
  | .idle s => frame 1 2 false 0 (s * 2 ^ 32)
  | .shared s => frame 1 3 false 0 (s * 2 ^ 32)
  | .rep n b => frame 1 4 false 0 (n * 2 ^ 32 + b)
  | .mark wr => frame 1 5 false (b2n wr) 0
  | .sync c n => frame 1 6 false 0 (c * 2 ^ 40 + n)

/-- The default course of R97: a closing window, then MARK with WRAP. -/
def defaultCourse : List Word :=
  [BitVec.ofNat 64 (encodeCourse (.shared 0)), BitVec.ofNat 64 (encodeCourse (.mark true))]

end Sys2Proof.Machine
end

