-- ==== Sys2Proof/Machine/CourseMap.lean ====
section
/-!
DEFINITION. What a course program executes (R98 to R105): its parts, the trace of a part with REPEAT expanded, and the
windows of a part with the slot at which each opens.
-/

namespace Sys2Proof.Machine

/-- The parts of a program: the instructions up to each MARK, the MARK included (R103). -/
def coursePartsFrom : List CourseInstr → List CourseInstr → List (List CourseInstr)
  | [], [] => []
  | acc, [] => [acc]
  | acc, .mark w :: r => (acc ++ [.mark w]) :: coursePartsFrom [] r
  | acc, x :: r => coursePartsFrom (acc ++ [x]) r

/-- The parts of a program. -/
def courseParts (l : List CourseInstr) : List (List CourseInstr) := coursePartsFrom [] l

/-- The instructions that a part executes, in order, each with its place: REPEAT n, b comes once after each run of the b
instructions before it (R102). -/
def traceAt (part : List (Nat × CourseInstr)) : List (Nat × CourseInstr) :=
  (List.range part.length).flatMap fun i =>
    match part[i]? with
    | some (a, CourseInstr.rep n b) =>
      (List.replicate n ((a, CourseInstr.rep n b) :: (part.drop (i - b)).take b)).flatten ++ [(a, CourseInstr.rep n b)]
    | some x => [x]
    | none => []

/-- The instructions that a part executes, in order. -/
def partTrace (part : List CourseInstr) : List CourseInstr :=
  (traceAt ((List.range part.length).zip part)).map Prod.snd

/-- The slots of a timed instruction; none for one that takes no slot. -/
def courseSlots : CourseInstr → Option Nat
  | .connect _ n _ _ => some n
  | .idle n => some n
  | .shared n => some n
  | .rep _ _ => none
  | .mark _ => none
  | .sync _ _ => none

/-- The windows of a trace from slot `at_`: (first slot, slots, instruction). -/
def windowsFrom (at_ : Nat) : List CourseInstr → List (Nat × Nat × CourseInstr)
  | [] => []
  | x :: r => match courseSlots x with
    | some n => (at_, n, x) :: windowsFrom (at_ + n) r
    | none => windowsFrom at_ r

/-- The windows of a part (R107). -/
def partWindows (part : List CourseInstr) : List (Nat × Nat × CourseInstr) := windowsFrom 0 (partTrace part)

/-- Slots of the timed instructions of a trace. -/
def traceSlots (l : List (Nat × CourseInstr)) : Nat := (l.map fun x => (courseSlots x.2).getD 0).sum

/-- A window (R98 to R101): its kind, IN, FLOW and RMASK of a CONNECT, its first slot, its slots (0: the closing window),
and the address of its instruction. -/
structure CourseWindow where
  kind : WinKind := .closing
  inp : Nat := 0
  flow : Nat := 0
  rmask : Nat := 0
  first : Nat := 0
  slots : Nat := 0
  addr : Nat := 0
  deriving DecidableEq, Repr

/-- The window that an instruction opens at slot `first`; none for one that takes no slot. -/
def windowOf (first addr : Nat) : CourseInstr → Option CourseWindow
  | .connect i n f m => some { kind := .connect, inp := i, flow := f, rmask := m, first := first, slots := n, addr := addr }
  | .idle n => some { kind := .idle, first := first, slots := n, addr := addr }
  | .shared n => some { kind := if n = 0 then .closing else .shared, first := first, slots := n, addr := addr }
  | .rep _ _ => none
  | .mark _ => none
  | .sync _ _ => none

/-- The last window of a trace that has opened at slot `pos`, the trace beginning at slot `first` (R107). -/
def windowIn (pos first : Nat) : List (Nat × CourseInstr) → Option CourseWindow
  | [] => none
  | (a, x) :: r => match windowOf first a x with
    | none => windowIn pos first r
    | some w =>
      if pos < first then none
      else match windowIn pos (first + w.slots) r with
        | some v => some v
        | none => some w

/-- What of a trace is still to be executed when the course ends (R104, R115): the adds of SYNC that apply, those owed to
the first window of the next course, and whether a window had not opened. `opened` tells of a slot whether a window that
begins there has opened. -/
def finishTrace (opened : Nat → Bool) : Nat → List (Nat × Nat) → List (Nat × Nat) → List (Nat × CourseInstr) →
    List (Nat × Nat) × List (Nat × Nat) × Bool
  | _, adds, owed, [] => (adds, owed, false)
  | pos, adds, owed, (_, .sync c n) :: r => finishTrace opened pos adds (owed ++ [(c, n)]) r
  | pos, adds, owed, (_, x) :: r => match courseSlots x with
    | none => finishTrace opened pos adds owed r
    | some n => if opened pos then finishTrace opened (pos + n) (adds ++ owed) [] r else (adds, [], true)

/-- The instruction is a CONNECT. -/
def isConnect : CourseInstr → Bool
  | .connect _ _ _ _ => true
  | _ => false

end Sys2Proof.Machine
end

