-- ==== Sys2Proof/Machine/Arith.lean ====
section
/-!
DEFINITION. The reducer's arithmetic on one element (R274 to R299): the float and integer formats, exact values, the
roundings of ADD, SCALE and CVT, MAX and MIN, still mode, and the flags each raises.
-/

namespace Sys2Proof.Machine

/-! ### Flags (R299): bit 0 INVALID, 1 OVERFLOW, 2 UNDERFLOW, 3 INEXACT, 4 SATURATED -/

def flInvalid : Nat := 1
def flOverflow : Nat := 2
def flUnderflow : Nat := 4
def flInexact : Nat := 8
def flSaturated : Nat := 16

/-! ### Formats (R260, R274) -/

/-- A float format: exponent and fraction bits, bias, largest biased exponent and largest significand of a finite value,
whether it has infinities, and its canonical NaN. -/
structure FloatFmt where
  ebits : Nat
  fbits : Nat
  bias : Nat
  maxE : Nat
  maxN : Nat
  hasInf : Bool
  nan : Nat
  deriving DecidableEq, Repr

/-- The float format of a format code (R274). -/
def floatFmt : Nat → Option FloatFmt
  | 0 => some ⟨8, 23, 127, 254, 2 ^ 24 - 1, true, 0x7FC00000⟩
  | 1 => some ⟨5, 10, 15, 30, 2 ^ 11 - 1, true, 0x7E00⟩
  | 2 => some ⟨8, 7, 127, 254, 2 ^ 8 - 1, true, 0x7FC0⟩
  | 3 => some ⟨4, 3, 7, 15, 14, false, 0x7F⟩
  | 4 => some ⟨5, 2, 15, 30, 2 ^ 3 - 1, true, 0x7E⟩
  | _ => none

/-- binary32. -/
def f32 : FloatFmt := ⟨8, 23, 127, 254, 2 ^ 24 - 1, true, 0x7FC00000⟩

/-- Bits of an integer format (R275): INT8, INT16, INT32, A64. -/
def intBits : Nat → Option Nat
  | 5 => some 8
  | 6 => some 16
  | 7 => some 32
  | 8 => some 64
  | _ => none

/-- Bytes of an element of a format (R260). -/
def fmtSize : Nat → Nat
  | 0 => 4
  | 1 => 2
  | 2 => 2
  | 3 => 1
  | 4 => 1
  | 5 => 1
  | 6 => 2
  | 7 => 4
  | 8 => 8
  | _ => 1

/-! ### Values -/

/-- A float value: NaN (signalling or not), infinity, or (-1)^neg * m * 2^e. -/
inductive FVal where
  | nan (signalling : Bool)
  | inf (neg : Bool)
  | fin (neg : Bool) (m : Nat) (e : Int)
  deriving DecidableEq, Repr

/-- The value of a code (R274, R277). -/
def decodeFloat (f : FloatFmt) (c : Nat) : FVal :=
  let neg := c.testBit (f.ebits + f.fbits)
  let ex := bits c (f.ebits + f.fbits - 1) f.fbits
  let fr := c % 2 ^ f.fbits
  if ex = 2 ^ f.ebits - 1 ∧ f.hasInf then
    if fr = 0 then .inf neg else .nan (!fr.testBit (f.fbits - 1))
  else if !f.hasInf ∧ ex = 2 ^ f.ebits - 1 ∧ fr = 2 ^ f.fbits - 1 then .nan false
  else if ex = 0 then .fin neg fr (1 - (f.bias : Int) - f.fbits)
  else .fin neg (fr + 2 ^ f.fbits) ((ex : Int) - f.bias - f.fbits)

/-- The sign bit of a format. -/
def signBit (f : FloatFmt) (neg : Bool) : Nat := if neg then 2 ^ (f.ebits + f.fbits) else 0

/-- The code of an infinity. -/
def infCode (f : FloatFmt) (neg : Bool) : Nat := signBit f neg + (2 ^ f.ebits - 1) * 2 ^ f.fbits

/-- The code of n * 2^q, n below 2^(fbits+1) or equal to it, q at least the least quantum. -/
def finCode (f : FloatFmt) (neg : Bool) (n : Nat) (q : Int) : Nat :=
  if n < 2 ^ f.fbits then signBit f neg + n
  else signBit f neg + (q + f.fbits + f.bias).toNat * 2 ^ f.fbits + (n - 2 ^ f.fbits)

/-- The code of the largest finite value. -/
def maxCode (f : FloatFmt) (neg : Bool) : Nat := signBit f neg + f.maxE * 2 ^ f.fbits + (f.maxN - 2 ^ f.fbits)

/-- m * 2^e in units of 2^q: (quotient, remainder is zero, twice the remainder against the unit). -/
def quantize (m : Nat) (e q : Int) : Nat × Bool × Ordering :=
  if q ≤ e then (m * 2 ^ (e - q).toNat, true, .lt)
  else
    let s := (q - e).toNat
    let r := m % 2 ^ s
    (m / 2 ^ s, r == 0, compare (2 * r) (2 ^ s))

/-- Nearest, ties to even, or truncation toward zero. -/
def roundUnits (nearest : Bool) (x : Nat × Bool × Ordering) : Nat :=
  if !nearest then x.1
  else match x.2.2 with
    | .lt => x.1
    | .gt => x.1 + 1
    | .eq => x.1 + x.1 % 2

/-- What a rounding to a float format finds: n * 2^q, exact or not, tiny (R278), beyond the largest finite (R294). -/
structure Rounded where
  n : Nat
  q : Int
  exact : Bool
  tiny : Bool
  beyond : Bool
  deriving DecidableEq, Repr

/-- Round m * 2^e (m not zero) to a format. -/
def roundTo (f : FloatFmt) (nearest : Bool) (m : Nat) (e : Int) : Rounded :=
  let lg : Int := (Nat.log2 m : Int) + e
  let free : Int := lg - f.fbits
  let least : Int := 1 - (f.bias : Int) - f.fbits
  let q := max free least
  let x := quantize m e q
  let n := roundUnits nearest x
  let un := roundUnits nearest (quantize m e free)
  let tiny := decide (free < least) && !(decide (free + 1 = least) && decide (un = 2 ^ (f.fbits + 1)))
  let (n', q') := if n = 2 ^ (f.fbits + 1) then (2 ^ f.fbits, q + 1) else (n, q)
  let maxQ : Int := (f.maxE : Int) - f.bias - f.fbits
  { n := n', q := q', exact := x.2.1, tiny := tiny,
    beyond := decide (maxQ < q') || (decide (q' = maxQ) && decide (f.maxN < n')) }

/-- Flags of a rounding that stays in range (R280, R292, R294). -/
def rangeFlags (r : Rounded) : Nat :=
  if r.exact then 0 else if r.tiny then flUnderflow + flInexact else flInexact

/-! ### ADD (R279, R280) -/

/-- A float operand's value, and INVALID when it is signalling. -/
def sigFlag : FVal → Nat
  | .nan true => flInvalid
  | _ => 0

/-- The signed integer (-1)^neg * m. -/
def signed (neg : Bool) (m : Nat) : Int := if neg then -(m : Int) else (m : Int)

/-- Exact sum of two finite values as (neg, m, e); a zero from opposite signs is +0. -/
def exactSum (n1 : Bool) (m1 : Nat) (e1 : Int) (n2 : Bool) (m2 : Nat) (e2 : Int) : Bool × Nat × Int :=
  let e := min e1 e2
  let z := signed n1 (m1 * 2 ^ (e1 - e).toNat) + signed n2 (m2 * 2 ^ (e2 - e).toNat)
  if z = 0 then (n1 && n2, 0, e) else (decide (z < 0), z.natAbs, e)

/-- One addition in binary32 (R280): the rounded value and its flags. -/
def addF32 (x y : FVal) : FVal × Nat :=
  let s := sigFlag x ||| sigFlag y
  match x, y with
  | .nan _, _ => (.nan false, s)
  | _, .nan _ => (.nan false, s)
  | .inf a, .inf b => if a = b then (.inf a, s) else (.nan false, s ||| flInvalid)
  | .inf a, _ => (.inf a, s)
  | _, .inf b => (.inf b, s)
  | .fin n1 m1 e1, .fin n2 m2 e2 =>
    let (neg, m, e) := exactSum n1 m1 e1 n2 m2 e2
    if m = 0 then (.fin neg 0 (-149), s)
    else
      let r := roundTo f32 true m e
      if r.beyond then (.inf neg, s ||| flOverflow ||| flInexact) else (.fin neg r.n r.q, s ||| rangeFlags r)

/-! ### Conversion (R293 to R295) -/

/-- A value rounded into a float format by R294. -/
def toFloat (f : FloatFmt) (ieee : Bool) : FVal → Nat × Nat
  | .nan s => (f.nan, if s then flInvalid else 0)
  | .inf neg => if f.hasInf then (infCode f neg, 0) else (f.nan, flInvalid)
  | .fin neg m e =>
    if m = 0 then (signBit f neg, 0)
    else
      let r := roundTo f true m e
      if !r.beyond then (finCode f neg r.n r.q, rangeFlags r)
      else if !ieee then (maxCode f neg, flOverflow ||| flSaturated ||| flInexact)
      else (if f.hasInf then infCode f neg else f.nan, flOverflow ||| flInexact)

/-- The code of a value already in the format's range (binary32 running values, MAX and MIN). -/
def exactCode (f : FloatFmt) (v : FVal) : Nat := (toFloat f true v).1

/-- Two's complement value of the low `w` bits. -/
def toSigned (w c : Nat) : Int := if c % 2 ^ w < 2 ^ (w - 1) then (c % 2 ^ w : Nat) else (c % 2 ^ w : Nat) - (2 : Int) ^ w

/-- The code of a signed value in `w` bits. -/
def ofSigned (w : Nat) (z : Int) : Nat := (z % (2 : Int) ^ w).toNat

/-- A signed value clipped to `w` bits, and whether it was. -/
def clip (w : Nat) (z : Int) : Int × Bool :=
  if z < -(2 : Int) ^ (w - 1) then (-(2 : Int) ^ (w - 1), true)
  else if (2 : Int) ^ (w - 1) - 1 < z then ((2 : Int) ^ (w - 1) - 1, true) else (z, false)

/-- A value rounded into an integer format by R295. -/
def toInt (w : Nat) : FVal → Nat × Nat
  | .nan _ => (0, flInvalid)
  | .inf neg => (ofSigned w (if neg then -(2 : Int) ^ (w - 1) else (2 : Int) ^ (w - 1) - 1), flInvalid ||| flSaturated)
  | .fin neg m e =>
    let x := quantize m e 0
    let z := signed neg (roundUnits true x)
    let (v, cl) := clip w z
    (ofSigned w v, (if cl then flOverflow ||| flSaturated else 0) ||| (if x.2.1 then 0 else flInexact))

/-- A code of a float or integer format as a value (R276). -/
def valueOf (fmt c : Nat) : FVal :=
  match floatFmt fmt with
  | some f => decodeFloat f c
  | none =>
    let z := toSigned ((intBits fmt).getD 8) c
    .fin (decide (z < 0)) z.natAbs 0

/-- A value written in a float or integer format (R294, R295). -/
def storeValue (fmt : Nat) (ieee : Bool) (v : FVal) : Nat × Nat :=
  match floatFmt fmt with
  | some f => toFloat f ieee v
  | none => toInt ((intBits fmt).getD 8) v

/-- CVT of one element without XS (R293 to R295). -/
def cvtElem (fi fo : Nat) (ieee : Bool) (c : Nat) : Nat × Nat := storeValue fo ieee (valueOf fi c)

/-! ### The combining operations (R256, R279 to R282, R287) -/

/-- Float ADD over operand values, left to right; the last value converted to FMTO (R279). -/
def addFloats (fo : Nat) : List FVal → Nat × Nat
  | [] => (0, 0)
  | v :: r =>
    let (x, fl) := r.foldl (fun (acc : FVal × Nat) y =>
      let (z, g) := addF32 acc.1 y
      (z, acc.2 ||| g)) (v, sigFlag v)
    if fo = 0 then (exactCode f32 x, fl)
    else
      let (c, g) := storeValue fo false x
      (c, fl ||| g)

/-- Saturating ADD of integers in `w` bits, left to right (R282, R287). -/
def addInts (w : Nat) : List Int → Int × Nat
  | [] => (0, 0)
  | v :: r => r.foldl (fun (acc : Int × Nat) y =>
      let (z, cl) := clip w (acc.1 + y)
      (z, acc.2 ||| (if cl then flOverflow ||| flSaturated else 0))) (v, 0)

/-- ADD of one element over (format, code) operands (R279, R282, R287). -/
def addElem (fo : Nat) (xs : List (Nat × Nat)) : Nat × Nat :=
  match floatFmt fo with
  | some _ => addFloats fo (xs.map fun x => valueOf x.1 x.2)
  | none =>
    let w := (intBits fo).getD 32
    let (z, fl) := addInts (max 32 w) (xs.map fun x => toSigned ((intBits x.1).getD 8) x.2)
    let (v, cl) := clip w z
    (ofSigned w v, fl ||| (if cl then flOverflow ||| flSaturated else 0))

/-- a < b among finite values and infinities, with -0 below +0 (R281). -/
def fvLt : FVal → FVal → Bool
  | .inf true, .inf true => false
  | .inf true, _ => true
  | _, .inf true => false
  | .inf false, _ => false
  | _, .inf false => true
  | .fin n1 m1 e1, .fin n2 m2 e2 =>
    let e := min e1 e2
    let a := signed n1 (m1 * 2 ^ (e1 - e).toNat)
    let b := signed n2 (m2 * 2 ^ (e2 - e).toNat)
    decide (a < b) || (decide (a = b) && decide (m1 = 0) && n1 && !n2)
  | _, _ => false

/-- maximumNumber or minimumNumber of two values (R281). -/
def pickFloat (mx : Bool) (x y : FVal) : FVal :=
  match x, y with
  | .nan _, .nan _ => .nan false
  | .nan _, v => v
  | v, .nan _ => v
  | a, b => if mx then (if fvLt a b then b else a) else (if fvLt b a then b else a)

/-- MAX (`mx`) or MIN of one element (R281, R282). -/
def pickElem (mx : Bool) (fo : Nat) (xs : List (Nat × Nat)) : Nat × Nat :=
  match floatFmt fo with
  | some f =>
    match xs.map fun x => valueOf x.1 x.2 with
    | [] => (0, 0)
    | v :: r => (exactCode f (r.foldl (pickFloat mx) v), (v :: r).foldl (fun g y => g ||| sigFlag y) 0)
  | none =>
    match xs.map fun x => toSigned ((intBits x.1).getD 8) x.2 with
    | [] => (0, 0)
    | v :: r => (ofSigned ((intBits fo).getD 32) (r.foldl (if mx then max else min) v), 0)

/-! ### SCALE (R292) -/

/-- SCALE of one binary32 element by a binary32 scalar: the product truncated toward zero. -/
def scaleElem (s c : Nat) : Nat × Nat :=
  let x := decodeFloat f32 c
  let y := decodeFloat f32 s
  let g := sigFlag x ||| sigFlag y
  match x, y with
  | .nan _, _ => (f32.nan, g)
  | _, .nan _ => (f32.nan, g)
  | .inf a, .inf b => (infCode f32 (a != b), g)
  | .inf a, .fin b m _ => if m = 0 then (f32.nan, g ||| flInvalid) else (infCode f32 (a != b), g)
  | .fin a m _, .inf b => if m = 0 then (f32.nan, g ||| flInvalid) else (infCode f32 (a != b), g)
  | .fin a m1 e1, .fin b m2 e2 =>
    let neg := a != b
    if m1 * m2 = 0 then (signBit f32 neg, g)
    else
      let r := roundTo f32 false (m1 * m2) (e1 + e2)
      if r.beyond then (maxCode f32 neg, g ||| flOverflow ||| flSaturated ||| flInexact)
      else (finCode f32 neg r.n r.q, g ||| rangeFlags r)

/-! ### Still mode (R284 to R289) -/

/-- The EXP8 code of a float value (R284). -/
def expCode : FVal → Nat
  | .nan _ => 0xFF
  | .inf _ => 0xFE
  | .fin _ m e =>
    if m = 0 then 0
    else
      let lg : Int := (Nat.log2 m : Int) + e
      if lg ≤ -126 then 0 else (lg + 126).toNat

/-- The exponent E of an EXP8 code (R284). -/
def expOf (c : Nat) : Int := (c : Int) - 126

/-- ⌊(-1)^neg * m * 2^e⌋ and whether nothing was floored away. -/
def floorValue (neg : Bool) (m : Nat) (e : Int) : Int × Bool :=
  if 0 ≤ e then (signed neg (m * 2 ^ e.toNat), true)
  else
    let s := (-e).toNat
    (if neg then -((m + 2 ^ s - 1) / 2 ^ s : Nat) else ((m / 2 ^ s : Nat) : Int), m % 2 ^ s == 0)

/-- ALIGN of one element under code `c` with G (R286). -/
def alignElem (g c : Nat) (x : FVal) : Nat × Nat :=
  let top : Int := (2 : Int) ^ 63 - 1
  if c = 0xFF then (0, 0)
  else if c = 0xFE then
    match x with
    | .inf false => (1, 0)
    | .inf true => (2 ^ 32, 0)
    | _ => (0, 0)
  else match x with
    | .nan _ => (0, flInvalid)
    | .inf neg => (ofSigned 64 (if neg then -top else top), flOverflow ||| flSaturated)
    | .fin neg m e =>
      if m ≠ 0 ∧ expOf c + 1 ≤ (Nat.log2 m : Int) + e then
        (ofSigned 64 (if neg then -top else top), flOverflow ||| flSaturated)
      else
        let (z, ex) := floorValue neg m (e + 62 - expOf c - g)
        (ofSigned 64 z, if ex then 0 else flInexact)

/-- CVT with XS of one A64 sum under code `c` with G (R289). -/
def cvtStill (g fo : Nat) (ieee : Bool) (c sum : Nat) : Nat × Nat :=
  let isInt := (floatFmt fo).isNone
  if c = 0xFF then (let r := storeValue fo ieee (.nan false); if isInt then r else (r.1, 0))
  else if c = 0xFE then
    let p := bits sum 31 0
    let n := bits sum 63 32
    if (p ≠ 0 ∧ n ≠ 0) ∨ (p = 0 ∧ n = 0) then
      (let r := storeValue fo ieee (.nan false); if isInt then r else (r.1, flInvalid))
    else storeValue fo ieee (.inf (n != 0))
  else
    let z := toSigned 64 sum
    if z = 0 then storeValue fo ieee (.fin false 0 0)
    else storeValue fo ieee (.fin (decide (z < 0)) z.natAbs (expOf c + g - 62))

/-! ### Residue (R297) -/

/-- Residue modulo 3 of a value, as the lanes check it. -/
def residue3 (n : Nat) : Nat := n % 3

/-- The check of a lane fails (R297): the residue predicted from the operands is not that of the result, or the two exponent
copies differ. A carry out of a 64-bit adder adds 1 to the residue of the wrapped sum, since 2^64 is 1 modulo 3. -/
def laneMismatch : LaneWork → Bool
  | .adder a b r c => residue3 (residue3 a + residue3 b) != residue3 (residue3 r + b2n c)
  | .exponent x y => x != y
  | .product a b p => residue3 (residue3 a * residue3 b) != residue3 p

end Sys2Proof.Machine
end

