-- ==== Sys2Proof/Config.lean ====
section
/-!
DEFINITION. The free values: constants without a body, applied to the counter `Block.free` that every draw advances, so
that nothing can be proved of a value the spec leaves open.
-/

namespace Sys2Proof.Config

/-- The byte of the n-th free draw: data that the spec says is open (log 8). -/
opaque freeByte : Nat → Byte

/-- The word of the n-th free draw (log 8). -/
opaque freeWord : Nat → Word

/-- The SECDED check byte of a 128-bit slice (R72): the spec does not give the code (log 84). -/
opaque eccByte : List Byte → Byte

end Sys2Proof.Config
end

