-- ==== Sys2Proof/Machine/Compress.lean ====
section
/-!
DEFINITION. The compressed operand of the sparse path: blocks, headers, occupancy and values (R327 to R330), the
treatment of a block and pruning (R332, R333), and the value index of an activation (R340).
-/

namespace Sys2Proof.Machine

/-- Elements of a sparse block. -/
def blockElems : Nat := 64

/-- The codes of the elements of `l` in a format of `sz` bytes. -/
def elemCodes (sz : Nat) (l : List Byte) : List Nat :=
  (List.range (l.length / max 1 sz)).map fun i => natAt l (i * sz) sz

/-- A code is zero (R330): ±0, or the integer 0. -/
def codeZero (fmt c : Nat) : Bool :=
  match valueOf fmt c with
  | .fin _ m _ => m == 0
  | _ => false

/-- The rank of a code's magnitude in its format (R333): codes of a float format order by magnitude as their bits
without the sign do; every NaN ranks alike above all others. -/
def magnitudeRank (fmt c : Nat) : Nat :=
  match valueOf fmt c with
  | .nan _ => 2 ^ 40
  | _ =>
    match floatFmt fmt with
    | some f => c % 2 ^ (f.ebits + f.fbits)
    | none => (toSigned ((intBits fmt).getD 8) c).natAbs

/-- The treatment of a block (R332): stored dense, the positions stored, the positions non-zero as stored, and the
elements dropped. -/
structure BlockForm where
  dense : Bool
  kept : List Nat
  occ : List Nat
  dropped : Nat
  deriving DecidableEq, Repr

/-- The first `n` of the positions in `l` by falling magnitude, the lower position first among equals (R333). -/
def strongest (rank : Nat → Nat) : Nat → List Nat → List Nat
  | 0, _ => []
  | n + 1, l =>
    match l with
    | [] => []
    | x :: r =>
      let best := r.foldl (fun m i => if rank m < rank i then i else m) x
      best :: strongest rank n (l.filter fun i => i != best)

/-- The two positions that a 2:4 group stores, among its four positions `g` with non-zeros `nz` (at most two). -/
def groupPair (g nz : List Nat) : List Nat :=
  let extra := (g.filter fun i => !nz.contains i).take (2 - nz.length)
  g.filter fun i => nz.contains i || extra.contains i

/-- The treatment of a block of codes (R332, R333): `bitmap` FORM, `prune` PRUNE. -/
def treatBlock (bitmap prune : Bool) (fmt nzmax : Nat) (codes : List Nat) : BlockForm :=
  let pos := List.range blockElems
  let nz := pos.filter fun i => !codeZero fmt (codes.getD i 0)
  let groups := (List.range 16).map fun g => [4 * g, 4 * g + 1, 4 * g + 2, 4 * g + 3]
  let inGroup (g : List Nat) (l : List Nat) : List Nat := g.filter fun i => l.contains i
  let meets := if bitmap then decide (nz.length ≤ nzmax) else groups.all fun g => decide ((inGroup g nz).length ≤ 2)
  if !meets && !prune then { dense := true, kept := pos, occ := nz, dropped := 0 }
  else
    let rank (i : Nat) := magnitudeRank fmt (codes.getD i 0)
    let keep :=
      if meets then nz
      else if bitmap then (let s := strongest rank nzmax nz; nz.filter fun i => s.contains i)
      else groups.flatMap fun g =>
        let z := inGroup g nz
        let s := strongest rank 2 z
        z.filter fun i => s.contains i
    { dense := false
      kept := if bitmap then keep else groups.flatMap fun g => groupPair g (inGroup g keep)
      occ := keep
      dropped := nz.length - keep.length }

/-- The code of a group that stores two positions (R328). -/
def pairCode : List Nat → Nat
  | [a, b] =>
    match a % 4, b % 4 with
    | 0, 1 => 0
    | 0, 2 => 1
    | 0, 3 => 2
    | 1, 2 => 3
    | 1, 3 => 4
    | _, _ => 5
  | _ => 0

/-- The positions of a group code (R328); a reserved code names none. -/
def codePair : Nat → Option (Nat × Nat)
  | 0 => some (0, 1)
  | 1 => some (0, 2)
  | 2 => some (0, 3)
  | 3 => some (1, 2)
  | 4 => some (1, 3)
  | 5 => some (2, 3)
  | _ => none

/-- The header of a block (R328). -/
def blockHeader (bitmap : Bool) (f : BlockForm) : Nat :=
  let pairs :=
    if f.dense || bitmap then 0
    else packFields ((List.range 16).map fun g => (3 * g, pairCode (f.kept.filter fun i => i / 4 == g)))
  packFields [(0, pairs), (55, f.kept.length), (62, b2n bitmap), (63, b2n f.dense)]

/-- The occupancy word of a block (R330). -/
def occWord (f : BlockForm) : Nat := (f.occ.map fun i => 2 ^ i).sum

/-- The blocks of a dense operand with their treatment. -/
def treatOperand (bitmap prune : Bool) (fmt nzmax : Nat) (src : List Byte) : List (BlockForm × List Byte) :=
  let sz := fmtSize fmt
  let n := blockElems * sz
  (List.range (src.length / max 1 n)).map fun i =>
    let l := (src.drop (i * n)).take n
    (treatBlock bitmap prune fmt nzmax (elemCodes sz l), l)

/-- The compressed bytes of an operand (R327): header array, occupancy array, value area. -/
def operandBytes (bitmap : Bool) (fmt : Nat) (bs : List (BlockForm × List Byte)) : List Byte :=
  let sz := fmtSize fmt
  (bs.flatMap fun x => leBytes 8 (blockHeader bitmap x.1)) ++ (bs.flatMap fun x => leBytes 8 (occWord x.1)) ++
  (bs.flatMap fun x => x.1.kept.flatMap fun i => bytesAt x.2 (i * sz) sz)

/-- FORM, PRUNE, FMT and NZMAX of a STORE.C descriptor (R331). -/
def compressOf (c : List Byte) : Bool × Bool × Nat × Nat :=
  let m := natAt c 0 1
  (m.testBit 0, m.testBit 1, natAt c 1 1, natAt c 2 1)

/-- The blocks of the dense source of a STORE.C whose extension bytes are `opx`. -/
def storeBlocks (opx src : List Byte) : List (BlockForm × List Byte) :=
  let (bm, pr, f, nz) := compressOf opx
  treatOperand bm pr f nz src

/-- The compressed form of the dense source of a STORE.C. -/
def storeBytes (opx src : List Byte) : List Byte :=
  let (bm, _, f, _) := compressOf opx
  operandBytes bm f (storeBlocks opx src)

/-! ### Reading a compressed operand (R340) -/

/-- NNZ of a header. -/
def headerNnz (h : Nat) : Nat := bits h 61 55

/-- The value index of position `p` in a block with header `h` and occupancy `o`, if it is stored (R340). -/
def valueIndex (h o p : Nat) : Option Nat :=
  if h.testBit 63 then some p
  else if h.testBit 62 then
    if o.testBit p then some (popCount p (o % 2 ^ p)) else none
  else
    let g := p / 4
    match codePair (bits h (3 * g + 2) (3 * g)) with
    | some (a, c) => if p % 4 = a then some (2 * g) else if p % 4 = c then some (2 * g + 1) else none
    | none => none

end Sys2Proof.Machine
end

