-- ==== Sys2Proof/Machine/Crc.lean ====
section
/-!
DEFINITION. The two check codes of packets and images: CRC-32C (R55, R84) and the header CRC-16 (R77).
-/

namespace Sys2Proof.Machine

/-- One bit of the reflected CRC-32C (polynomial 0x1EDC6F41, reflected 0x82F63B78). -/
def crc32cBit (c : Nat) : Nat := if c % 2 = 1 then (c / 2) ^^^ 0x82F63B78 else c / 2

/-- One byte of CRC-32C. -/
def crc32cByte (c : Nat) (b : Byte) : Nat :=
  Nat.repeat crc32cBit 8 (c ^^^ b.toNat)

/-- CRC-32C: initial value 0xFFFF_FFFF, final inversion (R55). -/
def crc32c (l : List Byte) : Nat := (l.foldl crc32cByte 0xFFFFFFFF) ^^^ 0xFFFFFFFF

/-- The payload check: a packet without payload carries 0 (R84). -/
def payloadCrc (l : List Byte) : Nat := if l.isEmpty then 0 else crc32c l

/-- One bit of the CRC-16 of R77: polynomial 0x8BB7, most significant bit first. -/
def crc16Bit (c : Nat) : Nat :=
  if c / 2 ^ 15 % 2 = 1 then (c * 2 % 2 ^ 16) ^^^ 0x8BB7 else c * 2 % 2 ^ 16

/-- One byte of the CRC-16, from bit 7 to bit 0. -/
def crc16Byte (c : Nat) (b : Byte) : Nat := Nat.repeat crc16Bit 8 (c ^^^ (b.toNat * 256))

/-- The header CRC of R77: initial value 0, no reflection, no final inversion. -/
def crc16 (l : List Byte) : Nat := l.foldl crc16Byte 0

end Sys2Proof.Machine
end

