-- ==== Sys2Proof/Machine/Geometry.lean ====
section
/-!
DEFINITION. The mesh, the router ports and their roles (R11 to R19), and coordinates (R85).
-/

namespace Sys2Proof.Machine

/-- Column of a brick index (R18, R578). -/
def brickX (b : Nat) : Nat := b % 16
/-- Row of a brick index. -/
def brickY (b : Nat) : Nat := b / 16

/-- The brick index names a brick of the built mesh (R579). -/
def brickOk (d : Build) (b : Nat) : Bool :=
  decide (b < 256) && decide (brickX b < d.meshX) && decide (brickY b < d.meshY)

/-- The bricks of the die, in ascending index. -/
def bricks (d : Build) : List Nat := (List.range 256).filter (brickOk d)

/-- Place of a brick on mortar (R22): counted from 0 at the root brick in ring order, east along row 0, west along row 1
and so on. -/
def ringPos (d : Build) (b : Nat) : Nat :=
  brickY b * d.meshX + (if brickY b % 2 = 0 then brickX b else d.meshX - 1 - brickX b)

/-- A row stop of R15. -/
def isRowStop (b : Nat) : Bool := brickY b % 4 == 1 && brickX b % 4 == 0
/-- A column stop of R15. -/
def isColStop (b : Nat) : Bool := brickX b % 4 == 2 && brickY b % 4 == 0

/-- The stop that the stretcher on express port `a` (0 XA, 1 XB) of a brick leads to (R15, R16). -/
def stretcherEnd (d : Build) (b a : Nat) : Option Nat :=
  if !d.stretch then none
  else if isRowStop b then
    if a = 0 then (if brickX b + 4 < d.meshX then some (b + 4) else none)
    else if 4 ≤ brickX b then some (b - 4) else none
  else if isColStop b then
    if a = 0 then (if brickY b + 4 < d.meshY then some (b + 64) else none)
    else if 4 ≤ brickY b then some (b - 64) else none
  else none

/-- The role of an express port (R17): a built stretcher, else the edge role the integrator gave it. -/
def xrole (d : Build) (b a : Nat) : XRole :=
  match stretcherEnd d b a with
  | some _ => .stretcher
  | none => look .none d.roles (2 * b + a)

/-- What stands behind a router output. -/
inductive Beyond where
  | unconnected
  | brick (b inp : Nat)
  | ni
  | reducer
  | lane (p : Nat)
  | bridge (p : Nat)
  deriving DecidableEq, Repr

/-- What stands behind output `p` of brick `b` (R11, R12, R16, R17). -/
def beyond (d : Build) (b p : Nat) : Beyond :=
  match p with
  | 0 => if 0 < brickY b then .brick (b - 16) 2 else .unconnected
  | 1 => if brickX b + 1 < d.meshX then .brick (b + 1) 3 else .unconnected
  | 2 => if brickY b + 1 < d.meshY then .brick (b + 16) 0 else .unconnected
  | 3 => if 0 < brickX b then .brick (b - 1) 1 else .unconnected
  | 4 => .ni
  | 5 => .reducer
  | 6 => match xrole d b 0 with
    | .none => .unconnected
    | .lane n => .lane n
    | .bridge n => .bridge n
    | .stretcher => match stretcherEnd d b 0 with
      | some c => .brick c 7
      | none => .unconnected
  | 7 => match xrole d b 1 with
    | .none => .unconnected
    | .lane n => .lane n
    | .bridge n => .bridge n
    | .stretcher => match stretcherEnd d b 1 with
      | some c => .brick c 6
      | none => .unconnected
  | _ => .unconnected

/-- The output is unconnected: a mesh port that faces the edge, or an express port of role none (R12, R97). -/
def unconnected (d : Build) (b p : Nat) : Bool := beyond d b p == .unconnected

/-- The output leads to a lane or bridge port. -/
def isExit (d : Build) (b p : Nat) : Bool :=
  match beyond d b p with
  | .lane _ => true
  | .bridge _ => true
  | _ => false

/-- Slots of this output count 10 ns of global time (R97). -/
def timeTimed (d : Build) (b p : Nat) : Bool :=
  match beyond d b p with
  | .lane _ => true
  | _ => false

/-- The brick and express output that serve lane port `n` (`kind` false) or bridge port `n` (true) (R172). -/
def exitOf (d : Build) (kind : Bool) (n : Nat) : Option (Nat × Nat) :=
  let want : XRole := if kind then .bridge n else .lane n
  (bricks d).findSome? fun b =>
    if xrole d b 0 = want then some (b, 6) else if xrole d b 1 = want then some (b, 7) else none

/-- Dimension and sense of a port (R158): (dimension, sense), 0 X and 1 Y; none for L, C, lane and bridge ports. -/
def portSense (d : Build) (b p : Nat) : Option (Nat × Bool) :=
  match p with
  | 0 => some (1, false)
  | 1 => some (0, true)
  | 2 => some (1, true)
  | 3 => some (0, false)
  | 6 => if xrole d b 0 = .stretcher then some (if isRowStop b then (0, true) else (1, true)) else none
  | 7 => if xrole d b 1 = .stretcher then some (if isRowStop b then (0, false) else (1, false)) else none
  | _ => none

/-- A coordinate (R85). -/
def mkCoord (pod pkg die x y ep : Nat) : Nat :=
  packFields [(22, pod), (13, pkg), (11, die), (7, x), (3, y), (0, ep)]

/-- Coordinate of endpoint `ep` of brick `b` of this die. -/
def coord (d : Build) (b ep : Nat) : Nat := mkCoord d.pod d.pkg d.die (brickX b) (brickY b) ep

/-- POD field. -/
def cPod (c : Nat) : Nat := bits c 29 22
/-- PKG field. -/
def cPkg (c : Nat) : Nat := bits c 21 13
/-- DIE field. -/
def cDie (c : Nat) : Nat := bits c 12 11
/-- EP field. -/
def cEp (c : Nat) : Nat := bits c 2 0
/-- Brick index of a coordinate: y * 16 + x. -/
def cBrick (c : Nat) : Nat := bits c 6 3 * 16 + bits c 10 7

/-- The coordinate lies on this die. -/
def onDie (d : Build) (c : Nat) : Bool := cPod c == d.pod && cPkg c == d.pkg && cDie c == d.die
/-- The coordinate lies in this package. -/
def inPackage (d : Build) (c : Nat) : Bool := cPod c == d.pod && cPkg c == d.pkg

/-- The Local Port of the brick is built (R546, R548). -/
def lpBuilt (d : Build) (b : Nat) : Bool := !d.lpUnbuilt.contains b

end Sys2Proof.Machine
end

