-- ==== Sys2Proof/Machine/RegOps.lean ====
section
/-!
DEFINITION. Register words: their window address (R578), reset value, fields and counters, held in `Block.regs` for
every register whose contents have no other home.
-/

namespace Sys2Proof.Machine

/-- First address of the page of a window: `pg` is the brick index or lane-port number (R578). -/
def pageBase : Window → Nat → Nat
  | .glb, _ => 0
  | .brick, b => 0x01000000 + b * 0x10000
  | .lane, p => 0x02000000 + p * 0x10000

/-- Offset of an array element. -/
def elemOff : List (Nat × Nat) → List Nat → Nat
  | (_, st) :: ds, i :: is => i * st + elemOff ds is
  | _, _ => 0

/-- Window address of a register (R578). -/
def regAddr (r : RegName) (pg : Nat) (ix : List Nat) : Nat :=
  let w := regRow r
  pageBase w.win pg + w.off + elemOff w.dims ix

/-- Reset weight of a service (R142). -/
def resetWeight : Nat → Nat
  | 3 => 64
  | 4 => 16
  | 5 => 32
  | _ => 48

/-- Reset value of a register word from its field table. -/
def regReset (r : RegName) (ix : List Nat) : Word :=
  let base := packFields ((regFields r).map fun f => (f.lo, f.reset))
  match r, ix with
  | .SHW_SVC, [_, s] => BitVec.ofNat 64 (base + resetWeight s)
  | _, _ => BitVec.ofNat 64 base

/-- The stored word of a register. -/
def Block.reg (k : Block) (r : RegName) (pg : Nat := 0) (ix : List Nat := []) : Word :=
  look (regReset r ix) k.regs (regAddr r pg ix)

/-- Store the word of a register. -/
def Block.setReg (k : Block) (r : RegName) (pg : Nat) (ix : List Nat) (w : Word) : Block :=
  { k with regs := put (regReset r ix) k.regs (regAddr r pg ix) w }

/-- Field [hi:lo] of a stored register. -/
def Block.rf (k : Block) (r : RegName) (hi lo : Nat) (pg : Nat := 0) (ix : List Nat := []) : Nat :=
  fld (k.reg r pg ix) hi lo

/-- Set field [hi:lo] of a stored register. -/
def Block.setRf (k : Block) (r : RegName) (hi lo : Nat) (pg : Nat) (ix : List Nat) (v : Nat) : Block :=
  k.setReg r pg ix (withFld (k.reg r pg ix) hi lo v)

/-- Raise a counter field that saturates at all ones. -/
def Block.bump (k : Block) (r : RegName) (hi lo : Nat) (pg : Nat) (ix : List Nat := []) (n : Nat := 1) : Block :=
  k.setRf r hi lo pg ix (satAdd (2 ^ (hi + 1 - lo) - 1) (k.rf r hi lo pg ix) n)

/-- Set bit `i` of a stored register. -/
def Block.setBit (k : Block) (r : RegName) (i : Nat) (pg : Nat := 0) (ix : List Nat := []) : Block :=
  k.setRf r i i pg ix 1

/-- The word that has `v`'s values in the fields of a register; its reserved bits are 0 (R8). -/
def fieldsWord (r : RegName) (v : Word) : Word :=
  (regFields r).foldl (fun w f => withFld w f.hi f.lo (fld v f.hi f.lo)) 0

/-! ### Writes (R66, R580) -/

/-- A write that applies from the FCLK after it (R191, R231). -/
def Block.writeLate (k : Block) (w : LateWrite) : Block := { k with late := k.late ++ [w] }

/-- A write to a locked field is refused: GLB_IMAGE.LOCKVIO (R66, R70). -/
def Block.lockVio (k : Block) : Block := k.setBit .GLB_IMAGE 8

/-- A value that the field map of a register reserves, by the field's lowest bit (R9): the field keeps its old value. -/
def reservedEnc (r : RegName) (lo v : Nat) : Bool :=
  match r, lo with
  | .GLB_PMSEL, 0 => v == 3
  | .TIM_CTL, 48 => v == 0
  | .TIM_CTL, 40 => v == 0 || decide (166 < v)
  | .CRS_SWAP, 56 => v == 0
  | .CRS_CTL, 16 => v == 0
  | .CRS_CTL, 0 => decide (v < 66)
  | .NI_RTHI, 60 => decide (1 < v)
  | .BRK_RTCTL, 32 => v == 0
  | .GLB_ROUTE, 32 => v == 0
  | .NI_WDOG, 32 => v == 0
  | .NI_WDOG, 0 => v == 0
  | .TRK_CTL, 48 => v == 0
  | .TRK_CTL, 32 => v == 0
  | .TRK_CTL, 24 => v == 0
  | .TRK_CTL, 16 => v == 0
  | .TRK_TMO, 32 => v == 0 || decide (1000000 < v)
  | .TRK_TMO, 0 => v == 0 || decide (1000000 < v)
  | .TRK_RBASE, 56 => decide (10 < v)
  | .RDC_SLOT, 57 => v == 0
  | .RDC_SLOT, 52 => decide (4 < v)
  | .RDC_SLOT, 36 => decide (17 < v)
  | .RDC_PART, 8 => v == 0 || decide (256 < v)
  | .MQ_CTL, 32 => v == 0
  | .MQ_CTL, 16 => v == 0
  | .MQ_CTL, 0 => v == 0
  | .GPD_CTL, 0 => decide (20 < v)
  | .PLC_POL, 40 => v == 0
  | .PLC_POL, 32 => v == 0
  | .PLC_POL, 0 => v == 0
  | .PLC_TIME, 0 => v == 0
  | .GPD_SEL, 11 => decide (4 < v)
  | .LNK_CTL, 40 => v == 0
  | .LNK_CTL, 36 => v == 0
  | .LNK_CTL, 24 => v == 0
  | .LNK_CRED, _ => decide (v < 9)
  | .LN_CTL, 32 => v == 0
  | .LN_CTL, 16 => v == 0
  | .GLB_FLTCTL, 40 => v == 0
  | .GLB_FLTCTL, 36 => v == 0
  | .GLB_FLTCTL, 24 => v == 0
  | .GLB_FLTCTL, 8 => decide (v < 3)
  | .AGE_CTL, 48 => v == 0
  | .AGE_CTL, 40 => v == 0
  | .AGE_CTL, 0 => v == 0
  | .LN_MARGIN, 32 => v == 0
  | .PRB_CMCTL, 0 => v == 0
  | .PRB_TSEL, 0 => decide (12287 < v)
  | _, _ => false

/-- One field of a written word (R580): the field's new value, and whether a locked field was written with another
value. -/
def fieldWrite (locked : Bool) (old : Nat) (v : Word) (f : Field) : Nat × Bool :=
  let n := fld v f.hi f.lo
  let max := 2 ^ (f.hi + 1 - f.lo) - 1
  match f.acc with
  | .rw => (n, false)
  | .rws => (n, false)
  | .rwl => if locked then (old, n != old) else (n, false)
  | .w1c => (if n = max then 0 else old, false)
  | .w1m => (old &&& (max ^^^ n), false)
  | .w1s => (old, false)
  | .ro => (old, false)
  | .wo => (old, false)
  | .rp => (old, false)

/-- A write of a whole register word by the access codes of its fields (R580); effects beyond the word's own fields are
the command's. -/
def Block.applyWrite (k : Block) (r : RegName) (pg : Nat) (ix : List Nat) (v : Word) : Block :=
  (regFields r).foldl (fun k f =>
    let old := k.rf r f.hi f.lo pg ix
    let (n, vio) := fieldWrite k.img.locked old v f
    let n := if reservedEnc r f.lo (fld v f.hi f.lo) then old else n
    let k := k.setRf r f.hi f.lo pg ix n
    if vio then k.lockVio else k) k

/-! ### Events that apply after a clear of their FCLK (R272, R302, R350 to R353, R574) -/

/-- A field that keeps the first value since it was rearmed takes what comes while it holds none. -/
def firstValue (hi lo : Nat) (w e : Word) : Word :=
  if fld w hi lo = 0xFFFFFFFF then withFld w hi lo (fld e hi lo) else w

/-- A register word after events, given as a word of the same layout: flags are set, counts added, first values and the
first record kept, the least index taken. -/
def eventOn (r : RegName) (w e : Word) : Word :=
  match r with
  | .GLB_IRQSTAT => w ||| e
  | .SPC_CNT => [0, 16, 32, 48].foldl (fun w lo =>
      withFld w (lo + 15) lo (satAdd 0xFFFF (fld w (lo + 15) lo) (fld e (lo + 15) lo))) w
  | .SPC_ERR => [32, 48].foldl (fun w lo =>
      withFld w (lo + 15) lo (satAdd 0xFFFF (fld w (lo + 15) lo) (fld e (lo + 15) lo))) w
  | .SPC_FIRST => firstValue 63 32 (firstValue 31 0 w e) e
  | .SPC_UROW => firstValue 31 0 w e
  | .RDC_GFLAG =>
    if fld e 44 40 = 0 then w
    else
      let idx := if fld w 44 40 = 0 then 0xFFFFFFFF else fld w 31 0
      withFld (withFld w 44 40 (fld w 44 40 ||| fld e 44 40)) 31 0 (min idx (fld e 31 0))
  | .RDC_RESLOG => if flag w 43 then w else e
  | _ => w

/-- Events reach such a register. -/
def Block.event (k : Block) (r : RegName) (pg : Nat) (ix : List Nat) (e : Word) : Block :=
  let a := regAddr r pg ix
  let w := k.reg r pg ix
  let x := look ((0 : Nat), (0 : Word), (0 : Word)) k.fresh a
  let now := if x.1 = k.clk.now + 1 then (x.2.1, eventOn r x.2.2 e) else (w, e)
  { k.setReg r pg ix (eventOn r w e) with
    fresh := put ((0 : Nat), (0 : Word), (0 : Word)) k.fresh a (k.clk.now + 1, now) }

/-- A write of such a register, which makes `f w` of the word `w`: the events of its FCLK apply after it. -/
def Block.writeBeforeEvents (k : Block) (r : RegName) (pg : Nat) (ix : List Nat) (f : Word → Word) : Block :=
  let a := regAddr r pg ix
  let x := look ((0 : Nat), (0 : Word), (0 : Word)) k.fresh a
  if x.1 = k.clk.now + 1 then
    { k.setReg r pg ix (eventOn r (f x.2.1) x.2.2) with
      fresh := put ((0 : Nat), (0 : Word), (0 : Word)) k.fresh a (x.1, f x.2.1, x.2.2) }
  else k.setReg r pg ix (f (k.reg r pg ix))

/-- The word after a write by the access codes of its fields (R580), of a register without locked fields. -/
def writtenWord (r : RegName) (v w : Word) : Word :=
  (regFields r).foldl (fun n f => withFld n f.hi f.lo (fieldWrite false (fld w f.hi f.lo) v f).1) w

end Sys2Proof.Machine
end

