-- ==== Sys2Proof/Machine/Ops.lean ====
section
/-!
DEFINITION. The shared operations of the commands: how a command answers, global time, sync counters, the event FIFO,
the black box, the fault log and recovery episode, interrupts, and streams.
-/

namespace Sys2Proof.Machine

/-! ### How a command answers -/

/-- The block is in reset, or without its root clock: its logic does nothing (R484, R492, R566). -/
def Block.held (k : Block) : Bool := k.rst.coldHeld || k.rst.warmHeld || k.rst.rootLost

/-- The outcome of a command that names existing elements (`ok`): its effect on the block, none while the block is held
in reset. Where the build does not have the element there is nothing to act, and the machine stays as it is (log 7). -/
def State.run (s : State) (ok : Bool) (f : Block → Block) : Host.Outcome State Fault Refusal :=
  .next { s with blk := if ok && !s.blk.held then f s.blk else s.blk }

/-- As `State.run`, for the reset inputs, the root clock and the test wrapper, which reach the block in reset as well. -/
def State.runAlways (s : State) (f : Block → Block) : Host.Outcome State Fault Refusal :=
  .next { s with blk := f s.blk }

/-- Traffic crosses a boundary: its far clock runs (R490) and no handshake is underway (R497). -/
def Block.crosses (k : Block) (far : Boundary) : Bool := !k.rst.stopped.contains far && !k.rst.resync.contains far

/-- The handshake of a boundary starts, or starts again (R497). -/
def Block.handshake (k : Block) (far : Boundary) : Block :=
  { k with rst.resync := (k.rst.resync.filter fun (x : Boundary) => x != far) ++ [far] }

/-- As `State.run`, for the one command that also writes cluster memory (R554). -/
def State.runMem (s : State) (ok : Bool) (f : List Host.Cell × Block → List Host.Cell × Block) :
    Host.Outcome State Fault Refusal :=
  let r := if ok && !s.blk.held then f (s.env.mem, s.blk) else (s.env.mem, s.blk)
  .next { s with env := { s.env with mem := r.1 }, blk := r.2 }

/-- A store without the entries of brick `b`, whose keys come `per` to a brick. -/
def dropBrick {α : Type} (per b : Nat) (m : Store α) : Store α := keepKeys m fun a => a / per != b

/-! ### Responses of the target channel, in the order of the requests of one requester identifier (R551) -/

/-- A request is taken whose response comes later. -/
def Block.owe (k : Block) (b rid tag : Nat) (w : LpWait) : Block :=
  let i := b * 64 + rid % 64
  { k with xfr.lpDue := put [] k.xfr.lpDue i (look [] k.xfr.lpDue i ++ [.waits tag w]) }

/-- Answer a request now: the response leaves, or stands behind those still owed to its requester identifier. -/
def Block.respond (k : Block) (b rid tag status : Nat) (data : List Byte) : Block :=
  let i := b * 64 + rid % 64
  match look [] k.xfr.lpDue i with
  | [] => { k with out := k.out ++ [.lp b rid tag status data] }
  | l => { k with xfr.lpDue := put [] k.xfr.lpDue i (l ++ [.ready tag status data]) }

/-- The responses at the front that are there, as answers; and what is still owed. -/
def releaseDue (b rid : Nat) : List LpDue → List Answer × List LpDue
  | .ready tag status data :: l => ((.lp b rid tag status data :: (releaseDue b rid l).1), (releaseDue b rid l).2)
  | l => ([], l)

/-- Change the oldest response owed that waits for `w`. -/
def settleDue (w : LpWait) (f : Nat → LpDue) : List LpDue → List LpDue
  | [] => []
  | .waits tag w' :: l => if w' = w then f tag :: l else .waits tag w' :: settleDue w f l
  | x :: l => x :: settleDue w f l

/-- What a response owed waits for has come: it leaves with those behind it that are there, unless one before it is
still owed. -/
def Block.settleLp (k : Block) (b rid : Nat) (w : LpWait) (status : Nat) (data : List Byte) : Block :=
  let i := b * 64 + rid % 64
  let r := releaseDue b (rid % 64) (settleDue w (fun tag => .ready tag status data) (look [] k.xfr.lpDue i))
  { k with out := k.out ++ r.1, xfr.lpDue := put [] k.xfr.lpDue i r.2 }

/-- A held load takes pool tracker `t`: its response waits for the load now. -/
def Block.dueLoad (k : Block) (b rid t : Nat) : Block :=
  let i := b * 64 + rid % 64
  let l := settleDue .held (fun tag => .waits tag (.load t)) (look [] k.xfr.lpDue i)
  { k with xfr.lpDue := put [] k.xfr.lpDue i l }

/-! ### Global time (R117) -/

/-- CPHASE units (2^-16 ns) in a course. -/
def courseUnits : Nat := 131072000

/-- CPHASE. -/
def Clock.cphase (c : Clock) : Nat := c.phase / 2 ^ 24

/-- GTIME = (COURSE * 131,072,000 + CPHASE) modulo 2^64. -/
def Clock.gtime (c : Clock) : Nat := (c.course * courseUnits + c.cphase) % 2 ^ 64

/-- GTIME of the die. -/
def Block.gtime (k : Block) : Nat := k.clk.gtime

/-- The signed difference of two GTIME values. -/
def timeDiff (a b : Nat) : Int := (BitVec.ofNat 64 (a + 2 ^ 64 - b % 2 ^ 64)).toInt

/-- GTIME units in `n` microseconds. -/
def usUnits (n : Nat) : Nat := n * 65536000

/-- `t` lies less than `n` microseconds before now. -/
def Block.within (k : Block) (t n : Nat) : Bool := decide (k.gtime < t + usUnits n)

/-! ### Sync counters (R38, R39) -/

/-- Value of counter `c` of brick `b`. -/
def Block.counter (k : Block) (b c : Nat) : Nat := look 0 k.prog.counters (b * 256 + c)

/-- What has reached counter `c` in this FCLK. -/
def Block.countTick (k : Block) (b c : Nat) : CountTick :=
  let x := look {} k.prog.ticks (b * 256 + c)
  if x.at_ = k.clk.now + 1 then x else { at_ := k.clk.now + 1 }

/-- A counter takes a value, and what has reached it in this FCLK is noted. -/
def Block.putCounter (k : Block) (b c v : Nat) (x : CountTick) : Block :=
  { k with prog.counters := put 0 k.prog.counters (b * 256 + c) (v % 2 ^ 32)
           prog.ticks := put {} k.prog.ticks (b * 256 + c) x }

/-- Ranks of the sets of R39: the last of one FCLK stands. -/
def setByClear : Nat := 1
/-- A Local Port write. -/
def setByLp : Nat := 2
/-- A write through the Management Port. -/
def setByMp : Nat := 3

/-- A set of R38: the adds of its FCLK apply to it, and a set that goes before one that has come has no effect (R39). -/
def Block.counterSet (k : Block) (b c rank v : Nat) : Block :=
  let x := k.countTick b c
  if rank < x.rank then k else k.putCounter b c (v + x.adds) { x with rank := rank }

/-- An add of R38, modulo 2^32. -/
def Block.counterAdd (k : Block) (b c n : Nat) : Block :=
  let x := k.countTick b c
  k.putCounter b c (k.counter b c + n) { x with adds := x.adds + n }

/-- Every counter is set to 0 at image start (R39, R65): the adds of this FCLK stand, and a register write of this FCLK
wins. -/
def Block.clearCounters (k : Block) : Block :=
  let live := k.prog.ticks.filter fun (x : Nat × CountTick) => x.2.at_ == k.clk.now + 1
  let kept (x : Nat × CountTick) : Nat := if setByClear < x.2.rank then look 0 k.prog.counters x.1 else x.2.adds % 2 ^ 32
  { k with prog.counters := live.foldl (fun m x => put 0 m x.1 (kept x)) [], prog.ticks := live }

/-! ### Interrupts (R557, R574) -/

/-- Cause `i` of GLB_IRQSTAT is raised. -/
def Block.irq (k : Block) (i : Nat) : Block := k.event .GLB_IRQSTAT 0 [] (mkWord [(i, 1)])

/-- A change event on a Local Port interrupt line (`line` 0 LPI_EVT, 1 LPI_Q): the toggle changes, or the event merges
while a change awaits its return (R557). -/
def Block.lpiTrigger (k : Block) (b line : Nat) : Block :=
  let (tgl, ret, owed) := look (false, false, false) k.flt.lpi (b * 2 + line)
  let v := if tgl == ret then (!tgl, ret, owed) else (tgl, ret, true)
  { k with flt.lpi := put (false, false, false) k.flt.lpi (b * 2 + line) v }

/-! ### The black box (R533 to R537) -/

/-- The MCLK: 4 FCLK (R482). -/
def Block.mclk (k : Block) : Nat := k.clk.now / 4

/-- An entry is written at NEXT (R534), in its MCLK before any trace record (R529). -/
def Block.boxWrite (k : Block) (en : BoxEntry) : Block :=
  let n := k.rf .BBX_STAT 11 0
  let k := { k with flt.box := put none k.flt.box n (some en), hlth.sramAt := k.mclk + 1 }
  if n = 4095 then (k.setRf .BBX_STAT 11 0 0 [] 0).setBit .BBX_STAT 12 else k.setRf .BBX_STAT 11 0 0 [] (n + 1)

/-- An entry sets out for the root. -/
def Block.boxPost (k : Block) (en : BoxEntry) : Block :=
  { k with flt.boxWait := k.flt.boxWait ++ [{ en with gtime := k.gtime }] }

/-- The entry is one that trigger `i` of R535 itself records (R533). -/
def ownEntry (i : Nat) (en : BoxEntry) : Bool :=
  match i with
  | 0 => en.kind == 2
  | 1 => en.kind == 2
  | 2 => en.kind == 7
  | 4 => en.kind == 1 && en.evType == 4
  | 5 => en.kind == 3
  | 7 => en.kind == 5
  | 8 => en.kind == 2
  | _ => false

/-- The freezing event's own entry is written first (R536): the newest entry of its kind and of this GTIME underway. -/
def Block.writeOwn (k : Block) (i : Nat) : Block :=
  match k.flt.boxWait.reverse.find? fun en => ownEntry i en && en.gtime == k.gtime with
  | some en => { k with flt.boxWait := (k.flt.boxWait.reverse.erase en).reverse }.boxWrite en
  | none => k

/-- The black box begins to freeze for trigger `i`; of two triggers in one FCLK the lower counts (R536). -/
def Block.freezeFor (k : Block) (i : Nat) : Block :=
  if flag (k.reg .BBX_STAT) 63 then k
  else match k.flt.freezing with
    | none => { k.writeOwn i with flt.freezing := some (k.gtime, i) }
    | some (g, c) => if g = k.gtime ∧ i < c then { k with flt.freezing := some (g, i) } else k

/-- A freezing event of R535, by its bit in BBX_CTL.FMASK. -/
def Block.freezeOn (k : Block) (i : Nat) : Block :=
  if flag (k.reg .BBX_CTL) (48 + i) then k.freezeFor i else k

/-! ### The event FIFO (R373 to R375) -/

/-- Entries of an event FIFO. -/
def eventDepth : Nat := 512

/-- An event of the same FCLK as `v` that R374 puts behind it. -/
def comesAfter (v x : Event) : Bool := x.type != 1 && x.gtime == v.gtime && decide (v.type < x.type)

/-- An event enters a FIFO with room: before those of its FCLK that have a higher TYPE (R374). -/
def insertEvent (q : List Event) (v : Event) : List Event :=
  let late := (q.reverse.takeWhile (comesAfter v)).reverse
  q.take (q.length - late.length) ++ v :: late

/-- A GAP that begins with event `v` dropped. -/
def gapFor (v : Event) : Event := { type := 1, arg0 := 1, arg1 := v.type, gtime := v.gtime }

/-- What R374 does with an arriving event: the new FIFO, and whether one more entry is stored. Of the events of one FCLK the
lowest TYPEs are stored, and the first of the others is the one that a GAP names. -/
def storeEvent (q : List Event) (v : Event) : List Event × Bool :=
  if q.length + 2 ≤ eventDepth then (insertEvent q v, true)
  else match q.getLast? with
    | some g =>
      if g.type = 1 then
        let more := { g with arg0 := satAdd 0xFFFFFFFF g.arg0 1 }
        if g.gtime = v.gtime then
          match q.dropLast.getLast? with
          | some x =>
            if comesAfter v x then (insertEvent q.dropLast.dropLast v ++ [{ more with arg1 := x.type }], false)
            else (q.dropLast ++ [{ more with arg1 := min g.arg1 v.type }], false)
          | none => (q.dropLast ++ [more], false)
        else (q.dropLast ++ [more], false)
      else if q.length + 1 = eventDepth then
        if comesAfter v g then (insertEvent q.dropLast v ++ [gapFor g], true) else (q ++ [gapFor v], true)
      else (q, false)
    | none => (q ++ [v], true)

/-- The event FIFO of a brick. -/
def Block.events (k : Block) (b : Nat) : List Event := look [] k.flt.events b

/-- The event FIFO has a GAP as its last entry. -/
def endsInGap (q : List Event) : Bool := q.getLast?.any fun g => g.type == 1

/-- An event goes to the black box if EMASK names its TYPE (R533). -/
def Block.boxEvent (k : Block) (b : Nat) (ev : Event) : Block :=
  if flag (k.reg .BBX_CTL) (32 + ev.type) then
    k.boxPost { source := b, kind := 1, status := ev.status, arg0 := ev.arg0, arg1 := ev.arg1, evType := ev.type,
                evSource := ev.source }
  else k

/-- An event enters the event FIFO of brick `b` (R374); with BV = 1 a stored entry adds 1 to CNT (R375); the black box
records it, and a GAP stored with it, if EMASK names the TYPE (R533). -/
def Block.postEvent (k : Block) (b : Nat) (ev : Event) : Block :=
  let v := { ev with gtime := k.gtime }
  let q := k.events b
  let r := storeEvent q v
  let k := { k with flt.events := put [] k.flt.events b r.1 }
  let k := if q.isEmpty then k.lpiTrigger b 0 else k
  let k := if r.2 && flag (k.reg .MQ_EVSTAT b) 25 then k.counterAdd b (k.rf .MQ_EVSTAT 24 17 b) 1 else k
  let k := k.boxEvent b ev
  match r.1.getLast? with
  | some g => if endsInGap r.1 && !endsInGap q then k.boxEvent b g else k
  | none => k

/-! ### Faults and recovery (R461 to R468, R478) -/

/-- Entries of GLB_FLTLOG. -/
def faultLogDepth : Nat := 64

/-- An entry of GLB_FLTLOG (R478); each is also a FAULT entry of the black box (R533). -/
def Block.faultLog (k : Block) (cls kind loc sub : Nat) : Block :=
  let w := mkWord [(63, 1), (60, cls), (56, kind), (40, loc), (32, sub), (0, k.clk.course % 2 ^ 32)]
  let k := if k.flt.log.length < faultLogDepth then { k with flt.log := k.flt.log ++ [w] }
    else k.bump .GLB_FLTSTAT 47 40 0
  k.boxPost { source := if kind = 1 ∨ 5 ≤ kind then loc else 0xFFFF, kind := 2, arg1 := w.toNat }

/-- A trigger of R467: the die is in a recovery episode. -/
def Block.episode (k : Block) : Block :=
  { k with flt.recovering := true, flt.triggers := satAdd 0xFFFF k.flt.triggers 1, flt.donePend := false }

/-- A permanent classification (R462) after its action: the log entry, the black box and its freeze, the episode. -/
def Block.permanent (k : Block) (kind loc sub : Nat) : Block :=
  ((k.faultLog 1 kind loc sub).episode).freezeOn (if kind = 2 then 1 else 0)

/-- Failures of channel `ch` in a history within `us` microseconds, this one included; the history with it added. -/
def Block.failures (k : Block) (h : List (Nat × Nat)) (ch us : Nat) : Nat × List (Nat × Nat) :=
  let h' := (h.filter fun x => k.within x.2 us) ++ [(ch, k.gtime)]
  ((h'.filter fun x => x.1 == ch).length, h')

/-! ### Streams (R45 to R49, R588) -/

/-- Key of a stream: transfer engine e is e, reducer slot s is 0x100 + s (R373). -/
def streamKey (b u : Nat) : Nat := b * 1024 + u

/-- The stream names an engine or a slot. -/
def streamOk (u : Nat) : Bool := decide (u < 16) || (decide (0x100 ≤ u) && decide (u < 0x140))

/-- A reducer slot's stream. -/
def isReducer (u : Nat) : Bool := decide (0x100 ≤ u)

/-- A stream. -/
def Block.stream (k : Block) (b u : Nat) : Stream := look {} k.prog.streams (streamKey b u)

/-- Replace a stream. -/
def Block.setStream (k : Block) (b u : Nat) (v : Stream) : Block :=
  { k with prog.streams := put {} k.prog.streams (streamKey b u) v }

/-- Change a stream. -/
def Block.mapStream (k : Block) (b u : Nat) (f : Stream → Stream) : Block := k.setStream b u (f (k.stream b u))

/-- Move a stream to an address, RUNNING and held by nothing. -/
def Block.goto (k : Block) (b u a : Nat) : Block :=
  k.mapStream b u fun v => { v with st := .running, pc := a, hold := .none, word := none }

/-- STATUS codes of R224. -/
def stOk : Nat := 0x00
def stTimeout : Nat := 0x01
def stClosed : Nat := 0x02
def stStaleEpoch : Nat := 0x03
def stWouldBlock : Nat := 0x04
def stDomainOff : Nat := 0x05
def stFenced : Nat := 0x06
def stPartial : Nat := 0x07
def stCrcResend : Nat := 0x08
def stIndexRange : Nat := 0x09
def stEscape : Nat := 0x0A
def stArith : Nat := 0x0B
def stDirMiss : Nat := 0x0C
def stProgramFault : Nat := 0x0D
def stResidue : Nat := 0x0E
def stNoRoute : Nat := 0x0F
def stPondOverlap : Nat := 0x10
def stMoved : Nat := 0x11

/-- The order in which R218 prefers statuses, first first. -/
def statusOrder : List Nat :=
  [stProgramFault, stResidue, stPondOverlap, stCrcResend, stTimeout, stDomainOff, stFenced, stNoRoute, stDirMiss,
   stStaleEpoch, stClosed, stWouldBlock, stIndexRange, stPartial, stArith, stEscape, stMoved, stOk]

/-- A reserved code is taken as PROGRAM_FAULT (R218). -/
def statusOf (c : Nat) : Nat := if c ≤ 0x11 then c else stProgramFault

/-- The status that R218 takes when both apply. -/
def worse (a b : Nat) : Nat :=
  let x := statusOf a
  let y := statusOf b
  if statusOrder.idxOf x ≤ statusOrder.idxOf y then x else y

/-- Entry of a stream into FAULTED: one PROGRAM_FAULT event, and for an engine its bit in NI_PFAULT.XFR (R588). -/
def Block.faultStream (k : Block) (b u arg1 : Nat) : Block :=
  let v := k.stream b u
  let k := k.setStream b u { v with st := .faulted, hold := .none, word := none }
  let k := if isReducer u then k else k.setBit .NI_PFAULT (16 + u) b
  k.postEvent b { type := 3, status := stProgramFault, source := u, arg0 := v.pc, arg1 := arg1 }

/-- The EVT event of a retiring instruction (R31). -/
def Block.evtEvent (k : Block) (b u a : Nat) (evt : Bool) : Block :=
  if evt then k.postEvent b { type := 2, source := u, arg0 := a } else k

end Sys2Proof.Machine
end

