-- ==== Sys2Proof/Machine/Packets.lean ====
section
/-!
DEFINITION. Packets at their source and at their consumer: the header word of R76, its CRC (R77), the opcode table
(R79, R584), the checks of R78, the exit lookup of the entry point (R172 to R174, R183, R184), and staging at the
injection points (R143, R159).
-/

namespace Sys2Proof.Machine

/-! ### Opcodes (R79) -/

def opWrite : Nat := 0x01
def opMcast : Nat := 0x02
def opContrib : Nat := 0x03
def opResult : Nat := 0x04
def opDispatch : Nat := 0x05
def opReadReq : Nat := 0x06
def opReadResp : Nat := 0x07
def opCounter : Nat := 0x08
def opMessage : Nat := 0x09
def opCredit : Nat := 0x0A
def opAck : Nat := 0x0B
def opNack : Nat := 0x0C
def opDirReq : Nat := 0x0D
def opDirResp : Nat := 0x0E
def opChunk : Nat := 0x0F
def opMgmt : Nat := 0x10
def opTelemetry : Nat := 0x11
def opError : Nat := 0x12
def opFenceNotice : Nat := 0x13

/-- The VCs an opcode is permitted on (R79). -/
def vcAllowed (op vc : Nat) : Bool :=
  if op = 1 then vc == 0 || vc == 3
  else if 2 ≤ op ∧ op ≤ 5 then vc == 1 || vc == 2
  else if op = 6 ∨ op = 8 ∨ op = 9 ∨ op = 0xD then vc == 4
  else if op = 7 ∨ op = 0xF then vc == 3
  else if op = 0xA ∨ op = 0xB ∨ op = 0xC ∨ op = 0xE then vc == 5
  else if op = 0x10 ∨ op = 0x11 then vc == 6
  else if op = 0x12 ∨ op = 0x13 then vc == 7
  else false

/-- The header as a number, bit n of the header at bit n (R76); HOPIDX, LA and HCRC excluded when `crc` is set (R77). -/
def headerNat (p : Packet) (crc : Bool) : Nat :=
  packFields [(0, p.ver), (4, p.vc), (7, p.op), (13, b2n p.epoch), (14, p.rmode),
    (16, if crc then 0 else p.hopidx), (21, if crc then 0 else p.la), (24, p.route), (96, p.dst), (126, p.src),
    (156, p.flow), (168, p.tracker), (186, p.pseq), (202, p.pcount), (218, p.len), (225, p.plen), (239, p.status),
    (247, p.addr), (304, p.group), (316, p.cseq), (332, p.seg), (348, p.member), (365, b2n p.last),
    (366, b2n p.mcast), (367, b2n p.reduce), (368, b2n p.resend), (369, b2n p.steer), (370, b2n p.moved),
    (371, p.hint), (401, p.rsv), (496, if crc then 0 else p.hcrc)]

/-- HCRC over header bytes 0 to 61 with byte 2 taken as zero (R77). -/
def headerCrc (p : Packet) : Nat :=
  let h := headerNat p true
  crc16 (leBytes 62 (h - (bits h 23 16 <<< 16)))

/-- Data units of a payload length (R78): max(0, ⌈(PLEN - 64) / 128⌉). -/
def dataUnits (plen : Nat) : Nat := ceilDiv (plen - 64) 128

/-- Units of a packet on a link. -/
def pktUnits (p : Packet) : Nat := p.len + 1

/-! ### Units (R72) -/

/-- A beat: 128 data bytes and the 104 sideband bits. -/
structure Beat where
  data : List Byte
  side : Nat
  deriving DecidableEq, Repr

/-- UTYPE of a beat: idle, header unit, data unit. -/
def utypeIdle : Nat := 0
def utypeHeader : Nat := 1
def utypeData : Nat := 2

/-- The ECC field over 128 data bytes: check bits [8s + 7:8s] protect data bytes 16s to 16s + 15. -/
def eccField (data : List Byte) : Nat := leNat ((List.range 8).map fun s => Config.eccByte (bytesAt data (16 * s) 16))

/-- The sideband of a beat; CPAR makes the parity of bits [101:64] even. -/
def sideband (utype : Nat) (last : Bool) (vc pcrc : Nat) (data : List Byte) : Nat :=
  let control := packFields [(64, utype), (66, b2n last), (67, vc), (70, if last then pcrc else 0)]
  control + eccField data + (popCount 102 control % 2) <<< 102

/-- The idle beat. -/
def idleBeat : Beat :=
  let data := List.replicate 128 0
  { data := data, side := eccField data }

/-- Unit `i` of a packet: the header unit holds the 64 header bytes and the inline payload, data unit i the next 128
payload bytes (R72, R83). -/
def beatOf (p : Packet) (i : Nat) : Beat :=
  let data := if i = 0 then leBytes 64 (headerNat p false) ++ bytesAt p.payload 0 64
    else bytesAt p.payload (64 + 128 * (i - 1)) 128
  { data := data, side := sideband (if i = 0 then utypeHeader else utypeData) (i == p.len) p.vc p.pcrc data }

/-- The units of a packet, in order. -/
def beatsOf (p : Packet) : List Beat := (List.range (pktUnits p)).map (beatOf p)

/-- A packet as its source emits it: lengths, data units, HCRC and PCRC filled in (R77, R83, R84). -/
def sealPacket (p : Packet) : Packet :=
  let n := p.payload.length
  let q := { p with plen := n, len := dataUnits n, nData := dataUnits n, pcrc := payloadCrc p.payload }
  { q with hcrc := headerCrc q }

/-- A packet whose header was rewritten: HCRC recomputed. -/
def resealPacket (p : Packet) : Packet := { p with hcrc := headerCrc p }

/-- The fields that R584 does not give the opcode are zero, and the flags keep to R82. A steered message has its
queue in GROUP once a slice has chosen it (R404). -/
def fieldsOk (p : Packet) : Bool :=
  let o := p.op
  let usesAddr := o == 1 || o == 2 || o == 6 || o == 7 || o == 0xD || o == 0xE || o == 0xF || o == 0xB || o == 0xC ||
    o == 0x12 || (o == 5 && cEp p.dst == 0) || (o == 9 && p.steer)
  let usesColl := o == 3 || o == 4 || o == 5 || o == 7 || o == 0xB || o == 0xC || o == 0x12
  let usesGroup := usesColl || o == 2 || o == 9 || o == 0xA || o == 0x13
  let usesCseq := usesColl || o == 9 || o == 0xA || o == 0x13
  let usesStatus := o == 7 || o == 0xB || o == 0xC || o == 0x12
  (usesAddr || p.addr == 0) && (usesGroup || p.group == 0) && (usesCseq || p.cseq == 0) &&
  (usesColl || (p.seg == 0 && p.member == 0)) && (usesStatus || p.status == 0) &&
  (!(o == 9 || o == 0xA) || decide (p.group < 64)) &&
  (p.moved || p.hint == 0) &&
  (!p.mcast || ((o == 2 || o == 4) && p.rmode == 0 && p.hopidx == 0 && p.route == 0 && p.dst == 0)) &&
  (!p.reduce || ((o == 3 || o == 5) && !p.mcast)) &&
  (!p.steer || (o == 9 && (p.group == 0 || cEp p.dst == 1))) &&
  (!p.moved || (o == 6 || o == 1 || (o == 9 && p.steer) || o == 7 || o == 0xB || o == 0xC || o == 0x12)) && p.rsv == 0

/-- PSEQ is a channel sequence number, not a position in a stream (R80, R368): a MESSAGE, a CREDIT, or an answer to a
message, which has GROUP[11:6] all ones. -/
def channelSeq (p : Packet) : Bool :=
  p.op == 0x09 || p.op == 0x0A || ((p.op == 0x0B || p.op == 0x0C || p.op == 0x12) && decide (0xFC0 ≤ p.group))

/-- What R78 finds in a packet. -/
inductive HeaderCheck where
  | good | badHcrc | illegal
  deriving DecidableEq, Repr

/-- The checks of R78 that every checker makes, in table order. -/
def headerCheck (p : Packet) : HeaderCheck :=
  if p.hcrc ≠ headerCrc p then .badHcrc
  else if p.ver ≠ 2 ∨ vcAllowed p.op p.vc = false ∨ p.sbvc = true ∨ 8256 < p.plen ∨ p.len ≠ dataUnits p.plen ∨
      p.nData ≠ p.len ∨ p.pcount = 0 ∨ (p.pcount ≤ p.pseq ∧ channelSeq p = false) ∨ (p.vc < 2 ∧ p.flow = 0) ∨ (2 ≤ p.vc ∧ p.flow ≠ 0) ∨
      p.rmode = 3 ∨ (p.rmode = 2 ∧ p.vc < 2) ∨ fieldsOk p = false then .illegal
  else .good

/-- Integrity events are counted in a field of BRK_PKTERR; those in the FCLK of a write that clears it are lost (R95). -/
def Block.countFlaw (k : Block) (b hi lo : Nat) (n : Nat := 1) : Block :=
  let x := look ((0 : Nat), (0 : Word)) k.net.pktClear b
  if x.1 = k.clk.now + 1 ∧ fld x.2 hi lo = 0xFFFF then k else k.bump .BRK_PKTERR hi lo b [] n

/-- A write of BRK_PKTERR (R95). -/
def Block.writePkterr (k : Block) (b : Nat) (v : Word) : Block :=
  { k.applyWrite .BRK_PKTERR b [] v with
    net.pktClear := put ((0 : Nat), (0 : Word)) k.net.pktClear b (k.clk.now + 1, v) }

/-- Count a packet that failed R78. -/
def Block.countCheck (k : Block) (b : Nat) : HeaderCheck → Block
  | .good => k
  | .badHcrc => k.countFlaw b 31 16
  | .illegal => k.countFlaw b 15 0

/-- The payload holds (R84, R214): no uncorrectable data unit and PCRC right. -/
def payloadOk (p : Packet) : Bool := p.dataBad == 0 && p.pcrc == payloadCrc p.payload

/-! ### Links up, load and the exit lookup -/

/-- The state of a link (R427, R439), as LNK_STAT.STATE and D2D_STAT.STATE code it. -/
def linkUpCode : Nat := 3

/-- Lane or bridge port `n` reports its link up (R174) and is not retired (R464). -/
def Block.portUp (k : Block) (kind : Bool) (n : Nat) : Bool :=
  if kind then k.rf .D2D_STAT 1 0 0 [n] == linkUpCode && !flag (k.reg .GLB_PORTRET1) n
  else k.rf .LNK_STAT 49 48 n == linkUpCode && !flag (k.reg .GLB_PORTRET0) n

/-- The port list of a package or system table entry: (kind, number) (R201). -/
def tablePorts (w : Word) : List (Bool × Nat) :=
  (List.range (fld w 61 59 + 1)).map fun i => (flag w (7 * i + 6), fld w (7 * i + 5) (7 * i))

/-- The die has this port. -/
def portExists (d : Build) (x : Bool × Nat) : Bool :=
  if x.1 then decide (x.2 < d.bridgePorts) else decide (x.2 < d.lanePorts)

/-- The table entry that the exit lookup reads (R172): its number (package entries 0 to 3, system entries from 4) and
word, from the bank that EPOCH names (R94). -/
def Block.exitEntry (k : Block) (d : Build) (ep : Bool) (dst : Nat) : Nat × Word :=
  let bank := b2n ep
  if cPod dst = d.pod ∧ cPkg dst = d.pkg then (cDie dst, look 0 k.net.pkgTable (bank * 4 + cDie dst))
  else
    let i := if cPod dst = d.pod then 256 + cPkg dst else cPod dst
    (4 + i, look 0 k.net.sysTable (bank * 768 + i))

/-- Active transmit lanes of a lane port (LNK_STAT.TXSET). -/
def Block.activeLanes (k : Block) (p : Nat) : Nat := popCount 4 (k.rf .LNK_STAT 55 52 p)

/-- The load of a lane port at an entry point (R184). -/
def Block.portLoad (k : Block) (b inp p : Nat) : Nat :=
  (look 0 k.net.backlog p + look 0 k.net.sprayS ((b * 8 + inp) * 64 + p)) * 4 / max 1 (k.activeLanes p)

/-- XOR of the 8-bit slices of ADDR[56:21] (R183). -/
def pageHash (addr : Nat) : Nat :=
  let a := addr / 2 ^ 21
  (List.range 5).foldl (fun h i => h ^^^ (a / 2 ^ (8 * i) % 256)) 0

/-- The ports of a set in the order in which a tie of loads falls: from the one after the port last chosen (R183). -/
def rotated (set : List (Bool × Nat)) (last : Nat) : List (Bool × Nat) :=
  if set.contains (false, last) then
    let i := set.idxOf (false, last) + 1
    set.drop i ++ set.take i
  else set

/-- The choice of an exit from an entry's set by the entry point `inp` of brick `b` (R174, R183; "last chose for the same
entry" is kept for an entry number of either bank and is moved by adaptive choices alone, log 85): none when the entry is
not valid, names a port the die does not have, or no port of the set is up. -/
def Block.chooseExit (k : Block) (d : Build) (b inp : Nat) (p : Packet) : Option (Bool × Nat) × Block :=
  let (i, w) := k.exitEntry d p.epoch p.dst
  let set := tablePorts w
  let up := set.filter fun x => k.portUp x.1 x.2
  if !flag w 63 || !set.all (portExists d) || up.isEmpty then (none, k)
  else if p.vc = 2 ∧ flag w 62 = true then
    let m := (up.map fun x => k.portLoad b inp x.2).foldl min (k.portLoad b inp (up.headD (false, 0)).2)
    match (rotated set (look 64 k.net.sprayLast ((b * 8 + inp) * 1024 + i))).find? fun x =>
        k.portUp x.1 x.2 && k.portLoad b inp x.2 == m with
    | some x => (some x, { k with net.sprayLast := put 64 k.net.sprayLast ((b * 8 + inp) * 1024 + i) x.2 })
    | none => (none, k)
  else if p.vc = 3 ∧ flag w 62 = true then (up[pageHash p.addr % up.length]?, k)
  else (up.head?, k)

/-- The exit selector of R173. -/
def exitSelector (x : Bool × Nat) : Nat := 0x80 + b2n x.1 * 0x40 + x.2

/-- Charge the units an entry point sends toward a lane port (R184), as it chooses the exit (the model's choice, log 85). -/
def Block.chargeSpray (k : Block) (b inp : Nat) (x : Bool × Nat) (units : Nat) : Block :=
  if x.1 then k
  else
    let key := (b * 8 + inp) * 64 + x.2
    { k with net.sprayS := put 0 k.net.sprayS key (look 0 k.net.sprayS key + units) }

/-- The slice brick of a lake address (R388). -/
def Block.pageSlice (k : Block) (d : Build) (addr : Nat) : Nat :=
  let u := (bits addr 56 21) >>> (k.rf .GPD_CTL 4 0)
  let n := ((List.range 5).foldl (fun h i => h ^^^ (u / 2 ^ (8 * i) % 256)) 0) % (d.meshX * d.meshY)
  (n / d.meshX) * 16 + n % d.meshX

/-- A slice-routed packet (R389): READREQ, WRITE, DIRREQ or steered MESSAGE with DST.EP = 3. -/
def sliceRouted (p : Packet) : Bool :=
  cEp p.dst == 3 && (p.op == opReadReq || p.op == opWrite || p.op == opDirReq || (p.op == opMessage && p.steer))

/-- DST of a slice-routed packet on this die takes the slice brick of ADDR (R389). -/
def Block.toSlice (k : Block) (d : Build) (p : Packet) : Packet :=
  if sliceRouted p && onDie d p.dst then { p with dst := coord d (k.pageSlice d p.addr) 3 } else p

/-- The slice brick of a flat identifier (R90). -/
def sliceOf (d : Build) (f : Nat) : Nat :=
  let n := (bits f 7 0 ^^^ bits f 15 8 ^^^ bits f 23 16) % (d.meshX * d.meshY)
  (n / d.meshX) * 16 + n % d.meshX

/-- X first, then Y, toward a brick; at the brick, `last` (R88). -/
def stepToward (b target last : Nat) : Nat :=
  if brickX b < brickX target then 1
  else if brickX target < brickX b then 3
  else if brickY b < brickY target then 2
  else if brickY target < brickY b then 0
  else last

/-- Output of a coordinate-mode packet at brick `b`: none when the mode is reserved, or its selector is not valid or
names no port. -/
def coordOut (d : Build) (b : Nat) (q : Packet) : Option Nat :=
  if q.rmode = 3 then none
  else if q.rmode = 2 then some (stepToward b (sliceOf d (q.dst % 2 ^ 24)) 4)
  else if onDie d q.dst then some (stepToward b (cBrick q.dst) (if cEp q.dst = 2 then 5 else 4))
  else if bits q.route 7 7 = 1 then
    match exitOf d (bits q.route 6 6 == 1) (bits q.route 5 0) with
    | some (c, p) => some (stepToward b c p)
    | none => none
  else none

/-- LA of a packet that enters the router of a brick without a route string: the output that the brick will give it
(R166, R171). -/
def aheadOf (d : Build) (b : Nat) (p : Packet) : Packet := { p with la := (coordOut d b p).getD 0 }

/-- The entry point's treatment of a coordinate-mode packet (R173, R174): ROUTE zero on DST's die, else the exit
selector; none when the packet must be discarded and answered with NO_ROUTE. -/
def Block.enterDie (k : Block) (d : Build) (b inp : Nat) (p : Packet) : Option Packet × Block :=
  if p.rmode = 0 then (some p, k)
  else if p.rmode ≠ 1 then (some (aheadOf d b p), k)
  else if onDie d p.dst then (some (aheadOf d b { k.toSlice d p with route := 0 }), k)
  else match k.chooseExit d b inp p with
    | (some x, k) => (some (aheadOf d b { p with route := exitSelector x }), k.chargeSpray b inp x (pktUnits p))
    | (none, k) => (none, k)

/-! ### Staging (R143, R148, R159) -/

/-- Put a packet behind the others staged at an injection point: `pt` 0 is input L, 1 input C. -/
def Block.stageAt (k : Block) (b pt : Nat) (x : Staged) : Block :=
  { k with net.stage := put [] k.net.stage (b * 2 + pt) (look [] k.net.stage (b * 2 + pt) ++ [x]) }

/-- The NI of a brick holds a staged packet of subscriber `sub` on a VC: the subscriber offers no other there (R159). -/
def Block.holdsStaged (k : Block) (b sub vc : Nat) : Bool :=
  (look [] k.net.stage (b * 2)).any fun x => x.sub == some sub && x.pkt.vc == vc

/-- A response to `q` from endpoint `ep` of brick `b` (R213): it copies PSEQ, PCOUNT, ADDR, GROUP, CSEQ, SEG and MEMBER,
names the tracker of the sender, and carries the responder's epoch (R94) in coordinate mode. An answer to a MESSAGE has
GROUP[11:6] all ones (R368). -/
def Block.response (k : Block) (d : Build) (b ep op vc status : Nat) (q : Packet) : Packet :=
  let moved := q.moved && (q.op == 1 || q.op == 6 || (q.op == 9 && q.steer))
  { vc := vc, op := op, epoch := k.net.epoch, rmode := 1, dst := q.src, src := coord d b ep,
    tracker := cBrick q.src * 1024 + q.tracker % 1024, pseq := q.pseq, pcount := q.pcount, status := status,
    addr := q.addr, group := if q.op = opMessage then 0xFC0 + q.group % 64 else q.group, cseq := q.cseq, seg := q.seg, member := q.member,
    moved := moved, hint := if moved then q.hint else 0 }

/-- The brick offers a packet without subscriber (a response, an error, a notice) at input L, or at input C what comes
from the reducer (R143, "The reducer"), through the entry point's exit lookup. A packet on VC7 that finds no exit is only counted (R586); any other is answered to its sender,
this brick, with NO_ROUTE (R174). -/
def Block.sendDirect (k : Block) (d : Build) (b : Nat) (p : Packet) : Block :=
  let pt := if cEp p.src = 2 then 1 else 0
  match k.enterDie d b (4 + pt) p with
  | (some q, k) => k.stageAt b pt { pkt := sealPacket q }
  | (none, k) =>
    let k := k.bump .BRK_RTERR 15 0 b
    if p.vc = 7 then k else k.stageAt b 0 { pkt := sealPacket (k.response d b 1 opError 7 stNoRoute p) }

/-- Answer SRC from endpoint `ep` with ERROR and a status on VC7, unless the packet is itself on VC7 (R586). -/
def Block.answerErrorAt (k : Block) (d : Build) (b ep : Nat) (q : Packet) (status : Nat) : Block :=
  if q.vc = 7 then k else k.sendDirect d b (k.response d b ep opError 7 status q)

/-- The brick answers SRC with ERROR. -/
def Block.answerError (k : Block) (d : Build) (b : Nat) (q : Packet) (status : Nat) : Block :=
  k.answerErrorAt d b 1 q status

/-- Answer with NACK for the packet's PSEQ (R214). -/
def Block.sendNack (k : Block) (d : Build) (b ep : Nat) (q : Packet) : Block :=
  k.sendDirect d b (k.response d b ep opNack 5 0 q)

/-- An ACK body (R213): BASE, MAP as a 256-bit number, CUM. -/
def ackBody (base map : Nat) (cum : Bool) : List Byte :=
  leBytes 4 base ++ leBytes 32 map ++ leBytes 4 (b2n cum)

/-- An ACK that says what `r` says waits at its injection point and has not begun: what `r` acknowledges is pending already
(R154). -/
def Block.ackPends (k : Block) (b : Nat) (r : Packet) : Bool :=
  (look [] k.net.stage (b * 2 + if cEp r.src = 2 then 1 else 0)).any fun x =>
    !x.fixed && x.pkt.op == opAck && x.pkt.dst == r.dst && x.pkt.src == r.src && x.pkt.tracker == r.tracker &&
    x.pkt.group == r.group && x.pkt.cseq == r.cseq && x.pkt.seg == r.seg && x.pkt.pseq == r.pseq &&
    x.pkt.moved == r.moved && x.pkt.payload == r.payload

/-- Answer with an ACK: one is owed, however often it is owed before it leaves (R154). -/
def Block.sendAck (k : Block) (d : Build) (b ep : Nat) (q : Packet) (base map : Nat) (cum : Bool) : Block :=
  let r := { k.response d b ep opAck 5 0 q with payload := ackBody base map cum }
  if k.ackPends b r then k else k.sendDirect d b r

/-- The ACK staged at place `i` of a brick's injection point says what `r` says (R154): an acknowledgement owed is one
packet, brought up to date until it leaves. -/
def Block.renewAck (k : Block) (b i : Nat) (r : Packet) : Block :=
  let l := look [] k.net.stage (b * 2)
  match l[i]? with
  | some x =>
    let p := sealPacket { x.pkt with
      pseq := r.pseq, pcount := r.pcount, addr := r.addr, group := r.group, cseq := r.cseq, seg := r.seg
      member := r.member, moved := r.moved, hint := r.hint, payload := r.payload }
    { k with net.stage := put [] k.net.stage (b * 2) (l.set i { x with pkt := p }) }
  | none => k

/-- An ACK for this packet alone (R213, an untracked destination). -/
def Block.ackAlone (k : Block) (d : Build) (b ep : Nat) (q : Packet) : Block := k.sendAck d b ep q q.pseq 1 false

/-! ### Source route entries (R165 to R167) -/

/-- A word of a source route entry as a lookup finds it: `w` 0 NI_RTLO, 1 NI_RTHI; `bank` false is bank 0. An entry committed
in this FCLK is found as it was (R169). -/
def Block.routeWord (k : Block) (b : Nat) (bank : Bool) (e w : Nat) : Word :=
  let i := (b * 2 + b2n bank) * 4096 + e
  let old := look ((0 : Nat), (0 : Word), (0 : Word)) k.net.routeOld i
  asStood k.clk.now (old.1, if w = 0 then old.2.1 else old.2.2) (look 0 k.net.routeMem (i * 2 + w))

/-- The hop string of an entry (R197). -/
def routeString (lo hi : Word) : Nat := lo.toNat + fld hi 7 0 * 2 ^ 64

/-- Hop `h` of a route string. -/
def hopOf (route h : Nat) : Nat := route / 2 ^ (3 * h) % 8

/-- A packet under source route entry `e` of brick `b` (R166), or none where R167 forbids its issue. -/
def Block.onEntry (k : Block) (d : Build) (b e : Nat) (p : Packet) : Option Packet :=
  let lo := k.routeWord b k.net.bank e 0
  let hi := k.routeWord b k.net.bank e 1
  let mode := fld hi 61 60
  let dst := fld hi 53 24
  if !flag hi 63 || (decide (p.vc < 2) && !flag hi 62) || (decide (p.vc < 2) && mode == 1 && !onDie d dst) then none
  else
    let r := routeString lo hi
    some { p with route := if mode = 0 then r else 0, rmode := mode, dst := dst, hopidx := 0, la := hopOf r 0,
                  epoch := k.net.epoch }

/-! ### Receive FIFOs (R456) -/

/-- The receive FIFO that an endpoint's packets enter: 0 NI, 2 reducer, 3 slice, 4 placement engine, 5 loader. -/
def rxClass : Nat → Nat
  | 2 => 2
  | 3 => 3
  | 4 => 4
  | 5 => 5
  | _ => 0

/-- The packets held in a receive FIFO, oldest first. -/
def Block.rxQueue (k : Block) (b c : Nat) : List Packet := look [] k.net.rx (b * 8 + c)

/-- Replace a receive FIFO. -/
def Block.setRx (k : Block) (b c : Nat) (q : List Packet) : Block := { k with net.rx := put [] k.net.rx (b * 8 + c) q }

/-- The opcodes that the endpoints of a receive FIFO of brick `b` have a rule for (R78, R79, R456, R583). -/
def fifoOps (b : Nat) : Nat → List Nat
  | 2 => [opContrib, opDispatch, opResult, opAck, opNack, opError, opTelemetry]
  | 3 => [opReadReq, opWrite, opMessage, opDirReq, opTelemetry]
  | 4 => [opDirReq, opTelemetry]
  | 5 => if b = 0 then [opMgmt, opTelemetry] else [opTelemetry]
  | _ => [opWrite, opMcast, opResult, opDispatch, opReadReq, opReadResp, opCounter, opMessage, opCredit, opAck, opNack,
      opDirResp, opChunk, opTelemetry, opError, opFenceNotice]

/-- No consumer of a receive FIFO has a rule for the packet; a flat packet at a slice is the flat lookup's. -/
def unclaimed (b c : Nat) (p : Packet) : Bool := !(fifoOps b c).contains p.op && !(c == 3 && p.rmode == 2)

/-- The packet at the head of a receive FIFO if it has an opcode of `ops`, with the FIFO's rest; a head that no consumer
there has a rule for is taken by each of them, which discards it by R78 or answers it (EP 6, EP 7). -/
def Block.rxTake (k : Block) (b c : Nat) (ops : List Nat) : Option (Packet × Block) :=
  match k.rxQueue b c with
  | p :: r => if ops.contains p.op || unclaimed b c p then some (p, k.setRx b c r) else none
  | [] => none

/-- A response that a tracker or a channel matches. -/
def isResponse (p : Packet) : Bool := p.op == opReadResp || p.op == opAck || p.op == opNack || p.op == opError

/-- The packet answers a request of a GATHER at work in this brick, or of one just over (R337, R338). -/
def Block.answersGather (k : Block) (b : Nat) (p : Packet) : Bool :=
  let v := look {} k.xfr.trk (b * 1024 + p.tracker % 1024)
  (p.op == opReadResp || p.op == opNack || p.op == opError) && v.op == .gather && v.st != .idle

/-- A packet at EP 7, or at EP 6 and not of the sparse path's own streams: answered with NO_ROUTE (R86, R338). -/
def Block.strayEnd (k : Block) (b ep : Nat) (p : Packet) : Bool :=
  decide (ep < 2) && !p.mcast && p.rmode != 2 && cBrick p.dst == b &&
  (cEp p.dst == 7 || (cEp p.dst == 6 && !k.answersGather b p))

/-- The last two checks of R78, made by the consuming endpoint: the brick is DST's unless flat or MCAST, and the
endpoint has a rule for the opcode. Responses to a GATHER's requests reach EP 6 (R338). -/
def deliveredRight (b ep : Nat) (hasRule : Bool) (p : Packet) : Bool :=
  (ep == 2 || p.mcast || p.rmode == 2 ||
    (cBrick p.dst == b && (decide (2 ≤ ep) || cEp p.dst == ep || (isResponse p && cEp p.dst == 6)))) && hasRule

/-- Consume a packet at an endpoint after R78 and R84: one at EP 6 or EP 7 that has no place there is answered; an illegal packet is discarded and counted; one that fails its
payload check is discarded and, where `nack` (R214), answered with NACK; otherwise `f` takes it. -/
def Block.consume (k : Block) (d : Build) (b ep : Nat) (p : Packet) (hasRule nack : Bool) (f : Block → Block) : Block :=
  let c := match headerCheck p with
    | .good => if deliveredRight b ep hasRule p || k.strayEnd b ep p then HeaderCheck.good else .illegal
    | x => x
  if c ≠ .good then k.countCheck b c
  else if k.strayEnd b ep p then k.answerError d b p stNoRoute
  else if !payloadOk p then (if nack then k.sendNack d b ep p else k)
  else f k

end Sys2Proof.Machine
end

