-- ==== Sys2Proof/Machine/LinkState.lean ====
section
/-!
DEFINITION. Access to the link layers of lane and bridge ports, the bridge control field (R438), and the credit totals
that a receiving port advances (R430, R440).
-/

namespace Sys2Proof.Machine

/-- Key of a port's link layer: lane port p is p, bridge port d is 64 + d. -/
def portKey (bridge : Bool) (n : Nat) : Nat := if bridge then 64 + n else n

/-- A link layer. -/
def Block.port (k : Block) (bridge : Bool) (n : Nat) : LinkLayer := look {} k.lnk.port (portKey bridge n)

/-- Replace a link layer. -/
def Block.setPort (k : Block) (bridge : Bool) (n : Nat) (v : LinkLayer) : Block :=
  { k with lnk.port := put {} k.lnk.port (portKey bridge n) v }

/-- Change a link layer. -/
def Block.mapPort (k : Block) (bridge : Bool) (n : Nat) (f : LinkLayer → LinkLayer) : Block :=
  k.setPort bridge n (f (k.port bridge n))

/-- The port's own exit burst is underway (R434). -/
def LinkLayer.burst (v : LinkLayer) : Bool := v.bursts.contains true

/-- The block sends or answers at a port. -/
def Block.send (k : Block) (a : Answer) : Block := { k with out := k.out ++ [a] }

/-- Bit [0] of a bridge control field: even parity over [23:1] (R438). -/
def controlParity (f : Nat) : Nat := popCount 23 (f / 2) % 2

/-- A bridge control field from its CTYPE and content [19:1]. -/
def controlField (ctype content : Nat) : Nat :=
  let f := (ctype <<< 20) + (content <<< 1)
  f + controlParity f

/-- The parity of a bridge control field holds. -/
def controlOk (f : Nat) : Bool := decide (f < 2 ^ 24) && f % 2 == controlParity f

/-- The credit total of a VC advances (R430, R440): a bridge tells it in the next beat. -/
def Block.advanceTotal (k : Block) (bridge : Bool) (n vc units : Nat) : Block :=
  if vc < 2 then k
  else
    let v := k.port bridge n
    let t := (look 0 v.ctot vc + units) % 4096
    let k := k.setPort bridge n { v with ctot := put 0 v.ctot vc t }
    if bridge then k.send (.bridgeControl n (controlField 1 (((vc - 2) <<< 16) + (t <<< 4)))) else k

/-- A packet leaves a port's receive buffer for the router; one that came before the last DOWN moves no total. -/
def Block.leaveBuffer (k : Block) (bridge : Bool) (n : Nat) (q : Packet) : Block :=
  let v := k.port bridge n
  if 0 < v.stale then k.setPort bridge n { v with stale := v.stale - 1 }
  else k.advanceTotal bridge n q.vc (pktUnits q)

/-- The receive buffer of a port. -/
def Block.rxBuffer (k : Block) (bridge : Bool) (n : Nat) : List Packet := look [] k.lnk.rxBuf (portKey bridge n)

/-- Replace the receive buffer of a port. -/
def Block.setRxBuffer (k : Block) (bridge : Bool) (n : Nat) (l : List Packet) : Block :=
  { k with lnk.rxBuf := put [] k.lnk.rxBuf (portKey bridge n) l }

/-- The compute domain of a brick is ON (R498). -/
def Block.computeOn (k : Block) (b : Nat) : Bool := k.rf .PWR_BRK 9 8 b == 0

/-- The brick is isolated (R493). -/
def Block.isolated (k : Block) (b : Nat) : Bool := k.rst.isolated.contains b

end Sys2Proof.Machine
end

