-- ==== Sys2Proof/Machine/Router.lean ====
section
/-!
DEFINITION. The router's decisions on a header unit (R72 to R75, R87, R88, R158, R172 to R174, R186, R187, R191 to
R194, R455, R461), the directory slice's flat lookup (R90, R91), the ingress rules (R113, R176).
-/

namespace Sys2Proof.Machine

/-! ### What arrives with the units -/

/-- A failure of a router link: the second within LINKWIN ms marks the input permanent (R461, R462). Only mesh and
stretcher inputs are links. -/
def Block.linkFailure (k : Block) (d : Build) (b p : Nat) : Block :=
  match beyond d b p with
  | .brick _ _ =>
    let (n, h) := k.failures k.net.linkFaults (b * 8 + p) (k.rf .GLB_FLTCTL 31 24 * 1000)
    let k := { k with net.linkFaults := h }
    if 2 ≤ n ∧ flag (k.reg .BRK_FLT b) (56 + p) = false then (k.setBit .BRK_FLT (56 + p) b).permanent 1 b p else k
  | _ => k

/-- A unit with an uncorrectable ECC error or a CPAR failure is counted, and is a failure of its link (R74, R75, R455,
R461). -/
def Block.badUnit (k : Block) (d : Build) (b p : Nat) : Block := (k.countFlaw b 63 48).linkFailure d b p

/-- Data units with no header unit before them are discarded and counted (R455). -/
def Block.strayUnits (k : Block) (b n : Nat) : Block := if n = 0 then k else k.bump .BRK_FLT 15 8 b [] n

/-- What a router input finds beside a header: the corrected bits of every beat (R73), and stray units; an isolated brick
counts nothing (R493, R581). -/
def Block.receiveBeats (k : Block) (b : Nat) (err : RxError) : Block :=
  if k.isolated b then k
  else
  let k := if err.corrected = 0 then k else k.countFlaw b 47 32 err.corrected
  k.strayUnits b err.stray

/-- The effect of R74, R75 and R455 on a packet as it arrives: none when it is discarded. A unit that an earlier hop found
bad is bad here too (R75). A unit with a CPAR failure ends the packet, and the units after it are stray. -/
def Block.receiveUnits (k : Block) (d : Build) (b p : Nat) (q : Packet) (err : RxError) : Option Packet × Block :=
  if err.header then (none, k.badUnit d b p)
  else
    let bad := q.dataBad + err.bad
    let k := (List.range bad).foldl (fun k _ => k.badUnit d b p) k
    match err.cpar with
    | none => (some { q with dataBad := bad }, k)
    | some n =>
      let k := k.badUnit d b p
      (some { q with dataBad := bad, nData := min q.nData n }, k.strayUnits b (q.nData - n))

/-! ### Probes (R525 to R528) -/

/-- The field a probe compares (R525). -/
def probeField (sel : Nat) (q : Packet) : Nat :=
  match sel with
  | 1 => q.dst
  | 2 => q.src
  | 3 => q.group
  | 4 => q.tracker
  | 5 => q.flow
  | 6 => bits q.addr 52 21
  | 7 => bits (headerNat q false) 370 365
  | _ => 0

/-- A trace record (R527). -/
def traceRecord (k : Block) (b port probe : Nat) (out : Bool) (q : Packet) (lost : Nat) : List Byte :=
  leBytes 8 k.gtime ++ leBytes 1 b ++ leBytes 1 (port + 8 * b2n out + 16 * probe) ++ leBytes 1 q.op ++
  leBytes 1 (q.vc + 8 * b2n q.epoch) ++ leBytes 4 q.dst ++ leBytes 4 q.src ++ leBytes 3 q.tracker ++ leBytes 1 q.len ++
  leBytes 2 q.pseq ++ leBytes 2 q.group ++ leBytes 1 (bits (headerNat q false) 370 365) ++ leBytes 2 0 ++ leBytes 1 lost

/-- One probe examines a header that crosses port `port` of its brick (R525 to R528). A record that finds the stop's
eight places full is lost and counted. -/
def Block.probeOne (k : Block) (d : Build) (b port : Nat) (out : Bool) (q : Packet) (i : Nat) : Block :=
  let c := k.reg .PRB_CTL b [i]
  let m := k.reg .PRB_MATCH b [i]
  let sel := fld c 43 41
  let mask := fld m 63 32
  if flag c 63 && flag c 61 == out && fld c 60 58 == port && (fld c 57 50).testBit q.vc &&
     (fld c 49 44 == 0 || fld c 49 44 == q.op) &&
     (sel == 0 || (probeField sel q % 2 ^ 32) &&& mask == fld m 31 0 &&& mask) then
    let k := (k.bump .PRB_CNT 31 0 b [i]).bump .PRB_CNT 63 32 b [i] (pktUnits q)
    if !flag c 62 then k
    else
      let lost := look 0 k.hlth.lost b
      let r := traceRecord k b port i out q lost
      if flag (k.reg .PRB_TCTL) 61 then
        let t : Packet := { vc := 6, op := opTelemetry, epoch := k.net.epoch, rmode := 1, src := coord d b 1,
                            dst := k.rf .PRB_TCTL 29 0, payload := r }
        ({ k with hlth.lost := put 0 k.hlth.lost b 0 }).sendDirect d b t
      else if (look [] k.hlth.traces b).length < 8 then
        { k with hlth.traces := put [] k.hlth.traces b (look [] k.hlth.traces b ++ [r]),
                 hlth.lost := put 0 k.hlth.lost b 0 }
      else { k with hlth.lost := put 0 k.hlth.lost b (satAdd 255 lost 1) }
  else k

/-- The four probes of a brick examine a header that crosses a port. -/
def Block.probe (k : Block) (d : Build) (b port : Nat) (out : Bool) (q : Packet) : Block :=
  (List.range 4).foldl (fun k i => k.probeOne d b port out q i) k

/-! ### Discards -/

/-- A packet discarded for want of a route (R12, R87, R88, R187): counted in NOROUTE and answered. -/
def Block.dropNoRoute (k : Block) (d : Build) (b : Nat) (q : Packet) : Block :=
  (k.bump .BRK_RTERR 15 0 b).answerError d b q stNoRoute

/-- The packet would break the route order of R158 at this brick: entered by a Y port and leaving by an X port, or
leaving in the opposite sense of the dimension it entered by. A port that moves a packet out in one sense receives
packets that move in the other. -/
def breaksOrder (d : Build) (b inp out : Nat) : Bool :=
  match portSense d b inp, portSense d b out with
  | some (di, si), some (dj, sj) => (di == 1 && dj == 0) || (di == dj && si == sj)
  | _, _ => false

/-- UP of an express port (R185): only a lane or bridge role has one. -/
def Block.upPort (k : Block) (d : Build) (b p : Nat) : Bool :=
  isExit d b p && flag (k.reg .BRK_RTCTL b) (if p = 6 then 8 else 9)

/-- FENCE bit of output `p` (R191). -/
def Block.fencedOut (k : Block) (b p : Nat) : Bool := flag (k.reg .BRK_RTCTL b) p

/-- The exit behind output `p` is not up (R174). -/
def Block.exitDown (k : Block) (d : Build) (b p : Nat) : Bool :=
  match beyond d b p with
  | .lane n => !k.portUp false n
  | .bridge n => !k.portUp true n
  | _ => false

/-- The checks on one output of a packet (R12, R13, R158, R186, R174): true when it may go there, with the discard's
counts and answer otherwise. -/
def Block.outputAllowed (k : Block) (d : Build) (b inp out : Nat) (q : Packet) : Bool × Block :=
  if unconnected d b out then (false, k.dropNoRoute d b q)
  else if decide (2 ≤ q.vc) && breaksOrder d b inp out then
    (false, (k.bump .SHW_ERR 63 48 b).answerError d b q stNoRoute)
  else if out = inp ∧ inp ≠ 4 then (false, k.dropNoRoute d b q)
  else if decide (2 ≤ q.vc) && q.viaUp && k.upPort d b out then
    (false, (k.bump .BRK_RTERR 47 32 b).answerError d b q stNoRoute)
  else if k.exitDown d b out then (false, (k.bump .BRK_RTERR 31 16 b).answerError d b q stNoRoute)
  else (true, k)

/-- A unicast packet for output `out`: discarded as `outputAllowed` gives or at a fence (R192), in this order (the model's choice, log 85); otherwise
it owes `out`. -/
def Block.unicast (k : Block) (d : Build) (b inp out : Nat) (q : Packet) : Option (Packet × List Nat) × Block :=
  match k.outputAllowed d b inp out q with
  | (false, k) => (none, k)
  | (true, k) =>
    if k.fencedOut b out then (none, (k.bump .BRK_RTERR 63 48 b).answerError d b q stFenced)
    else (some (q, [out]), k)

/-! ### Source mode (R87) -/

/-- The decision on a source-mode header. -/
def Block.routeSource (k : Block) (d : Build) (b inp : Nat) (q : Packet) : Option (Packet × List Nat) × Block :=
  if 24 ≤ q.hopidx then (none, k.dropNoRoute d b q)
  else
    let out := hopOf q.route q.hopidx
    k.unicast d b inp out { q with hopidx := q.hopidx + 1, la := hopOf q.route (q.hopidx + 1) }

/-! ### Coordinate and flat mode (R88, R90, R172, R173) -/

/-- The decision on a coordinate-mode header; LA is the port at the next brick (R171). -/
def Block.routeCoordinate (k : Block) (d : Build) (b inp : Nat) (q : Packet) : Option (Packet × List Nat) × Block :=
  match coordOut d b q with
  | none => (none, k.dropNoRoute d b q)
  | some out =>
    let la := match beyond d b out with
      | .brick c _ => (coordOut d c q).getD 0
      | _ => 0
    k.unicast d b inp out { q with la := la }

/-! ### Multicast (R187, R193, R194, R307) -/

/-- Word `w` of tree-node entry `i` (R307). -/
def Block.treeStored (k : Block) (b i w : Nat) : Word := look 0 k.rdc.tree ((b * 128 + i) * 8 + w)

/-- Word `w` of tree-node entry `i` as a lookup finds it: one written in this FCLK is found as it was (R306). -/
def Block.treeWord (k : Block) (b i w : Nat) : Word :=
  look 0 (asStood k.clk.now k.rdc.treeOld k.rdc.tree) ((b * 128 + i) * 8 + w)

/-- The tree-node tables of the die are written (R306). -/
def Block.writeTree (k : Block) (f : Store Word → Store Word) : Block :=
  { k with
    rdc.tree := f k.rdc.tree
    rdc.treeOld := (k.clk.now + 1, asStood k.clk.now k.rdc.treeOld k.rdc.tree) }

/-- The valid tree-node entry of a group at a brick (R306). -/
def Block.treeEntry (k : Block) (b g : Nat) : Option Nat :=
  findBelow 128 fun i => flag (k.treeWord b i 0) 63 && fld (k.treeWord b i 0) 11 0 == g

/-- The member range beyond an output (R193, R307): (lowest, count). -/
def Block.memberRange (k : Block) (b i out : Nat) : Option (Nat × Nat) :=
  let w1 := k.treeWord b i 1
  let slot := match out with
    | 0 => 2
    | 1 => 3
    | 2 => 4
    | 3 => 5
    | 6 => 6
    | 7 => 7
    | _ => 0
  if out = 4 then (if flag w1 63 then some (fld w1 57 41, fld w1 62 58) else none)
  else if slot = 0 then none
  else
    let w := k.treeWord b i slot
    if flag w 63 then some (fld w 16 0, fld w 33 17 + 1 - fld w 16 0) else none

/-- A drop at a fenced output (R193, R194; that only an MCAST packet, no RESULT, sends a notice is the model's choice, log
85): counted; a FENCE_NOTICE goes to the spring when the output has a member
range and the drop is not in the notice cache of 16, kept in least-recently-used order. -/
def Block.fenceDrop (k : Block) (d : Build) (b i out : Nat) (q : Packet) : Block :=
  let k := k.bump .BRK_RTERR 63 48 b
  match k.memberRange b i out with
  | none => k
  | some (lo, n) =>
    if q.op ≠ opMcast then k
    else
      let key := (q.tracker, q.group, out)
      let c := look [] k.net.noticeCache b
      let c' := ((c.filter (· ≠ key)) ++ [key])
      let c' := c'.drop (c'.length - 16)
      let k := { k with net.noticeCache := put [] k.net.noticeCache b c' }
      if c.contains key then k
      else
        let body := leBytes 4 lo ++ leBytes 4 n ++ leBytes 4 (coord d b 0) ++ leBytes 1 out ++ leBytes 3 0
        k.sendDirect d b { vc := 7, op := opFenceNotice, epoch := k.net.epoch, rmode := 1, dst := q.src,
                           src := coord d b 1, tracker := q.tracker, group := q.group, cseq := q.cseq, payload := body }

/-- The decision on an MCAST-flagged header: its replica set, fenced outputs dropped, each shared-plane replica checked
on its own (R158, R186). An empty set consumes the packet. -/
def Block.replicate (k : Block) (d : Build) (b inp : Nat) (q : Packet) : Option (Packet × List Nat) × Block :=
  match k.treeEntry b q.group with
  | none => (none, k.dropNoRoute d b q)
  | some i =>
    let mask := fld (k.treeWord b i 0) 54 47
    let named := (List.range 8).filter fun p => mask.testBit p && p != inp
    let fenced := named.filter fun p => k.fencedOut b p
    let live := named.filter fun p => !k.fencedOut b p
    let k := fenced.foldl (fun k p => k.fenceDrop d b i p q) k
    let r := live.foldl (fun (acc : List Nat × Block) p =>
      match acc.2.outputAllowed d b inp p q with
      | (true, k) => (acc.1 ++ [p], k)
      | (false, k) => (acc.1, k)) (([] : List Nat), k)
    if r.1.isEmpty then (none, r.2) else (some (q, r.1), r.2)

/-! ### The head that is routed -/

/-- Chain of a router input. -/
def Block.chainOf (k : Block) (b p : Nat) : List Chained := look [] k.net.chain (b * 8 + p)

/-- Replace the chain of a router input. -/
def Block.setChain (k : Block) (b p : Nat) (c : List Chained) : Block :=
  { k with net.chain := put [] k.net.chain (b * 8 + p) c }

/-- Hop credits of output `p` (R152). -/
def Block.credits (k : Block) (b p : Nat) : Nat := look 4 k.net.credit (b * 8 + p)

/-- Set the hop credits of an output. -/
def Block.setCredits (k : Block) (b p n : Nat) : Block := { k with net.credit := put 4 k.net.credit (b * 8 + p) n }

/-- The units of a packet have left the chain of input `p`: the sender's output gets its credits back (R152). -/
def Block.returnCredits (k : Block) (d : Build) (b p n : Nat) : Block :=
  match beyond d b p with
  | .brick c q => k.setCredits c q (min 4 (k.credits c q + n))
  | _ => k

/-- Staged packets of an injection point: input L (4) or C (5). -/
def Block.stagedAt (k : Block) (b inp : Nat) : List Staged := look [] k.net.stage (b * 2 + (inp - 4))

/-- Answers of endpoint `ep` to requests, each a response of opcode `op` or an ERROR, that have not started at the brick's
injection point: each still holds its entry of a request store (R155). -/
def Block.answering (k : Block) (d : Build) (b ep op : Nat) : Nat :=
  (k.stagedAt b 4).countP fun x => x.pkt.src == coord d b ep && (x.pkt.op == op || x.pkt.op == opError)

/-- Units of credit that the packets of a chain hold. -/
def chainUnits (c : List Chained) : Nat := (c.map Chained.units).sum

/-- The units of a packet that stand in the chains behind the one it has reached, and those that have not reached any:
`left` units have had no place there, the chains are `l`, nearest first. -/
def unitsBehind : Nat → List (Nat × Nat) → List (Nat × Nat) × Nat
  | left, [] => ([], left)
  | left, (c, cap) :: r =>
    let rest := unitsBehind (left - cap) r
    ((c, min cap left) :: rest.1, rest.2)

/-- Units of a packet have still to pass the output that feeds chain `key`: they wait for a credit, and the output stays
held (R14, R152). -/
def waitsBehind (x : Chained) (key : Nat) : Bool :=
  match x.behind.findIdx? fun y => y.1 == key with
  | some i => decide (0 < (unitsBehind (pktUnits x.pkt - x.units) (x.behind.take (i + 1))).2)
  | none => false

/-- A packet that an output sends is not whole in the chain that the output feeds, or, having gone on, behind it: a unit of
it waits for a credit, and the output stays held (R14, R152). Nothing says what such a packet does when its window closes:
its units pass as they get credits (the model's choice, log 100). -/
def Block.stalled (k : Block) (d : Build) (b p : Nat) : Bool :=
  match beyond d b p with
  | .brick c i =>
    (match (k.chainOf c i).getLast? with
    | some x => decide (x.units < pktUnits x.pkt)
    | none => false) || k.net.chain.any fun e => e.2.any fun x => waitsBehind x (c * 8 + i)
  | _ => false

/-- `n` units have left the chain of input `inp` (R152): units of its last packet that waited for a credit take their
places, which frees places in the chains behind, and the other credits return. -/
def Block.freePlaces (k : Block) (d : Build) (b inp n : Nat) (fuel : Nat := 64) : Block :=
  match fuel with
  | 0 => k.returnCredits d b inp n
  | f + 1 =>
    let l := k.chainOf b inp
    match l.getLast? with
    | some x =>
      let left := pktUnits x.pkt - x.units
      let m := min n left
      let k := (k.setChain b inp (l.dropLast ++ [{ x with units := x.units + m }])).returnCredits d b inp (n - m)
      ((unitsBehind left x.behind).1.zip (unitsBehind (left - m) x.behind).1).foldl (fun k y =>
        if y.1.2 = y.2.2 then k else k.freePlaces d (y.1.1 / 8) (y.1.1 % 8) (y.1.2 - y.2.2) f) k
    | none => k.returnCredits d b inp n

/-- The outputs that feed the chains of `l` send the units of a packet that are still to come, `left` for the first (R14). -/
def Block.stillSending (k : Block) (d : Build) : Nat → List (Nat × Nat) → Block
  | _, [] => k
  | left, (key, cap) :: r =>
    let k := match beyond d (key / 8) (key % 8) with
      | .brick c o =>
        if left = 0 then k
        else { k with net.busy := put 0 k.net.busy (c * 8 + o) (max (look 0 k.net.busy (c * 8 + o)) (k.clk.now + left)) }
      | _ => k
    k.stillSending d (left - (r.head?.map Prod.snd).getD cap) r

/-- The packet at a place of a chain leaves it, all of its units but the last `keep`, which have no place yet where it goes:
they stand in this chain and those behind it, and the other places are free. Units that have not come yet still cross the
outputs that send them, which they hold (R14). -/
def Block.leaveChain (k : Block) (d : Build) (b inp idx : Nat) (keep : Nat := 0) : Block :=
  let l := k.chainOf b inp
  match l[idx]? with
  | none => k
  | some x =>
    let left := pktUnits x.pkt - x.units
    let here := (b * 8 + inp, x.units)
    let stay := (unitsBehind keep (here :: x.behind)).1
    let k := (k.setChain b inp (l.eraseIdx idx)).stillSending d left (here :: x.behind)
    ((here :: (unitsBehind left x.behind).1).zip stay).foldl (fun k y =>
      if y.1.2 = y.2.2 then k else k.freePlaces d (y.1.1 / 8) (y.1.1 % 8) (y.1.2 - y.2.2)) k

/-- Key of a subscriber's tags. -/
def subKey (b s u : Nat) : Nat := (b * 8 + s) * 2048 + u

/-- Key of a service's tags at an output. -/
def svcKey (b p s : Nat) : Nat := (b * 8 + p) * 8 + s

/-- A subscriber's packet leaves injection point `i` without having started: what the subscriber offers next becomes a
head anew, and competes (R145, R148). -/
def Block.subLost (k : Block) (b i vc : Nat) : Option Nat → Block
  | none => k
  | some u =>
    let s := vc - 2
    let key := (b * 2 + i) * 8 + s
    if vc < 2 then k
    else { k with
      net.subStart := put none k.net.subStart (subKey b s u) none
      net.offered := if look none k.net.offered key = some u then put none k.net.offered key none else k.net.offered }

/-- Replace the staged packets of an injection point. -/
def Block.setStaged (k : Block) (b inp : Nat) (l : List Staged) : Block :=
  { k with net.stage := put [] k.net.stage (b * 2 + (inp - 4)) l }

/-- A staged packet is discarded. -/
def Block.unstage (k : Block) (b inp i : Nat) (x : Staged) : Block :=
  (k.setStaged b inp ((k.stagedAt b inp).eraseIdx i)).subLost b (inp - 4) x.pkt.vc x.sub

/-- A packet discarded for its header: the output that the look-ahead has set for it stays idle until its END has passed
(R74). -/
def Block.idleFor (k : Block) (b : Nat) (q : Packet) : Block :=
  if q.mcast || decide (k.clk.now < look 0 k.net.busy (b * 8 + q.la)) then k
  else { k with net.busy := put 0 k.net.busy (b * 8 + q.la) (k.clk.now + pktUnits q) }

/-- Take the packet that stands first and not yet routed at an input, if `sel` accepts it, decide it with `f` and put
the decision back; a packet that `f` or its units discard leaves its place. -/
def Block.routeHead (k : Block) (d : Build) (b inp : Nat) (err : RxError) (sel : Packet → Bool)
    (f : Block → Packet → Option (Packet × List Nat) × Block) : Block :=
  let k := k.receiveBeats b err
  if inp = 4 ∨ inp = 5 then
    let l := k.stagedAt b inp
    match l.findIdx? (fun x => x.owed.isNone) with
    | none => k
    | some i =>
      match l[i]? with
      | none => k
      | some x =>
        if !sel x.pkt then k
        else
          let (r, k) := k.receiveUnits d b inp x.pkt err
          match r with
          | none => (k.unstage b inp i x).idleFor b x.pkt
          | some q =>
            let k := k.probe d b inp false q
            match f k q with
            | (none, k) => k.unstage b inp i x
            | (some (q, o), k) => k.setStaged b inp ((k.stagedAt b inp).set i { x with
              pkt := q, owed := some o, ready := k.clk.now + q.len })
  else
    let l := k.chainOf b inp
    match l.findIdx? (fun x => x.owed.isNone) with
    | none => k
    | some i =>
      match l[i]? with
      | none => k
      | some x =>
        if !sel x.pkt then k
        else
          let (r, k) := k.receiveUnits d b inp x.pkt err
          match r with
          | none => (k.leaveChain d b inp i).idleFor b x.pkt
          | some q =>
            let k := k.probe d b inp false q
            match f k q with
            | (none, k) => k.leaveChain d b inp i
            | (some (q, o), k) => k.setChain b inp ((k.chainOf b inp).set i { x with
              pkt := q, owed := some o, ready := k.clk.now + q.len })

/-- The outputs that the router would give a packet at an input, for a hold queue's head (R113) and a backlog (R531). -/
def Block.outputsOf (k : Block) (d : Build) (b p : Nat) (q : Packet) : List Nat :=
  let r := if q.mcast then k.replicate d b p q
    else if q.rmode = 0 then k.routeSource d b p q else k.routeCoordinate d b p q
  match r.1 with
  | some x => x.2
  | none => []

/-! ### The flat lookup (R89 to R91) -/

/-- Endpoint entry `i` of a slice (R93) as a lookup finds it: one written in this FCLK is found as it was (R91). -/
def Block.endpointEntry (k : Block) (b i : Nat) : Word :=
  asStood k.clk.now (look ((0 : Nat), (0 : Word)) k.gpd.endOld (b * 512 + i)) (k.reg .GPD_EPENT b [i])

/-- Endpoint entry `i` is about to be written: lookups of this FCLK find it as it stands (R91). -/
def Block.keepEndpoint (k : Block) (b i : Nat) : Block :=
  { k with gpd.endOld := put ((0 : Nat), (0 : Word)) k.gpd.endOld (b * 512 + i) (k.clk.now + 1, k.endpointEntry b i) }

/-- A write of GPD_EPENT (R91, R93). -/
def Block.writeEndpoint (k : Block) (b i : Nat) (v : Word) : Block := (k.keepEndpoint b i).applyWrite .GPD_EPENT b [i] v

/-- FLAT_LOOKUP (R91): the lowest valid entry that holds the identifier gives the coordinate; a miss is answered with
DIR_MISS and posts a DIR_MISS event. -/
def execFlatLookup (b : Nat) (s : State) : Host.Outcome State Fault Refusal :=
  let d := s.env.build
  s.run (brickOk d b) fun k =>
    match k.rxQueue b 3 with
    | p :: r =>
      if p.rmode ≠ 2 then k
      else
        let k := k.setRx b 3 r
        match headerCheck p with
        | .good =>
          let f := p.dst % 2 ^ 24
          match findBelow 512 fun i => flag (k.endpointEntry b i) 63 && fld (k.endpointEntry b i) 23 0 == f with
          | some i =>
            let q := { p with dst := fld (k.endpointEntry b i) 53 24, rmode := 1, route := 0 }
            match k.enterDie d b 4 q with
            | (some q, k) => k.stageAt b 0 { pkt := resealPacket q, fixed := true }
            | (none, k) => k.dropNoRoute d b p
          | none => (k.answerError d b p stDirMiss).postEvent b { type := 6, status := stDirMiss, arg0 := f }
        | c => k.countCheck b c
    | [] => k

/-! ### Entering a die (R113, R176) -/

/-- Units a hold queue takes (R113): 256 at a lane port, 64 at a bridge port. -/
def holdCapacity (d : Build) (b p : Nat) : Nat :=
  match beyond d b p with
  | .lane _ => 256
  | _ => 64

/-- The ingress treatment of R176: the packet as it enters the router, or none when it is discarded. -/
def Block.ingress (k : Block) (d : Build) (b p : Nat) (q : Packet) : Option Packet × Block :=
  let q := { q with viaUp := k.upPort d b p }
  if q.mcast then (some q, k)
  else if q.vc < 2 then
    let lo := k.routeWord b k.net.bank q.flow 0
    let hi := k.routeWord b k.net.bank q.flow 1
    if flag hi 63 && flag hi 62 && fld hi 61 60 == 0 then
      let r := routeString lo hi
      (some (resealPacket { q with route := r, hopidx := 0, la := hopOf r 0 }), k)
    else (none, k.bump .BRK_RTERR 15 0 b)
  else
    match k.enterDie d b p { q with rmode := 1, route := 0 } with
    | (some q, k) => (some (resealPacket q), k)
    | (none, k) => (none, k.dropNoRoute d b q)

/-- Units of a packet that a chain of four has room for (R152; packet grain, log 9). -/
def roomFor (c : List Chained) (q : Packet) : Nat := min (4 - chainUnits c) (pktUnits q)

/-- A packet enters at an edge port: the checks of R78, the rules of R176, then the hold queue for a scheduled packet
(R113) or the router input. -/
def Block.enterPort (k : Block) (d : Build) (b p : Nat) (q : Packet) : Block :=
  match headerCheck q with
  | .good =>
    match k.ingress d b p q with
    | (none, k) => k
    | (some q, k) =>
      if q.vc < 2 then
        let h := look [] k.net.hold (b * 8 + p)
        if (h.map pktUnits).sum + pktUnits q ≤ holdCapacity d b p then
          { k with net.hold := put [] k.net.hold (b * 8 + p) (h ++ [q]) }
        else k.bump .CRS_ERR 47 32 b
      else k.setChain b p (k.chainOf b p ++ [{ pkt := q, units := roomFor (k.chainOf b p) q }])
  | c => k.countCheck b c

/-- The first packet of a receive buffer that can enter the router: a scheduled packet goes to the hold queue, a shared
one needs room in the input chain. -/
def Block.entersNext (k : Block) (b p : Nat) (l : List Packet) : Option Nat :=
  l.findIdx? fun q => decide (q.vc < 2) || decide (chainUnits (k.chainOf b p) < 4)

/-- A packet moves from the receive buffer of a port into the router (R176, R430). -/
def Block.enterFromBuffer (k : Block) (d : Build) (b p : Nat) (bridge : Bool) (n : Nat) : Block :=
  let l := k.rxBuffer bridge n
  match k.entersNext b p l with
  | some i =>
    match l[i]? with
    | some q => ((k.setRxBuffer bridge n (l.eraseIdx i)).leaveBuffer bridge n q).enterPort d b p q
    | none => k
  | none => k

/-- INGRESS_REWRITE (R176). `arrival` is a packet that a bridge delivers; with or without it the port's receive buffer
then gives the router its next packet that can enter. An isolated brick discards what reaches it (R493). -/
def execIngressRewrite (b p : Nat) (arrival : Option Packet) (s : State) : Host.Outcome State Fault Refusal :=
  let d := s.env.build
  s.run (brickOk d b && isExit d b p) fun k =>
    if k.isolated b then k
    else match beyond d b p with
      | .lane n => k.enterFromBuffer d b p false n
      | .bridge n =>
        let k := match arrival with
          | some q => if k.portUp true n then k.setRxBuffer true n (k.rxBuffer true n ++ [q]) else k
          | none => k
        k.enterFromBuffer d b p true n
      | _ => k

end Sys2Proof.Machine
end

