-- ==== Sys2Proof/Machine/GroupDesc.lean ====
section
/-!
DEFINITION. Group descriptors (R304), segment parts and their trailers (R247, R248): what members and reducers share.
-/

namespace Sys2Proof.Machine

/-! ### Descriptors (R304) -/

/-- Word `w` of the descriptor of group `g`. -/
def Block.descWord (k : Block) (g w : Nat) : Word := look 0 k.rdc.desc (g * 2 + w)

/-- The descriptor of the group is valid. -/
def Block.descValid (k : Block) (g : Nat) : Bool := flag (k.descWord g 0) 63

/-- SEGSIZE of a group. -/
def Block.groupSegSize (k : Block) (g : Nat) : Nat := 4096 * 2 ^ fld (k.descWord g 0) 57 55

/-- STILL of a group. -/
def Block.groupStill (k : Block) (g : Nat) : Bool := flag (k.descWord g 0) 62

/-- REC of a group. -/
def Block.groupRec (k : Block) (g : Nat) : Bool := flag (k.descWord g 0) 61

/-- Bytes of a record of a group. -/
def Block.groupRecBytes (k : Block) (g : Nat) : Nat := fld (k.descWord g 0) 37 28 * 16

/-- E of a group (R246). -/
def Block.groupElems (k : Block) (g : Nat) : Nat :=
  if k.groupStill g then k.groupSegSize g / 8
  else if k.groupRec g then k.groupSegSize g / max 1 (k.groupRecBytes g)
  else k.groupSegSize g / 4

/-- Bytes of one element of a contribution (R311). -/
def Block.elemBytes (k : Block) (g : Nat) : Nat :=
  if k.groupRec g then k.groupRecBytes g else fmtSize (fld (k.descWord g 0) 45 42)

/-- RSEG: result bytes of a full segment (R314). -/
def Block.resultSeg (k : Block) (g : Nat) : Nat :=
  k.groupElems g * (if k.groupRec g then k.groupRecBytes g else fmtSize (fld (k.descWord g 0) 41 38))

/-- Data bytes of a contribution in one full segment. -/
def Block.contribSeg (k : Block) (g : Nat) : Nat := k.groupElems g * k.elemBytes g

/-! ### Segment parts (R247, R248) -/

/-- A segment trailer. -/
def trailerBytes (first aflags status : Nat) (final : Bool) (members xidx : Nat) : List Byte :=
  leBytes 4 first ++ leBytes 1 aflags ++ leBytes 1 status ++ leBytes 1 (b2n final) ++ leBytes 1 0 ++
  leBytes 4 members ++ leBytes 4 xidx

/-- Cut bytes into packets of 8,256 bytes (R247); at least one packet. -/
def cutPart : Nat → List Byte → List (List Byte)
  | 0, l => [l]
  | n + 1, l => if l.length ≤ 8256 then [l] else l.take 8256 :: cutPart n (l.drop 8256)

end Sys2Proof.Machine
end

