-- ==== Sys2Proof/Machine/Trackers.lean ====
section
/-!
DEFINITION. Trackers, memory-master requests, completion rings and records (R204, R208, R210 to R229, R463, R475, R553
to R556): the operations that the packet and timer commands share.
-/

namespace Sys2Proof.Machine

/-! ### Cluster memory (R203, R553) -/

/-- The byte of cluster memory at a key; a byte that nothing has written reads 0x00 (log 2). -/
def memByte (m : List Host.Cell) (key : Nat) : Byte := look 0 m key

/-- Key of a local address of a brick (R203). -/
def memKey (b addr : Nat) : Nat := b * 2 ^ 48 + addr % 2 ^ 48

/-- `n` bytes of a brick's cluster memory from a local address. -/
def memRead (m : List Host.Cell) (b addr n : Nat) : List Byte :=
  (List.range n).map fun i => memByte m (memKey b (addr + i))

/-- Bytes written to a brick's cluster memory from a local address, the first first. -/
def memWrite (m : List Host.Cell) (b addr : Nat) : List Byte → List Host.Cell
  | [] => m
  | v :: r => memWrite (put 0 m (memKey b addr) v) b (addr + 1) r

/-! ### Memory-master requests -/

/-- Request with a tag of brick `b`. -/
def Block.memReq (k : Block) (b tag : Nat) : Option MemReq := look none k.xfr.lpm (b * 1024 + tag)

/-- The least free tag (R553: up to 1,024 requests). -/
def Block.freeTag (k : Block) (b : Nat) : Option Nat := findBelow 1024 fun t => (k.memReq b t).isNone

/-- A memory-master request goes out on the least free tag, or waits for one. -/
def Block.memRequest (k : Block) (b : Nat) (q : MemReq) : Block :=
  match k.freeTag b with
  | some t => { k with xfr.lpm := put none k.xfr.lpm (b * 1024 + t) (some q) }
  | none => { k with xfr.lpmWait := put [] k.xfr.lpmWait b (look [] k.xfr.lpmWait b ++ [q]) }

/-- A request of brick `b` is answered: its tag is free, and the request that has waited longest takes it. -/
def Block.memAnswered (k : Block) (b tag : Nat) : Block :=
  let k := { k with xfr.lpm := put none k.xfr.lpm (b * 1024 + tag) none }
  match look [] k.xfr.lpmWait b with
  | q :: r =>
    { k with
      xfr.lpm := put none k.xfr.lpm (b * 1024 + tag) (some q)
      xfr.lpmWait := put [] k.xfr.lpmWait b r }
  | [] => k

/-- The bytes of a run, cut where 128-byte units end (R553). -/
def cutRun : Nat → Nat → List Byte → List (Nat × List Byte)
  | 0, _, _ => []
  | n + 1, a, l =>
    if l.isEmpty then []
    else
      let w := 128 - a % 128
      (a, l.take w) :: cutRun n (a + w) (l.drop w)

/-- Put a piece with the pieces after it where it lies in their unit. -/
def joinUnit (x : Nat × List Byte) : List (List (Nat × List Byte)) → List (List (Nat × List Byte))
  | (y :: g) :: r => if y.1 / 128 = x.1 / 128 then (x :: y :: g) :: r else [x] :: (y :: g) :: r
  | l => [x] :: l

/-- The requests of a write (R553): one for each unit that a run touches, neighbours in one unit together; an access that
writes no byte is one request. -/
def unitsOf (runs : List (Nat × List Byte)) : List (List (Nat × List Byte)) :=
  match (runs.flatMap fun r => cutRun (r.2.length + 1) r.1 r.2).foldr joinUnit [] with
  | [] => [[]]
  | l => l

/-- An access of cluster memory goes out, one request a unit (R553). -/
def Block.memAccess (k : Block) (b : Nat) (use : MemUse) (units : List (List (Nat × List Byte))) (len : Nat) : Block :=
  units.foldl (fun k u => k.memRequest b { runs := u, use := use, id := k.xfr.starts - 1, len := len })
    { k with xfr.starts := k.xfr.starts + 1 }

/-- Bytes are to be written to cluster memory. -/
def Block.memIssue (k : Block) (b : Nat) (use : MemUse) (runs : List (Nat × List Byte)) : Block :=
  k.memAccess b use (unitsOf runs) (runs.map fun r => r.2.length).sum

/-- Bytes of cluster memory are to be read: a request for each unit they touch. -/
def Block.memFetch (k : Block) (b : Nat) (use : MemUse) (addr len : Nat) : Block :=
  k.memAccess b use (List.replicate (max 1 (ceilDiv (addr % 128 + len) 128)) []) len

/-- Other requests of access `n` of a brick still await their answer. -/
def Block.accessOpen (k : Block) (b n : Nat) : Bool :=
  (k.xfr.lpm.any fun e => e.1 / 1024 == b && ((e.2.map MemReq.id) == some n)) ||
  (look [] k.xfr.lpmWait b).any fun q => q.id == n

/-- A request of access `n` has failed: the access fails with its last answer. -/
def Block.failAccess (k : Block) (b n : Nat) : Block :=
  let bad (q : MemReq) : MemReq := if q.id = n then { q with bad := true } else q
  { k with
    xfr.lpm := k.xfr.lpm.map fun e => if e.1 / 1024 = b then (e.1, e.2.map bad) else e
    xfr.lpmWait := put [] k.xfr.lpmWait b ((look [] k.xfr.lpmWait b).map bad) }

/-! ### Trackers -/

/-- A tracker. -/
def Block.tracker (k : Block) (b t : Nat) : Tracker := look {} k.xfr.trk (b * 1024 + t)

/-- Replace a tracker. -/
def Block.setTracker (k : Block) (b t : Nat) (v : Tracker) : Block :=
  { k with xfr.trk := put {} k.xfr.trk (b * 1024 + t) v }

/-- Change a tracker. -/
def Block.mapTracker (k : Block) (b t : Nat) (f : Tracker → Tracker) : Block := k.setTracker b t (f (k.tracker b t))

/-- An operation starts on a tracker: it comes after all those started before. -/
def Block.openTracker (k : Block) (b t : Nat) (v : Tracker) : Block :=
  { k with xfr.starts := k.xfr.starts + 1 }.setTracker b t { v with serial := k.xfr.starts }

/-- The least IDLE pool tracker (R205, R225). -/
def Block.freePool (k : Block) (b : Nat) : Option Nat :=
  ((List.range 128).map (· + 896)).find? fun t => (k.tracker b t).st == .idle

/-- The binding of a receive tracker (R235). -/
def Block.binding (k : Block) (b t : Nat) : Word := if t < 512 then k.reg .TRK_BIND b [t] else 0

/-- The Local Port bridge of the brick is OPEN (R495): LPSTATE. -/
def Block.lpOpen (k : Block) (b : Nat) : Bool := k.rf .RST_BRK 7 6 b == 0

/-- A request of the identifier stalls (R551): it waits for a pool tracker (R225) or a channel (R366). -/
def LpDue.stalls : LpDue → Bool
  | .waits _ .held => true
  | .waits _ (.send _) => true
  | _ => false

/-- The target channel takes a request of the identifier: the bridge is OPEN (R495), and no earlier request of the
identifier stalls (R551). -/
def Block.lpServes (k : Block) (d : Build) (b rid : Nat) : Bool :=
  lpBuilt d b && k.lpOpen b && !(look [] k.xfr.lpDue (b * 64 + rid % 64)).any LpDue.stalls

/-! ### Splitting (R83) -/

/-- Bytes of the next packet of a stream at an address: 8,256, to the end of the 2 MiB page, or the rest. -/
def pieceLen (addr rest : Nat) : Nat := min (min 8256 rest) (2 ^ 21 - addr % 2 ^ 21)

/-- The packets of a stream: (offset, bytes) in PSEQ order; none when more than `fuel` are needed. -/
def splitFrom (fuel addr off rest : Nat) : Option (List (Nat × Nat)) :=
  if rest = 0 then some []
  else match fuel with
    | 0 => none
    | n + 1 =>
      let l := pieceLen (addr + off) rest
      (splitFrom n addr (off + l) (rest - l)).map fun r => (off, l) :: r

/-- The split of R83 of `len` bytes at `addr`, at most 65,535 packets (R206). -/
def splitStream (addr len : Nat) : Option (List (Nat × Nat)) := splitFrom 65535 addr 0 len

/-- The address by which a stream is split: the lake address, or DA of an MCAST. -/
def splitAddr (op : XferOp) (c : Desc) : Nat := if op = .rload ∨ op = .lpLoad then c.sa else c.da

/-- A GATHER at work. -/
def Block.job (k : Block) (b t : Nat) : GatherJob := look {} k.spc.jobs (b * 1024 + t)

/-- Replace a GATHER's job. -/
def Block.setJob (k : Block) (b t : Nat) (j : GatherJob) : Block :=
  { k with spc.jobs := put {} k.spc.jobs (b * 1024 + t) j }

/-- The packets of a tracker's stream. -/
def Tracker.pieces (v : Tracker) : List (Nat × Nat) := (splitStream (splitAddr v.op v.desc) v.desc.len).getD []

/-! ### The packets of a source (R207, R208) -/

/-- Flags and numbers that every packet of a stream carries (R76, R190). -/
def Block.baseHeader (k : Block) (d : Build) (b t : Nat) (v : Tracker) (pseq : Nat) (resend : Bool) : Packet :=
  { src := coord d b 1, tracker := b * 1024 + t, pseq := pseq, pcount := v.pcount, epoch := k.net.epoch,
    resend := resend, last := pseq + 1 == v.pcount }

/-- Packet `pseq` of a tracker's stream, rereading its source memory (R208); none where no route entry lets it go
(R167). FLOW of a VC0 packet is ENTRY (log 14). -/
def Block.sourcePacket (k : Block) (e : Env) (b t : Nat) (v : Tracker) (pseq : Nat) (resend : Bool) : Option Packet :=
  let d := e.build
  let c := v.desc
  let (off, len) := v.pieces.getD pseq (0, 0)
  let h := k.baseHeader d b t v pseq resend
  match v.op with
  | .copy =>
    k.onEntry d b c.entry
      { h with
        vc := c.vc, op := opWrite, addr := c.da + off, flow := if c.vc = 0 then c.entry else 0,
        payload := memRead e.mem b (c.sa + off) len }
  | .mcast =>
    let i := (k.treeEntry b c.group).getD 0
    some { h with
      vc := c.vc, op := opMcast, mcast := true, rmode := 0, addr := (c.da + off) % 2 ^ 48, group := c.group,
      flow := if c.vc = 1 then fld (k.treeWord b i 1) 35 24 else 0, payload := memRead e.mem b (c.sa + off) len }
  | .rload =>
    some { h with
      vc := 4, op := opReadReq, rmode := 1, addr := c.sa + off, dst := mkCoord d.pod d.pkg d.die 0 0 3,
      payload := leBytes 4 len ++ leBytes 4 0 }
  | .lpLoad =>
    some { h with
      vc := 4, op := opReadReq, rmode := 1, addr := c.sa + off, dst := mkCoord d.pod d.pkg d.die 0 0 3,
      payload := leBytes 4 len ++ leBytes 4 0 }
  | .rstore =>
    some { h with
      vc := 3, op := opWrite, rmode := 1, addr := c.da + off, dst := mkCoord d.pod d.pkg d.die 0 0 3,
      payload := memRead e.mem b (c.sa + off) len }
  | .lpStore =>
    some { h with
      vc := 3, op := opWrite, rmode := 1, addr := c.da, dst := mkCoord d.pod d.pkg d.die 0 0 3, payload := v.data }
  | .signalR =>
    k.onEntry d b c.entry
      { h with vc := 4, op := opCounter, payload := leBytes 4 c.cnt ++ leBytes 4 c.len }
  | .storeC =>
    -- `data` is the source as the scan pass read it; a source that changed since gives undefined bytes (R334)
    let now := memRead e.mem b c.sa v.data.length
    let l := if now = v.data then bytesAt (storeBytes c.opx v.data) off len
      else (List.range len).map fun i => Config.freeByte (k.free + i)
    k.onEntry d b c.entry
      { h with vc := c.vc, op := opWrite, addr := c.da + off, flow := if c.vc = 0 then c.entry else 0, payload := l }
  | .dirreq =>
    -- `da` the lake address, `sa` the destination coordinate (R396)
    some { h with vc := 4, op := opDirReq, rmode := 1, dst := c.sa, addr := c.da % 2 ^ 57, payload := v.data }
  | .chunk =>
    -- `sa` the local address at the old home, `da` at the new home, `group` unused; MEMBER holds the new home (R399)
    some { h with
      vc := 3, op := opChunk, rmode := 1, dst := c.member, addr := (c.da + off) % 2 ^ 48
      payload := memRead e.mem b (c.sa + off) len }
  | .gather =>
    ((k.job b t).reqs[pseq]?).map fun r =>
      { h with
        vc := 4, op := opReadReq, rmode := 1, addr := r.1 % 2 ^ 57, dst := mkCoord d.pod d.pkg d.die 0 0 3
        src := coord d b 6, payload := leBytes 4 r.2.1 ++ leBytes 4 0 }
  | _ => none

/-- The data bytes of part `n` of a member's contribution: length (R312). -/
def Block.partLen (k : Block) (c : Desc) (n : Nat) : Nat :=
  min (k.contribSeg c.group) (c.len - n * k.contribSeg c.group)

/-- The packets of part `n` of a member's contribution (R309, R312); none where no route entry lets it go. -/
def Block.contribPackets (k : Block) (e : Env) (b t : Nat) (v : Tracker) (n : Nat) (resend : Bool) : Option (List Packet) :=
  let d := e.build
  let c := v.desc
  let i := (k.treeEntry b c.group).getD 0
  let w := k.treeWord b i 0
  let tr := trailerBytes 0xFFFFFFFF 0 0 (n + 1 == v.pcount) 1 0xFFFFFFFF
  let cuts := cutPart 600 (memRead e.mem b (c.sa + n * k.contribSeg c.group) (k.partLen c n) ++ tr)
  let seg := if k.groupStill c.group then 2 * n else n
  let ps := cuts.mapIdx fun j l =>
    ({ vc := c.vc, op := if k.groupRec c.group then opDispatch else opContrib, reduce := true, src := coord d b 1
       tracker := b * 1024 + t, pseq := j, pcount := cuts.length, last := j + 1 == cuts.length, epoch := k.net.epoch
       resend := resend, group := c.group, cseq := c.cseq, member := c.member, seg := seg % 2 ^ 16
       flow := if c.vc = 1 then fld w 34 23 else 0, payload := l } : Packet)
  if flag w 62 then some (ps.map fun p => { p with rmode := 0, route := 5, la := 5, dst := coord d b 2 })
  else ps.mapM fun p => k.onEntry d b (fld w 46 35) p

/-! ### The remote-memory class (R229) -/

/-- Operations of the remote-memory class. -/
def remoteOp (o : XferOp) : Bool := o == .rload || o == .rstore || o == .lpLoad || o == .lpStore

/-- The requester of a tracker (R229): an engine, or 64 + requester identifier. -/
def Tracker.requester (v : Tracker) : Nat := v.eng.getD (64 + v.rid)

/-- Lines touched by a packet: first and last. -/
def Tracker.lineSpan (v : Tracker) (pseq : Nat) : Nat × Nat :=
  let (off, len) := v.pieces.getD pseq (0, 0)
  let a := splitAddr v.op v.desc + off
  (a / 64, (a + max 1 len - 1) / 64)

/-- Two packets touch one 64-byte line. -/
def spansMeet (x y : Nat × Nat) : Bool := decide (x.1 ≤ y.2) && decide (y.1 ≤ x.2)

/-- PSEQs of a source that are issued and unanswered. -/
def Tracker.unanswered (v : Tracker) : List Nat :=
  (List.range v.issued).filter fun s => decide (v.b ≤ s) && !v.seen.contains s && !v.answered.contains s

/-- PSEQs of a source that still want an answer, issued or, unless the stream was stopped, yet to be issued. -/
def Tracker.wanting (v : Tracker) : List Nat :=
  (List.range (if v.stop then v.issued else v.pcount)).filter fun s =>
    decide (v.b ≤ s) && !v.seen.contains s && !v.answered.contains s

/-- An operation that the same requester started earlier has a packet unanswered on a line that packet `pseq` of tracker
`t` touches (R229). One that is not issued yet counts as well: operations on one line apply in the order of their
issue. A packet to be resent has no such operation before it, since it had none when it was first issued. -/
def Block.lineBusy (k : Block) (b t pseq : Nat) : Bool :=
  let v := k.tracker b t
  k.xfr.trk.any fun (key, w) =>
    decide (key / 1024 = b) && decide (key % 1024 ≠ t) && w.st == .source && remoteOp w.op &&
    w.requester == v.requester && decide (w.serial < v.serial) &&
    w.wanting.any fun s => spansMeet (v.lineSpan pseq) (w.lineSpan s)

/-! ### Staging the packets of a source -/

/-- Stage a source packet for its engine's subscriber, or for none where no engine sends it (LP operations, DIRREQ and CHUNK
packets, SIGNAL.R of a reducer stream: the model's choice, log 87); a coordinate-mode packet passes the entry point
(R173), and one that finds no exit completes its tracker by the ERROR it is answered with (R174). -/
def Block.stageSource (k : Block) (d : Build) (b : Nat) (sub : Option Nat) (p : Packet) : Block :=
  let p := { p with epoch := k.net.epoch }
  match k.enterDie d b 4 p with
  | (some q, k) => k.stageAt b 0 { sub := sub, pkt := sealPacket q }
  | (none, k) => (k.bump .BRK_RTERR 15 0 b).answerError d b p stNoRoute

/-- Segments of a group for which a member of the brick has a part unacknowledged (R252), its collective over or not. -/
def Block.reservedParts (k : Block) (b g : Nat) : List (Nat × Nat) :=
  (k.xfr.trk.flatMap fun x =>
    if x.1 / 1024 = b ∧ x.2.st ≠ .idle ∧ x.2.op = .contrib ∧ x.2.desc.group = g then
      x.2.unanswered.map fun n => (x.2.desc.cseq, n)
    else []).eraseDups

/-- A member may start part `n` (R252): on VC2 only against a reserved set. -/
def Block.mayStartPart (k : Block) (b : Nat) (v : Tracker) (n : Nat) : Bool :=
  let r := k.reservedParts b v.desc.group
  decide (v.desc.vc ≠ 2) || r.contains (v.desc.cseq, n) || decide (r.length < fld (k.descWord v.desc.group 0) 59 58 + 1)

/-- The service in which a transfer's packets travel (R142; VC0 and VC1 apart): its VC. -/
def Tracker.service (v : Tracker) : Nat :=
  match v.op with
  | .copy => v.desc.vc
  | .mcast => v.desc.vc
  | .contrib => v.desc.vc
  | .storeC => v.desc.vc
  | .rstore => 3
  | .lpStore => 3
  | _ => 4

/-- A staged packet of the stream that tracker `t` of a brick sends. -/
def ofStream (b t : Nat) (x : Staged) : Bool :=
  x.pkt.tracker == b * 1024 + t && !isResponse x.pkt && x.pkt.op != opMessage && x.pkt.op != opCredit && (!x.fixed || x.pkt.mcast)

/-- The subscriber of a source still holds a staged packet of its service (R159), or reads the data of one; a source without
subscriber has one packet staged at a time as well. -/
def Block.sourceStaged (k : Block) (b t : Nat) (v : Tracker) : Bool :=
  match v.eng with
  | some n => k.holdsStaged b n v.service || k.xfr.trk.any fun x =>
      x.1 / 1024 == b && x.2.reading.isSome && x.2.eng == some n && x.2.service == v.service
  | none => v.reading.isSome || (look [] k.net.stage (b * 2)).any (ofStream b t)

/-- No packet that a source has issued still stands at its injection point (R195). -/
def Block.allLeft (k : Block) (b t : Nat) : Bool :=
  (k.tracker b t).todo.isEmpty && !(look [] k.net.stage (b * 2)).any (ofStream b t)

/-- The unit of a stream that a packet of it belongs to: its PSEQ, or the part of a contribution. -/
def Block.unitOf (k : Block) (p : Packet) : Nat :=
  if p.reduce then (if k.groupStill p.group then p.seg / 2 else p.seg) else p.pseq

/-- A unit stands at the injection point, or waits to be staged: it has not left, or not left again. -/
def Block.toGo (k : Block) (b t n : Nat) : Bool :=
  (k.tracker b t).todo.any (fun x => x.unit == n) ||
  (look [] k.net.stage (b * 2)).any fun x => ofStream b t x && k.unitOf x.pkt == n

/-- A unit is held at the source for its window (R111, R226): no packet of it has left yet. -/
def Block.heldForWindow (k : Block) (b t n : Nat) : Bool :=
  (look [] k.net.stage (b * 2)).any fun x =>
    ofStream b t x && decide (x.pkt.vc < 2) && !x.pkt.resend && k.unitOf x.pkt == n && (!x.pkt.reduce || x.pkt.pseq == 0)

/-- How far a source may issue (R215); a GATHER whose turn has not come issues nothing (R347). -/
def Block.issueLimit (k : Block) (b t : Nat) (v : Tracker) : Nat :=
  if v.op = .mcast then
    let recent := v.nacked.filter fun x => k.within x.2 (k.rf .BRK_RTCTL 47 32 b)
    match recent.map Prod.fst with
    | [] => v.pcount
    | x :: r => min v.pcount (r.foldl min x + 256)
  else if v.op = .gather then (if (k.job b t).started then min (k.job b t).reqs.length (v.b + 256) else 0)
  else min v.pcount (v.b + 256)

/-! ### Completion rings (R221 to R223) -/

/-- A ring. -/
def Block.ringOf (k : Block) (b r : Nat) : Ring := look {} k.xfr.ring (b * 8 + r)

/-- Replace a ring. -/
def Block.setRing (k : Block) (b r : Nat) (v : Ring) : Block := { k with xfr.ring := put {} k.xfr.ring (b * 8 + r) v }

/-- Records a ring holds (R237). -/
def Block.ringSize (k : Block) (b r : Nat) : Nat := 2 ^ (k.rf .TRK_RBASE 59 56 b [r] + 6)

/-- Ring enabled. -/
def Block.ringOn (k : Block) (b r : Nat) : Bool := flag (k.reg .TRK_RBASE b [r]) 63

/-- Records used or on their way: PROD - CONS with the pending ones. -/
def Ring.used (v : Ring) : Nat := (v.prod + 2 ^ 32 - v.cons) % 2 ^ 32 + v.writing.length + v.batch.length

/-- A tracker leaves COMPLETING: its counter add, then LINGER (R219). -/
def Block.closeRecord (k : Block) (b : Nat) (x : Record) : Block :=
  let k := match x.add with
    | some (c, n) => k.counterAdd b c n
    | none => k
  k.mapTracker b x.trk fun v => { v with st := .linger }

/-- Records lost to a ring (R222, R556): each is counted in NORING and its tracker goes on. -/
def Block.loseRecords (k : Block) (b : Nat) (l : List Record) : Block :=
  l.foldl (fun k x => (k.bump .TRK_ERR 7 0 b).closeRecord b x) k

/-- Bytes of a record at a slot: PHASE in INFO (R220, R221). -/
def phased (x : Record) (slot size : Nat) : List Byte :=
  let info := (x.bytes.getD 2 0).toNat
  x.bytes.set 2 (BitVec.ofNat 8 (info + (1 - (slot / size) % 2)))

/-- Write the open batch of a ring, unless a batch is being written (R223). -/
def Block.flushRing (k : Block) (b r : Nat) : Block :=
  let v := k.ringOf b r
  if v.batch.isEmpty || !v.writing.isEmpty then k
  else
    let size := k.ringSize b r
    let base := k.rf .TRK_RBASE 47 7 b [r] * 128
    let runs := v.batch.mapIdx fun i x => (base + ((v.prod + i) % size) * 32, phased x (v.prod + i) size)
    (k.setRing b r { v with writing := v.batch, batch := [] }).memIssue b (.batch r) runs

/-- Place waiting records in a ring while it has room; a batch goes when its group of four slots is filled, or with one
record alone where COAL = 0 (R223). At most `fuel` records. -/
def Block.placeRecords (k : Block) (b r : Nat) : Nat → Block
  | 0 => k
  | n + 1 =>
    let v := k.ringOf b r
    match v.waiting with
    | [] => k
    | x :: rest =>
      if !(decide (v.used < k.ringSize b r)) then k
      else
        let slot := v.prod + v.writing.length + v.batch.length
        let alone := decide (k.rf .TRK_CTL 11 0 b = 0)
        if alone && !(v.writing.isEmpty && v.batch.isEmpty) then k
        else if !v.writing.isEmpty && decide (slot % 4 = 0) && !v.batch.isEmpty then k
        else
          let k := k.setRing b r { v with waiting := rest, batch := v.batch ++ [x] }
          let k := if slot % 4 = 3 ∨ alone then k.flushRing b r else k
          k.placeRecords b r n

/-- A completion record for a ring (R222). -/
def Block.addRecord (k : Block) (b r : Nat) (x : Record) : Block :=
  if k.ringOn b r then
    let v := k.ringOf b r
    (k.setRing b r { v with waiting := v.waiting ++ [x] }).placeRecords b r 1024
  else k.loseRecords b [x]

/-- The write of a batch is answered (R223, R554, R556): on success PROD passes it, the adds are applied, and a ring
that became full posts RING_FULL; on an error the records are lost, and the records gathered behind them take their slots
anew. The next records follow. -/
def Block.batchWritten (k : Block) (b r : Nat) (err : Bool) : Block :=
  let v := k.ringOf b r
  let k := k.setRing b r (if err then { v with writing := [], batch := [], waiting := v.batch ++ v.waiting }
    else { v with writing := [], prod := (v.prod + v.writing.length) % 2 ^ 32 })
  let k := if err then k.loseRecords b v.writing else v.writing.foldl (fun k x => k.closeRecord b x) k
  let w := k.ringOf b r
  let k := if !err && decide ((w.prod + 2 ^ 32 - w.cons) % 2 ^ 32 = k.ringSize b r) && !v.writing.isEmpty then
      k.postEvent b { type := 7, source := r, arg0 := w.prod }
    else k
  let k := if (w.batch.length + w.prod) % 4 = 0 ∨ k.rf .TRK_CTL 11 0 b = 0 then k.flushRing b r else k
  k.placeRecords b r 1024

/-! ### Completing (R218 to R220, R227, R463, R475) -/

/-- The bytes of a completion record but PHASE (R220). -/
def recordBytes (t : Nat) (v : Tracker) (src : Bool) (tag : Nat) : List Byte :=
  leBytes 1 v.status ++ leBytes 1 v.aflags ++ leBytes 1 (2 * b2n src) ++ leBytes 1 0 ++
  leBytes 4 (if v.aflags = 0 then 0xFFFFFFFF else v.firstIdx) ++ leBytes 2 t ++ leBytes 2 tag ++ leBytes 4 v.bytes ++
  leBytes 4 v.fenced ++ leBytes 4 0 ++ leBytes 8 v.gtime

/-- The record and counter add of a completing tracker (R219): at a destination from its binding (R211), at a source
from its descriptor; pool trackers have neither (R225). A brick whose cluster domain is not open writes no record
(R475). -/
def Block.reportTracker (k : Block) (b t : Nat) (atDest : Bool) : Block :=
  let v := k.tracker b t
  let w := k.binding b t
  let wants := if 896 ≤ t then false else if atDest then flag w 63 && flag w 62 else v.desc.record
  let ring := if atDest then fld w 61 59 else v.desc.ring
  let tag := if atDest then fld w 31 16 else v.desc.tag
  let add : Option (Nat × Nat) :=
    if 896 ≤ t then none
    else if atDest then (if flag w 63 ∧ fld w 47 32 ≠ 0 then some (fld w 55 48, fld w 47 32) else none)
    else if v.desc.cinc then some (v.desc.cnt, 1) else none
  let x : Record := { trk := t, bytes := recordBytes t v (!atDest) tag, add := add }
  if !wants then k.closeRecord b x
  else if !k.lpOpen b then k.loseRecords b [x]
  else k.addRecord b ring x

/-- The stream's path becomes suspect (R463, R481). -/
def Block.suspectPath (k : Block) (b : Nat) (v : Tracker) : Block :=
  let k := if flag (k.reg .BRK_SUSPECT b) 63 then k
    else
      let ent := v.op == .copy || v.op == .storeC || v.op == .signalR
      k.setReg .BRK_SUSPECT b [] (mkWord [(63, 1), (60, b2n (!ent)), (48, if ent then v.desc.entry else 0),
        (0, v.dst % 2 ^ 30)])
  k.faultLog 2 9 b 0

/-- What an LP operation's completion does at the target channel (R227): a load is answered; a store that failed posts
LP_FAIL and marks the next fence read. A bridge that is CLOSED or in RESYNC carries no answer (R495). -/
def Block.answerLp (k : Block) (b t : Nat) (v : Tracker) : Block :=
  if decide (1 < k.rf .RST_BRK 7 6 b) then k else
  match v.op with
  | .lpLoad =>
    let ok := v.status == stOk
    let k := k.settleLp b v.rid (.load t) (if ok then stOk else v.status) (if ok then v.data else List.replicate v.desc.len 0)
    if ok || look 0 k.xfr.lpFail (b * 64 + v.rid) ≠ 0 then k
    else { k with xfr.lpFail := put 0 k.xfr.lpFail (b * 64 + v.rid) v.status }
  | .lpStore =>
    if v.status = stOk then k
    else
      let k := k.postEvent b { type := 9, status := v.status, source := v.rid, arg1 := v.desc.da }
      if look 0 k.xfr.lpFail (b * 64 + v.rid) ≠ 0 then k
      else { k with xfr.lpFail := put 0 k.xfr.lpFail (b * 64 + v.rid) v.status }
  | _ => k

/-- An ERROR stops the stream (R217): a unit whose first packet has not been staged is not issued. -/
def Tracker.halt (v : Tracker) : Tracker :=
  match v.todo.find? fun x => !x.again && x.part == 0 with
  | none => { v with stop := true }
  | some x =>
    { v with
      stop := true, issued := v.issued - 1, todo := v.todo.filter fun y => y.again || y.unit != x.unit
      reading := if v.todo.head? = some x then none else v.reading }

/-- A tracker completes (R219): one status by R218, for a member with ARITH where a trailer carried flags (R315), COMPLETING, the suspect path of CRC_RESEND_EXHAUSTED, the answer of
an LP operation, then record, add and LINGER. -/
def Block.completeTracker (k : Block) (b t : Nat) (status : Nat) : Block :=
  let v := k.tracker b t
  let atDest := v.st == .dest || (v.st == .collect && v.op == .reducerPart)
  let arith := if v.op = .contrib ∧ v.aflags ≠ 0 then stArith else stOk
  let st := worse (worse status v.status) arith
  let v := if v.op = .contrib then v.halt else v
  let v := { v with st := .completing, status := st, gtime := k.gtime, todo := [], reading := none, isDest := atDest }
  let k := k.setTracker b t v
  let k := if st = stCrcResend then k.suspectPath b v else k
  let k := if atDest then k else k.answerLp b t v
  k.reportTracker b t atDest

/-! ### Source side: issue, resend, answers (R208, R215, R217) -/

/-- The packets of unit `n` of a stream (a packet, or a part of a contribution). -/
def Block.unitPackets (k : Block) (e : Env) (b t : Nat) (v : Tracker) (n : Nat) (resend : Bool) : Option (List Packet) :=
  if v.op = .contrib then k.contribPackets e b t v n resend else (k.sourcePacket e b t v n resend).map fun p => [p]

/-- The operation rereads cluster memory for its packets (R208). -/
def readsSource (o : XferOp) : Bool := o == .chunk || o == .copy || o == .mcast || o == .contrib || o == .storeC || o == .rstore

/-- The tracker serves a stream of its own brick, at work. -/
def Tracker.sourceAtWork (v : Tracker) : Bool := v.st == .source || (v.st == .collect && v.op == .contrib)

/-- The tracker may still issue new units. -/
def Tracker.issues (v : Tracker) : Bool := v.sourceAtWork && !v.stop

/-- A started transfer holds back later ones of its engine and service (R208): it has packets still to issue, a STORE.C
before its scan pass is over, a GATHER until the last request of its merge phase has been issued or the phase is
abandoned. -/
def Block.unissued (k : Block) (b t : Nat) : Bool :=
  let v := k.tracker b t
  let j := k.job b t
  v.issues &&
  (v.todo.any (fun x => !x.again) ||
   (if v.op = .gather then
      !(j.started && (j.mergeOver || j.phase == .output || (j.phase == .values && decide (v.issued = v.pcount))))
    else decide (v.issued < v.pcount) || decide (v.pcount = 0)))

/-- What a source has to stage is still wanted: of a stream stopped by an ERROR nothing that was not sent before (R217), and
of what is sent again only units not answered yet. -/
def Tracker.stillWanted (v : Tracker) (x : ToSend) : Bool :=
  if x.again then decide (v.b ≤ x.unit) && !v.seen.contains x.unit && !v.answered.contains x.unit else !v.stop

/-- Stage one packet of a unit (R94, R208): it takes its source memory as it now stands, and carries the route epoch of
now. -/
def Block.stagePart (k : Block) (e : Env) (b t : Nat) (x : ToSend) : Block :=
  let v := k.tracker b t
  match k.unitPackets e b t v x.unit x.again with
  | none => k.completeTracker b t stNoRoute
  | some ps => match ps[x.part]? with
    | none => k
    | some p =>
      let sent := (x.unit, k.net.epoch) :: v.epochs.filter fun (y : Nat × Bool) => y.1 != x.unit
      let k := k.setTracker b t { v with dst := p.dst, epochs := if x.part = 0 then sent else v.epochs }
      let k := if v.op = .storeC then { k with free := k.free + 8256 } else k
      k.stageSource e.build b v.eng p

/-- The packets of a unit, as a source is to stage them. -/
def toStage (n parts : Nat) (again : Bool) : List ToSend :=
  (List.range parts).map fun i => { unit := n, part := i, again := again }

/-- The source bytes of a packet that a tracker has to stage: (local address, bytes). A packet of a STORE.C asks for the unit
at SA alone, in place of the blocks that its bytes come from (the model's choice, log 11). -/
def Block.readSpan (k : Block) (v : Tracker) (x : ToSend) : Nat × Nat :=
  let c := v.desc
  match v.op with
  | .contrib => (c.sa + x.unit * k.contribSeg c.group + x.part * 8256, min 8256 (k.partLen c x.unit - x.part * 8256))
  | .storeC => (c.sa, min 128 v.data.length)
  | _ =>
    let (off, len) := v.pieces.getD x.unit (0, 0)
    (c.sa + off, len)

/-- LPSTATE (R495). -/
def Block.lpState (k : Block) (b : Nat) : Nat := k.rf .RST_BRK 7 6 b

/-- The source data of the packet that a tracker stages next are read (R208, R553). Nothing is reread for a resend, and
nothing is read once the bridge is CLOSED, where the cluster domain is not open (R475, R496). -/
def Block.readSource (k : Block) (b t : Nat) (x : ToSend) : Block :=
  let v := k.tracker b t
  if (x.again && !k.lpOpen b) || decide (2 ≤ k.lpState b) then k.completeTracker b t stDomainOff
  else
    let s := k.readSpan v x
    (k.setTracker b t { v with reading := some k.xfr.starts }).memFetch b (.source t) (s.1 % 2 ^ 48) s.2

/-- The packet has source data to read: the last packet of a contribution may hold its trailer alone. -/
def Block.wantsRead (k : Block) (v : Tracker) (x : ToSend) : Bool := readsSource v.op && decide (0 < (k.readSpan v x).2)

/-- Stage the next packets of a source, in order: what it has begun or sends again, then new units up to the limits of
R215, R229 and R252. One packet of a subscriber stands staged, or reads its data, in a service (R159). -/
def Block.issueFrom (k : Block) (e : Env) (b t : Nat) : Nat → Block
  | 0 => k
  | n + 1 =>
    let v := k.tracker b t
    if v.sourceAtWork = false ∨ k.sourceStaged b t v = true then k
    else match v.todo with
      | x :: r =>
        if !v.stillWanted x then (k.setTracker b t { v with todo := r }).issueFrom e b t n
        else if k.wantsRead v x then k.readSource b t x
        else ((k.setTracker b t { v with todo := r }).stagePart e b t x).issueFrom e b t n
      | [] =>
        if v.stop = true ∨ k.issueLimit b t v ≤ v.issued ∨ (v.op = .contrib ∧ k.mayStartPart b v v.issued = false) ∨
            (remoteOp v.op && k.lineBusy b t v.issued) = true then k
        else match k.unitPackets e b t v v.issued false with
          | none => k.completeTracker b t stNoRoute
          | some ps =>
            (k.setTracker b t { v with
              issued := v.issued + 1, todo := toStage v.issued ps.length false }).issueFrom e b t n

/-- The source data of the packet that a tracker stages next are there. -/
def Block.sourceArrived (k : Block) (e : Env) (b t : Nat) : Block :=
  let v := k.tracker b t
  match v.todo with
  | x :: r =>
    let k := k.setTracker b t { v with todo := r, reading := none }
    if v.stillWanted x then k.stagePart e b t x else k
  | [] => k.setTracker b t { v with reading := none }

/-- Issue for the started transfers of an engine in start order, one service behind the other (R208): `held` are the
services whose earlier transfer still has packets to issue. -/
def Block.issueOrder (k : Block) (e : Env) (b : Nat) : List Nat → List Nat → Block
  | [], _ => k
  | t :: r, held =>
    let v := k.tracker b t
    if held.contains v.service || !k.unissued b t then k.issueOrder e b r held
    else
      let k := k.issueFrom e b t 131072
      let held := if k.unissued b t then v.service :: held else held
      k.issueOrder e b r held

/-- A tracker put where its operation started among others. -/
def insertStarted (k : Block) (b t : Nat) : List Nat → List Nat
  | [] => [t]
  | x :: r => if (k.tracker b x).serial ≤ (k.tracker b t).serial then x :: insertStarted k b t r else t :: x :: r

/-- The sources of a brick that `sel` names and that have something to stage, in the order in which they started. -/
def Block.sourcesToGo (k : Block) (b : Nat) (sel : Tracker → Bool) : List Nat :=
  (k.xfr.trk.filter fun (x : Nat × Tracker) => x.1 / 1024 == b && x.2.sourceAtWork && sel x.2).foldl
    (fun l x => insertStarted k b (x.1 % 1024) l) []

/-- An engine goes on where its staged packet has left (R159, R208): what it has begun or sends again, then its transfers
in order. -/
def Block.pumpEngine (k : Block) (e : Env) (b n : Nat) : Block :=
  let k := (k.sourcesToGo b fun v => v.eng == some n && !v.todo.isEmpty).foldl (fun k t => k.issueFrom e b t 131072) k
  let l := look [] k.xfr.order (b * 16 + n)
  let k := k.issueOrder e b l []
  { k with xfr.order := put [] k.xfr.order (b * 16 + n) (l.filter fun t => k.unissued b t) }

/-- Issue what may go: for a transfer of an engine, in the engine's order. -/
def Block.issue (k : Block) (e : Env) (b t : Nat) : Block :=
  match (k.tracker b t).eng with
  | none => k.issueFrom e b t 131072
  | some n => k.pumpEngine e b n

/-- Every source of a brick goes on where it can: the engines', then those without subscriber. -/
def Block.pumpEngines (k : Block) (e : Env) (b : Nat) : Block :=
  let k := (List.range 16).foldl (fun k n => k.pumpEngine e b n) k
  (k.sourcesToGo b fun v => v.eng.isNone && (!v.todo.isEmpty || decide (v.issued < v.pcount))).foldl
    (fun k t => k.issueFrom e b t 131072) k

/-- Times a packet was resent. -/
def Tracker.resendsOf (v : Tracker) (pseq : Nat) : Nat :=
  ((v.resends.find? fun x => x.1 == pseq).map Prod.snd).getD 0

/-- One issued packet is to be resent (R215), at most four times: where a fifth resend would be needed of a packet that was
NACKed, the tracker completes. One that has not left yet needs none. A source whose cluster domain is not open cannot
reread (R475). -/
def Block.resendPacket (k : Block) (e : Env) (b t pseq : Nat) : Block :=
  let v := k.tracker b t
  let n := v.resendsOf pseq
  if k.toGo b t pseq then k
  else if 4 ≤ n then (if v.nacked.any fun x => x.1 == pseq then k.completeTracker b t stCrcResend else k)
  else if !k.lpOpen b && readsSource v.op then k.completeTracker b t stDomainOff
  else match k.unitPackets e b t v pseq true with
    | none => k.completeTracker b t stNoRoute
    | some ps => k.setTracker b t { v with
        resent := satAdd 0xFFFF v.resent 1
        resends := (v.resends.filter fun x => x.1 != pseq) ++ [(pseq, n + 1)]
        todo := v.todo ++ toStage pseq ps.length true }

/-- Lowest number at or above `b` not in the list. -/
def lowestFree (b : Nat) (l : List Nat) : Nat → Nat
  | 0 => b
  | n + 1 => if l.contains b then lowestFree (b + 1) l n else b

/-- Mark PSEQs acknowledged at a source, with the payload bytes they carried. -/
def Tracker.acknowledge (v : Tracker) (l : List Nat) : Tracker :=
  let new := l.filter fun s => decide (v.b ≤ s) && decide (s < v.issued) && !v.seen.contains s
  let seen := v.seen ++ new
  let b := lowestFree v.b seen (seen.length + 1)
  let ps := v.pieces
  { v with seen := seen.filter (fun s => decide (b ≤ s)), b := b, done := v.done + new.length,
           bytes := v.bytes + (new.map fun s => (ps.getD s (0, 0)).2).sum }

/-- PSEQs that an ACK body names (R213), among the `n` first. -/
def ackList (body : List Byte) (n : Nat) : List Nat :=
  let base := natAt body 0 4
  let map := natAt body 4 32
  let cum := (natAt body 36 1).testBit 0
  (List.range n).filter fun s =>
    (cum && decide (s < base)) || (decide (base ≤ s) && decide (s < base + 256) && map.testBit (s - base))

/-- The stream of a source is answered in full (R217, R219). -/
def Tracker.finished (v : Tracker) : Bool :=
  if v.stop then v.unanswered.isEmpty else decide (0 < v.pcount) && decide (v.issued = v.pcount) && decide (v.b = v.pcount)

/-- After an answer: complete, or issue more. -/
def Block.advanceSource (k : Block) (e : Env) (b t : Nat) : Block :=
  let v := k.tracker b t
  if v.st = .source ∧ v.op ≠ .mcast ∧ v.op ≠ .gather ∧ v.finished = true then
    (k.completeTracker b t (if v.moved && !v.stop then stMoved else stOk)).issue e b t
  else k.issue e b t

/-! ### Destination side (R211, R212) -/

/-- What R211 decides on a WRITE or MCAST packet. -/
inductive Arrival where
  | untracked | clash | duplicate | window | accept
  deriving DecidableEq, Repr

/-- The decision of R211. -/
def Block.arrival (k : Block) (b : Nat) (p : Packet) : Arrival :=
  let t := p.tracker % 1024
  let v := k.tracker b t
  let bound := flag (k.binding b t) 63
  let counting := v.st == .dest || v.st == .completing || v.st == .linger
  if 512 ≤ t ∨ (bound = false ∧ counting = false) then .untracked
  else if v.st = .source ∨ v.st = .collect then .clash
  else if v.st = .idle then (if 256 ≤ p.pseq then .window else .accept)
  else if (p.src, p.pcount) ≠ (v.owner, v.pcount) then .clash
  else if v.st ≠ .dest ∨ p.pseq < v.b ∨ v.seen.contains p.pseq = true then .duplicate
  else if v.b + 256 ≤ p.pseq then .window
  else .accept

/-- A bound IDLE tracker begins to count the stream of a packet (R211); its scope by R226. -/
def Block.beginDest (k : Block) (d : Build) (b : Nat) (p : Packet) : Block :=
  let t := p.tracker % 1024
  if (k.tracker b t).st = .idle then
    k.setTracker b t { st := .dest, isDest := true, op := if p.op = opMcast then .mcast else .copy, owner := p.src,
                       pcount := p.pcount, sys := p.op == opMcast || !inPackage d p.src, hdr := { p with payload := [] } }
  else k

/-- A clash (R211): counted, with a CLASH event, and no response. -/
def Block.clash (k : Block) (b : Nat) (p : Packet) : Block :=
  (k.bump .TRK_ERR 63 48 b).postEvent b { type := 0xB, source := p.tracker % 1024, arg0 := p.src, arg1 := p.pseq }

/-- MAP of the PSEQs accepted above `b`. -/
def seenMap (b : Nat) (seen : List Nat) : Nat := (seen.map fun s => if b ≤ s then 2 ^ (s - b) else 0).sum

/-- The place of an ACK that a tracked stream owes and that has not left its NI (R154): one to the same tracker. -/
def Block.ackStands (k : Block) (b : Nat) (r : Packet) : Option Nat :=
  (look [] k.net.stage (b * 2)).findIdx? fun x =>
    x.pkt.op == opAck && decide (x.pkt.group < 0xFC0) && x.pkt.dst == r.dst && x.pkt.tracker == r.tracker &&
    x.pkt.src == r.src && (natAt x.pkt.payload 36 1).testBit 0

/-- The ACK that answers packet `q` of a tracked stream (R154, R213): one is owed at a time, and what it says is what the
tracker knows when it leaves. -/
def Block.ackTracked (k : Block) (d : Build) (b : Nat) (q : Packet) (base map : Nat) : Block :=
  let r := { k.response d b 1 opAck 5 0 q with payload := ackBody base map true }
  match k.ackStands b r with
  | some i => k.renewAck b i r
  | none => k.sendDirect d b r

/-- The ACK of a tracked destination (R212), in answer to a packet with header `h`: BASE b, CUM, MAP of what lies above.
MCAST is never acknowledged. -/
def Block.ackDest (k : Block) (d : Build) (b t : Nat) (h : Packet) : Block :=
  let v := k.tracker b t
  let k := k.setTracker b t { v with ackDue := 0 }
  if v.op = .mcast then k else k.ackTracked d b { h with src := v.owner } v.b (seenMap v.b v.seen)

/-- The answer to a duplicate (R212): the current ACK at most once per ACKT in DEST, the final ACK otherwise. The final ACK
names BASE = PCOUNT, also where the tracker completed without its last packets (the model's choice, log 88). -/
def Block.ackDuplicate (k : Block) (d : Build) (b : Nat) (p : Packet) : Block :=
  let t := p.tracker % 1024
  let v := k.tracker b t
  if p.op = opMcast then k
  else if v.st = .dest then
    let units := k.rf .TRK_CTL 23 16 b * 6553600
    match v.dupAck with
    | some g => if k.gtime < g + units then k else (k.setTracker b t { v with dupAck := some k.gtime }).ackDest d b t p
    | none => (k.setTracker b t { v with dupAck := some k.gtime }).ackDest d b t p
  else k.ackTracked d b p v.pcount 0

/-- A tracked packet is committed (R211): counted once; ACK after 64 or at the count (R212); completion at the count. -/
def Block.countArrival (k : Block) (d : Build) (b : Nat) (p : Packet) : Block :=
  let t := p.tracker % 1024
  let v := k.tracker b t
  if v.st ≠ .dest ∨ (p.src, p.pcount) ≠ (v.owner, v.pcount) ∨ p.pseq < v.b ∨ v.seen.contains p.pseq = true then k
  else
    let seen := v.seen ++ [p.pseq]
    let nb := lowestFree v.b seen (seen.length + 1)
    let v := { v with seen := seen.filter (fun s => decide (nb ≤ s)), b := nb, done := v.done + 1,
                      bytes := v.bytes + p.plen, ackDue := v.ackDue + 1, hdr := { p with payload := [] } }
    let k := k.setTracker b t v
    let all := decide (v.done = v.pcount)
    let owed := (k.ackStands b (k.response d b 1 opAck 5 0 v.hdr)).isSome
    let k := if all || decide (64 ≤ v.ackDue) || owed then k.ackDest d b t v.hdr else k
    if all then k.completeTracker b t stOk else k

end Sys2Proof.Machine
end

