-- ==== Sys2Proof/Machine/Streams.lean ====
section
/-!
DEFINITION. Program memories and the parts of a stream that both classes share: fetched words, loop counts (R35, R36),
and the answer to an access through a port (R549, R559).
-/

namespace Sys2Proof.Machine

/-- Words of a stream's program memory (R31). -/
def progSize (u : Nat) : Nat := if isReducer u then 1024 else 4096

/-- The word that a fetch at address `a` of the memory of stream `u` finds: an erased or absent word reads zero, and one
written in this FCLK as it was (R58). -/
def Block.progWord (k : Block) (b u a : Nat) : Word :=
  if progSize u ≤ a then 0
  else if isReducer u then look 0 k.prog.rdcMem (b * 1024 + a)
  else
    let x := look ((0 : Nat), (0 : Word)) k.prog.xferOld (b * 4096 + a)
    if x.1 = k.clk.now + 1 then x.2 else look 0 k.prog.xferMem (b * 4096 + a)

/-- A word of a brick's transfer memory is written; a fetch in this FCLK still finds the old one (R58). -/
def Block.writeXferWord (k : Block) (b a : Nat) (v : Word) : Block :=
  { k with prog.xferOld := put ((0 : Nat), (0 : Word)) k.prog.xferOld (b * 4096 + a) (k.clk.now + 1, k.progWord b 0 a)
           prog.xferMem := put 0 k.prog.xferMem (b * 4096 + a) v }

/-- The instruction at which a stream stands: the one it has fetched, or the next to be. -/
def Block.curWord (k : Block) (b u : Nat) : Word := (k.stream b u).word.getD (k.progWord b u (k.stream b u).pc)

/-- A stream stays at its instruction in a state, held by `h`: a later write of the word does not reach it (R58). -/
def Block.stay (k : Block) (b u : Nat) (st : StreamState) (h : Hold) : Block :=
  let w := k.curWord b u
  k.mapStream b u fun v => { v with st := st, hold := h, word := some w }

/-- A stream as it stands in a state in which it fetches nothing; its latest WAIT shows still (R50). -/
def Stream.atRest (v : Stream) (st : StreamState) : Stream := { v with st := st, loops := [], hold := .none, word := none }

/-- WCNT and WTARGET (R50): of the latest WAIT; 0 and the segment while the stream waits in SEGIN (R253). -/
def Stream.waitsFor (v : Stream) : Nat × Nat :=
  match v.hold with
  | .segin n => (0, n)
  | _ => (v.wcnt, v.wtarget)

/-- Stream `u` can run: a slot's stream only while its brick's compute domain is ON (R498). -/
def Block.streamOn (k : Block) (b u : Nat) : Bool := !isReducer u || k.computeOn b

/-- The control operation that a word spells in the class of stream `u`. -/
def ctlOf (u : Nat) (w : Word) : Option CtlOp :=
  if isReducer u then
    match decodeRdc w.toNat with
    | some (.ctl o) => some o
    | _ => none
  else match decodeXfer w.toNat with
    | some (.ctl o) => some o
    | _ => none

/-- The word is legal in the class of stream `u` (R32). -/
def wordLegal (u : Nat) (w : Word) : Bool :=
  if isReducer u then (decodeRdc w.toNat).isSome else (decodeXfer w.toNat).isSome

/-- Target of a LOOP at address `a`, if one stands there. -/
def Block.loopTarget (k : Block) (b u a : Nat) : Option Nat :=
  match ctlOf u (k.progWord b u a) with
  | some (.loop _ t) => some t
  | _ => none

/-- Branches taken by a loop since it was entered. -/
def Stream.taken (v : Stream) (a : Nat) : Nat := ((v.loops.find? fun x => x.1 == a).map Prod.snd).getD 0

/-- The iteration index of R36 at address `pc`: the branches taken by the innermost LOOP whose body contains it. -/
def Block.iterIndex (k : Block) (b u pc : Nat) : Nat :=
  let loopHere (a : Nat) : Bool :=
    match k.loopTarget b u a with
    | some t => decide (t ≤ pc)
    | none => false
  match ((List.range (progSize u - pc)).map (· + pc)).find? loopHere with
  | some a => (k.stream b u).taken a
  | none => 0

/-- Loop counts that stay when a stream moves to address `a`: those of the loops whose body contains it. -/
def Block.keepLoops (k : Block) (b u a : Nat) (l : List (Nat × Nat)) : List (Nat × Nat) :=
  l.filter fun x => decide (a ≤ x.1) && (match k.loopTarget b u x.1 with
    | some t => decide (t ≤ a)
    | none => false)

/-- An instruction retires: its EVT event, and the next address. -/
def Block.retire (k : Block) (b u : Nat) (evt : Bool) : Block :=
  let a := (k.stream b u).pc
  (k.evtEvent b u a evt).mapStream b u fun v => { v with st := .running, pc := a + 1, hold := .none, word := none }

/-- The port can bring an access: the Management Port while its clock runs and its handshake is over (R490, R497), a Local
Port while it takes requests of the identifier (R495, R551). -/
def Block.viaOpen (k : Block) (d : Build) (b : Nat) : Via → Bool
  | .mp => k.crosses .managementPort
  | .lp rid _ => k.lpServes d b rid

/-- Answer a read at the port it came by. -/
def Block.answerRead (k : Block) (b : Nat) (v : Via) (w : Word) : Block :=
  match v with
  | .mp => { k with out := k.out ++ [.mp w false] }
  | .lp rid tag => k.respond b rid tag stOk (leBytes 8 w.toNat)

/-- Answer a write at the port it came by. -/
def Block.answerWrite (k : Block) (b : Nat) (v : Via) : Block :=
  match v with
  | .mp => { k with out := k.out ++ [.mp 0 false] }
  | .lp rid tag => k.respond b rid tag stOk []

/-- Answer a Local Port request with a status and no data. -/
def Block.answerStatus (k : Block) (b rid tag status : Nat) : Block := k.respond b rid tag status []

/-- A target-channel request that is not legal (R550, R577): PROGRAM_FAULT, and no effect. -/
def Block.badRequest (k : Block) (b rid tag : Nat) : Block :=
  (k.bump .NI_LPERR 31 16 b).answerStatus b rid tag stProgramFault

/-- The answer to an access of brick `b` that names no register: zero data with an error at the Management Port (R560), a
request that is not legal at a Local Port (R550). It has no other effect. -/
def Block.answerNone (k : Block) (d : Build) (b : Nat) (via : Via) : Block :=
  match via with
  | .mp => { k with out := k.out ++ [.mp 0 true] }
  | .lp rid tag => if brickOk d b && k.viaOpen d b via then k.badRequest b rid tag else k

/-- The Management Port would bring the access, and nothing crosses there (R490, R497). -/
def Block.mpShut (k : Block) : Via → Bool
  | .mp => !k.crosses .managementPort
  | .lp _ _ => false

/-- The outcome of an access to a register of brick `b`: as `State.run` where the access names one (`ok`), and the answer
of an access that names no register elsewhere; nothing comes by a Management Port that does not cross (R490, R497). -/
def State.access (s : State) (ok : Bool) (b : Nat) (via : Via) (f : Block → Block) : Host.Outcome State Fault Refusal :=
  s.run true fun k => if k.mpShut via then k else if ok then f k else k.answerNone s.env.build b via

end Sys2Proof.Machine
end

