-- ==== Sys2Proof/Machine/Reducer.lean ====
section
/-!
DEFINITION. The reducer's slots at work: slot words, buffer sets, filing of segment parts (R249), starting and ending of
a collective (R245), outgoing parts with their acknowledgement (R251 to R253), trailers (R248, R264) and fault segments
(R265 to R269, R320, R321).
-/

namespace Sys2Proof.Machine

/-! ### Slot words and partitions (R271, R273) -/

/-- The fields of a slot word. -/
structure SlotWord where
  v : Bool
  still : Bool
  recs : Bool
  root : Bool
  nch : Nat
  depth : Nat
  segk : Nat
  segp : Nat
  scrp : Nat
  g : Nat
  group : Nat
  entry : Nat
  recsz : Nat
  deriving DecidableEq, Repr

/-- A word in RDC_SLOT layout. -/
def slotFields (w : Word) : SlotWord :=
  { v := flag w 63, still := flag w 62, recs := flag w 61, root := flag w 60, nch := fld w 59 57, depth := fld w 56 55,
    segk := fld w 54 52, segp := fld w 51 47, scrp := fld w 46 42, g := fld w 41 36, group := fld w 35 24,
    entry := fld w 21 12, recsz := fld w 9 0 }

/-- Slot word of slot `s`. -/
def Block.slotWord (k : Block) (b s : Nat) : SlotWord := slotFields (k.reg .RDC_SLOT b [s])

/-- SEGSIZE (R242). -/
def SlotWord.segSize (w : SlotWord) : Nat := 4096 * 2 ^ w.segk

/-- Bytes of a record. -/
def SlotWord.recBytes (w : SlotWord) : Nat := w.recsz * 16

/-- E, the elements of a full segment (R246). -/
def SlotWord.elems (w : SlotWord) : Nat :=
  if w.still then w.segSize / 8 else if w.recs then w.segSize / w.recBytes else w.segSize / 4

/-- The valid slot of a group at a brick (R243). -/
def Block.slotOfGroup (k : Block) (b g : Nat) : Option Nat :=
  findBelow 64 fun s => (k.slotWord b s).v && (k.slotWord b s).group == g

/-- Blocks of a partition word: (base, size). -/
def partRange (w : Word) : Nat × Nat := (fld w 7 0, fld w 16 8)

/-- Two partition words are valid and share a block. -/
def partsOverlap (v w : Word) : Bool :=
  flag v 63 && flag w 63 && decide ((partRange v).1 < (partRange w).1 + (partRange w).2) &&
  decide ((partRange w).1 < (partRange v).1 + (partRange v).2)

/-- The SEG partition of a slot now overlaps another valid partition (R268). -/
def Block.slotOverlaps (k : Block) (b s : Nat) : Bool :=
  let p := (k.slotWord b s).segp
  (List.range 32).any fun i => i != p && partsOverlap (k.reg .RDC_PART b [p]) (k.reg .RDC_PART b [i])

/-- Bytes of the DTAB partition of a brick (R240). -/
def Block.dtabBytes (k : Block) (b : Nat) : Nat :=
  match findBelow 32 fun i => flag (k.reg .RDC_PART b [i]) 63 && fld (k.reg .RDC_PART b [i]) 62 61 == 2 with
  | some i => (partRange (k.reg .RDC_PART b [i])).2 * 1024
  | none => 0

/-- Child slot of input port `p` by the brick's tree-node entry of a group (R244, R307). -/
def Block.childSlot (k : Block) (b g p : Nat) : Option Nat :=
  match k.treeEntry b g with
  | some i =>
    let c := fld (k.treeWord b i 1) (3 * p + 2) (3 * p)
    if c = 7 then none else some c
  | none => none

/-- Input port of a child slot. -/
def Block.childPort (k : Block) (b g c : Nat) : Option Nat := findBelow 8 fun p => k.childSlot b g p == some c

/-! ### Slots and sets -/

/-- A slot at work. -/
def Block.slot (k : Block) (b s : Nat) : Slot := look {} k.rdc.slots (b * 64 + s)

/-- Replace a slot. -/
def Block.setSlot (k : Block) (b s : Nat) (v : Slot) : Block :=
  { k with rdc.slots := put {} k.rdc.slots (b * 64 + s) v }

/-- Change a slot. -/
def Block.mapSlot (k : Block) (b s : Nat) (f : Slot → Slot) : Block := k.setSlot b s (f (k.slot b s))

/-- A buffer set of a slot. -/
def Slot.set (v : Slot) (i : Nat) : BufSet := look {} v.sets i

/-- Replace a set. -/
def Slot.setSet (v : Slot) (i : Nat) (x : BufSet) : Slot := { v with sets := put {} v.sets i x }

/-- The set with a tag. -/
def Slot.tagged (v : Slot) (cseq seg : Nat) : Option Nat :=
  (v.sets.find? fun e => e.2.tag == some (cseq, seg)).map Prod.fst

/-- The sets of a slot that are tagged with a sequence. -/
def Slot.ofSeq (v : Slot) (cseq : Nat) : Store BufSet := v.sets.filter fun e => e.2.tag.map Prod.fst == some cseq

/-- Parts of the children only (X stands at key 14). -/
def BufSet.children (x : BufSet) : Store Part := x.parts.filter fun e => decide (e.1 < 14)

/-- A part is a fault segment (R265): no data and a STATUS. -/
def Part.isFault (x : Part) : Bool := x.complete && decide (x.len = 0) && natAt x.trailer 5 1 != 0

/-- A set is freed once it is emitted and its A is not held (R254). A current set that is freed is no longer current. -/
def Slot.free (v : Slot) (i : Nat) : Slot :=
  let x := v.set i
  if x.emitted && !x.aHeld then
    { v with sets := erase v.sets i, cur := if v.cur = some i then none else v.cur }
  else v

/-! ### Trailers (R248) -/

/-- The trailer of a fault segment (R265). -/
def faultTrailer (status : Nat) : List Byte := trailerBytes 0xFFFFFFFF 0 status true 0 0xFFFFFFFF

/-! ### Outgoing parts (R247, R251, R252, R309) -/

/-- Where a part goes: down the tree, up to the parent, or to a dispatch destination. -/
inductive PartTo where
  | down
  | parent
  | entry (dst e addr : Nat) (source : Bool)
  deriving DecidableEq, Repr

/-- The packets of a part that slot `s` sends; none where no route entry lets it go (R167, R309). -/
def Block.buildPart (k : Block) (d : Build) (b s op vc flow seg cseq member : Nat) (target : PartTo) (l : List Byte) :
    Option (List Packet) :=
  let w := k.slotWord b s
  let cuts := cutPart 600 l
  let n := cuts.length
  let pk (i : Nat) (c : List Byte) : Packet :=
    { vc := vc, op := op, flow := if vc < 2 then flow else 0, group := w.group, cseq := cseq, seg := seg,
      member := member, pseq := i, pcount := n, last := i + 1 == n, tracker := b * 1024 + s, src := coord d b 2,
      epoch := k.net.epoch, payload := c }
  let ps := cuts.mapIdx pk
  match target with
  | .down => some (ps.map fun p => { p with mcast := true })
  | .parent =>
    match k.treeEntry b w.group with
    | some i =>
      let e := k.treeWord b i 0
      if flag e 61 then none else ps.mapM fun p => k.onEntry d b (fld e 46 35) { p with reduce := true }
    | none => none
  | .entry dst e addr source =>
    let a := if cEp dst = 0 then addr % 2 ^ 57 else 0
    if source then ps.mapM fun p => k.onEntry d b e { p with addr := a }
    else some (ps.map fun p => { p with addr := a, rmode := 1, dst := dst })

/-- Offer a packet of slot `s` at input C, under the route epoch of now (R94, R179), through the entry point's exit
lookup. -/
def Block.offerPart (k : Block) (d : Build) (b s : Nat) (p : Packet) : Block :=
  let p := { p with epoch := k.net.epoch }
  match k.enterDie d b 5 p with
  | (some q, k) => k.stageAt b 1 { sub := some (1040 + s), pkt := sealPacket q }
  | (none, k) => (k.bump .BRK_RTERR 15 0 b).answerError d b p stNoRoute

/-- The part goes toward a reducing node on VC2, and counts against the reservation of R252: it travels up the tree, or its
DISPATCH ends at a reducer. -/
def OutPart.reserves (x : OutPart) : Bool :=
  !x.down && (match x.pkts with
    | p :: _ => p.vc == 2 && (p.reduce || cEp p.dst == 2)
    | [] => false)

/-- Segments of a slot that are offered and unacknowledged on VC2 (R252). -/
def reservedSegs (out : List OutPart) : List (Nat × Nat) :=
  ((out.filter fun x => x.offered && x.reserves).map fun x => (x.cseq, x.seqk)).eraseDups

/-- The first queued part may start (R252). -/
def mayOffer (depth : Nat) (out : List OutPart) (x : OutPart) : Bool :=
  let r := reservedSegs out
  !x.reserves || r.contains (x.cseq, x.seqk) || decide (r.length < depth + 1)

/-- The slot has a packet staged on `vc` (R159). -/
def Block.slotStaged (k : Block) (b s vc : Nat) : Bool :=
  (look [] k.net.stage (b * 2 + 1)).any fun x => x.sub == some (1040 + s) && x.pkt.vc == vc

/-- The part whose next packet may be staged: the first with packets left of its service, one packet of which stands staged
at a time (R159), if R252 lets it start. -/
def nextPart (depth : Nat) (out : List OutPart) (staged : Nat → Bool) : Option Nat :=
  (List.range out.length).find? fun i => match out[i]? with
    | none => false
    | some x => match x.left with
      | [] => false
      | p :: _ => !staged p.vc && (x.offered || mayOffer depth out x) &&
        (out.take i).all fun y => match y.left with
          | q :: _ => q.vc != p.vc
          | [] => true

/-- Stage the packets of queued parts, in order, where they may go. -/
def Block.pumpSlot (k : Block) (d : Build) (b s : Nat) : Nat → Block
  | 0 => k
  | n + 1 =>
    let v := k.slot b s
    match nextPart (k.slotWord b s).depth v.out (k.slotStaged b s) with
    | none => k
    | some i => match v.out[i]? with
      | none => k
      | some x => match x.left with
        | [] => k
        | p :: r =>
          ((k.setSlot b s { v with out := v.out.set i { x with offered := true, left := r } }).offerPart d b s p).pumpSlot d b s n

/-- The slots of a brick go on where their staged packets have left. -/
def Block.pumpSlots (k : Block) (d : Build) (b : Nat) : Block :=
  ((k.rdc.slots.filter fun x => x.1 / 64 == b && x.2.out.any fun y => !y.left.isEmpty).map fun x => x.1 % 64).foldl
    (fun k s => k.pumpSlot d b s 65536) k

/-- Queue a part for input C. -/
def Block.queuePart (k : Block) (d : Build) (b s : Nat) (x : OutPart) : Block :=
  (k.mapSlot b s fun v => { v with out := v.out ++ [{ x with left := x.pkts, offered := x.pkts.isEmpty }] }).pumpSlot d b s 65536

/-! ### Start and end of a collective (R245, R265 to R269) -/

/-- SEG of phase `p` of segment `n` (R247). -/
def SlotWord.segField (w : SlotWord) (n p : Nat) : Nat := (if w.still then 2 * n + p else n) % 2 ^ 16

/-- Lowest MEMBER among the child parts of a set. -/
def BufSet.member (x : BufSet) : Nat :=
  match x.children.map fun e => e.2.head.member with
  | [] => 0
  | m :: r => r.foldl min m

/-- A slot sends a fault segment (R265): SEG = NEXT, on VC2; in still mode in phase 1, so that members take it (R314,
log 14). -/
def Block.sendFault (k : Block) (d : Build) (b s status : Nat) : Block :=
  let w := k.slotWord b s
  let v := k.slot b s
  let member := match v.tagged v.openSeq v.next with
    | some i => (v.set i).member
    | none => 0
  let op := if w.root then opResult else opContrib
  let seg := w.segField v.next 1
  match k.buildPart d b s op 2 0 seg v.openSeq member (if w.root then .down else .parent) (faultTrailer status) with
  | some ps => k.queuePart d b s { pkts := ps, cseq := v.openSeq, seg := seg, seqk := v.next, down := w.root }
  | none => k

/-- The collective OPEN ends at a slot: OPEN advances, no set is current, NEXT begins again. -/
def Slot.advance (v : Slot) : Slot :=
  { v with openSeq := (v.openSeq + 1) % 2 ^ 16, next := 0, cur := none, phase := 0, finalOut := false }

/-- Every set tagged with OPEN is released, and the parts queued from it that have not begun are dropped; a part that has
begun goes on, keeps its place in the reservation of R252 and stays answerable (R321) until it is answered (log 14). -/
def Slot.releaseOpen (v : Slot) : Slot :=
  { v with sets := v.sets.filter (fun e => e.2.tag.map Prod.fst != some v.openSeq),
           out := (v.out.filter fun x => x.cseq != v.openSeq || x.set.isNone || x.offered).map fun x =>
             if x.cseq == v.openSeq then { x with set := none } else x }

/-- The stream of an aborted collective (R265): HALTED, or left FAULTED. -/
def Block.abortStream (k : Block) (b s : Nat) : Block :=
  k.mapStream b (0x100 + s) fun v =>
    { v with st := if v.st = .faulted then .faulted else .halted, hold := .none, word := none, loops := [] }

/-- A slot learns of a fault in OPEN (R265), without the start of the next sequence. -/
def Block.abortSlot (k : Block) (d : Build) (b s status : Nat) : Block :=
  let k := k.mapSlot b s fun v => v.releaseOpen
  let k := k.sendFault d b s status
  (k.abortStream b s).mapSlot b s Slot.advance

/-- A slot that holds packets of OPEN takes the next step (R245, R265, R266, R268, R269, R499): a domain that is not ON aborts
with DOMAIN_OFF; a FAULTED slot answers with PROGRAM_FAULT, whatever the packet; a complete fault segment of a child aborts;
a HALTED slot starts, unless its partition overlaps or both lane groups are retired. -/
def Block.startSlot (k : Block) (d : Build) (b s : Nat) : Nat → Block
  | 0 => k
  | n + 1 =>
    let v := k.slot b s
    let mine := v.ofSeq v.openSeq
    if mine.isEmpty then k
    else if !k.computeOn b then (k.abortSlot d b s stDomainOff).startSlot d b s n
    else if (k.stream b (0x100 + s)).st = .faulted then (k.abortSlot d b s stProgramFault).startSlot d b s n
    else
      let faults := mine.flatMap fun e => (e.2.children.filter fun f => f.2.isFault).map fun f => natAt f.2.trailer 5 1
      match faults with
      | f :: r => (k.abortSlot d b s (r.foldl worse (statusOf f))).startSlot d b s n
      | [] =>
        if (k.stream b (0x100 + s)).st ≠ .halted then k
        else if k.slotOverlaps b s then (k.abortSlot d b s stPondOverlap).startSlot d b s n
        else if k.rf .RDC_CTL 1 0 b = 3 then (k.abortSlot d b s stResidue).startSlot d b s n
        else
          k.mapStream b (0x100 + s) fun x =>
            { x with st := .running, pc := (k.slotWord b s).entry, loops := [], hold := .none, word := none }

/-- A slot learns of a fault in OPEN (R265); packets of the next sequence may start it again. -/
def Block.slotFault (k : Block) (d : Build) (b s status : Nat) : Block :=
  (k.abortSlot d b s status).startSlot d b s 8

/-- HALT of a slot's stream (R245). -/
def Block.haltSlot (k : Block) (d : Build) (b s : Nat) : Block :=
  let k := k.mapStream b (0x100 + s) fun v => { v with st := .halted, hold := .none, word := none, loops := [] }
  (k.mapSlot b s Slot.advance).startSlot d b s 8

/-- A stream enters FAULTED (R47, R588); a slot then sends a fault segment of PROGRAM_FAULT (R266). -/
def Block.failStream (k : Block) (d : Build) (b u arg1 : Nat) : Block :=
  let k := k.faultStream b u arg1
  if isReducer u then k.slotFault d b (u - 0x100) stProgramFault else k

/-! ### Acknowledging children (R251, R253) -/

/-- Acknowledge one complete child part (R251). -/
def Block.ackPart (k : Block) (d : Build) (b : Nat) (p : Packet) : Block :=
  k.sendAck d b 2 { p with pseq := p.pcount - 1 } p.pcount 0 true

/-- Acknowledge the complete child parts of a set that are not yet acknowledged. -/
def Block.ackChildren (k : Block) (d : Build) (b s i : Nat) : Block :=
  let x := (k.slot b s).set i
  let due := x.children.filter fun e => e.2.complete && !e.2.acked
  let k := due.foldl (fun k e => k.ackPart d b e.2.head) k
  k.mapSlot b s fun v =>
    v.setSet i { x with parts := x.parts.map fun e => if e.2.complete then (e.1, { e.2 with acked := true }) else e }

/-- The part ends the hold on A (R253): it was sent from A, or it emitted the set, from whatever buffer (log 92). -/
def OutPart.endsHold (x : OutPart) : Bool := x.fromA || x.emits

/-- The part was sent from set `j` as it stands. -/
def Slot.sentFrom (v : Slot) (j : Nat) (x : OutPart) : Bool := x.set == some j && (v.set j).tag == some (x.cseq, x.seqk)

/-- A part is over, acknowledged or gone down the tree, and no longer in `out`: with the last part that ends it, the hold on A
of its set ends (R253), and a set that is emitted is freed. -/
def Slot.partOver (v : Slot) (x : OutPart) : Slot :=
  match x.set with
  | none => v
  | some j =>
    if !v.sentFrom j x || !x.endsHold || v.out.any (fun z => v.sentFrom j z && z.endsHold) then v
    else (v.setSet j { v.set j with aHeld := false }).free j

/-- The last packet of a part has left (R251, R254): the children are acknowledged; unless HOLD the set is emitted, its
child buffers released; a part down the tree is over (R253). -/
def Block.partLeft (k : Block) (d : Build) (b s : Nat) (x : OutPart) : Block :=
  let same (y : OutPart) : Bool := y.offered && !y.gone && y.cseq == x.cseq && y.seg == x.seg && y.set == x.set
  let v := k.slot b s
  let ended := v.out.filter fun y => same y && y.down
  let out := (v.out.filter fun y => !(same y && y.down)).map fun y => if same y then { y with gone := true } else y
  let v' := { v with out := out, downs := v.downs ++ ended.map fun y => (y.cseq, y.seg, y.pkts.length) }
  let k := k.setSlot b s v'
  match x.set with
  | none => k
  | some i =>
    if !v.sentFrom i x then k
    else
      (k.ackChildren d b s i).mapSlot b s fun w =>
        let y := w.set i
        let y := if v.out.any fun z => same z && z.emits then
            { y with emitted := true, bufs := keepKeys y.bufs (fun c => decide (7 ≤ c)) }
          else y
        (ended.foldl Slot.partOver (w.setSet i y)).free i

/-- SEGMENT_EMITTED (R251): the last packet of a part of the slot has left input C. -/
def execSegmentEmitted (b sl : Nat) (s : State) : Host.Outcome State Fault Refusal :=
  let d := s.env.build
  s.run (brickOk d b && decide (sl < 64)) fun k =>
    let v := k.slot b sl
    let stands (x : OutPart) : Bool := (k.stagedAt b 5).any fun y =>
      y.sub == some (1040 + sl) && y.pkt.cseq == x.cseq && y.pkt.seg == x.seg
    let done (x : OutPart) : Bool := x.offered && !x.gone && !stands x &&
      v.out.all fun y => !(y.cseq == x.cseq && y.seg == x.seg && y.set == x.set) || y.left.isEmpty
    match v.out.find? done with
    | none => k
    | some x => k.partLeft d b sl x

/-- The part that a response to slot `s` names (R251). -/
def answersPart (p : Packet) (x : OutPart) : Bool :=
  x.cseq == p.cseq && x.seg == p.seg && !x.down &&
  (match x.pkts with
    | q :: _ => q.addr == p.addr && q.pcount == p.pcount
    | [] => false)

/-- A part is answered for good: it is dropped, and over. -/
def Block.partDone (k : Block) (d : Build) (b s i : Nat) : Block :=
  let v := k.slot b s
  match v.out[i]? with
  | none => k
  | some x => (k.setSlot b s (({ v with out := v.out.eraseIdx i } : Slot).partOver x)).pumpSlot d b s 65536

/-- A response at the head of the reducer's receive FIFO, taken by the slot that its TRACKER names. -/
def Block.reducerAnswer (k : Block) (d : Build) (b op : Nat) (f : Block → Nat → Packet → Block) : Block :=
  match k.rxTake b 2 [op] with
  | none => k
  | some (p, k) => k.consume d b 2 p (p.op == op) false fun k => f k (p.tracker % 1024) p

/-- SEGMENT_ACK (R253): the ACK of a part ends the hold on A and frees the set. -/
def execSegmentAck (b : Nat) (s : State) : Host.Outcome State Fault Refusal :=
  let d := s.env.build
  s.run (brickOk d b) fun k =>
    k.reducerAnswer d b opAck fun k sl p =>
      match (k.slot b sl).out.findIdx? (answersPart p) with
      | some i => if (ackList p.payload p.pcount).length = p.pcount then k.partDone d b sl i else k
      | none => k

/-- A part that has gone, or goes, down the tree is the one that an ERROR answers. -/
def Slot.answersDown (v : Slot) (p : Packet) : Bool :=
  v.downs.contains (p.cseq, p.seg, p.pcount) || v.out.any fun x => x.down && x.cseq == p.cseq && x.seg == p.seg

/-- The slot forgets a part down the tree that was answered. -/
def Slot.forgetDown (v : Slot) (p : Packet) : Slot :=
  { v with downs := v.downs.erase (p.cseq, p.seg, p.pcount)
           out := v.out.filter fun x => !(x.down && x.cseq == p.cseq && x.seg == p.seg) }

/-- SEGMENT_ERROR (R321): an ERROR for a part faults the collective OPEN with its status. -/
def execSegmentError (b : Nat) (s : State) : Host.Outcome State Fault Refusal :=
  let d := s.env.build
  s.run (brickOk d b) fun k =>
    k.reducerAnswer d b opError fun k sl p =>
      match (k.slot b sl).out.findIdx? (answersPart p) with
      | some i => (k.partDone d b sl i).slotFault d b sl (statusOf p.status)
      | none =>
        if (k.slot b sl).answersDown p then
          (k.mapSlot b sl fun v => v.forgetDown p).slotFault d b sl (statusOf p.status)
        else k

/-- A whole part of a slot is to be resent (R215, R251), with RESEND set, after what of it has not left yet. -/
def Block.resendPart (k : Block) (d : Build) (b s i : Nat) : Block :=
  let v := k.slot b s
  match v.out[i]? with
  | none => k
  | some x =>
    let again := x.pkts.map fun p => { p with resend := true }
    (k.setSlot b s { v with out := v.out.set i { x with resent := x.resent + 1, left := x.left ++ again } }).pumpSlot d b s 65536

/-- A part needs a resend: one that is NACKed for the fifth time, or was NACKed and needs a fifth resend, exhausts it (R215),
which faults the collective. -/
def Block.resendOrFail (k : Block) (d : Build) (b s i : Nat) : Block :=
  match (k.slot b s).out[i]? with
  | none => k
  | some x =>
    if x.resent < 4 then k.resendPart d b s i
    else if x.nacked ∧ x.cseq = (k.slot b s).openSeq then k.slotFault d b s stCrcResend
    else k

/-- SEGMENT_NACK (R251): the slot resends the part from its held buffer. -/
def execSegmentNack (b : Nat) (s : State) : Host.Outcome State Fault Refusal :=
  let d := s.env.build
  s.run (brickOk d b) fun k =>
    k.reducerAnswer d b opNack fun k sl p =>
      match (k.slot b sl).out.findIdx? (answersPart p) with
      | some i =>
        (k.mapSlot b sl fun v => { v with out := v.out.modify i fun x => { x with nacked := true } }).resendOrFail d b sl i
      | none => k

/-- Resend a part, as it stands in `out` now. -/
def Block.resendStanding (k : Block) (d : Build) (b s : Nat) (x : OutPart) : Block :=
  match (k.slot b s).out.findIdx? (· == x) with
  | some i => k.resendOrFail d b s i
  | none => k

/-- SEGMENT_RESEND_TIMER (R251): every part with this SEG that has left and stays unacknowledged is resent whole, of whatever
collective and to whatever destination. -/
def execSegmentResendTimer (b sl seg : Nat) (s : State) : Host.Outcome State Fault Refusal :=
  let d := s.env.build
  s.run (brickOk d b && decide (sl < 64)) fun k =>
    ((k.slot b sl).out.filter fun x => x.gone && !x.down && x.seg == seg && x.left.isEmpty).foldl
      (fun k x => k.resendStanding d b sl x) k

/-! ### Filing (R249) -/

/-- CSEQ is before OPEN (R246). -/
def seqBefore (cseq opn : Nat) : Bool :=
  let x := (opn + 2 ^ 16 - cseq % 2 ^ 16) % 2 ^ 16
  decide (1 ≤ x) && decide (x ≤ 32767)

/-- The packet is a fault segment (R265). -/
def faultPacket (p : Packet) : Bool := p.payload.length == 16 && p.pcount == 1 && natAt p.payload 5 1 != 0

/-- The bytes of a part whose packets are all placed, in PSEQ order. -/
def Part.bytes (x : Part) : List Byte :=
  (List.range x.head.pcount).flatMap fun i => ((x.placed.find? fun e => e.1 == i).map Prod.snd).getD []

/-- A complete part can be taken (R247, R248, R256): full packets before the last, a trailer, at most SEGSIZE of data,
whole records. -/
def partOk (w : SlotWord) (x : Part) : Bool :=
  let n := x.bytes.length
  (x.placed.all fun e => e.2.length == 8256 || e.1 + 1 == x.head.pcount) && decide (16 ≤ n) &&
  decide (n ≤ w.segSize + 16) && (!w.recs || (n - 16) % w.recBytes == 0)

/-- Place a packet in a set under a part key (R249). A part that cannot be taken is discarded as ILLEGAL, and
so is a packet whose PCOUNT is not that of its part (log 111). -/
def Block.placePacket (k : Block) (b s i key : Nat) (p : Packet) : Block :=
  let w := k.slotWord b s
  let v := k.slot b s
  let x := v.set i
  let pt := look {} x.parts key
  let pt := if pt.placed.isEmpty then { pt with head := { p with payload := [] } } else pt
  if pt.complete || (pt.placed.any fun e => e.1 == p.pseq) then k
  else if p.pcount ≠ pt.head.pcount then k.countFlaw b 15 0
  else
    let pt := { pt with placed := pt.placed ++ [(p.pseq, p.payload)] }
    if pt.placed.length < p.pcount then k.setSlot b s (v.setSet i { x with parts := put {} x.parts key pt })
    else if !partOk w pt then
      (k.setSlot b s (v.setSet i { x with parts := erase x.parts key })).countFlaw b 15 0
    else
      let l := pt.bytes
      let data := l.take (l.length - 16)
      let pt := { pt with placed := [], complete := true, trailer := l.drop (l.length - 16), len := l.length - 16 }
      let code := if key = 14 then 8 else key / 2
      k.setSlot b s (v.setSet i
        { x with
          parts := put {} x.parts key pt
          bufs := put [] x.bufs code data
          xDone := x.xDone || key == 14 })

/-- The table of R249 for a packet that passed R78 and R84. -/
def Block.filePacket (k : Block) (d : Build) (b : Nat) (p : Packet) : Block :=
  let res := p.op == opResult
  let child := k.childSlot b p.group p.inPort
  match k.slotOfGroup b p.group with
  | none => (k.bump .RDC_ERR 63 48 b).answerErrorAt d b 2 p stNoRoute
  | some s =>
    let w := k.slotWord b s
    let v := k.slot b s
    if !res && child.isNone then (k.bump .RDC_ERR 63 48 b).answerErrorAt d b 2 p stNoRoute
    else if res && (!w.still || w.root) then k.bump .RDC_ERR 63 48 b
    else if res && p.cseq != v.openSeq then k
    else if res && faultPacket p then
      (((k.mapSlot b s Slot.releaseOpen).abortStream b s).mapSlot b s Slot.advance).startSlot d b s 8
    else if res && p.seg % 2 == 1 then k
    else
      let n := if w.still then p.seg / 2 else p.seg
      let cur := v.tagged p.cseq n
      let emitted := p.cseq == v.openSeq &&
        (match cur with
          | some i => (v.set i).emitted
          | none => decide (n < v.next))
      let key := if res then 14 else child.getD 0 * 2 + (if w.still then p.seg % 2 else 0)
      if seqBefore p.cseq v.openSeq || emitted then (if res then k else k.ackPart d b p)
      else if p.cseq ≠ v.openSeq ∧ p.cseq ≠ (v.openSeq + 1) % 2 ^ 16 then k.bump .RDC_ERR 47 32 b
      else match cur with
        | some i => (k.placePacket b s i key p).startSlot d b s 8
        | none =>
          match findBelow (w.depth + 1) fun i => (v.set i).tag.isNone with
          | some i =>
            let k := k.setSlot b s (v.setSet i { tag := some (p.cseq, n) })
            (k.placePacket b s i key p).startSlot d b s 8
          | none => k.bump .RDC_ERR 47 32 b

/-- The slot words that writes of this FCLK replaced (R271). -/
def Block.slotsBefore (k : Block) : Store Word := if k.rdc.slotOld.1 = k.clk.now + 1 then k.rdc.slotOld.2 else []

/-- A packet is filed; a write of RDC_SLOT in its FCLK is discarded where the packet starts the slot's stream (R271). -/
def Block.fileArriving (k : Block) (d : Build) (b : Nat) (p : Packet) : Block :=
  let started (x : Nat × Word) : Option Block :=
    let u := 0x100 + x.1 % 64
    let k2 := (k.setReg .RDC_SLOT b [x.1 % 64] x.2).filePacket d b p
    if x.1 / 64 = b ∧ (k.stream b u).st ≠ .running ∧ (k2.stream b u).st = .running then some k2.lockVio else none
  (k.slotsBefore.findSome? started).getD (k.filePacket d b p)

/-- Take the head of the reducer's receive FIFO if it has opcode `op`, and file it. RESULT is never NACKed (R249). -/
def Block.fileHead (k : Block) (d : Build) (b op : Nat) : Block :=
  match k.rxTake b 2 [op] with
  | none => k
  | some (p, k) => k.consume d b 2 p (p.op == op) (op != opResult) fun k => k.fileArriving d b p

/-- CONTRIB_FILE (R249). -/
def execContribFile (b : Nat) (s : State) : Host.Outcome State Fault Refusal :=
  let d := s.env.build
  s.run (brickOk d b) fun k => k.fileHead d b opContrib

/-- RESULT_AT_REDUCER (R249). -/
def execResultAtReducer (b : Nat) (s : State) : Host.Outcome State Fault Refusal :=
  let d := s.env.build
  s.run (brickOk d b) fun k => k.fileHead d b opResult

/-- DISPATCH_FILE (R249). -/
def execDispatchFile (b : Nat) (s : State) : Host.Outcome State Fault Refusal :=
  let d := s.env.build
  s.run (brickOk d b) fun k => k.fileHead d b opDispatch

/-- Lowest PSEQ of a part that is not placed. -/
def Part.missing (x : Part) : Nat := lowestFree 0 (x.placed.map Prod.fst) (x.placed.length + 1)

/-- REDUCER_HOLE_TIMER (R249): the lowest missing packet of each incomplete part of a child is NACKed, in every set and
phase. -/
def execReducerHoleTimer (b sl child : Nat) (s : State) : Host.Outcome State Fault Refusal :=
  let d := s.env.build
  s.run (brickOk d b && decide (sl < 64)) fun k =>
    let parts := (k.slot b sl).sets.flatMap fun e =>
      (e.2.children.filter fun f => f.1 / 2 == child && !f.2.complete && !f.2.placed.isEmpty).map Prod.snd
    parts.foldl (fun k x => k.sendNack d b 2 { x.head with pseq := x.missing }) k

/-! ### Waiting children behind a fence (R320) -/

/-- Children that SEGIN mask `m` names (R254: 0 names every child). -/
def maskChildren (nch m : Nat) : List Nat := if m = 0 then List.range nch else (List.range 7).filter fun c => m.testBit c

/-- The part of child `c` in phase `p` of a set is complete. -/
def BufSet.childDone (x : BufSet) (c p : Nat) : Bool := (look {} x.parts (c * 2 + p)).complete

/-- A slot that waits in SEGIN waits for a child whose input port has its FENCE bit set. -/
def Block.waitsFenced (k : Block) (b s : Nat) : Bool :=
  let st := k.stream b (0x100 + s)
  let w := k.slotWord b s
  let v := k.slot b s
  if st.st ≠ .waiting ∨ st.hold = .none then false
  else match decodeRdc (k.curWord b (0x100 + s)).toNat with
    | some (.segin adv _ _ m p _) =>
      let x := match (if adv then v.tagged v.openSeq v.next else v.cur) with
        | some i => v.set i
        | none => {}
      (maskChildren w.nch m).any fun c =>
        !x.childDone c p && (match k.childPort b w.group c with
          | some q => k.fencedOut b q
          | none => false)
    | _ => false

/-- R320 at one slot. -/
def Block.checkFence (k : Block) (d : Build) (b s : Nat) : Block :=
  if k.waitsFenced b s then k.slotFault d b s stFenced else k

end Sys2Proof.Machine
end

