-- ==== Sys2Proof/Machine/ReducerOps.lean ====
section
/-!
DEFINITION. The reducer instructions (R254 to R260): segment handling, arithmetic with its flags and residue check
(R267, R297 to R302), and the record operations.
-/

namespace Sys2Proof.Machine

/-! ### Fetching and retiring -/

/-- The instruction at which slot stream `s` stands, if the stream runs in a domain that is ON (R498), and its EVT bit. -/
def Block.rdcFetch (k : Block) (b s : Nat) : Option (RdcInstr × Bool) :=
  let v := k.stream b (0x100 + s)
  let w := (k.progWord b (0x100 + s) v.pc).toNat
  if v.st = .running ∧ k.computeOn b = true then (decodeRdc w).map fun i => (i, wordEvt w) else none

/-- Run `f` on the instruction of a slot's stream when it is of the kind `sel`; where `f` answers none the instruction
makes a run-time fault (R255). -/
def Block.rdcStep (k : Block) (d : Build) (b s : Nat) (sel : RdcInstr → Bool)
    (f : Block → RdcInstr → Bool → Option Block) : Block :=
  match k.rdcFetch b s with
  | some (i, evt) =>
    if sel i then
      match f k i evt with
      | some k => k
      | none => k.failStream d b (0x100 + s) 0
    else k
  | none => k

/-! ### Buffers (R255) -/

/-- The slot has the buffer. -/
def SlotWord.hasBuf (w : SlotWord) (c : Nat) : Bool :=
  if c < 7 then decide (c < w.nch) else if c = 7 then true else if c = 8 then w.still else c == 9 && w.recs

/-- Bytes of a buffer of the current set `x`, or of S. -/
def Slot.buf (v : Slot) (x : BufSet) (c : Nat) : List Byte := if c = 9 then v.s else look [] x.bufs c

/-- Write a buffer of the current set `i` or S: A is held from now (R253), X is complete. -/
def Slot.putBuf (v : Slot) (i c : Nat) (l : List Byte) : Slot :=
  if c = 9 then { v with s := l }
  else
    let x := v.set i
    v.setSet i { x with bufs := put [] x.bufs c l, aHeld := x.aHeld || c == 7, xDone := x.xDone || c == 8 }

/-- `n` free bytes (log 8). -/
def Block.draw (k : Block) (n : Nat) : List Byte × Block :=
  ((List.range n).map fun i => Config.freeByte (k.free + i), { k with free := k.free + n })

/-- The elements of `size` bytes that a byte list holds. -/
def elemsOf (size : Nat) : Nat → List Byte → List Nat
  | 0, _ => []
  | n + 1, l => leNat (l.take size) :: elemsOf size n (l.drop size)

/-- The first `n` elements of a buffer; those beyond its written data are free. -/
def Block.readElems (k : Block) (size n : Nat) (l : List Byte) : List Nat × Block :=
  let (t, k) := k.draw (n * size - l.length)
  (elemsOf size n (l.take (n * size) ++ t), k)

/-- Operands of a mask: A first, then the children (R254, R256). -/
def maskBufs (nch m : Nat) : List Nat := (if m.testBit 7 then [7] else []) ++ maskChildren nch m

/-! ### Legal pairings (R260, R285, R286, R291, R293) -/

/-- A float format. -/
def isFloat (f : Nat) : Bool := decide (f < 5)

/-- An integer format of R260 (INT8, INT16, INT32). -/
def isIntFmt (f : Nat) : Bool := decide (5 ≤ f) && decide (f < 8)

/-- ADD, MAX and MIN (R260). -/
def combineOk (add : Bool) (fo fi : Nat) : Bool :=
  fi != 9 && fo != 9 &&
  ((isFloat fi && fo == 0) || (fi == fo && (fi != 8 || add)) || (isIntFmt fi && fo == 7))

/-- CVT (R293). -/
def cvtOk (xs still : Bool) (fo fi : Nat) : Bool :=
  if xs then fi == 8 && still && decide (fo < 8) else decide (fi < 8) && decide (fo < 8)

/-! ### What the arithmetic instructions compute -/

/-- A computed result: destination, format, OP code, and (code, flags) of each element. -/
structure Computed where
  dst : Nat
  fo : Nat
  op : Nat
  res : List (Nat × Nat)
  deriving DecidableEq, Repr

/-- Element count of the operands: the most that any of them holds, at most E. -/
def countOf (w : SlotWord) (l : List (List Byte × Nat)) : Nat :=
  min w.elems ((l.map fun x => x.1.length / fmtSize x.2).foldl max 0)

/-- Read several operands: per operand its format and `n` codes. -/
def Block.readAll (k : Block) (n : Nat) : List (List Byte × Nat) → List (Nat × List Nat) × Block
  | [] => ([], k)
  | (l, f) :: r =>
    let (e, k) := k.readElems (fmtSize f) n l
    let (t, k) := k.readAll n r
    ((f, e) :: t, k)

/-- The operands of element `e`. -/
def rowAt (l : List (Nat × List Nat)) (e : Nat) : List (Nat × Nat) := l.map fun x => (x.1, x.2.getD e 0)

/-- ADD, MAX or MIN over mask `m` (R256, R260, R279 to R282, R287). -/
def Block.combine (k : Block) (b s dst fo fi m op : Nat) (add : Bool) (f : Nat → List (Nat × Nat) → Nat × Nat) :
    Option (Computed × Block) :=
  let w := k.slotWord b s
  let v := k.slot b s
  let names := maskBufs w.nch m
  match v.cur with
  | none => none
  | some i =>
    if !w.hasBuf dst || !names.all w.hasBuf || decide (names.length < 2) || !combineOk add fo fi then none
    else
      let ops := names.map fun c => (v.buf (v.set i) c, if c = 7 then fo else fi)
      let n := countOf w ops
      let (xs, k) := k.readAll n ops
      some (⟨dst, fo, op, (List.range n).map fun e => f fo (rowAt xs e)⟩, k)

/-- EXPMAX (R285): a child buffer filed from input L holds floats of FMTI, every other operand codes. -/
def Block.expmax (k : Block) (b s dst fi m : Nat) : Option (Computed × Block) :=
  let w := k.slotWord b s
  let v := k.slot b s
  let names := maskBufs w.nch m
  let own := k.childSlot b w.group 4
  match v.cur with
  | none => none
  | some i =>
    let takesFloat := names.any fun c => decide (c < 7) && own == some c
    if !w.hasBuf dst || !names.all w.hasBuf || names.isEmpty || (takesFloat && !isFloat fi && fi != 9) then none
    else
      let ops := names.map fun c => (v.buf (v.set i) c, if c < 7 ∧ own = some c then fi else 9)
      let n := countOf w ops
      let (xs, k) := k.readAll n ops
      let one (e : Nat) : Nat × Nat :=
        (rowAt xs e).foldl (fun (acc : Nat × Nat) x =>
          if x.1 = 9 then (max acc.1 x.2, acc.2)
          else
            let y := valueOf x.1 x.2
            (max acc.1 (expCode y), acc.2 ||| sigFlag y)) (0, 0)
      some (⟨dst, 9, 0x0C, (List.range n).map one⟩, k)

/-- An operation on one source buffer, with X when `useX`. -/
def Block.single (k : Block) (b s dst fo src fi op : Nat) (ok useX : Bool) (f : Nat → Nat → Nat × Nat) :
    Option (Computed × Block) :=
  let w := k.slotWord b s
  let v := k.slot b s
  match v.cur with
  | none => none
  | some i =>
    if !w.hasBuf dst || !w.hasBuf src || !ok then none
    else
      let l := v.buf (v.set i) src
      let n := countOf w [(l, fi)]
      let (e, k) := k.readElems (fmtSize fi) n l
      let (x, k) := if useX then k.readElems 1 n (v.buf (v.set i) 8) else ([], k)
      some (⟨dst, fo, op, (List.range n).map fun j => f (x.getD j 0) (e.getD j 0)⟩, k)

/-- What an arithmetic instruction computes; none where it makes a run-time fault. -/
def Block.compute (k : Block) (b s : Nat) (i : RdcInstr) : Option (Computed × Block) :=
  let w := k.slotWord b s
  match i with
  | .add dst fo fi m => k.combine b s dst fo fi m 0x07 true addElem
  | .max dst fo fi m => k.combine b s dst fo fi m 0x08 false (pickElem true)
  | .min dst fo fi m => k.combine b s dst fo fi m 0x09 false (pickElem false)
  | .scale dst fo src sc => k.single b s dst fo src 0 0x0A (fo == 0) false fun _ c => scaleElem sc c
  | .cvt ieee xs dst fo src fi =>
    k.single b s dst fo src fi 0x0B (cvtOk xs w.still fo fi) xs fun x c =>
      if xs then cvtStill w.g fo ieee x c else cvtElem fi fo ieee c
  | .expmax dst fi m => k.expmax b s dst fi m
  | .align dst src fi =>
    k.single b s dst 8 src fi 0x0D (w.still && isFloat fi) true fun x c => alignElem w.g x (valueOf fi c)
  | _ => none

/-! ### Residue (R267, R298, R302, R461) and flags (R263, R299, R300) -/

/-- One residue mismatch: counted, recorded, and classified. -/
def Block.mismatch (k : Block) (b s op lg lane : Nat) (second : Bool) : Block :=
  let k := k.bump .RDC_ERR 31 16 b
  let k := k.event .RDC_RESLOG b [] (mkWord [(43, 1), (42, b2n second), (36, op), (30, s), (29, lg), (24, lane)])
  let (n, h) := k.failures k.flt.rdcHist (b * 2 + lg) (k.rf .GLB_FLTCTL 47 40 * 1000)
  let k := { k with flt.rdcHist := h }
  if 2 ≤ n ∧ flag (k.reg .RDC_CTL b) lg = false then (k.setBit .RDC_CTL lg b).permanent 5 b lg else k

/-- Store a result: its bytes, and the flags at their element indices under the REPORT mask. -/
def Block.storeResult (k : Block) (b s i : Nat) (c : Computed) : Block :=
  let w := k.slotWord b s
  let size := fmtSize c.fo
  let l := ((c.res.take (w.segSize / size)).map fun x => leBytes size x.1).flatten
  let v := (k.slot b s).putBuf i c.dst l
  let rep := k.rf .RDC_AMODE 4 0 b
  let x := v.set i
  let base := (x.tag.map Prod.snd).getD 0 * w.elems
  let fl := c.res.mapIdx fun e y => (base + e, y.2 &&& rep)
  let raised := fl.filter fun y => y.2 != 0
  let x := { x with
    aflags := raised.foldl (fun g y => g ||| y.2) x.aflags
    firstIdx := raised.foldl (fun m y => min m y.1) x.firstIdx }
  k.setSlot b s (v.setSet i x)

/-- The units that check an arithmetic instruction (R297): the duplicated exponent path belongs to floating addition, the
multiplier array to `SCALE`, the adder lanes to the others. -/
def checkedBy (i : RdcInstr) : LaneWork → Bool
  | .adder .. => match i with
    | .scale .. => false
    | _ => true
  | .exponent .. => match i with
    | .add _ _ fi _ => isFloat fi
    | _ => false
  | .product .. => match i with
    | .scale .. => true
    | _ => false

/-- The lanes at which the check of an instruction finds a mismatch. -/
def mismatches (i : RdcInstr) (l : List LaneSeen) : List LaneSeen :=
  l.filter fun x => checkedBy i x.work && laneMismatch x.work

/-- The residue operand names lanes that exist. -/
def residueOk (r : Residue) : Bool := (r.first ++ r.second).all fun x => decide (x.lg < 2) && decide (x.lane < 32)

/-- Every mismatch of one execution is counted and attributed to its lane (R267, R298). -/
def Block.mismatchAll (k : Block) (b s op : Nat) (l : List LaneSeen) (second : Bool) : Block :=
  l.foldl (fun k x => k.mismatch b s op x.lg x.lane second) k

/-- An arithmetic instruction of kind `sel` at a slot: without a mismatch its result is stored; with one it executes once
more, and its result is the same bits; with a second it faults the collective (R267, R298). -/
def Block.arithStep (k : Block) (d : Build) (b s : Nat) (sel : RdcInstr → Bool) (r : Residue) : Block :=
  k.rdcStep d b s sel fun k i evt =>
    match k.compute b s i, (k.slot b s).cur with
    | some (c, k), some j =>
      let m1 := mismatches i r.first
      let m2 := if m1.isEmpty then [] else mismatches i r.second
      let k := (k.mismatchAll b s c.op m1 false).mismatchAll b s c.op m2 true
      some (if m2.isEmpty then (k.storeResult b s j c).retire b (0x100 + s) evt
        else (k.freezeOn 8).slotFault d b s stResidue)
    | _, _ => none

/-- ADD (R256, R279, R282, R287). -/
def execAdd (b sl : Nat) (r : Residue) (s : State) : Host.Outcome State Fault Refusal :=
  let d := s.env.build
  s.run (brickOk d b && decide (sl < 64) && residueOk r) fun k =>
    k.arithStep d b sl (fun i => match i with
      | .add .. => true
      | _ => false) r

/-- MAX (R281). -/
def execMax (b sl : Nat) (r : Residue) (s : State) : Host.Outcome State Fault Refusal :=
  let d := s.env.build
  s.run (brickOk d b && decide (sl < 64) && residueOk r) fun k =>
    k.arithStep d b sl (fun i => match i with
      | .max .. => true
      | _ => false) r

/-- MIN (R281). -/
def execMin (b sl : Nat) (r : Residue) (s : State) : Host.Outcome State Fault Refusal :=
  let d := s.env.build
  s.run (brickOk d b && decide (sl < 64) && residueOk r) fun k =>
    k.arithStep d b sl (fun i => match i with
      | .min .. => true
      | _ => false) r

/-- SCALE (R291, R292). -/
def execScale (b sl : Nat) (r : Residue) (s : State) : Host.Outcome State Fault Refusal :=
  let d := s.env.build
  s.run (brickOk d b && decide (sl < 64) && residueOk r) fun k =>
    k.arithStep d b sl (fun i => match i with
      | .scale .. => true
      | _ => false) r

/-- CVT (R289, R293 to R295). -/
def execCvt (b sl : Nat) (r : Residue) (s : State) : Host.Outcome State Fault Refusal :=
  let d := s.env.build
  s.run (brickOk d b && decide (sl < 64) && residueOk r) fun k =>
    k.arithStep d b sl (fun i => match i with
      | .cvt .. => true
      | _ => false) r

/-- EXPMAX (R285). -/
def execExpmax (b sl : Nat) (r : Residue) (s : State) : Host.Outcome State Fault Refusal :=
  let d := s.env.build
  s.run (brickOk d b && decide (sl < 64) && residueOk r) fun k =>
    k.arithStep d b sl (fun i => match i with
      | .expmax .. => true
      | _ => false) r

/-- ALIGN (R286). -/
def execAlign (b sl : Nat) (r : Residue) (s : State) : Host.Outcome State Fault Refusal :=
  let d := s.env.build
  s.run (brickOk d b && decide (sl < 64) && residueOk r) fun k =>
    k.arithStep d b sl (fun i => match i with
      | .align .. => true
      | _ => false) r

/-! ### SEGIN (R253, R254) -/

/-- The set that SEGIN binds, when its conditions hold. -/
def Slot.seginReady (v : Slot) (nch : Nat) (adv xw : Bool) (m p : Nat) : Option Nat :=
  match (if adv then v.tagged v.openSeq v.next else v.cur) with
  | none => none
  | some i =>
    let x := v.set i
    if x.aHeld || (xw && !x.xDone) || !((maskChildren nch m).all fun c => x.childDone c p) then none else some i

/-- SEGIN proceeds on set `i`. -/
def Block.seginGo (k : Block) (b s i p : Nat) (evt : Bool) : Block :=
  (k.mapSlot b s fun v => { v with cur := some i, phase := p }).retire b (0x100 + s) evt

/-- SEGIN at a slot: none for a run-time fault. With ADV = 0 and no current set there is nothing that could complete, and the
stream waits (R255). -/
def Block.segin (k : Block) (d : Build) (b s : Nat) (i : RdcInstr) (evt : Bool) : Option Block :=
  match i with
  | .segin adv xw endj m p endAt =>
    let w := k.slotWord b s
    let v := k.slot b s
    let u := 0x100 + s
    if (!w.still && (p != 0 || xw)) || !(maskChildren w.nch m).all w.hasBuf then none
    else if adv && v.finalOut then
      let k := k.evtEvent b u (k.stream b u).pc evt
      let k := k.mapSlot b s fun v => { v with cur := none }
      some (if endj then
          (k.goto b u endAt).mapStream b u fun x => { x with loops := k.keepLoops b u endAt x.loops }
        else k.haltSlot d b s)
    else match v.seginReady w.nch adv xw m p with
      | some j => some (k.seginGo b s j p evt)
      | none =>
        let k := if adv then k.mapSlot b s fun v => { v with cur := none } else k
        let tgt := if adv then v.next else (((v.cur.bind fun i => (v.set i).tag).map Prod.snd).getD v.next)
        let k := k.stay b u .waiting (.segin tgt)
        some (k.checkFence d b s)
  | _ => some k

/-- SEGIN (R254). -/
def execSegin (b sl : Nat) (s : State) : Host.Outcome State Fault Refusal :=
  let d := s.env.build
  s.run (brickOk d b && decide (sl < 64)) fun k =>
    k.rdcStep d b sl (fun i => match i with
      | .segin .. => true
      | _ => false) fun k i evt => k.segin d b sl i evt

/-- SEGIN_SATISFIED (R253): the set that a waiting SEGIN names is complete and its A is not held. -/
def execSeginSatisfied (b sl : Nat) (s : State) : Host.Outcome State Fault Refusal :=
  let d := s.env.build
  s.run (brickOk d b && decide (sl < 64)) fun k =>
    let v := k.stream b (0x100 + sl)
    let word := (k.curWord b (0x100 + sl)).toNat
    if v.st ≠ .waiting ∨ v.hold = .none then k
    else match decodeRdc word with
      | some (.segin adv xw _ m p _) =>
        match (k.slot b sl).seginReady (k.slotWord b sl).nch adv xw m p with
        | some j => k.seginGo b sl j p (wordEvt word)
        | none => k
      | _ => k

/-! ### Trailers of emitted parts (R263, R264) -/

/-- The latest complete part of each child in a set, as (child, phase, part). -/
def BufSet.latest (x : BufSet) : List (Nat × Nat × Part) :=
  (List.range 7).filterMap fun c =>
    if x.childDone c 1 then some (c, 1, look {} x.parts (c * 2 + 1))
    else if x.childDone c 0 then some (c, 0, look {} x.parts (c * 2))
    else none

/-- Elements of a child's part in a still-mode set, else its data length: what R264 compares. -/
def Block.partExtent (k : Block) (b s : Nat) (y : Nat × Nat × Part) : Nat :=
  let w := k.slotWord b s
  let (c, p, x) := y
  if !w.still then x.len
  else if p = 1 then x.len / 8
  else if k.childSlot b w.group 4 = some c then x.len / fmtSize (fld (look 0 k.rdc.desc (w.group * 2)) 45 42)
  else x.len

/-- All entries are equal. -/
def allSame (l : List Nat) : Bool :=
  match l with
  | [] => true
  | x :: r => r.all (· == x)

/-- The combined trailer of a set (R263, R264) with its FINAL, AFLAGS and FIRSTIDX; none where children disagree. It takes the
trailers of every child part, of both phases; members and extents come from a child's latest part. -/
def Block.combineTrailer (k : Block) (b s i : Nat) : Option (List Byte × Bool × Nat × Nat) :=
  let x := (k.slot b s).set i
  let ps := x.latest
  let ts := (x.children.filter fun e => e.2.complete).map fun e => e.2.trailer
  let finals := ts.map fun t => natAt t 6 1 % 2
  if !allSame finals || !allSame (ps.map (k.partExtent b s)) then none
  else
    let af := ts.foldl (fun g t => g ||| natAt t 4 1) x.aflags
    let first := if af = 0 then 0xFFFFFFFF
      else ts.foldl (fun m t => if natAt t 4 1 = 0 then m else min m (natAt t 0 4)) x.firstIdx
    let status := ts.foldl (fun c t => worse c (natAt t 5 1)) x.status
    let members := (ps.map fun y => natAt y.2.2.trailer 8 4).sum
    let xidx := ts.foldl (fun m t => min m (natAt t 12 4)) x.xidx
    let final := finals.headD 0 == 1
    some (trailerBytes first af status final members xidx, final, af, first)

/-- Merge a trailer into RDC_GFLAG (R264, R272). -/
def Block.mergeGflag (k : Block) (b s af first : Nat) : Block :=
  if af = 0 then k else k.event .RDC_GFLAG b [s] (mkWord [(40, af), (0, first)])

/-- The set `i` of a slot will be emitted: NEXT advances (log 14). -/
def Block.willEmit (k : Block) (b s : Nat) (final : Bool) : Block :=
  k.mapSlot b s fun v => { v with next := (v.next + 1) % 2 ^ 16, finalOut := final }

/-- The data that SEGOUT takes from a buffer (R247, R254): whole records with REC = 1, else whole elements of format `f`, at
most SEGSIZE bytes. What a buffer holds beyond them is not sent (log 93). -/
def SlotWord.partData (w : SlotWord) (recs : Bool) (f : Nat) (l : List Byte) : List Byte :=
  let size := max 1 (if recs then w.recBytes else fmtSize f)
  l.take (min l.length w.segSize / size * size)

/-- SEGOUT at a slot: none for a run-time fault. -/
def Block.segout (k : Block) (d : Build) (b s : Nat) (i : RdcInstr) (evt : Bool) : Option Block :=
  match i with
  | .segout down hold sh recs src fmt flow =>
    let w := k.slotWord b s
    let v := k.slot b s
    match v.cur with
    | none => none
    | some j =>
      if (down && !w.root) || !w.hasBuf src || (recs && !w.recs) then none
      else match k.combineTrailer b s j with
        | none => none
        | some (t, final, af, first) =>
          let x := v.set j
          let (cseq, n) := x.tag.getD (0, 0)
          let seg := w.segField n v.phase
          let op := if down then opResult else if recs then opDispatch else opContrib
          let k := k.mergeGflag b s af first
          match k.buildPart d b s op (if sh then 2 else 1) flow seg cseq x.member (if down then .down else .parent)
              (w.partData recs fmt (v.buf x src) ++ t) with
          | none => some (k.slotFault d b s stNoRoute)
          | some ps =>
            let k := if hold then k else k.willEmit b s final
            let k := k.queuePart d b s
              { pkts := ps, cseq := cseq, seg := seg, seqk := n, set := some j, emits := !hold, down := down, fromA := src == 7 }
            some (k.retire b (0x100 + s) evt)
  | _ => some k

/-- SEGOUT (R254). -/
def execSegout (b sl : Nat) (s : State) : Host.Outcome State Fault Refusal :=
  let d := s.env.build
  s.run (brickOk d b && decide (sl < 64)) fun k =>
    k.rdcStep d b sl (fun i => match i with
      | .segout .. => true
      | _ => false) fun k i evt => k.segout d b sl i evt

/-! ### Records (R257, R258) -/

/-- The whole records of a byte list. -/
def recordsOf (size : Nat) : Nat → List Byte → List (List Byte)
  | 0, _ => []
  | n + 1, l => if size = 0 ∨ l.length < size then [] else l.take size :: recordsOf size n (l.drop size)

/-- Records of a buffer. -/
def splitRecords (size : Nat) (l : List Byte) : List (List Byte) := recordsOf size l.length l

/-- A key as a number that rises in the order of its type (R257). -/
def keyRank (kt key : Nat) : Nat :=
  if kt = 1 then (key + 2 ^ 31) % 2 ^ 32
  else if kt = 2 then (if 2 ^ 31 ≤ key then 2 ^ 32 - 1 - key else key + 2 ^ 31)
  else key

/-- KEY of a record, ranked. -/
def recKey (kt : Nat) (r : List Byte) : Nat := keyRank kt (natAt r 0 4)

/-- A record precedes another in the record order (R258). -/
def recBefore (kt : Nat) (desc : Bool) (a b : List Byte) : Bool :=
  let ka := recKey kt a
  let kb := recKey kt b
  let sa := bits (natAt a 8 4) 16 0
  let sb := bits (natAt b 8 4) 16 0
  if ka ≠ kb then (if desc then decide (kb < ka) else decide (ka < kb))
  else if sa ≠ sb then decide (sa < sb)
  else decide (natAt a 4 4 < natAt b 4 4)

/-- Insert a record before the first that does not precede it. -/
def insertRec (kt : Nat) (desc : Bool) (r : List Byte) : List (List Byte) → List (List Byte)
  | [] => [r]
  | x :: t => if recBefore kt desc x r then x :: insertRec kt desc r t else r :: x :: t

/-- Stable sort by the record order. -/
def sortRecs (kt : Nat) (desc : Bool) (l : List (List Byte)) : List (List Byte) :=
  l.foldr (insertRec kt desc) []

/-- The list is in record order. -/
def recsSorted (kt : Nat) (desc : Bool) : List (List Byte) → Bool
  | x :: y :: r => !recBefore kt desc y x && recsSorted kt desc (y :: r)
  | _ => true

/-- Index of the first buffer whose head record is first by record order. -/
def firstHead (kt : Nat) (desc : Bool) (l : List (List (List Byte))) : Option (Nat × List Byte) :=
  (l.zipIdx.filterMap fun x => x.1.head?.map fun r => (x.2, r)).foldl (fun acc y =>
    match acc with
    | none => some y
    | some z => if recBefore kt desc y.2 z.2 then some y else some z) none

/-- The merge of R258, at most `n` records. -/
def mergeRecs (kt : Nat) (desc : Bool) : Nat → List (List (List Byte)) → List (List Byte)
  | 0, _ => []
  | n + 1, l =>
    match firstHead kt desc l with
    | none => []
    | some (i, r) => r :: mergeRecs kt desc n (l.modify i List.tail)

/-- The 32 bytes of dispatch entry `j` (R259). -/
def Block.dtabEntry (k : Block) (b j : Nat) : List Byte := bytesAt (look [] k.rdc.dtab (b * 8192 + j)) 0 32

/-- Entry `j` lies in the DTAB partition. -/
def Block.dtabHas (k : Block) (b j : Nat) : Bool := decide ((j + 1) * 32 ≤ k.dtabBytes b)

/-- The record's KEY lies in the range of a dispatch entry. -/
def inRange (kt : Nat) (e : List Byte) (r : List Byte) : Bool :=
  let x := recKey kt r
  decide (keyRank kt (natAt e 0 4) ≤ x) && decide (x ≤ keyRank kt (natAt e 4 4))

/-- The set and slot word of a record instruction that needs buffers `bs`; none for a run-time fault. -/
def Block.recOperands (k : Block) (b s : Nat) (bs : List Nat) : Option (SlotWord × Slot × Nat) :=
  let w := k.slotWord b s
  let v := k.slot b s
  match v.cur with
  | some i => if w.recs && bs.all w.hasBuf then some (w, v, i) else none
  | none => none

/-- A record instruction of kind `sel`. -/
def Block.recStep (k : Block) (d : Build) (b s : Nat) (sel : RdcInstr → Bool) (f : Block → RdcInstr → Option Block) :
    Block :=
  k.rdcStep d b s sel fun k i evt => (f k i).map fun k => k.retire b (0x100 + s) evt

/-- Bytes that a buffer of a slot takes: the SCR partition for S, SEGSIZE otherwise (R242). -/
def Block.bufRoom (k : Block) (b : Nat) (w : SlotWord) (c : Nat) : Nat :=
  if c = 9 then (partRange (k.reg .RDC_PART b [w.scrp])).2 * 1024 else w.segSize

/-- SORT (R258): in place; S is its scratch, so what S held is free bytes after it (log 79). -/
def Block.sortOp (k : Block) (b s : Nat) (i : RdcInstr) : Option Block :=
  match i with
  | .sort desc c kt =>
    (k.recOperands b s [c]).map fun (w, v, j) =>
      let l := sortRecs kt desc (splitRecords w.recBytes (v.buf (v.set j) c))
      let (t, k) := k.draw (if c = 9 then 0 else v.s.length)
      k.setSlot b s { ({ v with s := t } : Slot).putBuf j c l.flatten with kt := kt }
  | _ => none

/-- MERGE (R258). -/
def Block.mergeOp (k : Block) (b s : Nat) (i : RdcInstr) : Option Block :=
  match i with
  | .merge desc kt m =>
    let names := maskBufs (k.slotWord b s).nch m
    (k.recOperands b s names).map fun (w, v, j) =>
      let ls := names.map fun c => splitRecords w.recBytes (v.buf (v.set j) c)
      let n := (ls.map List.length).sum
      let cap := k.bufRoom b w 9 / max 1 w.recBytes
      let bad := (ls.filter fun l => !recsSorted kt desc l).length
      (k.bump .RDC_ERR 15 8 b [] bad).setSlot b s
        { v with s := ((mergeRecs kt desc n ls).take cap).flatten, kt := kt }
  | _ => none

/-- FILTER (R258). -/
def Block.filterOp (k : Block) (b s : Nat) (i : RdcInstr) : Option Block :=
  match i with
  | .filter inv c kt j =>
    if !k.dtabHas b j then none
    else (k.recOperands b s [c]).map fun (w, v, n) =>
      let e := k.dtabEntry b j
      let l := (splitRecords w.recBytes (v.buf (v.set n) c)).filter fun r => inRange kt e r != inv
      k.setSlot b s (v.putBuf n c l.flatten)
  | _ => none

/-- TOPK (R258). -/
def Block.topkOp (k : Block) (b s : Nat) (i : RdcInstr) : Option Block :=
  match i with
  | .topk asc dst kt src n =>
    (k.recOperands b s [dst, src]).map fun (w, v, j) =>
      let l := (sortRecs kt (!asc) (splitRecords w.recBytes (v.buf (v.set j) src))).take n
      let l := l.take (k.bufRoom b w dst / max 1 w.recBytes)
      k.setSlot b s { v.putBuf j dst l.flatten with kt := kt }
  | _ => none

/-- GATHER (R258): rows of SRC named by the INT32 values of buffer `ix`; a value out of range gives zeros and sets XIDX
and INDEX_RANGE. -/
def Block.gatherOp (k : Block) (b s : Nat) (i : RdcInstr) : Option Block :=
  match i with
  | .gather dst f src ix r =>
    (k.recOperands b s [dst, src, ix]).map fun (w, v, j) =>
      let x := v.set j
      let row := r * fmtSize f
      let data := v.buf x src
      let rows : Nat := data.length / row
      let il := v.buf x ix
      let fit := k.bufRoom b w dst / row
      let vals := ((elemsOf 4 (il.length / 4) il).map fun c => toSigned 32 c).take fit
      let out := (vals.map fun z =>
        if 0 ≤ z ∧ z < (rows : Int) then bytesAt data (z.toNat * row) row else List.replicate row (0 : Byte)).flatten
      let bad := vals.findIdx? fun z => decide (z < 0) || decide ((rows : Int) ≤ z)
      let v := v.putBuf j dst out
      let y := v.set j
      let y := match bad with
        | some n => { y with xidx := min y.xidx n, status := worse y.status stIndexRange }
        | none => y
      k.setSlot b s (v.setSet j y)
  | _ => none

/-- The source route table entry on which a part toward the slot's parent is issued, and the DST of that entry (R309); none at
a root. -/
def Block.parentEntry (k : Block) (b g : Nat) : Option (Nat × Nat) :=
  match k.treeEntry b g with
  | some i =>
    let w := k.treeWord b i 0
    let e := fld w 46 35
    if flag w 61 then none else some (e, fld (k.routeWord b k.net.bank e 1) 53 24)
  | none => none

/-- Where the part for a dispatch entry goes (R259, R309): a part toward the tree parent, at EP 2 of its brick, is issued on
UENTRY; any other by the entry. -/
def Block.emitTarget (k : Block) (b g : Nat) (c e addr : Nat) : PartTo :=
  match k.parentEntry b g with
  | some (u, dst) => if c % 2 ^ 30 = dst ∧ cEp dst = 2 then .entry dst u addr true else .entry (c % 2 ^ 30) e addr (c.testBit 30)
  | none => .entry (c % 2 ^ 30) e addr (c.testBit 30)

/-- EMIT at a slot (R258, R259): one DISPATCH part to each entry; none for a run-time fault. -/
def Block.emitOp (k : Block) (d : Build) (b s : Nat) (i : RdcInstr) (evt : Bool) : Option Block :=
  match i with
  | .emit src n j0 =>
    match k.recOperands b s [src] with
    | none => none
    | some (w, v, j) =>
      if !(List.range n).all fun i => k.dtabHas b (j0 + i) then none
      else match k.combineTrailer b s j with
        | none => none
        | some (t, final, af, first) =>
          let x := v.set j
          let (cseq, seg) := x.tag.getD (0, 0)
          let es := (List.range n).map fun i => k.dtabEntry b (j0 + i)
          let recs := splitRecords w.recBytes (v.buf x src)
          let placed := recs.map fun r => (es.findIdx? (fun e => inRange v.kt e r), r)
          let valid (e : List Byte) : Bool := (natAt e 8 4).testBit 31
          let lost := (placed.filter fun y => match y.1 with
            | some i => !valid (es.getD i [])
            | none => true).length
          let k := (k.mergeGflag b s af first).bump .RDC_ERR 7 0 b [] lost
          let live := es.zipIdx.filter fun e => valid e.1
          let parts := live.mapM fun e =>
            let run := (placed.filter fun y => y.1 == some e.2).map Prod.snd
            let flow := natAt e.1 14 2 % 2 ^ 12
            let c := natAt e.1 8 4
            if flow ≠ 0 ∧ c.testBit 30 = false then none
            else k.buildPart d b s opDispatch (if flow = 0 then 2 else 1) flow seg cseq x.member
              (k.emitTarget b w.group c (natAt e.1 12 2 % 2 ^ 12) (natAt e.1 16 8)) (run.flatten ++ t)
          match parts with
          | none => some (k.slotFault d b s stNoRoute)
          | some ps =>
            let o : OutPart := { cseq := cseq, seg := seg, seqk := seg, set := some j, emits := true, fromA := src == 7 }
            let k := k.willEmit b s final
            let k := if ps.isEmpty then k.queuePart d b s { o with down := true }
              else ps.foldl (fun k p => k.queuePart d b s { o with pkts := p }) k
            some (k.retire b (0x100 + s) evt)
  | _ => none

/-- SORT (R258). -/
def execSort (b sl : Nat) (s : State) : Host.Outcome State Fault Refusal :=
  let d := s.env.build
  s.run (brickOk d b && decide (sl < 64)) fun k =>
    k.recStep d b sl (fun i => match i with
      | .sort .. => true
      | _ => false) fun k i => k.sortOp b sl i

/-- MERGE (R258). -/
def execMerge (b sl : Nat) (s : State) : Host.Outcome State Fault Refusal :=
  let d := s.env.build
  s.run (brickOk d b && decide (sl < 64)) fun k =>
    k.recStep d b sl (fun i => match i with
      | .merge .. => true
      | _ => false) fun k i => k.mergeOp b sl i

/-- FILTER (R258). -/
def execFilter (b sl : Nat) (s : State) : Host.Outcome State Fault Refusal :=
  let d := s.env.build
  s.run (brickOk d b && decide (sl < 64)) fun k =>
    k.recStep d b sl (fun i => match i with
      | .filter .. => true
      | _ => false) fun k i => k.filterOp b sl i

/-- TOPK (R258). -/
def execTopk (b sl : Nat) (s : State) : Host.Outcome State Fault Refusal :=
  let d := s.env.build
  s.run (brickOk d b && decide (sl < 64)) fun k =>
    k.recStep d b sl (fun i => match i with
      | .topk .. => true
      | _ => false) fun k i => k.topkOp b sl i

/-- GATHER of a reducer (R258). -/
def execReducerGather (b sl : Nat) (s : State) : Host.Outcome State Fault Refusal :=
  let d := s.env.build
  s.run (brickOk d b && decide (sl < 64)) fun k =>
    k.recStep d b sl (fun i => match i with
      | .gather .. => true
      | _ => false) fun k i => k.gatherOp b sl i

/-- EMIT (R258). -/
def execEmit (b sl : Nat) (s : State) : Host.Outcome State Fault Refusal :=
  let d := s.env.build
  s.run (brickOk d b && decide (sl < 64)) fun k =>
    k.rdcStep d b sl (fun i => match i with
      | .emit .. => true
      | _ => false) fun k i evt => k.emitOp d b sl i evt

/-! ### Slot and partition words (R271, R273) -/

/-- A slot's stream is STOPPED or HALTED. -/
def Block.slotIdle (k : Block) (b s : Nat) : Bool :=
  let st := (k.stream b (0x100 + s)).st
  st == .stopped || st == .halted

/-- Slot `sl` is about to be written: its word of before this FCLK is kept (R271). -/
def Block.keepSlot (k : Block) (b sl : Nat) : Block :=
  let old := k.slotsBefore
  { k with rdc.slotOld := (k.clk.now + 1,
      if old.any (fun x => x.1 == b * 64 + sl) then old else insert old (b * 64 + sl) (k.reg .RDC_SLOT b [sl])) }

/-- A write of RDC_SLOT (R271). -/
def Block.writeSlot (k : Block) (b sl : Nat) (v : Word) : Block :=
  if k.slotIdle b sl then (k.keepSlot b sl).applyWrite .RDC_SLOT b [sl] v else k.lockVio

/-- A write of RDC_PART (R273): refused while a slot that names the partition runs. -/
def Block.writePartition (k : Block) (b i : Nat) (v : Word) : Block :=
  let names (sl : Nat) : Bool :=
    let w := k.slotWord b sl
    w.v && (w.segp == i || (w.recs && w.scrp == i))
  if (List.range 64).all fun sl => !names sl || k.slotIdle b sl then k.applyWrite .RDC_PART b [i] v else k.lockVio

/-- SLOT_WRITE (R271). -/
def execSlotWrite (b sl : Nat) (v : Word) (s : State) : Host.Outcome State Fault Refusal :=
  let d := s.env.build
  s.access (brickOk d b && decide (sl < 64)) b .mp fun k => (k.writeSlot b sl v).answerWrite b .mp

/-- PARTITION_WRITE (R273). -/
def execPartitionWrite (b i : Nat) (v : Word) (s : State) : Host.Outcome State Fault Refusal :=
  let d := s.env.build
  s.access (brickOk d b && decide (i < 32)) b .mp fun k => (k.writePartition b i v).answerWrite b .mp

/-! ### Fence bits and aborts (R191, R320, R322) -/

/-- GRP_ABORT at one brick (R322). -/
def Block.abortBrick (k : Block) (e : Env) (b group status : Nat) : Block :=
  let slots := (List.range 64).filter fun sl => (k.slotWord b sl).v && (k.slotWord b sl).group == group
  let trks := (List.range 1024).filter fun t =>
    (k.tracker b t).st == .collect && (k.tracker b t).desc.group == group
  let k := if slots.isEmpty && trks.isEmpty then k else k.bump .GRP_ERR 31 16 b
  let k := slots.foldl (fun k sl => k.slotFault e.build b sl status) k
  (trks.foldl (fun k t => k.completeTracker b t status) k).pumpEngines e b

/-- A write of GRP_ABORT (R322, R324, R467): a reserved STATUS has no effect. -/
def Block.writeAbort (k : Block) (e : Env) (v : Word) : Block :=
  let status := fld v 19 12
  if status = 0 ∨ 0x11 < status then k
  else ((bricks e.build).filter fun b => !k.isolated b).foldl (fun k b => k.abortBrick e b (fld v 11 0) status) k.episode

/-- GRP_ABORT (R322). -/
def execGrpAbort (v : Word) (s : State) : Host.Outcome State Fault Refusal :=
  s.access true 0 .mp fun k => (k.writeAbort s.env v).answerWrite 0 .mp

end Sys2Proof.Machine
end

