-- ==== Sys2Proof/Machine/Groups.lean ====
section
/-!
DEFINITION. Groups at the network interface (R303 to R319): descriptors, the results that member trackers take, and the
dispatch parts that a destination's tracker takes.
-/

namespace Sys2Proof.Machine

/-! ### Members (R313, R315) -/

/-- Member `m` takes results at brick `b`. -/
def Block.takesResults (k : Block) (b g m : Nat) : Bool :=
  match k.treeEntry b g with
  | some i =>
    let w := k.treeWord b i 1
    flag w 63 && decide (fld w 57 41 ≤ m) && decide (m < fld w 57 41 + fld w 62 58)
  | none => false

/-- First segment of a member's slice (o of R314). -/
def Block.sliceBase (k : Block) (g m : Nat) : Nat := if flag (k.descWord g 0) 60 then m * fld (k.descWord g 1) 63 48 else 0

/-- Segment `n` is due to a member of a collective of `count` segments (R313). -/
def Block.segDue (k : Block) (g m count n : Nat) : Bool :=
  decide (n < count) && (!flag (k.descWord g 0) 60 || n / max 1 (fld (k.descWord g 1) 63 48) == m)

/-- A member tracker is in COLLECT for a group and sequence. -/
def Tracker.collects (v : Tracker) (g cseq : Nat) : Bool :=
  v.st == .collect && v.op == .contrib && v.desc.group == g && v.desc.cseq == cseq

/-- The segments of a member whose RESULT is taken whole. -/
def Tracker.segsDone (v : Tracker) : Nat := (v.parts.filter fun e => e.2.done).length

/-- A member has all it waits for (R313): its parts answered, and every segment due to it committed. -/
def Block.memberFinished (k : Block) (b t : Nat) : Bool :=
  let v := k.tracker b t
  let c := v.desc
  let sent := if v.stop then v.unanswered.isEmpty else decide (v.issued = v.pcount) && decide (v.b = v.pcount)
  sent && (v.stop || !k.takesResults b c.group c.member ||
    (List.range v.pcount).all fun n => !k.segDue c.group c.member v.pcount n || (look {} v.parts n).done)

/-- Complete a member that has all it waits for (R315). -/
def Block.checkMember (k : Block) (b t : Nat) : Block :=
  let v := k.tracker b t
  if v.st = .collect ∧ v.op = .contrib ∧ k.memberFinished b t = true then
    k.completeTracker b t stOk
  else k

/-! ### The data of a part in its packets (R248, R314) -/

/-- Data bytes of packet `i` of a part of `n` packets, as far as they are known to be data: the trailer is the last 16
bytes of the part, wherever they fall. `placed` are the packets that have arrived. -/
def knownData (n : Nat) (placed : List (Nat × List Byte)) (i : Nat) (l : List Byte) : List Byte :=
  if i + 1 = n then l.take (l.length - 16)
  else if i + 2 = n then
    match placed.find? fun e => e.1 + 1 == n with
    | some e => l.take (l.length - (16 - e.2.length))
    | none => l.take (l.length - 16)
  else l

/-- The trailer of a part whose last two packets have arrived. -/
def placedTrailer (n : Nat) (placed : List (Nat × List Byte)) : List Byte :=
  let get (i : Nat) : List Byte := ((placed.find? fun e => e.1 == i).map Prod.snd).getD []
  let l := (if 2 ≤ n then get (n - 2) else []) ++ get (n - 1)
  l.drop (l.length - 16)

/-- The memory runs of an arriving packet: (offset in the part, bytes). The last packet also brings the bytes of the one
before it that were not yet known to be data. -/
def arrivalRuns (n : Nat) (placed : List (Nat × List Byte)) (i : Nat) (l : List Byte) : List (Nat × List Byte) :=
  let own := (i * 8256, knownData n placed i l)
  if i + 1 = n ∧ 2 ≤ n then
    match placed.find? fun e => e.1 + 2 == n with
    | some e =>
      let all := knownData n (placed ++ [(i, l)]) e.1 e.2
      let before := knownData n placed e.1 e.2
      [own, (e.1 * 8256 + before.length, all.drop before.length)]
    | none => [own]
  else [own]

/-! ### RESULT_DELIVERY (R314) -/

/-- One member tracker takes a RESULT packet of segment `n`. -/
def Block.takeResult (k : Block) (b t n : Nat) (p : Packet) : Block :=
  let v := k.tracker b t
  let c := v.desc
  let x := look {} v.parts n
  if faultPacket p then k.completeTracker b t (statusOf (natAt p.payload 5 1))
  else if !k.segDue c.group c.member v.pcount n || x.done || x.placed.any fun e => e.1 == p.pseq then k
  else
    let runs := (arrivalRuns p.pcount x.placed p.pseq p.payload).filter fun r => !r.2.isEmpty
    if runs.any fun r => decide (k.resultSeg c.group < r.1 + r.2.length) then k.completeTracker b t stProgramFault
    else
      let base := c.da + (n - k.sliceBase c.group c.member) * k.resultSeg c.group
      let x := { x with head := { p with payload := [] }, placed := x.placed ++ [(p.pseq, p.payload)] }
      (k.setTracker b t { v with parts := put {} v.parts n x, gtime := k.gtime }).memIssue b (.memberData t p)
        (runs.map fun r => (base + r.1, r.2))

/-- The memory's answer to the data of a RESULT packet (R314, R315, R554, R556): a packet that failed is not placed; the
last committed packet ends the segment and brings its trailer. -/
def Block.resultWritten (k : Block) (b t : Nat) (p : Packet) (bytes : Nat) (err : Bool) : Block :=
  let v := k.tracker b t
  let n := if k.groupStill p.group then p.seg / 2 else p.seg
  let x := look {} v.parts n
  if v.collects p.group p.cseq = false then k
  else if err then
    k.setTracker b t { v with parts := put {} v.parts n { x with placed := x.placed.filter fun e => e.1 != p.pseq } }
  else
    let x := { x with committed := x.committed ++ [p.pseq] }
    let full := decide (x.committed.length = p.pcount)
    let tr := placedTrailer p.pcount x.placed
    let x := if full then { x with placed := [], done := true } else x
    let v := { v with parts := put {} v.parts n x, bytes := v.bytes + bytes }
    let af := natAt tr 4 1
    let v := if full then
        { v with
          aflags := v.aflags ||| af
          firstIdx := if af = 0 then v.firstIdx else min v.firstIdx (natAt tr 0 4)
          status := worse v.status (natAt tr 5 1)
          done := v.done + 1 }
      else v
    (k.setTracker b t v).checkMember b t

/-- RESULT_DELIVERY (R314): a RESULT at the NI. One whose tracker is in COMPLETING is LATE, as in LINGER (R216, log 110). -/
def execResultDelivery (b : Nat) (s : State) : Host.Outcome State Fault Refusal :=
  let d := s.env.build
  s.run (brickOk d b) fun k =>
    match k.rxTake b 0 [opResult] with
    | none => k
    | some (p, k) => k.consume d b 1 p (p.op == opResult) false fun k =>
      let still := k.groupStill p.group
      if still && p.seg % 2 == 0 then k
      else
        let n := if still then p.seg / 2 else p.seg
        let ts := (List.range 1024).filter fun t =>
          let v := k.tracker b t
          v.collects p.group p.cseq && k.takesResults b p.group v.desc.member
        if ts.isEmpty then
          let late := (List.range 1024).any fun t =>
            let v := k.tracker b t
            (v.st == .linger || v.st == .completing) && v.op == .contrib && v.desc.group == p.group &&
            v.desc.cseq == p.cseq
          if late then k.bump .TRK_ERR 31 16 b else k.bump .GRP_ERR 63 48 b
        else (ts.foldl (fun k t => k.takeResult b t n p) k).pumpEngines s.env b

/-! ### DISPATCH_DELIVERY (R318) -/

/-- Key of a dispatch part at its destination. -/
def runKey (p : Packet) : Nat := p.src * 2 ^ 16 + p.seg

/-- The ACK of a dispatch part (R251, R318). -/
def Block.ackRun (k : Block) (d : Build) (b : Nat) (p : Packet) : Block :=
  k.sendAck d b 1 { p with pseq := p.pcount - 1 } p.pcount 0 true

/-- The memory run of a complete dispatch part: its run header and its records. -/
def Block.runBytes (k : Block) (p : Packet) (l : List Byte) : List Byte :=
  let data := l.take (l.length - 16)
  let t := l.drop (l.length - 16)
  leBytes 4 (data.length / max 1 (k.groupRecBytes p.group)) ++ leBytes 1 (natAt t 5 1) ++
  leBytes 1 (natAt t 6 1 % 2) ++ leBytes 2 0 ++ leBytes 4 p.src ++ leBytes 4 0 ++ data

/-- A packet of a dispatch part at tracker `t`, which is in COLLECT for its group and sequence. -/
def Block.takeRun (k : Block) (d : Build) (b t : Nat) (p : Packet) : Block :=
  let v := k.tracker b t
  let x := look {} v.parts (runKey p)
  if x.done then k.ackRun d b p
  else if x.placed.any fun e => e.1 == p.pseq then k
  else
    let x := { x with head := { p with payload := [] }, placed := x.placed ++ [(p.pseq, p.payload)] }
    let k := k.setTracker b t { v with parts := put {} v.parts (runKey p) x, gtime := k.gtime }
    if x.placed.length < p.pcount then k
    else
      let l := (List.range p.pcount).flatMap fun i => ((x.placed.find? fun e => e.1 == i).map Prod.snd).getD []
      let a := (p.addr + p.seg * fld (k.descWord p.group 1) 23 0 * 16) % 2 ^ 48
      k.memIssue b (.runData t p) [(a, k.runBytes p l)]

/-- Distinct emitters that have delivered a FINAL part with every segment below it. -/
def Tracker.emittersDone (v : Tracker) : Nat :=
  ((v.parts.filter fun e =>
    e.2.done && e.2.head.last && (List.range (e.1 % 2 ^ 16)).all fun i =>
      (look {} v.parts (e.1 / 2 ^ 16 * 2 ^ 16 + i)).done).map fun e => e.1 / 2 ^ 16).eraseDups.length

/-- The memory's answer to a dispatch part (R318, R554, R556): acknowledged once committed; the tracker completes when
NEMIT emitters are done. In `head` of a part taken, `last` says that its trailer had FINAL = 1. -/
def Block.runWritten (k : Block) (d : Build) (b t : Nat) (p : Packet) (err : Bool) : Block :=
  let v := k.tracker b t
  let x := look {} v.parts (runKey p)
  if v.st ≠ .collect ∨ v.op ≠ .reducerPart ∨ v.desc.group ≠ p.group ∨ v.desc.cseq ≠ p.cseq then k
  else if err then
    (k.setTracker b t { v with parts := erase v.parts (runKey p) }).sendNack d b 1 p
  else
    let l := (List.range p.pcount).flatMap fun i => ((x.placed.find? fun e => e.1 == i).map Prod.snd).getD []
    let tr := l.drop (l.length - 16)
    let x := { x with placed := [], done := true, head := { x.head with last := natAt tr 6 1 % 2 == 1 } }
    let v := { v with
      parts := put {} v.parts (runKey p) x
      bytes := v.bytes + (l.length - 16)
      done := v.done + 1
      status := worse v.status (natAt tr 5 1) }
    let k := (k.setTracker b t v).ackRun d b p
    if fld (k.descWord p.group 1) 47 40 ≤ v.emittersDone then k.completeTracker b t stOk else k

/-- DISPATCH_DELIVERY (R318): a DISPATCH part at EP 0. -/
def execDispatchDelivery (b : Nat) (s : State) : Host.Outcome State Fault Refusal :=
  let d := s.env.build
  s.run (brickOk d b) fun k =>
    match k.rxTake b 0 [opDispatch] with
    | none => k
    | some (p, k) => k.consume d b 0 p (p.op == opDispatch) true fun k =>
      let t := fld (k.descWord p.group 1) 39 30
      let v := k.tracker b t
      let mine := v.op == .reducerPart && v.desc.group == p.group && v.desc.cseq == p.cseq
      let taking := mine && (v.st == .linger || v.st == .completing)
      if !k.descValid p.group || (!flag (k.binding b t) 63 && !taking) then
        (k.bump .GRP_ERR 47 32 b).answerError d b p stNoRoute
      else if v.st = .idle then
        (k.setTracker b t
          { st := .collect, op := .reducerPart, isDest := true, sys := true, owner := p.src, gtime := k.gtime
            desc := { group := p.group, cseq := p.cseq } }).takeRun d b t p
      else if v.st = .collect ∧ mine = true then k.takeRun d b t p
      else if (v.st = .linger ∨ v.st = .completing) ∧ mine = true then k.ackRun d b p
      else (k.bump .TRK_ERR 63 48 b).postEvent b { type := 0xB, source := t, arg0 := p.src, arg1 := p.pseq }

end Sys2Proof.Machine
end

