-- ==== Sys2Proof/Machine/Control.lean ====
section
/-!
DEFINITION. The control instructions of reducer and transfer streams (R33 to R42, R587), their faults and restart (R32,
R46 to R49, R588), and the sync counters' register writes (R38, R53).
-/

namespace Sys2Proof.Machine

/-! ### Control instructions -/

/-- The control operation at which stream `u` stands, if it runs and nothing holds it, and its EVT bit. -/
def Block.ctlFetch (k : Block) (b u : Nat) : Option (CtlOp × Bool) :=
  let v := k.stream b u
  let w := k.progWord b u v.pc
  if v.st = .running ∧ v.hold = .none ∧ k.streamOn b u = true then (ctlOf u w).map fun o => (o, wordEvt w.toNat) else none

/-- The counter satisfies the target (R40). -/
def waitMet (counter target : Nat) : Bool := serialLe 32 target counter

/-- While the loader quiesces, a transfer stream that reaches WAIT or HALT is stopped there (R62). -/
def Block.quiesceStop (k : Block) (b u : Nat) : Block :=
  if k.img.st = .quiescing ∧ isReducer u = false then
    let v := k.stream b u
    { k.setStream b u { v with st := .stopped } with img.saved := k.img.saved ++ [(streamKey b u, v)] }
  else k

/-- WAIT (R36, R40, R62). -/
def Block.waitOp (k : Block) (b u : Nat) (o : CtlOp) (evt : Bool) : Block :=
  match o with
  | .wait c st v =>
    if k.img.st = .quiescing ∧ isReducer u = false then k.quiesceStop b u
    else
      let target := (v + st * k.iterIndex b u (k.stream b u).pc) % 2 ^ 32
      let k := k.mapStream b u fun x => { x with wcnt := c, wtarget := target }
      if waitMet (k.counter b c) target then k.retire b u evt
      else k.stay b u .waiting .none
  | _ => k

/-- WAIT (R36). -/
def execWait (b u : Nat) (s : State) : Host.Outcome State Fault Refusal :=
  s.run (brickOk s.env.build b && streamOk u) fun k =>
    match k.ctlFetch b u with
    | some (o, evt) => k.waitOp b u o evt
    | none => k

/-- WAIT_SATISFIED (R40, R41): a waiting stream's sample satisfies its target. -/
def execWaitSatisfied (b u : Nat) (s : State) : Host.Outcome State Fault Refusal :=
  s.run (brickOk s.env.build b && streamOk u) fun k =>
    let v := k.stream b u
    if v.st = .waiting ∧ v.hold = .none ∧ waitMet (k.counter b v.wcnt) v.wtarget = true then
      k.retire b u (wordEvt (k.curWord b u).toNat)
    else k

/-- SIGNAL (R33, R38): an add to a counter of the own brick. -/
def execSignal (b u : Nat) (s : State) : Host.Outcome State Fault Refusal :=
  s.run (brickOk s.env.build b && streamOk u) fun k =>
    match k.ctlFetch b u with
    | some (.signal c n, evt) => (k.counterAdd b c n).retire b u evt
    | _ => k

/-- LOOP (R35): branch while fewer than n branches have been taken since the loop was entered. The count belongs to the
word's address, and a write of the word keeps it (log 105). -/
def Block.loopOp (k : Block) (b u : Nat) (o : CtlOp) (evt : Bool) : Block :=
  match o with
  | .loop n t =>
    let v := k.stream b u
    let done := v.taken v.pc
    let others := v.loops.filter fun x => x.1 != v.pc
    if n = 0 ∨ done < n then
      (k.evtEvent b u v.pc evt).mapStream b u fun x => { x with pc := t, loops := others ++ [(v.pc, done + 1)] }
    else (k.mapStream b u fun x => { x with loops := others }).retire b u evt
  | _ => k

/-- LOOP (R35). -/
def execLoopBack (b u : Nat) (s : State) : Host.Outcome State Fault Refusal :=
  s.run (brickOk s.env.build b && streamOk u) fun k =>
    match k.ctlFetch b u with
    | some (o, evt) => k.loopOp b u o evt
    | none => k

/-- HALT (R37, R245). -/
def Block.haltOp (k : Block) (d : Build) (b u : Nat) (o : CtlOp) (evt : Bool) : Block :=
  match o with
  | .halt =>
    let k := k.evtEvent b u (k.stream b u).pc evt
    if isReducer u then k.haltSlot d b (u - 0x100)
    else (k.mapStream b u fun v => { v with st := .halted, hold := .none, word := none }).quiesceStop b u
  | _ => k

/-- HALT (R37). -/
def execHalt (b u : Nat) (s : State) : Host.Outcome State Fault Refusal :=
  let d := s.env.build
  s.run (brickOk d b && streamOk u) fun k =>
    match k.ctlFetch b u with
    | some (o, evt) => k.haltOp d b u o evt
    | none => k

/-! ### Faults -/

/-- ILLEGAL_INSTRUCTION (R32): a running stream fetches a word that is not legal in its class. -/
def execIllegalInstruction (b u : Nat) (s : State) : Host.Outcome State Fault Refusal :=
  let d := s.env.build
  s.run (brickOk d b && streamOk u) fun k =>
    let v := k.stream b u
    if v.st = .running ∧ v.hold = .none ∧ wordLegal u (k.progWord b u v.pc) = false then k.failStream d b u 0 else k

/-- The SRAMs of R453's last row: route, tree-node, GPD and endpoint tables, queue slots, resend store, pond, hold queues and
retry buffers. -/
def otherMemories : Nat := 9

/-- The operand of PROGRAM_MEMORY_ERROR names one of them. -/
def memoryOk (u : Nat) : Bool := decide (0x200 ≤ u) && decide (u < 0x200 + otherMemories)

/-- A SECDED error in one of them (R453, R461): a single-bit error is counted, more marks the brick's memory. -/
def Block.memoryError (k : Block) (b : Nat) : Secded → Block
  | .single => k.bump .BRK_FLT 47 32 b
  | .double => if flag (k.reg .BRK_FLT b) 0 then k else (k.setBit .BRK_FLT 0 b).permanent 8 b 0

/-- PROGRAM_MEMORY_ERROR (R48, R453, R461): `u` names a stream whose fetch finds the error, or as 0x200 + i one of the other
SRAMs of the brick. In program memory a single-bit error is corrected and counted; a double-bit error faults the stream,
and the second at one address within 1 s marks the brick's memory. -/
def execProgramMemoryError (b u : Nat) (err : Secded) (s : State) : Host.Outcome State Fault Refusal :=
  let d := s.env.build
  s.run (brickOk d b && (streamOk u || memoryOk u)) fun k =>
    let v := k.stream b u
    if memoryOk u then (if k.isolated b then k else k.memoryError b err)
    else if v.st ≠ .running ∨ v.hold ≠ .none then k
    else match err with
      | .single => k.bump .NI_PFAULT 63 48 b
      | .double =>
        let cls := b2n (isReducer u)
        let (n, h) := k.failures k.prog.memFaults ((b * 2 + cls) * 4096 + v.pc) 1000000
        let k := { k with prog.memFaults := h }
        let k := if n = 2 ∨ 2 < n ∧ flag (k.reg .BRK_FLT b) 0 = false then (k.setBit .BRK_FLT 0 b).permanent 6 b cls else k
        k.failStream d b u 0

/-- WATCHDOG_EXPIRY (R46, R588): ARG1 of the event holds target and counter. -/
def execWatchdogExpiry (b u : Nat) (s : State) : Host.Outcome State Fault Refusal :=
  let d := s.env.build
  s.run (brickOk d b && streamOk u) fun k =>
    let v := k.stream b u
    if v.st = .waiting then k.failStream d b u (v.waitsFor.2 * 2 ^ 32 + v.waitsFor.1) else k

/-- Entry address of a stream: the slot word's ENTRY, or the engine's entry word. -/
def Block.entryOf (k : Block) (b u : Nat) : Nat :=
  if isReducer u then (k.slotWord b (u - 0x100)).entry else fld (look 0 k.prog.entries (b * 16 + u)) 11 0

/-- RESTART of a stream by the word written to its status register (R49); a slot's stream stands while its domain is not ON
(R498, R499). -/
def Block.restart (k : Block) (b u : Nat) (v : Word) : Block :=
  let x := k.stream b u
  if flag v 63 && (x.st == .halted || x.st == .faulted) && k.streamOn b u then
    k.setStream b u { x with st := .running, pc := k.entryOf b u, loops := [], hold := .none, word := none }
  else k

/-- RESTART (R49). -/
def execRestart (b u : Nat) (v : Word) (s : State) : Host.Outcome State Fault Refusal :=
  s.access (brickOk s.env.build b && streamOk u) b .mp fun k => (k.restart b u v).answerWrite b .mp

/-! ### Counter registers (R38, R53) -/

/-- The rank of a set by the port of the write (R39). -/
def setRankOf : Via → Nat
  | .mp => setByMp
  | .lp _ _ => setByLp

/-- COUNTER_SET: a write to NI_CNTVAL. -/
def execCounterSet (via : Via) (b c : Nat) (v : Word) (s : State) : Host.Outcome State Fault Refusal :=
  let d := s.env.build
  s.access (brickOk d b && decide (c < 256)) b via fun k =>
    if k.viaOpen d b via then (k.counterSet b c (setRankOf via) (fld v 31 0)).answerWrite b via else k

/-- COUNTER_ADD_WRITE: a write to NI_CNTADD. -/
def execCounterAddWrite (via : Via) (b c : Nat) (v : Word) (s : State) : Host.Outcome State Fault Refusal :=
  let d := s.env.build
  s.access (brickOk d b && decide (c < 256)) b via fun k =>
    if k.viaOpen d b via then (k.counterAdd b c (fld v 31 0)).answerWrite b via else k

end Sys2Proof.Machine
end

