-- ==== Sys2Proof/Machine/SparseJobs.lean ====
section
/-!
DEFINITION. The books of the compressor and the gather engine (R334, R342 to R347): whose turn it is, when a GATHER
completes, and what happens to a residual descriptor once its channel has taken it.
-/

namespace Sys2Proof.Machine

/-- The tracker is a GATHER at work. -/
def Block.gathering (k : Block) (b t : Nat) : Bool := (k.tracker b t).st == .source && (k.tracker b t).op == .gather

/-- The STORE.C whose scan pass the compressor makes (R334, R347): the first started one, once those before it have
issued all their packets. -/
def Block.scanning (k : Block) (b : Nat) : Option Nat :=
  let open_ := (look [] k.spc.compress b).filter fun t =>
    (k.tracker b t).op == .storeC && k.unissued b t
  match open_ with
  | t :: _ => if (k.tracker b t).pcount = 0 then some t else none
  | [] => none

/-- The GATHER whose turn it is (R347): the first started one whose merge phase is not over. -/
def Block.gatherTurn (k : Block) (b : Nat) : Option Nat :=
  (look [] k.spc.gathers b).find? fun t => k.gathering b t && !(k.job b t).mergeOver

/-- The fetch phase of a GATHER begins (R338, R345, R347): its zero rows are counted and written, with one event at most, and
its requests are issued. -/
def Block.beginGather (k : Block) (e : Env) (b t : Nat) : Block :=
  let j := k.job b t
  let zero := ((List.range j.rows.length).zip j.rows).filterMap fun x => if x.2.isNone then some x.1 else none
  let k := k.setJob b t { j with started := true, writes := zero.length }
  let k := zero.foldl (fun k n => k.memIssue b (.gatherRow t n)
    [(j.tbase + n * j.rowb, List.replicate j.rowb 0)]) k
  let k := match zero with
    | [] => k
    | n :: _ =>
      let k := k.event .SPC_ERR b [] (mkWord [(48, min 0xFFFF zero.length)])
      let k := k.event .SPC_FIRST b [] (mkWord [(32, n), (0, 0xFFFFFFFF)])
      (k.mapTracker b t fun v => { v with status := worse v.status stIndexRange }).postEvent b
        { type := 0xA, status := stIndexRange, source := t, arg0 := n }
  k.issue e b t

/-- The GATHER whose turn it is begins its fetch phase. -/
def Block.pumpGathers (k : Block) (e : Env) (b : Nat) : Block :=
  match k.gatherTurn b with
  | some t => if (k.job b t).started then k else k.beginGather e b t
  | none => k

/-- Senders that wait at a brick, in the order in which they began to wait (R365). -/
def Block.waits (k : Block) (b : Nat) : List WaitSend := look [] k.mq.waits b

/-- Replace the waiting senders. -/
def Block.setWaits (k : Block) (b : Nat) (l : List WaitSend) : Block := { k with mq.waits := put [] k.mq.waits b l }

/-- The sender is GATHER `t`. -/
def ofGather (t : Nat) (w : WaitSend) : Bool := w.who == .residual t

/-- Residual descriptors of GATHER `t` that wait in the RESID partition, in posting order (R343). -/
def Block.parked (k : Block) (b t : Nat) : List (List Byte) := ((k.waits b).filter (ofGather t)).map WaitSend.data

/-- Every residual descriptor of a GATHER is committed to its queue, or dropped (R346). -/
def Block.posted (k : Block) (b t : Nat) : Bool :=
  (k.job b t).posts.isEmpty && (k.parked b t).isEmpty && decide ((k.job b t).open_ = 0)

/-- A GATHER has all it waits for (R346, R217, R339). -/
def Block.gatherDone (k : Block) (b t : Nat) : Bool :=
  let v := k.tracker b t
  let j := k.job b t
  if v.stop then v.unanswered.isEmpty && decide (j.writes = 0) && k.posted b t
  else if j.mergeOver && j.phase != .output then decide (j.nFetch ≤ v.b) && decide (j.writes = 0)
  else j.phase == .output && decide (v.b = v.pcount) && decide (j.writes = 0) && k.posted b t

/-- Complete a GATHER that has all it waits for. -/
def Block.checkGather (k : Block) (b t : Nat) : Block :=
  if k.gathering b t && k.gatherDone b t then
    k.completeTracker b t (if (k.tracker b t).moved && !(k.tracker b t).stop then stMoved else stOk)
  else k

/-- A residual descriptor is dropped (R343): counted, and SPC_UROW takes its ROW0 unless it holds one. -/
def Block.dropResidual (k : Block) (b : Nat) (m : List Byte) : Block :=
  (k.event .SPC_ERR b [] (mkWord [(32, 1)])).event .SPC_UROW b [] (mkWord [(0, natAt m 4 4)])

/-- Residual descriptors of a GATHER that its channel has taken and not seen acknowledged. -/
def Block.takenOf (k : Block) (b t : Nat) : List (List Byte) :=
  let v := look {} k.mq.chan (b * 1024 + (k.job b t).chan)
  (v.unacked.filter fun m => m.residual && m.trk == some t).map SentMsg.data

/-- A GATHER is done with the messages that its channel has taken: the channel keeps them (R369), and no one hears of
them. -/
def Block.letGo (k : Block) (b t : Nat) : Block :=
  let c := b * 1024 + (k.job b t).chan
  let v : Channel := look {} k.mq.chan c
  let free (m : SentMsg) : SentMsg := if m.residual && m.trk == some t then { m with trk := none, quiet := true } else m
  { k with mq.chan := put {} k.mq.chan c { v with unacked := v.unacked.map free } }

/-- The engine stops posting with a status (R343): every descriptor not yet committed to the queue is dropped, in posting
order. One that the channel had taken counts as dropped too, though the channel keeps the message (log 89). -/
def Block.stopPosting (k : Block) (b t status : Nat) : Block :=
  let j := k.job b t
  let lost := k.takenOf b t ++ k.parked b t ++ j.posts
  let k := (k.letGo b t).setWaits b ((k.waits b).filter fun w => !ofGather t w)
  let k := k.setJob b t { j with posts := [], open_ := 0, stopped := true, mergeOver := true }
  let k := lost.foldl (fun k m => k.dropResidual b m) k
  (k.mapTracker b t fun v => { v with status := worse v.status status }).checkGather b t

/-- A residual descriptor is committed to its queue (R346). -/
def Block.residualAcked (k : Block) (b t : Nat) : Block :=
  if k.gathering b t then (k.setJob b t { k.job b t with open_ := (k.job b t).open_ - 1 }).checkGather b t else k

/-- A residual descriptor that the channel had taken fails with it (R343, R370). -/
def Block.residualFailed (k : Block) (b t status : Nat) (m : List Byte) : Block :=
  let k := k.dropResidual b m
  if k.gathering b t then
    let j := k.job b t
    ((k.setJob b t { j with open_ := j.open_ - 1 }).mapTracker b t fun v => { v with status := worse v.status status }).checkGather b t
  else k

/-- A channel enters CLOSED (R343): each GATHER that posts on it stops. -/
def Block.closePosting (k : Block) (b c : Nat) : Block :=
  (look [] k.spc.gathers b).foldl (fun k t =>
    let j := k.job b t
    if k.gathering b t && j.chan == c && !(j.posts.isEmpty && (k.parked b t).isEmpty) then k.stopPosting b t stClosed else k) k

/-- Descriptors that a RESID partition holds (R343): SIZE * 32. -/
def Block.residCapacity (k : Block) (b i : Nat) : Nat := k.rf .RDC_PART 16 8 b [i] * 32

/-- Descriptors parked in partition `i` of a brick by all its GATHERs. -/
def Block.residHeld (k : Block) (b i : Nat) : Nat :=
  (k.waits b).countP fun w => match w.who with
    | .residual t => (k.job b t).rpart == i
    | _ => false

end Sys2Proof.Machine
end

