-- ==== Sys2Proof/Machine/Queues.lean ====
section
/-!
DEFINITION. Message channels and hardware queues (R354 to R384): sending (R365 to R367), delivery and acknowledgement
(R368 to R370), credits (R361 to R364), steered messages (R371, R372), queue reset and pops (R356 to R358), and the event
FIFO's pop and stale notice (R373, R375).
-/

namespace Sys2Proof.Machine

/-! ### Access -/

/-- A receive queue. -/
def Block.queue (k : Block) (b q : Nat) : RxQueue := look {} k.mq.queue (b * 64 + q)

/-- Replace a queue. -/
def Block.setQueue (k : Block) (b q : Nat) (v : RxQueue) : Block :=
  { k with mq.queue := put {} k.mq.queue (b * 64 + q) v }

/-- A send channel. -/
def Block.chan (k : Block) (b c : Nat) : Channel := look {} k.mq.chan (b * 1024 + c)

/-- Replace a channel. -/
def Block.setChan (k : Block) (b c : Nat) (v : Channel) : Block :=
  { k with mq.chan := put {} k.mq.chan (b * 1024 + c) v }

/-- The coordinate of the queue that a channel names, EP 1 (R360, R384). -/
def Block.chanDst (k : Block) (b c : Nat) : Nat := k.rf .MQ_CHCFG 36 10 b [c] * 8 + 1

/-- STEER of a channel. -/
def Block.chanSteer (k : Block) (b c : Nat) : Bool := flag (k.reg .MQ_CHCFG b [c]) 62

/-- V of a channel. -/
def Block.chanOn (k : Block) (b c : Nat) : Bool := flag (k.reg .MQ_CHCFG b [c]) 63

/-- Messages in the resend store of an NI (R365). -/
def Block.resendStore (k : Block) (b : Nat) : Nat :=
  ((k.mq.chan.filter fun e => e.1 / 1024 == b).map fun e => e.2.unacked.length).sum

/-- a lies before b modulo 2^16. -/
def before16 (a b : Nat) : Bool := decide (a % 2 ^ 16 ≠ b % 2 ^ 16) && serialLe 16 a b

/-! ### The arrival history (R225) -/

/-- Entries of the arrival history. -/
def historyDepth : Nat := 64

/-- The history of a brick. -/
def Block.history (k : Block) (b : Nat) : List (Nat × Nat) := look [] k.xfr.history b

/-- What the history decides on an arrival: already seen, no room, or new (recorded). -/
def Block.arriveOnce (k : Block) (b : Nat) (key : Nat × Nat) : Option Bool × Block :=
  let h := k.history b
  if h.contains key then (some false, k)
  else if historyDepth ≤ h.length then (none, k.bump .TRK_ERR 15 8 b)
  else (some true, { k with xfr.history := put [] k.xfr.history b (h ++ [key]) })

/-- The placement and loader histories of a brick without an entry (R396, R583). -/
def Block.expireSeen (k : Block) (b src trk c : Nat) : Block :=
  let h := (look [] k.gpd.seen (b * 8 + c)).filter fun (x : DirSeen) => !(x.src == src && x.trk == trk)
  { k with gpd.seen := put [] k.gpd.seen (b * 8 + c) h }

/-- ARRIVAL_HISTORY_EXPIRY (R225): the entry leaves the histories of the brick. -/
def execArrivalHistoryExpiry (b src trk : Nat) (s : State) : Host.Outcome State Fault Refusal :=
  s.run (brickOk s.env.build b) fun k =>
    let h := (k.history b).filter fun x => !(x.1 == src && x.2 % 2 ^ 18 == trk)
    [3, 4, 5].foldl (fun k c => k.expireSeen b src trk c) { k with xfr.history := put [] k.xfr.history b h }

/-! ### The NI's own packets -/

/-- The DST of a channel is its own brick (R360); a steered channel names no queue. -/
def Block.chanOwn (k : Block) (d : Build) (b c : Nat) : Bool := !k.chanSteer b c && k.chanDst b c == coord d b 1

/-- Send a packet of a channel or queue in coordinate mode (or as routed): inside the NI where it is between a channel and a
queue of this brick (R360), else staged for subscriber `sub`. -/
def Block.niSend (k : Block) (d : Build) (b : Nat) (sub : Option Nat) (p : Packet) : Block :=
  if (if p.op = opMessage then k.chanOwn d b (p.tracker % 1024) else p.dst == coord d b 1) then
    k.setRx b 0 (k.rxQueue b 0 ++ [{ sealPacket p with inPort := 4 }])
  else match k.enterDie d b 4 p with
    | (some q, k) => k.stageAt b 0 { sub := sub, pkt := sealPacket q }
    | (none, k) => (k.bump .BRK_RTERR 15 0 b).answerError d b p stNoRoute

/-- A CREDIT of queue `q` to a grant entry (R361): OP 1 GRANT, 2 REVOKE. Its PSEQ, the channel sequence number of R80, is the
entry's NEXT, the lowest number that the queue has not yet committed (log 90). -/
def Block.sendCredit (k : Block) (d : Build) (b q : Nat) (g : Grant) (op epoch : Nat) : Block :=
  k.niSend d b none
    { vc := 5, op := opCredit, epoch := k.net.epoch, rmode := 1, dst := g.brick * 8 + 1, src := coord d b 1
      tracker := cBrick (g.brick * 8) * 1024 + g.chan, pseq := g.next, group := q, cseq := epoch
      payload := leBytes 2 (g.next + g.res) ++ leBytes 1 op ++ leBytes 5 0 }

/-! ### Sending (R182, R365, R366, R370) -/

/-- The MESSAGE packet of an accepted message; none where its route entry lets nothing go (R167). -/
def Block.messagePacket (k : Block) (d : Build) (b c : Nat) (m : SentMsg) (resend : Bool) : Option Packet :=
  let v := k.chan b c
  let p : Packet :=
    { vc := 4, op := opMessage, epoch := k.net.epoch, rmode := 1, src := coord d b 1, tracker := b * 1024 + c
      pseq := m.seq, last := true, resend := resend, payload := m.data }
  if k.chanSteer b c then
    some { p with steer := true, addr := m.addr % 2 ^ 57, dst := mkCoord d.pod d.pkg d.die 0 0 3 }
  else
    let p := { p with group := k.rf .MQ_CHCFG 48 43 b [c], cseq := v.epoch, dst := k.chanDst b c }
    if flag (k.reg .MQ_CHCFG b [c]) 61 && !k.chanOwn d b c then k.onEntry d b (k.rf .MQ_CHCFG 60 49 b [c]) p else some p

/-- A core's send on channel `c` owes its response (R551). -/
def Block.oweSend (k : Block) (b c : Nat) : Sender → Block
  | .lp rid tag => k.owe b rid tag (.send c)
  | _ => k

/-- The status of a send that was accepted, or that waited, on channel `c` goes to its sender. -/
def Block.reportSend (k : Block) (b c : Nat) (who : Sender) (status : Nat) : Block :=
  match who with
  | .engine t => k.completeTracker b t status
  | .residual _ => k
  | .lp rid _ => k.settleLp b rid (.send c) status []
  | .mp => k.setReg .MQ_SRES b [] (mkWord [(8, 1), (0, status)])

/-- The status of a send that is refused at once goes to its sender. -/
def Block.refuseSend (k : Block) (b c : Nat) (who : Sender) (status : Nat) : Block :=
  match who with
  | .lp rid tag => k.answerStatus b rid tag status
  | w => k.reportSend b c w status

/-- A message that was accepted fails (R370); one whose sender has been told already fails in silence. -/
def Block.failMsg (k : Block) (b c status : Nat) (m : SentMsg) : Block :=
  match m.trk with
  | some t =>
    if m.residual then k.residualFailed b t (if (k.chan b c).st = .closed then stClosed else status) m.data
    else k.completeTracker b t status
  | none =>
    if m.quiet then k
    else k.postEvent b { type := 0xD, status := status, source := c, arg0 := m.seq, arg1 := (k.chan b c).epoch }

/-- A channel closes with a status (R370): its unacknowledged messages fail, and senders that wait get CLOSED. -/
def Block.closeChan (k : Block) (b c status : Nat) : Block :=
  let v := k.chan b c
  let k := k.setChan b c { v with st := .closed, unacked := [] }
  let k := v.unacked.foldl (fun k m => k.failMsg b c status m) k
  let k := k.closePosting b c
  let ws := (k.waits b).filter fun w => w.chan == c
  let k := k.setWaits b ((k.waits b).filter fun w => w.chan != c)
  ws.foldl (fun k w => k.reportSend b c w.who stClosed) k

/-- Stage the messages of a channel, one at a time (R159), in sequence order: those to be resent (R369) and those not yet
started that R182 lets start. -/
def Block.startMsgs (k : Block) (d : Build) (b c : Nat) : Nat → Block
  | 0 => k
  | n + 1 =>
    let v := k.chan b c
    match v.unacked.find? fun m => m.sent.isNone || m.again with
    | none => k
    | some m =>
      if k.holdsStaged b (16 + c) 4 || (!m.again && v.unacked.any fun x => x.sent == some (!k.net.epoch)) then k
      else match k.messagePacket d b c m m.again with
        | none => k.closeChan b c stNoRoute
        | some p =>
          let k := k.setChan b c { v with
            unacked := v.unacked.map fun x => if x.seq == m.seq then { x with sent := some k.net.epoch, again := false } else x }
          (k.niSend d b (some (16 + c)) p).startMsgs d b c n

/-- The channel can accept a message now (R365, R371). -/
def Block.chanAccepts (k : Block) (b c : Nat) : Bool :=
  let v := k.chan b c
  v.st == .opened && decide (k.resendStore b < 512) &&
  (if k.chanSteer b c then v.unacked.isEmpty else before16 v.next v.limit)

/-- A message is accepted (R365). -/
def Block.acceptMsg (k : Block) (d : Build) (b c : Nat) (who : Sender) (data : List Byte) (addr : Nat) : Block :=
  let v := k.chan b c
  let trk := match who with
    | .engine t => some t
    | .residual t => some t
    | _ => none
  let residual := match who with
    | .residual _ => true
    | _ => false
  let m : SentMsg := { seq := v.next, data := data, addr := addr, trk := trk, residual := residual }
  let k := k.setChan b c { v with next := (v.next + 1) % 2 ^ 16, unacked := v.unacked ++ [m] }
  let k := match who with
    | .engine t => k.mapTracker b t fun x => { x with issued := 1 }
    | .residual t => k.setJob b t { k.job b t with open_ := (k.job b t).open_ + 1 }
    | w => k.reportSend b c w stOk
  k.startMsgs d b c 64

/-- A send (R355, R365): refused, accepted, blocked, or waiting. -/
def Block.trySend (k : Block) (d : Build) (b c : Nat) (who : Sender) (data : List Byte) (addr : Nat) (tryOnly : Bool) :
    Block :=
  let v := k.chan b c
  if natAt data 2 1 = 0 then k.refuseSend b c who stProgramFault
  else if !k.chanOn b c || v.st == .closed then k.refuseSend b c who stClosed
  else if k.chanAccepts b c && !((k.waits b).any fun w => w.chan == c) then (k.oweSend b c who).acceptMsg d b c who data addr
  else if tryOnly then k.refuseSend b c who stWouldBlock
  else (k.oweSend b c who).setWaits b (k.waits b ++ [{ chan := c, who := who, data := data, addr := addr }])

/-- The fields of the 64 bytes of MQ_SEND (R366). -/
def Block.sendBytes (k : Block) (d : Build) (b : Nat) (who : Sender) (l : List Byte) : Block :=
  k.trySend d b (natAt l 32 2 % 1024) who (bytesAt l 0 32) (natAt l 40 8) ((natAt l 34 1).testBit 0)

/-- MQ_SEND (R366): a 64-byte write at the Local Port; another length is not legal there (R550). -/
def execMqSend (b rid tag : Nat) (data : List Byte) (s : State) : Host.Outcome State Fault Refusal :=
  let d := s.env.build
  s.run (brickOk d b) fun k =>
    if !k.lpServes d b rid then k
    else if data.length ≠ 64 then k.badRequest b rid tag
    else k.sendBytes d b (.lp rid tag) data

/-- SEND_ACCEPT (R365): the sender that has waited longest on a channel is accepted; a merge that paused on the partition
which a descriptor leaves goes on by RESIDUAL_POST. -/
def execSendAccept (b c : Nat) (s : State) : Host.Outcome State Fault Refusal :=
  let d := s.env.build
  s.run (brickOk d b && decide (c < 1024)) fun k =>
    match (k.waits b).find? fun w => w.chan == c with
    | some w =>
      if k.chanAccepts b c then (k.setWaits b ((k.waits b).erase w)).acceptMsg d b c w.who w.data w.addr else k
    | none => k

/-- SEND_BLOCK_EXPIRY (R365): the sender that has waited longest gets WOULD_BLOCK; one on MQ_SEND also posts an event.
Residual descriptors wait without that bound (R343). -/
def execSendBlockExpiry (b c : Nat) (s : State) : Host.Outcome State Fault Refusal :=
  let d := s.env.build
  s.run (brickOk d b && decide (c < 1024)) fun k =>
    match (k.waits b).find? fun w => w.chan == c && (match w.who with
      | .residual _ => false
      | _ => true) with
    | some w =>
      let k := k.setWaits b ((k.waits b).erase w)
      let k := match w.who with
        | .engine _ => k
        | _ => k.postEvent b { type := 0xC, status := stWouldBlock, source := c, arg0 := (k.chan b c).next }
      k.reportSend b c w.who stWouldBlock
    | none => k

/-! ### Answers to messages (R368 to R370) -/

/-- Messages of a channel that are acknowledged complete; MOVED by R218. -/
def Block.ackMsgs (k : Block) (b c : Nat) (p : Packet) : Block :=
  let v := k.chan b c
  let base := natAt p.payload 0 4
  let map := natAt p.payload 4 32
  let cum := (natAt p.payload 36 1).testBit 0
  let acked (m : SentMsg) : Bool :=
    (cum && before16 m.seq base) || (map.testBit ((m.seq + 2 ^ 16 - base % 2 ^ 16) % 2 ^ 16) &&
      decide ((m.seq + 2 ^ 16 - base % 2 ^ 16) % 2 ^ 16 < 256))
  let done := v.unacked.filter acked
  let k := k.setChan b c { v with unacked := v.unacked.filter fun m => !acked m }
  done.foldl (fun k m => match m.trk with
    | some t =>
      if m.residual then k.residualAcked b t
      else (k.mapTracker b t fun x => { x with b := 1, done := 1, bytes := 32 }).completeTracker b t
        (if p.moved then stMoved else stOk)
    | none => k) k

/-- Resend every unacknowledged message of a channel from the oldest, under its PSEQ and CSEQ and the current route epoch
(R369, R471). -/
def Block.resendMsgs (k : Block) (d : Build) (b c : Nat) : Block :=
  let v := k.chan b c
  let stands (m : SentMsg) : Bool := (look [] k.net.stage (b * 2)).any fun x => x.sub == some (16 + c) && x.pkt.pseq == m.seq
  (k.setChan b c { v with
    unacked := v.unacked.map fun m => { m with again := m.again || (m.sent.isSome && !stands m) } }).startMsgs d b c 1024

/-- The answer of a kind at the head of the NI's receive FIFO that names a channel (R368). -/
def Block.chanAnswer (k : Block) (d : Build) (b op : Nat) (f : Block → Nat → Packet → Block) : Block :=
  match k.rxQueue b 0 with
  | p :: r =>
    if p.op = op ∧ 0xFC0 ≤ p.group then
      (k.setRx b 0 r).consume d b 1 p true false fun k => f k (p.tracker % 1024) p
    else k
  | [] => k

/-- CHANNEL_ACK (R368, R369). -/
def execChannelAck (b : Nat) (s : State) : Host.Outcome State Fault Refusal :=
  let d := s.env.build
  s.run (brickOk d b) fun k =>
    k.chanAnswer d b opAck fun k c p => ((k.ackMsgs b c p).startMsgs d b c 64).pumpGathers s.env b

/-- CHANNEL_NACK (R369): go-back-N. -/
def execChannelNack (b : Nat) (s : State) : Host.Outcome State Fault Refusal :=
  let d := s.env.build
  s.run (brickOk d b) fun k =>
    k.chanAnswer d b opNack fun k c p =>
      if (k.chan b c).unacked.any fun m => m.seq == p.pseq then k.resendMsgs d b c else k

/-- A fenced message (R192): the tracker of a `SEND` completes with FENCED, once, and that of a GATHER takes FENCED for the
residual descriptor; the channel keeps the message (R369), and the sender hears no more of it. -/
def Block.fenceMsg (k : Block) (b c : Nat) (m : SentMsg) : Block :=
  match m.trk with
  | some t =>
    let v := k.chan b c
    let k := k.setChan b c { v with
      unacked := v.unacked.map fun x => if x.seq == m.seq then { x with trk := none, quiet := true } else x }
    if m.residual then k.residualFailed b t stFenced m.data else k.completeTracker b t stFenced
  | none => k

/-- CHANNEL_ERROR (R192, R370, R372): STALE_EPOCH, CLOSED or NO_ROUTE on a message closes the channel; WOULD_BLOCK completes
a steered message alone; FENCED completes its sender's tracker. -/
def execChannelError (b : Nat) (s : State) : Host.Outcome State Fault Refusal :=
  let d := s.env.build
  s.run (brickOk d b) fun k =>
    k.chanAnswer d b opError fun k c p =>
      let v := k.chan b c
      let st := statusOf p.status
      match v.unacked.find? fun m => m.seq == p.pseq with
      | none => k
      | some m =>
        if st = stStaleEpoch ∨ st = stClosed ∨ st = stNoRoute then (k.closeChan b c st).pumpGathers s.env b
        else if st = stWouldBlock ∧ k.chanSteer b c = true then
          ((k.setChan b c { v with unacked := v.unacked.filter fun x => x.seq != m.seq }).failMsg b c st m).startMsgs
            d b c 64
        else if st = stFenced then (k.fenceMsg b c m).pumpGathers s.env b
        else k

/-- CHANNEL_RESEND_TIMER (R369). -/
def execChannelResendTimer (b c : Nat) (s : State) : Host.Outcome State Fault Refusal :=
  let d := s.env.build
  s.run (brickOk d b && decide (c < 1024)) fun k => k.resendMsgs d b c

/-- CHANNEL_TIMEOUT (R369, R370). -/
def execChannelTimeout (b c : Nat) (s : State) : Host.Outcome State Fault Refusal :=
  s.run (brickOk s.env.build b && decide (c < 1024)) fun k =>
    if (k.chan b c).unacked.isEmpty then k else (k.closeChan b c stTimeout).pumpGathers s.env b

/-! ### Credits (R361 to R364) -/

/-- An epoch is newer than another (R362). -/
def epochNewer (a b : Nat) : Bool :=
  let x := (a + 2 ^ 16 - b % 2 ^ 16) % 2 ^ 16
  decide (1 ≤ x) && decide (x ≤ 32767)

/-- Open a channel by a grant (R362). -/
def Block.openChan (k : Block) (b c epoch limit : Nat) : Block :=
  k.setChan b c { k.chan b c with st := .opened, epoch := epoch, next := 0, limit := limit }

/-- A CREDIT at its channel (R362). -/
def Block.takeCredit (k : Block) (b c : Nat) (p : Packet) : Block :=
  let v := k.chan b c
  let limit := natAt p.payload 0 2
  let op := natAt p.payload 2 1
  if k.chanSteer b c || p.src != k.chanDst b c ||
      p.group % 64 != k.rf .MQ_CHCFG 48 43 b [c] then
    k.bump .MQ_ERR 7 0 b
  else match v.st with
    | .idle => if op = 1 then k.openChan b c p.cseq limit else k
    | .opened =>
      if op = 1 then
        if p.cseq = v.epoch then
          k.setChan b c { v with limit := if serialLe 16 v.limit limit then limit else v.limit }
        else if epochNewer p.cseq v.epoch then (k.closeChan b c stStaleEpoch).openChan b c p.cseq limit
        else k
      else if op = 2 ∧ (p.cseq = v.epoch ∨ epochNewer p.cseq v.epoch = true) then k.closeChan b c stStaleEpoch
      else k
    | .closed => if op = 1 ∧ epochNewer p.cseq v.epoch = true then k.openChan b c p.cseq limit else k

/-- CREDIT (R362). -/
def execCredit (b : Nat) (s : State) : Host.Outcome State Fault Refusal :=
  let d := s.env.build
  s.run (brickOk d b) fun k =>
    match k.rxTake b 0 [opCredit] with
    | none => k
    | some (p, k) => k.consume d b 1 p (p.op == opCredit) false fun k =>
      (k.takeCredit b (p.tracker % 1024) p).pumpGathers s.env b

/-- Slots of a queue that are neither occupied nor reserved (R354). -/
def RxQueue.free (v : RxQueue) : Nat := 32 - v.msgs.length - (v.grants.map Grant.res).sum

/-- Send a CREDIT to every entry that `sel` names, and note the LIMIT told. -/
def Block.creditsOut (k : Block) (d : Build) (b q : Nat) (sel : Grant → Bool) : Block :=
  let v := k.queue b q
  let k := k.setQueue b q { v with
    grants := v.grants.map fun g => if sel g then { g with told := (g.next + g.res) % 2 ^ 16 } else g }
  (v.grants.filter sel).foldl (fun k g => k.sendCredit d b q g 1 v.epoch) k

/-- A write of MQ_GRANT (R363, R378). An AMOUNT above 32 is reserved and leaves the field, which reads 0, as it is (R9). -/
def Block.writeGrant (k : Block) (d : Build) (b : Nat) (w : Word) : Block :=
  let q := fld w 52 47
  let v := k.queue b q
  let mine (g : Grant) : Bool := g.brick == fld w 36 10 && g.chan == fld w 46 37
  let add := if 32 < fld w 59 54 then 0 else min (fld w 59 54) v.free
  let give (g : Grant) : Grant := { g with res := g.res + add, renew := flag w 53 }
  if v.grants.any mine then
    (k.setQueue b q { v with grants := v.grants.map fun g => if mine g then give g else g }).creditsOut d b q mine
  else if v.grants.length < 16 then
    (k.setQueue b q { v with grants := v.grants ++ [give { brick := fld w 36 10, chan := fld w 46 37 }] }).creditsOut
      d b q mine
  else k.bump .MQ_ERR 15 8 b

/-- MQ_GRANT (R363). -/
def execMqGrant (via : Via) (b : Nat) (v : Word) (s : State) : Host.Outcome State Fault Refusal :=
  let d := s.env.build
  s.access (brickOk d b) b via fun k => if k.viaOpen d b via then (k.writeGrant d b v).answerWrite b via else k

/-- CREDIT_BATCH (R364): entries whose LIMIT has risen since their last CREDIT. -/
def execCreditBatch (b q : Nat) (s : State) : Host.Outcome State Fault Refusal :=
  let d := s.env.build
  s.run (brickOk d b && decide (q < 64)) fun k =>
    k.creditsOut d b q fun g => before16 g.told (g.next + g.res)

/-- CREDIT_REFRESH (R364): every entry with RES > 0. -/
def execCreditRefresh (b q : Nat) (s : State) : Host.Outcome State Fault Refusal :=
  let d := s.env.build
  s.run (brickOk d b && decide (q < 64)) fun k => k.creditsOut d b q fun g => decide (0 < g.res)

/-! ### Delivery (R368, R372) -/

/-- How many messages have committed in FCLK `now`. -/
def RxQueue.committed (v : RxQueue) (now : Nat) : Nat := if v.late.1 = now + 1 then v.late.2 else 0

/-- What a pop in FCLK `now` finds: a queue that held no message when the FCLK began is empty to it (R357). -/
def RxQueue.seen (v : RxQueue) (now : Nat) : List Message := if v.msgs.length ≤ v.committed now then [] else v.msgs

/-- A message commits to a slot: the counter of R44, and the interrupt of a queue that was empty (R557). -/
def Block.commitMsg (k : Block) (b q : Nat) (m : Message) (f : RxQueue → RxQueue) : Block :=
  let v := k.queue b q
  let cfg := k.reg .MQ_QCFG b [q]
  let k := k.setQueue b q (f { v with
    msgs := v.msgs ++ [m]
    late := (k.clk.now + 1, v.committed k.clk.now + 1) })
  let k := if v.msgs.isEmpty && flag cfg 63 then k.lpiTrigger b 1 else k
  if flag cfg 60 then k.counterAdd b (fld cfg 59 52) 1 else k

/-- The message of a packet. -/
def messageOf (p : Packet) : Message :=
  { src := p.src / 8 * 8 + 1, chan := p.tracker % 1024, steered := p.steer, data := bytesAt p.payload 0 32 }

/-- An answer to a message (R368): inside the NI where the channel is this brick's (R360). -/
def Block.answerMessage (k : Block) (d : Build) (b op vc status : Nat) (p : Packet) (payload : List Byte) : Block :=
  k.niSend d b none { k.response d b 1 op vc status p with payload := payload }

/-- The staged packet is an ACK to the channel of message `p`. -/
def ackFor (p : Packet) (x : Staged) : Bool :=
  x.pkt.op == opAck && decide (0xFC0 ≤ x.pkt.group) && x.pkt.dst == p.src && x.pkt.tracker % 1024 == p.tracker % 1024

/-- Acknowledge a channel up to `base` (R154, R368): an ACK for it that has not yet left the NI says so. -/
def Block.ackChannel (k : Block) (d : Build) (b : Nat) (p : Packet) (base : Nat) : Block :=
  match (look [] k.net.stage (b * 2)).findIdx? (ackFor p) with
  | some i => k.renewAck b i { k.response d b 1 opAck 5 0 p with payload := ackBody base 0 true }
  | none => k.answerMessage d b opAck 5 0 p (ackBody base 0 true)

/-- MESSAGE at its queue (R368). -/
def Block.takeMessage (k : Block) (d : Build) (b : Nat) (p : Packet) : Block :=
  let q := p.group % 64
  let v := k.queue b q
  let mine (g : Grant) : Bool := g.brick == p.src / 8 && g.chan == p.tracker % 1024
  if !flag (k.reg .MQ_QCFG b [q]) 63 then (k.bump .MQ_ERR 47 32 b).answerMessage d b opError 7 stClosed p []
  else if p.cseq ≠ v.epoch then (k.bump .MQ_ERR 63 48 b).answerMessage d b opError 7 stStaleEpoch p []
  else match v.grants.find? mine with
    | none => (k.bump .MQ_ERR 47 32 b).answerMessage d b opError 7 stClosed p []
    | some g =>
      if before16 p.pseq g.next then k.ackChannel d b p g.next
      else if p.pseq ≠ g.next then
        let due := match g.nackAt with
          | some t => !k.within t (k.rf .TRK_CTL 31 24 b)
          | none => true
        if due then
          (k.setQueue b q { v with
            grants := v.grants.map fun x => if mine x then { x with nackAt := some k.gtime } else x }).answerMessage d b opNack 5 0
            { p with pseq := g.next } []
        else k
      else if g.res = 0 then k.bump .MQ_ERR 31 16 b
      else
        let k := k.commitMsg b q (messageOf p) fun v => { v with
          grants := v.grants.map fun x =>
            if mine x then { x with next := (x.next + 1) % 2 ^ 16, res := x.res - 1 } else x }
        k.ackChannel d b p ((g.next + 1) % 2 ^ 16)

/-- A steered message at the chosen queue (R372); a queue with V = 0 answers it by R368 (R382). The history key takes the sequence number with it (log 15). -/
def Block.takeSteered (k : Block) (d : Build) (b : Nat) (p : Packet) : Block :=
  let q := p.group % 64
  let v := k.queue b q
  let key := (p.src, p.tracker + 2 ^ 18 * (1 + p.pseq))
  let base := (p.pseq + 1) % 2 ^ 16
  if !flag (k.reg .MQ_QCFG b [q]) 63 then (k.bump .MQ_ERR 47 32 b).answerMessage d b opError 7 stClosed p []
  else if (k.history b).contains key then k.sendAck d b 1 p base 0 true
  else if !flag (k.reg .MQ_QCFG b [q]) 61 || decide (v.free = 0) then k.answerError d b p stWouldBlock
  else match k.arriveOnce b key with
    | (some true, k) => (k.commitMsg b q (messageOf p) id).sendAck d b 1 p base 0 true
    | (_, k) => k

/-- The MESSAGE at the head of the NI's receive FIFO, steered or not. -/
def Block.messageHead (k : Block) (d : Build) (b : Nat) (steered : Bool) (f : Block → Packet → Block) : Block :=
  match k.rxQueue b 0 with
  | p :: r =>
    if p.op = opMessage ∧ p.steer = steered then (k.setRx b 0 r).consume d b 1 p true true fun k => f k p else k
  | [] => k

/-- MESSAGE (R368). -/
def execMessage (b : Nat) (s : State) : Host.Outcome State Fault Refusal :=
  let d := s.env.build
  s.run (brickOk d b) fun k => k.messageHead d b false fun k p => k.takeMessage d b p

/-- STEERED_MESSAGE (R372). -/
def execSteeredMessage (b : Nat) (s : State) : Host.Outcome State Fault Refusal :=
  let d := s.env.build
  s.run (brickOk d b) fun k => k.messageHead d b true fun k p => k.takeSteered d b p

/-! ### Reset and pops (R356 to R358, R375) -/

/-- Reset a queue (R356): its messages go, its grant entries are revoked under the new epoch and cleared. -/
def Block.resetQueue (k : Block) (d : Build) (b q : Nat) : Block :=
  let v := k.queue b q
  let e := (v.epoch + 1) % 2 ^ 16
  let k := k.setQueue b q { epoch := e }
  v.grants.foldl (fun k g => k.sendCredit d b q g 2 e) k

/-- A write of MQ_QCFG (R356, R382). -/
def Block.writeQcfg (k : Block) (d : Build) (b q : Nat) (v : Word) : Block :=
  let k := k.applyWrite .MQ_QCFG b [q] v
  if flag v 62 then k.resetQueue d b q else k

/-- QUEUE_RESET (R356): the word written to MQ_QCFG[q]. -/
def execQueueReset (via : Via) (b q : Nat) (v : Word) (s : State) : Host.Outcome State Fault Refusal :=
  let d := s.env.build
  s.access (brickOk d b && decide (q < 64)) b via fun k =>
    if k.viaOpen d b via then (k.writeQcfg d b q v).answerWrite b via else k

/-- The 64 bytes of MQ_POP for a message (R357). -/
def popBytes (m : Message) : List Byte :=
  m.data ++ leBytes 4 m.src ++ leBytes 2 m.chan ++ leBytes 2 (b2n m.steered) ++ leBytes 24 0

/-- Pop a queue (R357, R358): the latched window and the freed slot. -/
def Block.popQueue (k : Block) (b q : Nat) : Block :=
  let v := k.queue b q
  match v.seen k.clk.now with
  | [] => { k with mq.popped := put [] k.mq.popped (b * 64 + q) [] }
  | m :: r =>
    let mine (g : Grant) : Bool := !m.steered && g.brick == m.src / 8 && g.chan == m.chan && g.renew
    let k := k.setQueue b q { v with
      msgs := r
      grants := v.grants.map fun g => if mine g then { g with res := g.res + 1 } else g }
    { k with mq.popped := put [] k.mq.popped (b * 64 + q) (popBytes m) }

/-- The latched bytes of MQ_POP[q]. -/
def Block.poppedBytes (k : Block) (b q : Nat) : List Byte := bytesAt (look [] k.mq.popped (b * 64 + q)) 0 64

/-- Answer a pop: the window whole at the Local Port, its first word at the Management Port. -/
def Block.answerPop (k : Block) (b : Nat) (via : Via) (l : List Byte) : Block :=
  match via with
  | .mp => { k with out := k.out ++ [.mp (BitVec.ofNat 64 (natAt l 0 8)) false] }
  | .lp rid tag => k.respond b rid tag stOk l

/-- MQ_POP (R357). -/
def execMqPop (via : Via) (b q : Nat) (s : State) : Host.Outcome State Fault Refusal :=
  let d := s.env.build
  s.access (brickOk d b && decide (q < 64)) b via fun k =>
    if k.viaOpen d b via then
      let k := k.popQueue b q
      k.answerPop b via (k.poppedBytes b q)
    else k

/-- The 64 bytes of MQ_EVPOP for an event (R373). -/
def eventBytes : Option Event → List Byte
  | none => leBytes 64 0
  | some v =>
    leBytes 1 v.type ++ leBytes 1 v.status ++ leBytes 2 v.source ++ leBytes 4 v.arg0 ++ leBytes 8 v.arg1 ++ leBytes 8 0 ++
    leBytes 8 v.gtime ++ leBytes 32 0

/-- Pop the event FIFO (R373). -/
def Block.popEvent (k : Block) (b : Nat) : Block :=
  match k.events b with
  | [] => { k with flt.evLatch := put none k.flt.evLatch b none }
  | v :: r => { k with flt.events := put [] k.flt.events b r, flt.evLatch := put none k.flt.evLatch b (some v) }

/-- EVENT_POP (R373). -/
def execEventPop (via : Via) (b : Nat) (s : State) : Host.Outcome State Fault Refusal :=
  let d := s.env.build
  s.access (brickOk d b) b via fun k =>
    if k.viaOpen d b via then
      let k := k.popEvent b
      k.answerPop b via (eventBytes (look none k.flt.evLatch b))
    else k

/-- EVENT_STALE (R375): a FIFO left unpopped issues a stale-read notice. -/
def execEventStale (b : Nat) (s : State) : Host.Outcome State Fault Refusal :=
  s.run (brickOk s.env.build b) fun k =>
    if (k.events b).isEmpty then k
    else
      let k := (k.setBit .MQ_EVSTAT 16 b).lpiTrigger b 0
      if flag (k.reg .MQ_EVSTAT b) 25 then k.counterAdd b (k.rf .MQ_EVSTAT 24 17 b) 1 else k

/-- A write of MQ_CHCFG (R359, R371). -/
def Block.writeChcfg (k : Block) (b c : Nat) (v : Word) : Block :=
  let x := k.chan b c
  if x.st ≠ .opened ∧ x.unacked.isEmpty = true then
    let k := k.applyWrite .MQ_CHCFG b [c] v
    k.setChan b c { st := if flag v 63 && flag v 62 then .opened else .idle }
  else k.lockVio

/-- MQ_CHCFG_WRITE (R359). -/
def execMqChcfgWrite (via : Via) (b c : Nat) (v : Word) (s : State) : Host.Outcome State Fault Refusal :=
  let d := s.env.build
  s.access (brickOk d b && decide (c < 1024)) b via fun k =>
    if k.viaOpen d b via then (k.writeChcfg b c v).answerWrite b via else k

end Sys2Proof.Machine
end

