-- ==== Sys2Proof/Machine/Sparse.lean ====
section
/-!
DEFINITION. The compressor and the gather engine (R331 to R348): the scan pass, the gather block and predicted set, the
merge phase, and the posting of residual descriptors.
-/

namespace Sys2Proof.Machine

/-! ### The compressing store (R331 to R335) -/

/-- The extension bytes, LEN and DA of a STORE.C keep to R331. -/
def storeCOk (c : Desc) : Bool :=
  let m := natAt c.opx 0 1
  let f := natAt c.opx 1 1
  let nz := natAt c.opx 2 1
  decide (m < 4) && decide (f ≤ 7) && (if m.testBit 0 then decide (1 ≤ nz) && decide (nz ≤ 64) else nz == 0) &&
  decide (natAt c.opx 3 13 = 0) && decide (c.len % (64 * fmtSize f) = 0) && decide (c.da % 64 = 0)

/-- The split of a STORE.C (R206, R334): of the T bytes that its source, as memory holds it, gives. -/
def storeSplit (m : List Host.Cell) (b : Nat) (c : Desc) : Option (List (Nat × Nat)) :=
  splitStream c.da (storeBytes c.opx (memRead m b c.sa c.len)).length

/-- Events are counted in the field of SPC_CNT at bit `lo` (R350). -/
def Block.countSparse (k : Block) (b lo n : Nat) : Block :=
  if n = 0 then k else k.event .SPC_CNT b [] (mkWord [(lo, min 0xFFFF n)])

/-- The scan pass ends (R332 to R335): every block's treatment, the counts, and T; the write pass issues. A stream of more
than 65,535 packets, which a source that changed since the claim may give, completes the tracker with PROGRAM_FAULT
(log 17). -/
def Block.scanDone (k : Block) (e : Env) (b t : Nat) : Block :=
  let v := k.tracker b t
  let c := v.desc
  let src := memRead e.mem b c.sa c.len
  let bs := storeBlocks c.opx src
  let esc := (bs.filter fun x => x.1.dense).length
  let k := (k.countSparse b 0 esc).countSparse b 16 ((bs.map fun x => x.1.dropped).sum)
  let k := match bs.findIdx? fun x => x.1.dense with
    | some i => k.event .SPC_FIRST b [] (mkWord [(32, 0xFFFFFFFF), (0, i)])
    | none => k
  let len := (storeBytes c.opx src).length
  match storeSplit e.mem b c with
  | none => (k.completeTracker b t stProgramFault).issue e b t
  | some ps =>
    (k.setTracker b t { v with
      pcount := ps.length
      data := src
      status := if esc = 0 then v.status else worse v.status stEscape
      desc := { c with len := len } }).issue e b t

/-- The source of a STORE.C is still being read for its scan pass. -/
def Block.scanReads (k : Block) (b t : Nat) : Bool :=
  (k.xfr.lpm.any fun e => e.1 / 1024 == b && (e.2.map MemReq.use) == some (.scan t)) ||
  (look [] k.xfr.lpmWait b).any fun q => q.use == .scan t

/-- COMPRESS_SCAN_DONE (R334): the source has been read. -/
def execCompressScanDone (b : Nat) (s : State) : Host.Outcome State Fault Refusal :=
  s.run (brickOk s.env.build b) fun k =>
    match k.scanning b with
    | some t => if k.scanReads b t then k else k.scanDone s.env b t
    | none => k

/-! ### The gather block and the predicted set (R336 to R338, R345) -/

/-- The extension bytes of a GATHER and its fields that must be zero keep to R336. -/
def gatherOpxOk (c : Desc) : Bool :=
  let x := c.opx
  let m := natAt x 0 1
  let rp := natAt x 1 1
  decide (m < 4) && decide (bits rp 6 5 = 0) && decide (natAt x 2 2 < 1024) && (!m.testBit 0 || natAt x 2 2 == 0) &&
  (m.testBit 1 || (natAt x 4 1 == 0 && natAt x 8 4 == 0)) && decide (natAt x 5 3 = 0) && decide (natAt x 12 4 = 0) &&
  (m.testBit 0 || rp.testBit 7)

/-- The gather block keeps to R336. -/
def gatherBlockOk (g : List Byte) : Bool :=
  let rowb := natAt g 16 4
  let nrows := natAt g 20 4
  let tmax := natAt g 56 4
  decide (16 ≤ rowb) && decide (rowb ≤ 1048576) && decide (rowb % 16 = 0) && decide (1 ≤ nrows) &&
  decide (nrows ≤ 16777216) && decide (natAt g 44 1 ≤ 7) && decide (natAt g 45 3 = 0) &&
  decide (natAt g 48 8 % 64 = 0) && decide (1 ≤ tmax) && decide (tmax ≤ 65535) && decide (natAt g 60 4 = 0) &&
  decide (natAt g 24 8 % 64 = 0) && decide (natAt g 0 8 < 2 ^ 57) && decide (natAt g 24 8 < 2 ^ 57) &&
  decide (natAt g 32 8 < 2 ^ 48) && decide (natAt g 48 8 < 2 ^ 48)

/-- The predicted set in its order, cut to TMAX rows (R337): a row, or none for an entry out of range (R345). -/
def predictedRows (m : List Host.Cell) (b pbase nidx nrows tmax : Nat) : List (Option Nat) :=
  if nidx = 0 then
    (((List.range nrows).filter fun i =>
      (memByte m (memKey b (pbase + i / 8))).toNat.testBit (i % 8)).take tmax).map some
  else
    (List.range (min nidx tmax)).map fun n =>
      let v := leNat (memRead m b (pbase + 4 * n) 4)
      if v < nrows then some v else none

/-- The fetch requests of a tile (R338): (lake address, bytes, local destination), none past 65,535 in a row. -/
def fetchRequests (rows : List (Option Nat)) (wbase stride rowb tbase : Nat) : List (Nat × Nat × Option Nat) :=
  (rows.mapIdx fun j r => match r with
    | none => []
    | some i =>
      let a := wbase + i * stride
      ((splitStream a rowb).getD []).map fun (o, l) => (a + o, l, some (tbase + j * rowb + o))).flatten

/-- The job that a GATHER's descriptor, gather block and predicted set give, or none where R336 stops the engine. -/
def Block.gatherJob (k : Block) (e : Env) (b : Nat) (c : Desc) : Option GatherJob :=
  let g := memRead e.mem b c.sa 64
  if !gatherOpxOk c || !gatherBlockOk g then none
  else
    let m := natAt c.opx 0 1
    let rp := natAt c.opx 1 1
    let part := k.reg .RDC_PART b [rp % 32]
    if rp.testBit 7 && (fld part 62 61 != 3 || !flag part 63) then none
    else
      let rows := predictedRows e.mem b (natAt g 32 8) (natAt g 40 4) (natAt g 20 4) (natAt g 56 4)
      let blocks := (rows.filterMap fun r => r.map (· / 64)).eraseDups
      let blocks := (List.range (ceilDiv (natAt g 20 4) 64)).filter fun n => blocks.contains n
      let nb := ceilDiv (natAt g 20 4) 64
      let reqs := fetchRequests rows (natAt g 0 8) (natAt g 8 8) (natAt g 16 4) (natAt g 48 8)
      let arrays := ((splitStream (natAt g 24 8) (16 * nb)).getD []).length
      if 65535 < reqs.length + arrays + blocks.length then none
      else some {
        rows := rows, wbase := natAt g 0 8, rowb := natAt g 16 4, nrows := natAt g 20 4, abase := natAt g 24 8
        afmt := natAt g 44 1, tbase := natAt g 48 8, tmax := natAt g 56 4, lossy := m.testBit 0, mw := m.testBit 1
        mcnt := natAt c.opx 4 1, mval := natAt c.opx 8 4, rpart := rp % 32, chan := natAt c.opx 2 2
        reqs := reqs, nFetch := reqs.length, blocks := blocks }

/-- Requests of the merge phase as they stand at the start (R339): the arrays, and one for each block. -/
def GatherJob.mergeCount (j : GatherJob) : Nat :=
  ((splitStream j.abase (16 * ceilDiv j.nrows 64)).getD []).length + j.blocks.length

/-- A GATHER starts (R336, R337, R347): it waits for its turn. -/
def Block.startGather (k : Block) (e : Env) (b t : Nat) (j : GatherJob) : Block :=
  let k := k.setJob b t j
  let l := (look [] k.spc.gathers b).filter fun x => x != t && k.gathering b x
  let k := { k with spc.gathers := put [] k.spc.gathers b (l ++ [t]) }
  k.pumpGathers e b

/-! ### The merge phase (R339 to R342) -/

/-- MERGE_PHASE_START (R339): the fetch requests are issued and the wait, if any, is satisfied. -/
def execMergePhaseStart (b : Nat) (s : State) : Host.Outcome State Fault Refusal :=
  s.run (brickOk s.env.build b) fun k =>
    match k.gatherTurn b with
    | none => k
    | some t =>
      let j := k.job b t
      let v := k.tracker b t
      if j.phase = .fetch ∧ j.started = true ∧ v.stop = false ∧ j.nFetch ≤ v.issued ∧
          (j.mw = false ∨ waitMet (k.counter b j.mcnt) j.mval = true) then
        let arr := ((splitStream j.abase (16 * ceilDiv j.nrows 64)).getD []).map fun (o, l) => (j.abase + o, l, none)
        (k.setJob b t { j with phase := .arrays, reqs := j.reqs ++ arr }).issue s.env b t
      else k

/-- The operand data that arrived at requests `lo` to `hi - 1`, in order. -/
def GatherJob.dataOf (j : GatherJob) (lo hi : Nat) : List Byte :=
  (List.range (hi - lo)).flatMap fun i => look [] j.got (lo + i)

/-- Number of array requests of a job. -/
def GatherJob.nArrays (j : GatherJob) : Nat := ((splitStream j.abase (16 * ceilDiv j.nrows 64)).getD []).length

/-- Header of block `n` in the arrays of a job. -/
def headerAt (arr : List Byte) (n : Nat) : Nat := natAt arr (8 * n) 8

/-- Occupancy word of block `n`, of `nb` blocks. -/
def occAt (arr : List Byte) (nb n : Nat) : Nat := natAt arr (8 * nb + 8 * n) 8

/-- The arrays have arrived: the value requests of R339, ascending, a range that crosses a page in two (R207); a block
that stores nothing needs none. Only now is the count of packets known: more than 65,535 stop the engine, and its GATHER
completes with PROGRAM_FAULT (R336, log 17). -/
def Block.requestValues (k : Block) (e : Env) (b t : Nat) : Block :=
  let j := k.job b t
  let nb := ceilDiv j.nrows 64
  let arr := j.dataOf j.nFetch (j.nFetch + j.nArrays)
  let sz := fmtSize j.afmt
  let prefix_ (n : Nat) : Nat := ((List.range n).map fun i => headerNnz (headerAt arr i)).sum
  let reqs := j.blocks.flatMap fun n =>
    let a := j.abase + 16 * nb + sz * prefix_ n
    ((splitStream a (sz * headerNnz (headerAt arr n))).getD []).map fun (o, l) => (n, a + o, l)
  let j := { j with
    phase := .values
    reqs := j.reqs ++ reqs.map fun x => (x.2.1, x.2.2, none)
    valueOf := reqs.map Prod.fst }
  if 65535 < j.reqs.length then
    let k := (k.setJob b t { j with mergeOver := true }).completeTracker b t stProgramFault
    match (k.tracker b t).eng with
    | some n => k.failStream e.build b n 0
    | none => k
  else ((k.setJob b t j).mapTracker b t fun v => { v with pcount := j.reqs.length }).issue e b t

/-- The stored values of block `n`. -/
def GatherJob.blockValues (j : GatherJob) (n : Nat) : List Byte :=
  let base := j.nFetch + j.nArrays
  ((List.range j.valueOf.length).filter fun i => j.valueOf.getD i 0 == n).flatMap fun i => look [] j.got (base + i)

/-- The activation of row `i` (R340). -/
def GatherJob.activation (j : GatherJob) (arr : List Byte) (i : Nat) : List Byte :=
  let sz := fmtSize j.afmt
  let n := i / 64
  match valueIndex (headerAt arr n) (occAt arr (ceilDiv j.nrows 64) n) (i % 64) with
  | some q => bytesAt (j.blockValues n) (q * sz) sz
  | none => List.replicate sz 0

/-- The residual descriptors of a GATHER (R342): one for each window of 128 rows with a miss. -/
def residualsOf (tag t : Nat) (misses : List Nat) : List (List Byte) :=
  let wins := (misses.map (· / 128)).eraseDups
  wins.mapIdx fun i w =>
    let ms := misses.filter fun m => m / 128 == w
    leBytes 2 tag ++ leBytes 1 1 ++ leBytes 1 (b2n (i + 1 == wins.length)) ++ leBytes 4 (128 * w) ++
    leBytes 16 ((ms.map fun m => 2 ^ (m % 128)).sum) ++ leBytes 2 ms.length ++ leBytes 2 t ++ leBytes 4 i

/-- Post what can go (R343, R365), in posting order: to a channel that takes it and that no sender waits for, else into the
partition, where it waits for the channel in its turn; with the partition full the merge pauses. A channel that is CLOSED,
or is not enabled, stops the posting. -/
def Block.postResiduals (k : Block) (d : Build) (b t : Nat) : Nat → Block
  | 0 => k
  | n + 1 =>
    let j := k.job b t
    match j.posts with
    | [] => (k.setJob b t { j with mergeOver := true }).checkGather b t
    | m :: r =>
      if !k.chanOn b j.chan || (k.chan b j.chan).st == .closed then k.stopPosting b t stClosed
      else if k.chanAccepts b j.chan && !((k.waits b).any fun w => w.chan == j.chan) then
        ((k.setJob b t { j with posts := r }).acceptMsg d b j.chan (.residual t) m 0).postResiduals d b t n
      else if k.residHeld b j.rpart < k.residCapacity b j.rpart then
        ((k.setJob b t { j with posts := r }).setWaits b
          (k.waits b ++ [{ chan := j.chan, who := .residual t, data := m, addr := 0 }])).postResiduals d b t n
      else k

/-- A merge that paused on a full partition goes on where it can. -/
def Block.resumePosting (k : Block) (d : Build) (b : Nat) : Block :=
  match k.gatherTurn b with
  | some t => if (k.job b t).posts.isEmpty then k else k.postResiduals d b t ((k.job b t).posts.length + 1)
  | none => k

/-- The values have arrived (R340 to R342, R344): activations are written, misses and false positives counted, residual
descriptors posted. -/
def Block.mergeValues (k : Block) (d : Build) (b t : Nat) : Block :=
  let j := k.job b t
  let nb := ceilDiv j.nrows 64
  let arr := j.dataOf j.nFetch (j.nFetch + j.nArrays)
  let sz := fmtSize j.afmt
  let occ (i : Nat) : Bool := (occAt arr nb (i / 64)).testBit (i % 64)
  let tile := j.rows.filterMap id
  let acts := j.rows.flatMap fun r => match r with
    | some i => j.activation arr i
    | none => List.replicate sz 0
  let misses := (List.range j.nrows).filter fun i => occ i && !tile.contains i
  let k := (k.countSparse b 48 misses.length).countSparse b 32 (tile.filter fun i => !occ i).length
  let posts := if j.lossy then [] else residualsOf (k.tracker b t).desc.tag t misses
  let k := k.setJob b t { j with
    phase := .output, posts := posts, writes := j.writes + b2n (!acts.isEmpty), got := [] }
  let k := if acts.isEmpty then k
    else k.memIssue b (.gatherActs t acts.length) [(j.tbase + j.tmax * j.rowb, acts)]
  k.postResiduals d b t (posts.length + 1)

/-- The merge moves on once the requests of its phase are answered. -/
def Block.advanceMerge (k : Block) (e : Env) (b t : Nat) : Block :=
  let j := k.job b t
  let all (lo hi : Nat) : Bool := (List.range (hi - lo)).all fun i => decide (look [] j.got (lo + i) ≠ [])
  if k.gathering b t = false ∨ j.mergeOver = true then k
  else
    let k := if j.phase = .arrays ∧ all j.nFetch (j.nFetch + j.nArrays) = true then k.requestValues e b t else k
    let j := k.job b t
    let all (lo hi : Nat) : Bool := (List.range (hi - lo)).all fun i => decide (look [] j.got (lo + i) ≠ [])
    if j.phase = .values ∧ all (j.nFetch + j.nArrays) j.reqs.length = true then k.mergeValues e.build b t else k

/-- A READRESP for request `n` of a GATHER (R337 to R340): a tile row's bytes go to memory, operand data to the merge. -/
def Block.gatherData (k : Block) (e : Env) (b t n : Nat) (p : Packet) : Block :=
  let j := k.job b t
  match j.reqs[n]? with
  | none => k
  | some (_, l, dst) =>
    if p.payload.length ≠ l then k.bump .TRK_ERR 31 16 b
    else match dst with
      | some a => (k.setJob b t { j with writes := j.writes + 1 }).memIssue b (.packet p) [(a, p.payload)]
      | none =>
        let k := k.setJob b t { j with got := put [] j.got n p.payload }
        let k := k.mapTracker b t fun v => { v.acknowledge [n] with moved := v.moved || p.moved, gtime := k.gtime }
        ((k.advanceMerge e b t).checkGather b t).pumpGathers e b

/-- A tile row's bytes are committed (R346): BYTES counts a row once it is whole. -/
def Block.rowBytes (k : Block) (b t row n : Nat) : Block :=
  let j := k.job b t
  let got := look 0 j.rowGot row + n
  let k := k.setJob b t { j with rowGot := put 0 j.rowGot row got, writes := j.writes - 1 }
  if got = j.rowb then k.mapTracker b t fun v => { v with bytes := v.bytes + j.rowb } else k

/-- The tile row of fetch request `n`. -/
def GatherJob.rowOfReq (j : GatherJob) (n : Nat) : Nat :=
  match j.reqs[n]? with
  | some (_, _, some a) => (a - j.tbase) / max 1 j.rowb
  | _ => 0

/-- MERGE_WAIT_TIMEOUT (R339): the merge phase is abandoned. -/
def execMergeWaitTimeout (b : Nat) (s : State) : Host.Outcome State Fault Refusal :=
  s.run (brickOk s.env.build b) fun k =>
    match k.gatherTurn b with
    | none => k
    | some t =>
      let j := k.job b t
      if j.phase = .fetch ∧ j.mw = true ∧ j.started = true ∧ j.nFetch ≤ (k.tracker b t).issued then
        (((k.setJob b t { j with mergeOver := true }).mapTracker b t fun v =>
          { v with status := worse v.status stTimeout }).checkGather b t).pumpGathers s.env b
      else k

/-- The waiting sender may be accepted: it is the first that waits for its channel, and the channel accepts (R365). -/
def Block.mayAccept (k : Block) (b : Nat) (w : WaitSend) : Bool :=
  k.chanAccepts b w.chan && ((k.waits b).find? fun x => x.chan == w.chan) == some w

/-- RESIDUAL_POST (R342, R343, R365): the descriptor that has waited longest in a partition, of those whose turn on their
channel it is, goes to the channel, and a merge that paused goes on. -/
def execResidualPost (b : Nat) (s : State) : Host.Outcome State Fault Refusal :=
  let d := s.env.build
  s.run (brickOk d b) fun k =>
    match (k.waits b).find? fun w => (match w.who with
      | .residual _ => true
      | _ => false) && k.mayAccept b w with
    | some w =>
      ((((k.setWaits b ((k.waits b).erase w)).acceptMsg d b w.chan w.who w.data w.addr).resumePosting d b).pumpGathers s.env b)
    | none => (k.resumePosting d b).pumpGathers s.env b

/-- RESIDUAL_PAUSE_EXPIRY (R343): a merge paused on a full partition stops posting, with WOULD_BLOCK. -/
def execResidualPauseExpiry (b : Nat) (s : State) : Host.Outcome State Fault Refusal :=
  s.run (brickOk s.env.build b) fun k =>
    match k.gatherTurn b with
    | none => k
    | some t => if (k.job b t).posts.isEmpty then k else (k.stopPosting b t stWouldBlock).pumpGathers s.env b

end Sys2Proof.Machine
end

