-- ==== Sys2Proof/Machine/TransferOps.lean ====
section
/-!
DEFINITION. The transfer instructions (R202 to R209, R225): descriptors and their checks, claims, the start of each
operation, FENCE, SIGNAL.R, and what waits for a pool tracker.
-/

namespace Sys2Proof.Machine

/-! ### Descriptors (R204 to R206) -/

/-- A descriptor from its 64 bytes (R204). -/
def descOf (l : List Byte) : Desc :=
  { trk := natAt l 0 2, tag := natAt l 2 2, entry := natAt l 4 2, vc := natAt l 6 1
    record := (natAt l 7 1).testBit 0, ring := bits (natAt l 7 1) 3 1, cinc := (natAt l 7 1).testBit 4, cnt := natAt l 8 1
    len := natAt l 12 4, sa := natAt l 16 8, da := natAt l 24 8, group := natAt l 32 2, cseq := natAt l 34 2
    member := natAt l 36 4, mmask := natAt l 40 8, opx := bytesAt l 48 16 }

/-- The operation of a descriptor instruction. -/
def opOf : DescOp → XferOp
  | .copy => .copy
  | .mcast => .mcast
  | .contrib => .contrib
  | .gather => .gather
  | .storeC => .storeC
  | .send => .send
  | .rload => .rload
  | .rstore => .rstore

/-- A local address has 48 bits (R203). -/
def localOk (a : Nat) : Bool := decide (a < 2 ^ 48)

/-- A lake address has 57 bits (R76). -/
def lakeOk (a : Nat) : Bool := decide (a < 2 ^ 57)

/-- TRK names a send tracker (R205). -/
def sendTracker (t : Nat) : Bool := decide (512 ≤ t) && decide (t < 896)

/-- A descriptor keeps to R204, R205 and the rules of its operation (R331, R336, R367), and its split to R206. -/
def descOk (o : DescOp) (l : List Byte) : Bool :=
  let c := descOf l
  let noOpx := decide (natAt c.opx 0 16 = 0)
  let noGroup := c.group == 0 && c.cseq == 0 && c.member == 0 && c.mmask == 0
  let general := decide (c.trk < 896) && decide (c.entry < 4096) && decide (natAt l 7 1 < 32) && decide (natAt l 9 3 = 0)
  let split (a : Nat) : Bool := (splitStream a c.len).isSome
  general && match o with
  | .copy => (c.vc == 0 || c.vc == 3) && decide (0 < c.len) && localOk c.sa && lakeOk c.da && noGroup && noOpx &&
      split c.da
  | .storeC => (c.vc == 0 || c.vc == 3) && decide (0 < c.len) && localOk c.sa && lakeOk c.da && noGroup && storeCOk c
  | .mcast => (c.vc == 1 || c.vc == 2) && decide (0 < c.len) && localOk c.sa && localOk c.da && c.entry == 0 &&
      decide (c.group < 4096) && c.cseq == 0 && c.member == 0 && localOk c.mmask && noOpx && split c.da
  | .contrib => (c.vc == 1 || c.vc == 2) && decide (0 < c.len) && localOk c.sa && localOk c.da && c.entry == 0 &&
      decide (c.group < 4096) && decide (c.member < 2 ^ 17) && c.mmask == 0 && noOpx
  | .gather => c.vc == 0 && c.len == 0 && localOk c.sa && c.da == 0 && c.entry == 0 && noGroup && sendTracker c.trk &&
      gatherOpxOk c
  | .send => c.vc == 0 && c.len == 32 && localOk c.sa && c.sa % 32 == 0 && c.da == 0 && c.entry == 0 && noGroup &&
      sendTracker c.trk && decide (natAt c.opx 0 2 < 1024) && decide (natAt c.opx 2 1 < 2) && decide (natAt c.opx 3 5 = 0)
  | .rload => c.vc == 0 && decide (0 < c.len) && lakeOk c.sa && localOk c.da && c.entry == 0 && noGroup && noOpx &&
      sendTracker c.trk && split c.sa
  | .rstore => c.vc == 0 && decide (0 < c.len) && localOk c.sa && lakeOk c.da && c.entry == 0 && noGroup && noOpx &&
      sendTracker c.trk && split c.da

/-- What the operation asks of the brick and of its source (R206, R310, R311, R348, R367, R384). FLOW 0 is illegal on VC0 and VC1 (R78), so entry 0 on VC0
and UFLOW or DFLOW 0 on VC1 stop the engine too (log 14). -/
def Block.startOk (k : Block) (e : Env) (b : Nat) (o : DescOp) (c : Desc) : Bool :=
  let active := k.rf .PWR_BRK 9 8 b == 0
  match o with
  | .copy => c.vc != 0 || c.entry != 0
  | .storeC => active && (c.vc != 0 || c.entry != 0) && (storeSplit e.mem b c).isSome
  | .gather => active && (k.gatherJob e b c).isSome
  | .mcast =>
    match k.treeEntry b c.group with
    | some i => flag (k.treeWord b i 0) 61 && (c.vc != 1 || fld (k.treeWord b i 1) 35 24 != 0)
    | none => false
  | .contrib =>
    match k.treeEntry b c.group with
    | none => false
    | some i =>
      let w := k.treeWord b i 0
      let red := flag w 62
      let size := max 1 (k.elemBytes c.group)
      let parts := ceilDiv c.len (max 1 (k.contribSeg c.group))
      k.descValid c.group && (!red || fld (k.treeWord b i 1) 14 12 != 7) && (red || !k.groupStill c.group) &&
      decide (c.member ≤ fld (k.descWord c.group 0) 16 0) && decide (c.len % size = 0) && decide (parts ≤ 65535) &&
      (c.vc != 1 || fld w 34 23 != 0) &&
      !(k.xfr.trk.any fun x => x.1 / 1024 == b && x.2.collects c.group c.cseq && x.2.desc.member == c.member)
  | .send =>
    let ch := natAt c.opx 0 2
    k.chanOn b ch && (if k.chanSteer b ch then lakeOk (natAt c.opx 8 8) else natAt c.opx 8 8 == 0)
  | _ => true

/-! ### Starting a transfer (R207, R208) -/

/-- The stream of a transfer leaves the package (R226): by the route entry's DST; a stream routed by the GPD counts as
leaving it (log 18). -/
def Block.leavesPackage (k : Block) (d : Build) (b : Nat) (o : DescOp) (c : Desc) : Bool :=
  match o with
  | .copy => !inPackage d (fld (k.routeWord b k.net.bank c.entry 1) 53 24)
  | .storeC => !inPackage d (fld (k.routeWord b k.net.bank c.entry 1) 53 24)
  | .send => k.chanSteer b (natAt c.opx 0 2) || !inPackage d (k.chanDst b (natAt c.opx 0 2))
  | _ => true

/-- The transfer joins its engine's order of issue (R208). -/
def Block.enlist (k : Block) (b en t : Nat) : Block :=
  let l := (look [] k.xfr.order (b * 16 + en)).filter fun x => x != t && k.unissued b x
  { k with xfr.order := put [] k.xfr.order (b * 16 + en) (l ++ [t]) }

/-- A transfer starts on tracker TRK, which was IDLE (R207, R208, R312). A SEND begins with the read of its message, a STORE.C
with that of its source for the scan pass, for which one request stands (the model's choice, log 11). -/
def Block.startTransfer (k : Block) (e : Env) (b en : Nat) (o : DescOp) (c : Desc) : Block :=
  let d := e.build
  let t := c.trk
  let v : Tracker :=
    { st := .source, op := opOf o, sys := k.leavesPackage d b o c, desc := c, eng := some en, gtime := k.gtime }
  let pieces := v.pieces.length
  match o with
  | .contrib =>
    ((k.openTracker b t { v with st := .collect, pcount := ceilDiv c.len (max 1 (k.contribSeg c.group)) }).enlist b en
      t).issue e b t
  | .storeC =>
    let k := (k.openTracker b t v).enlist b en t
    let l := (look [] k.spc.compress b).filter fun x => x != t && k.unissued b x
    { k with spc.compress := put [] k.spc.compress b (l ++ [t]) }.memFetch b (.scan t) c.sa 1
  | .gather =>
    match k.gatherJob e b c with
    | none => k
    | some j =>
      let k := (k.openTracker b t { v with pcount := j.nFetch + j.mergeCount }).setJob b t j
      (k.enlist b en t).startGather e b t j
  | .send => (k.openTracker b t { v with pcount := 1 }).memFetch b (.message t) c.sa 32
  | .mcast => ((k.openTracker b t { v with pcount := pieces, bytes := c.len }).enlist b en t).issue e b t
  | _ => ((k.openTracker b t { v with pcount := pieces }).enlist b en t).issue e b t

/-- An engine with a checked descriptor claims TRK and goes on, or waits in RUNNING until it is IDLE (R208). -/
def Block.claim (k : Block) (e : Env) (b en : Nat) (o : DescOp) (c : Desc) (evt : Bool) : Block :=
  if (k.tracker b c.trk).st = .idle then (k.startTransfer e b en o c).retire b en evt
  else k.stay b en .running (.tracker (opOf o) c)

/-- The descriptor instruction at which an engine stands, if it runs and nothing holds it: operation, STRIDE, DADDR and
EVT. -/
def Block.descFetch (k : Block) (b en : Nat) : Option (DescOp × Nat × Nat × Bool) :=
  let v := k.stream b en
  if v.st = .running ∧ v.hold = .none then
    let w := k.progWord b en v.pc
    match decodeXfer w.toNat with
    | some (.desc o st da) => some (o, st, da, wordEvt w.toNat)
    | _ => none
  else none

/-- One descriptor instruction of operation `want` (R203, R206, R208). `ok` says that the descriptor read succeeded, and with
it, for a GATHER, that of the gather block and the predicted set (R336). -/
def Block.runDesc (k : Block) (e : Env) (b en : Nat) (ok : Bool) (want : DescOp) : Block :=
  match k.descFetch b en with
  | none => k
  | some (o, st, da, evt) =>
    if o ≠ want then k
    else
      let a := ((da + st * k.iterIndex b en (k.stream b en).pc) * 64) % 2 ^ 48
      let l := memRead e.mem b a 64
      if ok && k.lpOpen b && descOk o l && k.startOk e b o (descOf l) then k.claim e b en o (descOf l) evt
      else
        let k := if ok then k else k.bump .NI_LPERR 47 32 b
        k.failStream e.build b en 0

/-- COPY (R207). -/
def execCopy (b en : Nat) (ok : Bool) (s : State) : Host.Outcome State Fault Refusal :=
  s.run (brickOk s.env.build b && decide (en < 16)) fun k => k.runDesc s.env b en ok .copy

/-- MCAST (R207, R310). -/
def execMcast (b en : Nat) (ok : Bool) (s : State) : Host.Outcome State Fault Refusal :=
  s.run (brickOk s.env.build b && decide (en < 16)) fun k => k.runDesc s.env b en ok .mcast

/-- CONTRIB (R312). -/
def execContrib (b en : Nat) (ok : Bool) (s : State) : Host.Outcome State Fault Refusal :=
  s.run (brickOk s.env.build b && decide (en < 16)) fun k => k.runDesc s.env b en ok .contrib

/-- GATHER (R336). -/
def execGather (b en : Nat) (ok : Bool) (s : State) : Host.Outcome State Fault Refusal :=
  s.run (brickOk s.env.build b && decide (en < 16)) fun k => k.runDesc s.env b en ok .gather

/-- STORE.C (R331). -/
def execStoreC (b en : Nat) (ok : Bool) (s : State) : Host.Outcome State Fault Refusal :=
  s.run (brickOk s.env.build b && decide (en < 16)) fun k => k.runDesc s.env b en ok .storeC

/-- SEND (R367). -/
def execSend (b en : Nat) (ok : Bool) (s : State) : Host.Outcome State Fault Refusal :=
  s.run (brickOk s.env.build b && decide (en < 16)) fun k => k.runDesc s.env b en ok .send

/-- RLOAD (R207). -/
def execRload (b en : Nat) (ok : Bool) (s : State) : Host.Outcome State Fault Refusal :=
  s.run (brickOk s.env.build b && decide (en < 16)) fun k => k.runDesc s.env b en ok .rload

/-- RSTORE (R207). -/
def execRstore (b en : Nat) (ok : Bool) (s : State) : Host.Outcome State Fault Refusal :=
  s.run (brickOk s.env.build b && decide (en < 16)) fun k => k.runDesc s.env b en ok .rstore

/-- The descriptor operation of a tracker operation. -/
def heldOp : XferOp → Option DescOp
  | .copy => some .copy
  | .mcast => some .mcast
  | .contrib => some .contrib
  | .gather => some .gather
  | .storeC => some .storeC
  | .send => some .send
  | .rload => some .rload
  | .rstore => some .rstore
  | _ => none

/-- TRACKER_CLAIM (R208): the tracker an engine waits for is IDLE; what the operation asks of the brick is checked again
as the transfer starts. -/
def execTrackerClaim (b en : Nat) (s : State) : Host.Outcome State Fault Refusal :=
  s.run (brickOk s.env.build b && decide (en < 16)) fun k =>
    let v := k.stream b en
    match v.hold with
    | .tracker o c =>
      match heldOp o with
      | none => k
      | some x =>
        if v.st = .running ∧ (k.tracker b c.trk).st = .idle then
          if k.startOk s.env b x c then k.claim s.env b en x c (wordEvt (k.curWord b en).toNat)
          else k.failStream s.env.build b en 0
        else k
    | _ => k

/-! ### FENCE (R209) -/

/-- A transfer of the engine has not completed at its source (R209). -/
def Block.engineBusy (k : Block) (b en : Nat) : Bool :=
  k.xfr.trk.any fun x => x.1 / 1024 == b && x.1 % 1024 < 896 && x.2.eng == some en &&
    (x.2.st == .source || x.2.st == .collect || x.2.st == .completing)

/-- FENCE (R209). -/
def execFence (b en : Nat) (s : State) : Host.Outcome State Fault Refusal :=
  s.run (brickOk s.env.build b && decide (en < 16)) fun k =>
    let v := k.stream b en
    let w := k.progWord b en v.pc
    if v.st = .running ∧ v.hold = .none ∧ decodeXfer w.toNat = some .fence then
      if k.engineBusy b en then k.stay b en .running .fence else k.retire b en (wordEvt w.toNat)
    else k

/-- FENCE_RELEASE (R209). -/
def execFenceRelease (b en : Nat) (s : State) : Host.Outcome State Fault Refusal :=
  s.run (brickOk s.env.build b && decide (en < 16)) fun k =>
    let v := k.stream b en
    if v.st = .running ∧ v.hold = .fence ∧ k.engineBusy b en = false then
      k.retire b en (wordEvt (k.curWord b en).toNat)
    else k

/-! ### Pool trackers: SIGNAL.R and LP operations (R43, R225, R228) -/

/-- SIGNAL.R of stream `u` on pool tracker `t`: adds `n` to counter `c` at the end of route entry `en`. CNT and LEN of the
kept descriptor hold them. A transfer engine sends it in its own order and as its own subscriber (R143, R208). -/
def Block.startSignal (k : Block) (e : Env) (b u t c en n : Nat) : Block :=
  let k := k.openTracker b t
    { st := .source, op := .signalR, pcount := 1, desc := { entry := en, cnt := c, len := n }, gtime := k.gtime
      eng := if isReducer u then none else some u
      sys := !inPackage e.build (fld (k.routeWord b k.net.bank en 1) 53 24) }
  ((if isReducer u then k else k.enlist b u t)).issue e b t

/-- SIGNAL.R of stream `u` (R43, R225). -/
def Block.signalRemote (k : Block) (e : Env) (b u : Nat) (evt : Bool) : CtlOp → Block
  | .signalR c en n =>
    if 4096 ≤ en then k.failStream e.build b u 0
    else match k.freePool b with
      | some t => (k.startSignal e b u t c en n).retire b u evt
      | none => k.stay b u .running .pool
  | _ => k

/-- SIGNAL_R (R43). -/
def execSignalR (b u : Nat) (s : State) : Host.Outcome State Fault Refusal :=
  s.run (brickOk s.env.build b && streamOk u) fun k =>
    match k.ctlFetch b u with
    | some (o, evt) => k.signalRemote s.env b u evt o
    | none => k

/-- The trackers of a brick with a state of their own. -/
def Block.trackersOf (k : Block) (b : Nat) : List Nat :=
  (k.xfr.trk.filter fun (x : Nat × Tracker) => x.1 / 1024 == b).map fun x => x.1 % 1024

/-- The LP operation on pool tracker `t` is at work. -/
def Tracker.lpAtWork (v : Tracker) (rid : Nat) : Bool :=
  v.st == .source && (v.op == .lpLoad || v.op == .lpStore) && v.rid == rid

/-- A fence read: it awaits the LP operations of its requester that are not complete (R228). -/
def Block.fenceOf (k : Block) (b rid tag : Nat) : FenceRead :=
  { rid := rid, tag := tag
    held := ((look [] k.xfr.lpHeld b).filter fun o => o.rid == rid).length
    trks := (k.trackersOf b).filter fun t => (k.tracker b t).lpAtWork rid }

/-- The fence read awaits nothing more. -/
def Block.fenceReady (k : Block) (b : Nat) (f : FenceRead) : Bool :=
  f.held == 0 && f.trks.all fun t => !(k.tracker b t).lpAtWork f.rid

/-- Answer the fence reads that await nothing more (R228): the first status other than OK since the requester's previous
fence read. -/
def Block.answerFences (k : Block) (b : Nat) : Block :=
  let l := look [] k.xfr.fenceReads b
  let ready := l.filter fun x => k.fenceReady b x
  let k := { k with xfr.fenceReads := put [] k.xfr.fenceReads b (l.filter fun x => !k.fenceReady b x) }
  ready.foldl (fun k x =>
    let st := look 0 k.xfr.lpFail (b * 64 + x.rid)
    ({ k with xfr.lpFail := put 0 k.xfr.lpFail (b * 64 + x.rid) 0 }).settleLp b x.rid .fence st []) k

/-- A fence read of the operation's requester that came after it awaits pool tracker `t` now, and one held operation
less. -/
def FenceRead.started (f : FenceRead) (rid t : Nat) : FenceRead :=
  if f.rid = rid ∧ 0 < f.held then { f with held := f.held - 1, trks := f.trks ++ [t] } else f

/-- An LP operation takes pool tracker `t` (R225, R228): a store is answered as it is claimed (R551). -/
def Block.startLp (k : Block) (e : Env) (b t : Nat) (o : LpOp) : Block :=
  let c : Desc := { len := o.len, sa := if o.data.isNone then o.addr else 0, da := if o.data.isSome then o.addr else 0 }
  let l := (look [] k.xfr.fenceReads b).map fun f => f.started o.rid t
  let k := { k with xfr.fenceReads := put [] k.xfr.fenceReads b l }
  let k := k.openTracker b t
    { st := .source, op := if o.data.isSome then .lpStore else .lpLoad, sys := true, pcount := 1, desc := c, rid := o.rid
      rtag := o.tag, data := o.data.getD [], gtime := k.gtime }
  let k := if o.data.isSome then k.settleLp b o.rid .held stOk [] else k.dueLoad b o.rid t
  (k.issue e b t).answerFences b

/-- The request is legal in the lake space (R228, R550). -/
def lpRange (addr n : Nat) : Bool :=
  decide (1 ≤ n) && decide (n ≤ 64) && decide (addr / 64 = (addr + n - 1) / 64) && lakeOk addr

/-- An LP operation at the target channel: turned away, started, or held for a pool tracker (R225, R228, R550). -/
def Block.lpOperation (k : Block) (e : Env) (b : Nat) (o : LpOp) : Block :=
  if !k.lpServes e.build b o.rid then k
  else if !lpRange o.addr o.len then k.badRequest b o.rid o.tag
  else
    let k := k.owe b o.rid o.tag .held
    match k.freePool b with
    | some t =>
      if (look [] k.xfr.lpHeld b).isEmpty then k.startLp e b t o
      else { k with xfr.lpHeld := put [] k.xfr.lpHeld b (look [] k.xfr.lpHeld b ++ [o]) }
    | none => { k with xfr.lpHeld := put [] k.xfr.lpHeld b (look [] k.xfr.lpHeld b ++ [o]) }

/-- LP_LOAD (R228). -/
def execLpLoad (b rid tag addr n : Nat) (s : State) : Host.Outcome State Fault Refusal :=
  s.run (brickOk s.env.build b) fun k =>
    k.lpOperation s.env b { rid := rid % 64, tag := tag, addr := addr, len := n, data := none }

/-- LP_STORE (R228). -/
def execLpStore (b rid tag addr : Nat) (data : List Byte) (s : State) : Host.Outcome State Fault Refusal :=
  s.run (brickOk s.env.build b) fun k =>
    k.lpOperation s.env b { rid := rid % 64, tag := tag, addr := addr, len := data.length, data := some data }

/-- The DIRREQ operation that a coordinator's step sends (R397). -/
def Coordinator.opCode (c : Coordinator) : Nat :=
  match c.step with
  | .start => 1
  | .reserve => 3
  | .prepare => 5
  | .move => 8
  | .install => 7
  | _ => 0

/-- A DIRREQ as a one-packet stream on pool tracker `t` (R396): destination coordinate, lake address, payload. -/
def Block.startAsk (k : Block) (e : Env) (b t dst addr : Nat) (payload : List Byte) : Block :=
  (k.openTracker b t
    { st := .source, op := .dirreq, pcount := 1, sys := !inPackage e.build dst, desc := { sa := dst, da := addr }
      data := payload, gtime := k.gtime }).issue e b t

/-- Ask with a DIRREQ, or wait for a pool tracker; the tracker taken. -/
def Block.ask (k : Block) (e : Env) (b dst addr : Nat) (payload : List Byte) : Option Nat × Block :=
  match k.freePool b with
  | some t => (some t, k.startAsk e b t dst addr payload)
  | none => (none, { k with gpd.asks := put [] k.gpd.asks b (look [] k.gpd.asks b ++ [(dst, addr, payload)]) })

/-- FENCE_READ (R228). -/
def execFenceRead (b rid tag : Nat) (s : State) : Host.Outcome State Fault Refusal :=
  s.run (brickOk s.env.build b) fun k =>
    if !k.lpServes s.env.build b rid then k
    else
      let k := k.owe b (rid % 64) tag .fence
      let l := look [] k.xfr.fenceReads b ++ [k.fenceOf b (rid % 64) tag]
      ({ k with xfr.fenceReads := put [] k.xfr.fenceReads b l }).answerFences b

/-- LP_PROGRAM_WRITE (R58, R550): `off` is the word address; a write outside the open range, or to no word, is answered
with PROGRAM_FAULT. -/
def execLpProgramWrite (b rid tag off : Nat) (v : Word) (s : State) : Host.Outcome State Fault Refusal :=
  let d := s.env.build
  s.run (brickOk d b) fun k =>
    if !k.lpServes d b rid then k
    else
      let w := look 0 k.prog.openRange b
      if off < 4096 ∧ flag w 63 = true ∧ fld w 11 0 ≤ off ∧ off ≤ fld w 27 16 then
        (k.writeXferWord b off v).answerStatus b rid tag stOk
      else k.badRequest b rid tag

end Sys2Proof.Machine
end

