-- ==== Sys2Proof/Machine/Placement.lean ====
section
/-!
DEFINITION. The lake and placement (R385 to R415): directory lookup, heat and the evaluation of moves, the DIRREQ
exchange between coordinator, roots, slices and old homes, migration by chunks, and forwarding.
-/

namespace Sys2Proof.Machine

/-! ### Entries -/

/-- Entry `i` of a slice. -/
def Block.gpdEntry (k : Block) (b i : Nat) : GpdEntry := look {} k.gpd.entry (b * 2048 + i)

/-- Entry `i` as a lookup finds it: one that firmware committed in this FCLK is found as it was (R392). -/
def Block.seenEntry (k : Block) (b i : Nat) : GpdEntry :=
  asStood k.clk.now (look ((0 : Nat), ({} : GpdEntry)) k.gpd.entryOld (b * 2048 + i)) (k.gpdEntry b i)

/-- Replace an entry. -/
def Block.setGpd (k : Block) (b i : Nat) (v : GpdEntry) : Block :=
  { k with gpd.entry := put {} k.gpd.entry (b * 2048 + i) v }

/-- Page number of a lake address (R385). -/
def pageOf (addr : Nat) : Nat := bits addr 56 21

/-- The entry's range holds a page. -/
def GpdEntry.holds (v : GpdEntry) (page : Nat) : Bool := v.v && decide (v.base ≤ page) && decide (page ≤ v.base + v.lenm1)

/-- The entry of a slice whose range holds a page, the lowest first. -/
def Block.findEntry (k : Block) (b page : Nat) : Option Nat := findBelow 2048 fun i => (k.gpdEntry b i).holds page

/-- The entry that a lookup of a page finds, the lowest first (R392). -/
def Block.lookupEntry (k : Block) (b page : Nat) : Option Nat := findBelow 2048 fun i => (k.seenEntry b i).holds page

/-- A home entry names a HOME brick on this die. -/
def GpdEntry.isHome (d : Build) (v : GpdEntry) : Bool := onDie d v.home

/-- The die of a coordinate, bits [29:11]. -/
def dieOf (c : Nat) : Nat := bits c 29 11

/-- The coordinate of endpoint `ep` of brick (0,0) of a die. -/
def dieCoord (die ep : Nat) : Nat := die * 2 ^ 11 + ep

/-- Heat of one access (R394). -/
def GpdEntry.access (v : GpdEntry) (die : Nat) : GpdEntry :=
  let slots := v.heat ++ List.replicate (4 - v.heat.length) (0, 0)
  let least := slots.foldl (fun m x => if x.2 < m then x.2 else m) (slots.headD (0, 0)).2
  let i := match slots.findIdx? fun x => x.1 == die && x.2 != 0 with
    | some i => i
    | none => (slots.findIdx? fun x => x.2 == least).getD 0
  let old := slots.getD i (0, 0)
  { v with total := min (v.total + 1) 65535, heat := slots.set i (die, min (old.2 + 1) 8191) }

/-- An access to entry `i` is counted in state HOME. -/
def Block.countHeat (k : Block) (b i src : Nat) : Block :=
  let v := k.gpdEntry b i
  if v.st = .home then k.setGpd b i (v.access (dieOf src)) else k

/-! ### DIRECTORY_LOOKUP (R390, R402, R404) -/

/-- A DIRREQ payload (R396). -/
def dirBody (op result frame coord_ epoch nframe : Nat) : List Byte :=
  leBytes 1 op ++ leBytes 1 result ++ leBytes 2 0 ++ leBytes 4 frame ++ leBytes 4 coord_ ++ leBytes 2 epoch ++
  leBytes 2 0 ++ leBytes 4 nframe ++ leBytes 12 0

/-- A slice forwards a rewritten packet; it carries no subscriber (R143). -/
def Block.sliceForward (k : Block) (d : Build) (b : Nat) (p : Packet) : Block :=
  match k.enterDie d b 4 p with
  | (some q, k) => k.stageAt b 0 { pkt := resealPacket q, fixed := true }
  | (none, k) => k.dropNoRoute d b p

/-- The REFRESH that follows a stale forward, unless the refresh cache of 16 holds (SRC die, page) (R402). -/
def Block.sendRefresh (k : Block) (e : Env) (b src addr : Nat) (v : GpdEntry) : Block :=
  let key := (dieOf src, pageOf addr)
  let c := look [] k.gpd.refreshed b
  let c' := (c.filter fun x => x != key) ++ [key]
  let k := { k with gpd.refreshed := put [] k.gpd.refreshed b (c'.drop (c'.length - 16)) }
  if c.contains key then k
  else (k.ask e b (dieCoord (dieOf src) 3) (addr / 2 ^ 21 * 2 ^ 21) (dirBody 0xB 0 0 v.home v.epoch 0)).2

/-- Target `t` of a steering set: (brick, queue). -/
def Block.steerTarget (k : Block) (set t : Nat) : Nat × Nat :=
  let w := k.reg .PLC_STSET 0 [set, 1 + t / 4]
  let x := fld w (16 * (t % 4) + 13) (16 * (t % 4))
  (x / 64, x % 64)

/-- Messages this slice has steered to a queue since the boundary. -/
def Block.steeredTo (k : Block) (b : Nat) (x : Nat × Nat) : Nat := look 0 k.gpd.steered ((b * 256 + x.1) * 64 + x.2)

/-- A steered MESSAGE at its home entry (R404). -/
def Block.steer (k : Block) (d : Build) (b : Nat) (v : GpdEntry) (p : Packet) : Block :=
  let home := cBrick v.home
  let set := fld (k.reg .PLC_STMAP 0 [home / 8]) (8 * (home % 8) + 7) (8 * (home % 8))
  let w := k.reg .PLC_STSET 0 [set % 64, 0]
  if 64 ≤ set ∨ flag w 63 = false then k.answerError d b p stNoRoute
  else
    let n := fld w 61 59 + 1
    let ts := (List.range n).map fun t => k.steerTarget set t
    let last := look 7 k.gpd.steerLast (b * 64 + set)
    let t := if flag w 62 then
        let loads := ts.map fun x => look 0 k.gpd.occ (x.1 * 64 + x.2) + k.steeredTo b x
        let m := loads.foldl min (loads.headD 0)
        (loads.findIdx? fun x => x == m).getD 0
      else (if n ≤ last + 1 then 0 else last + 1)
    let x := ts.getD t (0, 0)
    let k := { k with
      gpd.steerLast := put 7 k.gpd.steerLast (b * 64 + set) t
      gpd.steered := put 0 k.gpd.steered ((b * 256 + x.1) * 64 + x.2) (k.steeredTo b x + 1) }
    k.sliceForward d b { p with dst := coord d x.1 1, group := x.2, rmode := 1, route := 0 }

/-- The treatment of R390. -/
def Block.lookupDirectory (k : Block) (e : Env) (b : Nat) (p : Packet) : Block :=
  let d := e.build
  match k.lookupEntry b (pageOf p.addr) with
  | none =>
    ((k.answerError d b p stDirMiss).postEvent b { type := 6, status := stDirMiss, arg1 := p.addr }).bump .GPD_ERR 63 48 b
  | some i =>
    let v := k.seenEntry b i
    if !v.isHome d then
      let next := dieCoord (dieOf v.home) 3
      if p.moved then (k.answerError d b p stNoRoute).bump .GPD_ERR 47 32 b
      else if onDie d p.src then k.sliceForward d b { p with dst := next }
      else
        (k.sliceForward d b { p with moved := true, hint := v.home, dst := next }).sendRefresh e b p.src p.addr v
    else if p.op = opMessage then (k.countHeat b i p.src).steer d b v p
    else if v.st = .pinned then k.sliceForward d b { p with dst := v.home, addr := p.addr % 2 ^ 48 }
    else
      (k.countHeat b i p.src).sliceForward d b
        { p with addr := v.frame * 2 ^ 21 + (p.addr - v.base * 2 ^ 21), dst := v.home }

/-- DIRECTORY_LOOKUP (R390). -/
def execDirectoryLookup (b : Nat) (s : State) : Host.Outcome State Fault Refusal :=
  let d := s.env.build
  s.run (brickOk d b) fun k =>
    match k.rxQueue b 3 with
    | p :: _ =>
      if p.rmode = 2 then k
      else match k.rxTake b 3 [opReadReq, opWrite, opMessage] with
        | none => k
        | some (p, k) => k.consume d b 3 p (p.op == opReadReq || p.op == opWrite || (p.op == opMessage && p.steer)) true
            fun k => k.lookupDirectory s.env b p
    | [] => k

/-! ### The coordinator (R395, R398) -/

/-- The coordinator of a slice sends the DIRREQ of its step. -/
def Block.coordAsk (k : Block) (e : Env) (b : Nat) (c : Coordinator) (dst : Nat) (body : List Byte) : Block :=
  let (t, k) := k.ask e b dst ((k.gpdEntry b c.entry).base * 2 ^ 21) body
  { k with gpd.coord := put none k.gpd.coord b (some { c with trk := t }) }

/-- A DIRREQ whose answer the coordinator does not wait for. -/
def Block.tell (k : Block) (e : Env) (b entry dst : Nat) (body : List Byte) : Block :=
  (k.ask e b dst ((k.gpdEntry b entry).base * 2 ^ 21) body).2

/-- The root of this die. -/
def rootCoord (d : Build) : Nat := mkCoord d.pod d.pkg d.die 0 0 4

/-- The move ends: END to the own root (R398). -/
def Block.endMove (k : Block) (e : Env) (b : Nat) (c : Coordinator) : Block :=
  ({ k with gpd.coord := put none k.gpd.coord b none }).tell e b c.entry (rootCoord e.build) (dirBody 2 0 0 0 0 0)

/-- RELEASE of the reserved frame to the target die's root. -/
def Block.releaseFrame (k : Block) (e : Env) (b : Nat) (c : Coordinator) : Block :=
  k.tell e b c.entry (dieCoord c.die 4) (dirBody 4 0 c.frame c.newHome 0 0)

/-- CANCEL at the target slice. -/
def Block.cancelEntry (k : Block) (e : Env) (b : Nat) (c : Coordinator) : Block :=
  k.tell e b c.entry (dieCoord c.die 3) (dirBody 6 0 0 0 0 0)

/-- State of the coordinated entry. -/
def Block.entryState (k : Block) (b i : Nat) (st : GpdState) : Block := k.setGpd b i { k.gpdEntry b i with st := st }

/-- INSTALL at the target slice (R398). -/
def Block.sendInstall (k : Block) (e : Env) (b : Nat) (c : Coordinator) : Block :=
  let v := k.gpdEntry b c.entry
  k.coordAsk e b { c with step := .install } (dieCoord c.die 3) (dirBody 7 0 c.frame c.newHome ((v.epoch + 1) % 2 ^ 16) 0)

/-- The REPORT of the old home (R398). -/
def Block.coordReport (k : Block) (e : Env) (b : Nat) (c : Coordinator) (ok : Bool) : Block :=
  if ok then k.sendInstall e b c
  else
    ((((k.cancelEntry e b c).releaseFrame e b c).entryState b c.entry .home).bump .PLC_STAT 47 32 0).endMove e b c

/-- The coordinator takes the answer to its step (R398): `ok`, and the answer's FRAME and COORD. -/
def Block.coordAnswer (k : Block) (e : Env) (b : Nat) (c : Coordinator) (ok : Bool) (frame coord_ : Nat) : Block :=
  let v := k.gpdEntry b c.entry
  match c.step, ok with
  | .start, true => k.coordAsk e b { c with step := .reserve } (dieCoord c.die 4) (dirBody 3 0 0 0 0 0)
  | .start, false => k.endMove e b c
  | .reserve, true =>
    k.coordAsk e b { c with step := .prepare, frame := frame, newHome := coord_, oldHome := v.home, oldFrame := v.frame }
      (dieCoord c.die 3) (dirBody 5 0 0 v.home v.epoch 0)
  | .reserve, false => k.endMove e b c
  | .prepare, true =>
    (k.entryState b c.entry .moving).coordAsk e b { c with step := .move } (c.oldHome / 8 * 8 + 4)
      (dirBody 8 0 c.oldFrame c.newHome 0 c.frame)
  | .prepare, false => (k.releaseFrame e b c).endMove e b c
  | .move, true =>
    let c := { c with step := .report, trk := none }
    let k := { k with gpd.coord := put none k.gpd.coord b (some c) }
    match c.early with
    | some ok => k.coordReport e b c ok
    | none => k
  | .move, false => (((k.cancelEntry e b c).releaseFrame e b c).entryState b c.entry .home).endMove e b c
  | .install, true =>
    let k := k.setGpd b c.entry { v with home := c.newHome, frame := 0, epoch := (v.epoch + 1) % 2 ^ 16, st := .forwarding }
    ((k.tell e b c.entry (c.oldHome / 8 * 8 + 4) (dirBody 0xA 0 0 0 0 0)).bump .PLC_STAT 63 48 0).endMove e b c
  | .install, false => { k with gpd.coord := put none k.gpd.coord b (some { c with step := .installAgain, trk := none }) }
  | _, _ => k

/-- Index of the slot with the largest count among those whose die is not this one (R395). -/
def GpdEntry.topDie (d : Build) (v : GpdEntry) : Option (Nat × Nat) :=
  let l := v.heat.filter fun x => x.2 != 0 && x.1 != dieOf (coord d 0 0)
  match l with
  | [] => none
  | x :: r => some (r.foldl (fun m y => if m.2 < y.2 then y else m) x)

/-- The candidates of a slice (R395): (entry, TOTAL, target die). -/
def Block.candidates (k : Block) (d : Build) (b : Nat) : List (Nat × Nat × Nat) :=
  (List.range 2048).filterMap fun i =>
    let v := k.gpdEntry b i
    match v.topDie d with
    | some (die, n) =>
      if v.v && v.st == .home && v.isHome d && v.lenm1 == 0 && decide (k.rf .PLC_TIME 23 16 0 ≤ v.age) &&
          decide (k.rf .PLC_POL 31 16 0 ≤ v.total) && decide (k.rf .PLC_POL 7 0 0 * v.total < n * 256) then
        some (i, v.total, die)
      else none
    | none => none

/-- An entry after an evaluation (R395): heat halved, AGE risen. -/
def GpdEntry.cool (v : GpdEntry) : GpdEntry :=
  { v with total := v.total / 2, heat := v.heat.map (fun x => (x.1, x.2 / 2)), age := satAdd 255 v.age 1 }

/-- Every entry of a slice after an evaluation, valid or not (R395). -/
def Block.coolSlice (k : Block) (b : Nat) : Block :=
  { k with gpd.entry :=
      keepKeys k.gpd.entry (fun a => decide (a / 2048 < b)) ++
      (List.range 2048).map (fun i => (b * 2048 + i, (k.gpdEntry b i).cool)) ++
      keepKeys k.gpd.entry (fun a => decide (b < a / 2048)) }

/-- PLACEMENT_EVALUATION (R395, R398): at the interval boundary of the slice; an isolated brick is held in reset (R493). -/
def execPlacementEvaluation (b : Nat) (s : State) : Host.Outcome State Fault Refusal :=
  let d := s.env.build
  s.run (brickOk d b) fun k =>
    if k.isolated b ∨ (k.clk.course + b) % max 1 (k.rf .PLC_POL 39 32 0 * 16) ≠ 0 then k
    else
      let cs := k.candidates d b
      let k : Block := match look none k.gpd.coord b with
        | some c => if c.step = .installAgain then k.sendInstall s.env b c else k
        | none =>
          match cs with
          | [] => k
          | x :: r =>
            let best := r.foldl (fun m y => if m.2.1 < y.2.1 then y else m) x
            if flag (k.reg .PLC_POL) 63 then
              k.coordAsk s.env b { entry := best.1, die := best.2.2 } (rootCoord d) (dirBody 1 0 0 0 0 0)
            else k
      k.coolSlice b

/-! ### DIRREQ at its receivers (R396, R397) -/

/-- Answer a DIRREQ (R396): RESULT, and bytes 4 to 11. -/
def dirAnswer (q : Packet) (result : Nat) (mid : List Byte) : List Byte :=
  leBytes 1 (natAt q.payload 0 1) ++ leBytes 1 result ++ leBytes 2 0 ++ mid ++ leBytes 4 0

/-- Bytes 4 to 11 of a DIRREQ. -/
def dirMid (q : Packet) : List Byte := bytesAt q.payload 4 8

/-- FRAME, COORD and EPOCH of a DIRREQ or DIRRESP payload. -/
def dirFrame (l : List Byte) : Nat := natAt l 4 4 % 2 ^ 27
/-- COORD. -/
def dirCoord (l : List Byte) : Nat := natAt l 8 4 % 2 ^ 30
/-- EPOCH. -/
def dirEpoch (l : List Byte) : Nat := natAt l 12 2

/-- DIRREQ entries of the request store (R155, log 72). -/
def dirDepth : Nat := 64

/-- The DIRREQ operations that the endpoint of class `c` serves (R397): the slice at EP 3, the root and the old home at EP 4. -/
def dirServed (c : Nat) : List Nat := if c = 3 then [5, 6, 7, 9, 0xB] else [1, 2, 3, 4, 8, 0xA]

/-- The DIRREQ of operation `op` at the head of the receive FIFO of class `c`: discarded and counted where the request
store is full (R155); one whose payload fails is NACKed, whatever its OP (R214); a duplicate gets its stored answer, a new one is served by `f`, which gives the result and the
answer's bytes 4 to 11. A head that the endpoint does not serve is discarded as ILLEGAL (R78; that a DIRREQ of a reserved or
misplaced OP is so treated is the model's choice, log 91). -/
def Block.serveDir (k : Block) (d : Build) (b c op : Nat) (f : Block → Packet → Nat × List Byte × Block) : Block :=
  match k.rxQueue b c with
  | p :: r =>
    let served := (dirServed c).contains (natAt p.payload 0 1)
    if p.op ≠ opDirReq ∧ unclaimed b c p = false ∨ p.op = opDirReq ∧ served = true ∧ natAt p.payload 0 1 ≠ op then k
    else (k.setRx b c r).consume d b c p (p.op == opDirReq && (served || !payloadOk p)) true fun k =>
      let h := look [] k.gpd.seen (b * 8 + c)
      if dirDepth ≤ k.answering d b c opDirResp then k.bump .SHW_ERR 31 16 b
      else match h.find? fun x => x.src == p.src && x.trk == p.tracker with
      | some x => k.sendDirect d b { k.response d b c opDirResp 5 0 p with group := 0, cseq := 0, payload := x.answer }
      | none =>
        if 64 ≤ h.length then k
        else
          let r := f k p
          let a := dirAnswer p r.1 r.2.1
          let k : Block := r.2.2
          let k : Block := { k with gpd.seen := put [] k.gpd.seen (b * 8 + c) (h ++ [{ src := p.src, trk := p.tracker, answer := a }]) }
          k.sendDirect d b { k.response d b c opDirResp 5 0 p with group := 0, cseq := 0, payload := a }
  | [] => k

/-- RESULT codes of R396. -/
def dirOk : Nat := 0
/-- REFUSED. -/
def dirRefused : Nat := 1
/-- ABORTED. -/
def dirAborted : Nat := 2

/-- START at the root (R397). -/
def execStartMove (b : Nat) (s : State) : Host.Outcome State Fault Refusal :=
  let d := s.env.build
  s.run (brickOk d b) fun k => k.serveDir d b 4 1 fun k p =>
    let st := k.img.st
    let soon := match k.gpd.lastGrant with
      | some g => decide (k.clk.course < g + k.rf .PLC_POL 55 48 0)
      | none => false
    if b ≠ 0 ∨ flag (k.reg .PLC_POL) 63 = false ∨ k.rf .PLC_POL 43 40 0 ≤ k.gpd.active.length ∨ soon = true ∨ st = .checking ∨
        st = .checked ∨ st = .quiescing ∨ st = .writing then (dirRefused, dirMid p, k)
    else (dirOk, dirMid p, ({ k with gpd.active := k.gpd.active ++ [p.src], gpd.lastGrant := some k.clk.course } : Block))

/-- END at the root (R397): the sender's move is no longer active; an END of a START that was refused ends none. -/
def execEndMove (b : Nat) (s : State) : Host.Outcome State Fault Refusal :=
  let d := s.env.build
  s.run (brickOk d b) fun k => k.serveDir d b 4 2 fun k p =>
    (dirOk, dirMid p, ({ k with gpd.active := k.gpd.active.erase p.src } : Block))

/-- A pooled frame as RESERVE finds it: firmware's write of this FCLK applies after (R410). -/
def Block.pooledFrame (k : Block) (i : Nat) : Word :=
  asStood k.clk.now (look ((0 : Nat), (0 : Word)) k.gpd.frameOld i) (k.reg .PLC_FRAME 0 [i])

/-- RESERVE takes a frame: its V is cleared, under what firmware has written there in this FCLK (R410). -/
def Block.takeFrame (k : Block) (i : Nat) : Block :=
  let x := look ((0 : Nat), (0 : Word)) k.gpd.frameOld i
  if x.1 = k.clk.now + 1 then
    { k with gpd.frameOld := put ((0 : Nat), (0 : Word)) k.gpd.frameOld i (x.1, withFld x.2 63 63 0) }
  else k.setRf .PLC_FRAME 63 63 0 [i] 0

/-- A write of PLC_FRAME (R410). -/
def Block.writeFrame (k : Block) (i : Nat) (v : Word) : Block :=
  { k.applyWrite .PLC_FRAME 0 [i] v with
    gpd.frameOld := put ((0 : Nat), (0 : Word)) k.gpd.frameOld i (k.clk.now + 1, k.pooledFrame i) }

/-- RESERVE at the target die's root (R397). -/
def execReserve (b : Nat) (s : State) : Host.Outcome State Fault Refusal :=
  let d := s.env.build
  s.run (brickOk d b) fun k => k.serveDir d b 4 3 fun k p =>
    match findBelow 64 fun i => flag (k.pooledFrame i) 63 with
    | some i =>
      let w := k.pooledFrame i
      (dirOk, leBytes 4 (fld w 26 0) ++ leBytes 4 (coord d (fld w 34 27) 0), k.takeFrame i)
    | none => (dirRefused, dirMid p, k.bump .PLC_STAT 31 16 0)

/-- A record enters PLC_LOG if it has room (R401, R409). -/
def Block.logFrame (k : Block) (b frame : Nat) : Bool × Block :=
  if k.gpd.log.length < 64 then (true, { k with gpd.log := k.gpd.log ++ [(b, frame)] }) else (false, k)

/-- RELEASE (R397). -/
def execRelease (b : Nat) (s : State) : Host.Outcome State Fault Refusal :=
  let d := s.env.build
  s.run (brickOk d b) fun k => k.serveDir d b 4 4 fun k p =>
    let f := dirFrame p.payload
    let home := cBrick (dirCoord p.payload)
    match findBelow 64 fun i => !flag (k.reg .PLC_FRAME 0 [i]) 63 with
    | some i => (dirOk, dirMid p, k.setReg .PLC_FRAME 0 [i] (mkWord [(63, 1), (27, home), (0, f)]))
    | none => (dirOk, dirMid p, (k.logFrame home f).2)

/-- PREPARE at the target slice (R397). -/
def execPrepare (b : Nat) (s : State) : Host.Outcome State Fault Refusal :=
  let d := s.env.build
  s.run (brickOk d b) fun k => k.serveDir d b 3 5 fun k p =>
    let page := pageOf p.addr
    let make (i : Nat) : Block :=
      k.setGpd b i { v := true, st := .moving, base := page, home := dirCoord p.payload, epoch := dirEpoch p.payload }
    match findBelow 2048 fun i => (k.gpdEntry b i).v && (k.gpdEntry b i).base == page && (k.gpdEntry b i).lenm1 == 0 with
    | some i => (dirOk, dirMid p, make i)
    | none =>
      if (k.findEntry b page).isSome then (dirRefused, dirMid p, k)
      else match findBelow 2048 fun i => !(k.gpdEntry b i).v with
        | some i => (dirOk, dirMid p, make i)
        | none => (dirRefused, dirMid p, k)

/-- The entry of one page at a slice. -/
def Block.pageEntry (k : Block) (b addr : Nat) : Option Nat :=
  findBelow 2048 fun i => (k.gpdEntry b i).v && (k.gpdEntry b i).base == pageOf addr && (k.gpdEntry b i).lenm1 == 0

/-- CANCEL (R397). -/
def execCancel (b : Nat) (s : State) : Host.Outcome State Fault Refusal :=
  let d := s.env.build
  s.run (brickOk d b) fun k => k.serveDir d b 3 6 fun k p =>
    match k.pageEntry b p.addr with
    | some i => (dirOk, dirMid p, if (k.gpdEntry b i).st = .moving then k.entryState b i .home else k)
    | none => (dirOk, dirMid p, k)

/-- INSTALL (R397). -/
def execInstall (b : Nat) (s : State) : Host.Outcome State Fault Refusal :=
  let d := s.env.build
  s.run (brickOk d b) fun k => k.serveDir d b 3 7 fun k p =>
    match k.pageEntry b p.addr with
    | some i =>
      (dirOk, dirMid p, k.setGpd b i
        { k.gpdEntry b i with
          st := .home, home := dirCoord p.payload, frame := dirFrame p.payload, epoch := dirEpoch p.payload
          total := 0, heat := [], age := 0 })
    | none => (dirRefused, dirMid p, k)

/-! ### The old home (R399 to R401) -/

/-- Move record `r` of an old home. -/
def Block.moveRec (k : Block) (b r : Nat) : MoveRec := look {} k.gpd.recs (b * 4 + r)

/-- Replace a move record. -/
def Block.setRec (k : Block) (b r : Nat) (v : MoveRec) : Block := { k with gpd.recs := put {} k.gpd.recs (b * 4 + r) v }

/-- Chunk streams of a brick in flight. -/
def Block.chunksOut (k : Block) (b : Nat) : Nat := ((List.range 4).map fun r => (k.moveRec b r).flight.length).sum

/-- Bytes of a chunk (R399). -/
def chunkBytes : Nat := 65536

/-- A WRITE has committed to chunk `c` in FCLK `now` (R399). -/
def MoveRec.hitNow (v : MoveRec) (now c : Nat) : Bool := decide (v.hit.1 = now + 1) && v.hit.2.testBit c

/-- Begin chunk streams of a record while fewer than four are in flight and a pool tracker is IDLE (R399): the dirty bit
of a chunk is cleared as its stream begins, and a commit of this FCLK sets it after the clear. -/
def Block.pumpChunks (k : Block) (e : Env) (b r : Nat) : Nat → Block
  | 0 => k
  | n + 1 =>
    let v := k.moveRec b r
    match v.todo, k.freePool b with
    | c :: rest, some t =>
      if v.st ≠ .copy ∨ 4 ≤ k.chunksOut b then k
      else
        let k := k.setRec b r { v with
          todo := rest, flight := v.flight ++ [(c, t)]
          dirty := if v.dirty.testBit c && !v.hitNow k.clk.now c then v.dirty - 2 ^ c else v.dirty }
        let desc : Desc :=
          { len := chunkBytes, sa := v.frame * 2 ^ 21 + c * chunkBytes, da := v.nframe * 2 ^ 21 + c * chunkBytes
            member := v.newHome }
        let w : Tracker := { st := .source, op := .chunk, desc := desc, sys := !inPackage e.build v.newHome, gtime := k.gtime }
        let k := k.openTracker b t { w with pcount := w.pieces.length }
        (k.issue e b t).pumpChunks e b r n
    | _, _ => k

/-- Begin chunk streams of the brick's records, those of `r` first. -/
def Block.pumpAll (k : Block) (e : Env) (b r : Nat) : Block :=
  (List.range 4).foldl (fun k i => k.pumpChunks e b ((r + i) % 4) 4) k

/-- A chunk stream has ended: one that was not acknowledged whole leaves its chunk dirty (log 20); the next begins. -/
def Block.chunkEnded (k : Block) (e : Env) (b t : Nat) : Block :=
  match findBelow 4 fun r => (k.moveRec b r).flight.any fun x => x.2 == t with
  | none => k
  | some r =>
    let v := k.moveRec b r
    let bad := (k.tracker b t).status != stOk && (k.tracker b t).status != stMoved
    let cs := (v.flight.filter fun x => x.2 == t).map Prod.fst
    let dirty := if bad then cs.foldl (fun m c => m ||| 2 ^ c) v.dirty else v.dirty
    (k.setRec b r { v with flight := v.flight.filter fun x => x.2 != t, dirty := dirty }).pumpAll e b r

/-- MOVE at the old home (R397, R399): opens a move record. -/
def execMovePage (b : Nat) (s : State) : Host.Outcome State Fault Refusal :=
  let d := s.env.build
  s.run (brickOk d b) fun k => k.serveDir d b 4 8 fun k p =>
    match findBelow 4 fun r => (k.moveRec b r).st == .free with
    | some r =>
      let k := k.setRec b r
        { st := .copy, addr := p.addr / 2 ^ 21 * 2 ^ 21, frame := dirFrame p.payload
          nframe := natAt p.payload 16 4 % 2 ^ 27, newHome := dirCoord p.payload, coordTo := p.src / 8 * 8 + 3
          dirty := 2 ^ 32 - 1, todo := List.range 32 }
      (dirOk, dirMid p, k.pumpChunks s.env b r 4)
    | none => (dirRefused, dirMid p, k)

/-- REPORT from the old home to the coordinator (R397). -/
def Block.sendReport (k : Block) (e : Env) (b : Nat) (v : MoveRec) (result : Nat) : Block :=
  (k.ask e b v.coordTo v.addr (dirBody 9 result 0 0 0 0)).2

/-- Cluster memory owes an access of a WRITE or READREQ to a frame of the brick. -/
def Block.frameBusy (k : Block) (b frame : Nat) : Bool :=
  let touches (q : MemReq) : Bool := match q.use with
    | .packet p => (p.op == opWrite || p.op == opReadReq) && bits p.addr 47 21 == frame
    | .alone p => p.op == opWrite && bits p.addr 47 21 == frame
    | _ => false
  (k.xfr.lpm.any fun x => x.1 / 1024 == b && (x.2.map touches).getD false) || (look [] k.xfr.lpmWait b).any touches

/-- COPY_ROUND_DONE (R399): FORWARD waits for the accesses of the old frame that are underway, since none comes after it
(R400). -/
def execCopyRoundDone (b r : Nat) (s : State) : Host.Outcome State Fault Refusal :=
  s.run (brickOk s.env.build b && decide (r < 4)) fun k =>
    let v := k.moveRec b r
    if v.st ≠ .copy ∨ v.todo ≠ [] ∨ v.flight ≠ [] then k
    else if v.dirty = 0 then
      if k.frameBusy b v.frame then k else (k.setRec b r { v with st := .forward }).sendReport s.env b v dirOk
    else if k.rf .PLC_POL 59 56 0 < v.round + 1 then (k.setRec b r {}).sendReport s.env b v dirAborted
    else
      (k.setRec b r { v with round := v.round + 1, todo := (List.range 32).filter fun c => v.dirty.testBit c }).pumpChunks
        s.env b r 4

/-- REPORT at the coordinator (R398): one that comes before the answer to MOVE is kept for the wait. -/
def execReport (b : Nat) (s : State) : Host.Outcome State Fault Refusal :=
  let d := s.env.build
  s.run (brickOk d b) fun k => k.serveDir d b 3 9 fun k p =>
    match look none k.gpd.coord b with
    | some c =>
      if c.step = .report ∧ (k.gpdEntry b c.entry).holds (pageOf p.addr) = true then
        (dirOk, dirMid p, k.coordReport s.env b c (natAt p.payload 1 1 == dirOk))
      else if c.step = .move ∧ (k.gpdEntry b c.entry).holds (pageOf p.addr) = true then
        let c := { c with early := some (natAt p.payload 1 1 == dirOk) }
        (dirOk, dirMid p, { k with gpd.coord := put none k.gpd.coord b (some c) })
      else (dirOk, dirMid p, k)
    | none => (dirOk, dirMid p, k)

/-- FLIP at the old home (R401): the lease begins. -/
def execFlip (b : Nat) (s : State) : Host.Outcome State Fault Refusal :=
  let d := s.env.build
  s.run (brickOk d b) fun k => k.serveDir d b 4 0xA fun k p =>
    match findBelow 4 fun r => (k.moveRec b r).st == .forward && (k.moveRec b r).addr / 2 ^ 21 == p.addr / 2 ^ 21 with
    | some r => (dirOk, dirMid p, k.setRec b r { k.moveRec b r with flipped := true })
    | none => (dirOk, dirMid p, k)

/-- An epoch is newer than another, as R362 compares. -/
def placementNewer (a b : Nat) : Bool := epochNewer a b

/-- REFRESH at a requester's slice (R402). -/
def execRefresh (b : Nat) (s : State) : Host.Outcome State Fault Refusal :=
  let d := s.env.build
  s.run (brickOk d b) fun k => k.serveDir d b 3 0xB fun k p =>
    match findBelow 2048 fun i => (k.gpdEntry b i).v && (k.gpdEntry b i).base == pageOf p.addr with
    | some i =>
      let v := k.gpdEntry b i
      if !v.isHome d && (v.st == .home || v.st == .pinned) && placementNewer (dirEpoch p.payload) v.epoch then
        (dirOk, dirMid p, (k.setGpd b i { v with home := dirCoord p.payload, epoch := dirEpoch p.payload }).bump
          .GPD_ERR 31 16 b)
      else (dirOk, dirMid p, k)
    | none => (dirOk, dirMid p, k)

/-- FORWARD_LEASE_EXPIRY (R401). -/
def execForwardLeaseExpiry (b r : Nat) (s : State) : Host.Outcome State Fault Refusal :=
  s.run (brickOk s.env.build b && decide (r < 4)) fun k =>
    let v := k.moveRec b r
    if v.st = .forward ∧ v.flipped = true then
      match k.logFrame b v.frame with
      | (true, k) => k.setRec b r {}
      | (false, k) => k.setRec b r { v with st := .logwait }
    else k

/-- LOGWAIT_RELEASE (R401). -/
def execLogwaitRelease (b r : Nat) (s : State) : Host.Outcome State Fault Refusal :=
  s.run (brickOk s.env.build b && decide (r < 4)) fun k =>
    let v := k.moveRec b r
    if v.st = .logwait then
      match k.logFrame b v.frame with
      | (true, k) => k.setRec b r {}
      | (false, k) => k
    else k

/-- ENTRY_LEASE_EXPIRY (R398): the coordinator's entry becomes an ordinary remote entry. -/
def execEntryLeaseExpiry (b i : Nat) (s : State) : Host.Outcome State Fault Refusal :=
  s.run (brickOk s.env.build b && decide (i < 2048)) fun k =>
    if (k.gpdEntry b i).st = .forwarding then k.entryState b i .home else k

/-- The record of an old home in whose old frame a local address lies (R400). -/
def Block.recOf (k : Block) (b addr : Nat) (st : MoveState) : Option Nat :=
  findBelow 4 fun r => (k.moveRec b r).st == st && (k.moveRec b r).frame == bits addr 47 21

/-- An old home in FORWARD sends a packet on to the new home (R400). -/
def Block.forwardOld (k : Block) (d : Build) (b r : Nat) (p : Packet) : Block :=
  let v := k.moveRec b r
  k.sliceForward d b
    { p with addr := p.addr / 2 ^ 48 * 2 ^ 48 + (v.nframe * 2 ^ 21 + p.addr % 2 ^ 21) % 2 ^ 48, dst := v.newHome / 8 * 8, moved := true
             hint := v.newHome / 8 * 8, rmode := 1, route := 0 }

/-- A bit for each chunk that `len` bytes at a local address lie in. -/
def chunkMask (addr len : Nat) : Nat :=
  ((List.range 32).map fun c =>
    if addr % 2 ^ 21 / chunkBytes ≤ c ∧ c ≤ (addr % 2 ^ 21 + len - 1) / chunkBytes then 2 ^ c else 0).sum

/-- A WRITE of `len` bytes commits in an old frame in COPY: its chunks are dirty (R399, R400). -/
def Block.dirtyChunks (k : Block) (b addr len : Nat) : Block :=
  match k.recOf b addr .copy with
  | some r =>
    let v := k.moveRec b r
    let m := chunkMask addr len
    let hits := if v.hit.1 = k.clk.now + 1 then v.hit.2 else 0
    k.setRec b r { v with dirty := v.dirty ||| m, hit := (k.clk.now + 1, hits ||| m) }
  | none => k

/-! ### Trackers that placement waits for -/

/-- After tracker `t` may have completed: the coordinator takes a DIRREQ that did not get its answer as REFUSED, and an
old home goes on with its chunks. -/
def Block.settlePlacement (k : Block) (e : Env) (b t : Nat) : Block :=
  let v := k.tracker b t
  if v.st = .source then k
  else if v.op = .chunk then k.chunkEnded e b t
  else if v.op = .dirreq then
    match look none k.gpd.coord b with
    | some c => if c.trk = some t then k.coordAnswer e b { c with trk := none } false 0 0 else k
    | none => k
  else k

/-- DIRRESP (R398): the answer reaches the tracker of its DIRREQ, and the coordinator advances. -/
def execDirresp (b : Nat) (s : State) : Host.Outcome State Fault Refusal :=
  let d := s.env.build
  s.run (brickOk d b) fun k =>
    match k.rxTake b 0 [opDirResp] with
    | none => k
    | some (p, k) => k.consume d b 1 p (p.op == opDirResp) false fun k =>
      let t := p.tracker % 1024
      let v := k.tracker b t
      if v.st = .source ∧ v.op = .dirreq ∧ p.pcount = v.pcount then
        let c := look none k.gpd.coord b
        let mine := match c with
          | some c => c.trk == some t
          | none => false
        let k := match c with
          | some c => if mine then { k with gpd.coord := put none k.gpd.coord b (some { c with trk := none }) } else k
          | none => k
        let k := (k.setTracker b t { v.acknowledge [0] with done := 1 }).completeTracker b t stOk
        match c with
        | some c =>
          if mine then
            k.coordAnswer s.env b { c with trk := none } (natAt p.payload 1 1 == dirOk) (dirFrame p.payload)
              (dirCoord p.payload)
          else k
        | none => k
      else if v.op = .dirreq ∧ v.st = .linger then k
      else k.bump .TRK_ERR 31 16 b

/-! ### Pool trackers -/

/-- POOL_TRACKER_CLAIM (R225): a pool tracker is IDLE; the target channel's held request takes it first, then a stream
held in SIGNAL.R, the lowest first, then a DIRREQ that waits, then a chunk of a move (R399, log 19). -/
def execPoolTrackerClaim (b : Nat) (s : State) : Host.Outcome State Fault Refusal :=
  s.run (brickOk s.env.build b) fun k =>
    match k.freePool b with
    | none => k
    | some t =>
      match look [] k.xfr.lpHeld b with
      | o :: r => ({ k with xfr.lpHeld := put [] k.xfr.lpHeld b r }).startLp s.env b t o
      | [] =>
        let us := (List.range 0x140).filter fun u => streamOk u && (k.stream b u).st == .running && (k.stream b u).hold == .pool
        match us with
        | [] =>
          match look [] k.gpd.asks b with
          | (dst, a, l) :: r =>
            let k := ({ k with gpd.asks := put [] k.gpd.asks b r }).startAsk s.env b t dst a l
            match look none k.gpd.coord b with
            | some c =>
              if c.trk = none ∧ c.step ≠ .report ∧ c.step ≠ .installAgain ∧ natAt l 0 1 = c.opCode then
                { k with gpd.coord := put none k.gpd.coord b (some { c with trk := some t }) }
              else k
            | none => k
          | [] => k.pumpAll s.env b 0
        | u :: _ =>
          let w := k.curWord b u
          match ctlOf u w with
          | some o => (k.mapStream b u fun v => { v with hold := .none, word := none }).signalRemote s.env b u (wordEvt w.toNat) o
          | none => k

/-! ### Registers of placement -/

/-- Words 0 to 4 of a GPD entry (R413). -/
def GpdEntry.word (v : GpdEntry) (w : Nat) : Word :=
  let st := match v.st with
    | .pinned => 0
    | .home => 1
    | .moving => 2
    | .forwarding => 3
  let slot (i : Nat) : Nat × Nat := v.heat.getD i (0, 0)
  let two (i : Nat) : Word := mkWord [(45, (slot i).1), (32, (slot i).2), (13, (slot (i + 1)).1), (0, (slot (i + 1)).2)]
  match w with
  | 0 => mkWord [(63, b2n v.v), (61, st), (36, v.lenm1), (0, v.base)]
  | 1 => mkWord [(48, v.epoch), (30, v.age), (0, v.home)]
  | 2 => mkWord [(48, v.total), (0, v.frame)]
  | 3 => two 0
  | 4 => two 2
  | _ => 0

/-- An entry from words 0 to 2 (R412): heat cleared, AGE 255. -/
def gpdOfWords (w0 w1 w2 : Word) : GpdEntry :=
  { v := flag w0 63
    st := match fld w0 62 61 with
      | 0 => .pinned
      | 1 => .home
      | 2 => .moving
      | _ => .forwarding
    lenm1 := fld w0 55 36, base := fld w0 35 0, epoch := fld w1 63 48, age := 255, home := fld w1 29 0
    frame := fld w2 26 0 }

/-- A write of GPD_DATA (R398, R412); the lookups of this FCLK find the entry as it was (R392). -/
def Block.writeGpdData (k : Block) (b : Nat) (v : Word) : Block :=
  let i := k.rf .GPD_SEL 10 0 b
  let (w0, w1) := look (0, 0) k.gpd.staged b
  match k.rf .GPD_SEL 13 11 b with
  | 0 => { k with gpd.staged := put ((0 : Word), (0 : Word)) k.gpd.staged b (v, w1) }
  | 1 => { k with gpd.staged := put ((0 : Word), (0 : Word)) k.gpd.staged b (w0, v) }
  | 2 =>
    let x := gpdOfWords w0 w1 v
    let old := k.gpdEntry b i
    if old.st = .moving ∨ x.st = .moving ∨ x.st = .forwarding then k.lockVio
    else
      { k.setGpd b i x with
        gpd.entryOld := put ((0 : Nat), ({} : GpdEntry)) k.gpd.entryOld (b * 2048 + i) (k.clk.now + 1, k.seenEntry b i) }
  | _ => k

/-- GPD_COMMIT (R412): a write of GPD_DATA, which commits the entry while GPD_SEL names word 2. -/
def execGpdCommit (b : Nat) (v : Word) (s : State) : Host.Outcome State Fault Refusal :=
  s.access (brickOk s.env.build b) b .mp fun k => (k.writeGpdData b v).answerWrite b .mp

/-- The record that a read of PLC_LOG pops (R409). -/
def Block.popPlcLog (k : Block) : Word × Block :=
  match k.gpd.log with
  | (b, f) :: r => (mkWord [(63, 1), (55, b), (0, f)], { k with gpd.log := r })
  | [] => (0, k)

/-- PLC_LOG_POP (R409). -/
def execPlcLogPop (s : State) : Host.Outcome State Fault Refusal :=
  s.access true 0 .mp fun k =>
    let (w, k) := k.popPlcLog
    k.answerRead 0 .mp w

end Sys2Proof.Machine
end

