-- ==== Sys2Proof/Machine/Endpoints.lean ====
section
/-!
DEFINITION. Packets at the network interface and the timers of trackers (R195, R211 to R230, R391, R400): WRITE, CHUNK,
MCAST, READREQ, READRESP, COUNTER, ACK, NACK, ERROR and FENCE_NOTICE; the rings' registers; the memory master's
responses (R554 to R556).
-/

namespace Sys2Proof.Machine

/-! ### After an answer -/

/-- What may follow once tracker `t` moved: its collective, the next GATHER, placement, the engines, fence reads. -/
def Block.settle (k : Block) (e : Env) (b t : Nat) : Block :=
  (((((k.checkMember b t).checkGather b t).pumpGathers e b).settlePlacement e b t).pumpEngines e b).answerFences b

/-- The unit of a source's stream that an answer names: a PSEQ, or a part of a contribution. -/
def Block.answerUnit (k : Block) (v : Tracker) (p : Packet) : Nat :=
  if v.op = .contrib then (if k.groupStill v.desc.group then p.seg / 2 else p.seg) else p.pseq

/-- An answer belongs to a source's stream (R213, R216): by GROUP and CSEQ for a contribution, by PCOUNT otherwise, but
for a GATHER, whose PCOUNT is known only once its operand is (log 21). -/
def Block.ownAnswer (k : Block) (v : Tracker) (p : Packet) : Bool :=
  match v.op with
  | .contrib => p.group == v.desc.group && p.cseq == v.desc.cseq && decide (k.answerUnit v p < v.pcount)
  | .gather => decide (p.pseq < v.issued)
  | .reducerPart => false
  | _ => p.pcount == v.pcount

/-- An answer finds its tracker: at work, or over (LINGER, COMPLETING of a source: discarded and not counted, but for what `ended`
does), or it is LATE (R216). -/
def Block.answered (k : Block) (b : Nat) (p : Packet) (f : Nat → Tracker → Block)
    (ended : Nat → Tracker → Block := fun _ _ => k) : Block :=
  let t := p.tracker % 1024
  let v := k.tracker b t
  if v.isDest = true ∨ k.ownAnswer v p = false then k.bump .TRK_ERR 31 16 b
  else if v.sourceAtWork then f t v
  else if v.st = .linger ∨ v.st = .completing then ended t v
  else k.bump .TRK_ERR 31 16 b

/-- A part of a member whose collective is over is acknowledged: it leaves the reservation of R252. -/
def Block.lateAck (k : Block) (e : Env) (b t : Nat) (v : Tracker) (p : Packet) : Block :=
  if v.op = .contrib ∧ (ackList p.payload p.pcount).length = p.pcount then
    let w := v.acknowledge [k.answerUnit v p]
    (k.setTracker b t { w with bytes := v.bytes, done := v.done }).pumpEngines e b
  else k

/-! ### WRITE, CHUNK and MCAST (R211, R400) -/

/-- A packet whose payload goes to memory (R211). -/
def Block.takeData (k : Block) (d : Build) (b : Nat) (p : Packet) : Block :=
  match k.arrival b p with
  | .untracked => k.memIssue b (.alone p) [(p.addr % 2 ^ 48, p.payload)]
  | .clash => k.clash b p
  | .duplicate => k.ackDuplicate d b p
  | .window => (k.beginDest d b p).bump .TRK_ERR 47 32 b
  | .accept => (k.beginDest d b p).memIssue b (.packet p) [(p.addr % 2 ^ 48, p.payload)]

/-- A WRITE is committed: the chunks of a page on the move that it changed are dirty (R399). -/
def Block.noteWrite (k : Block) (b : Nat) (p : Packet) : Block :=
  if p.op = opWrite then k.dirtyChunks b p.addr p.plen else k

/-- The data of a packet that no tracker counts is in memory, or its write failed (R211, R213, R214, R556). -/
def Block.aloneWritten (k : Block) (d : Build) (b : Nat) (p : Packet) (err : Bool) : Block :=
  if err then k.sendNack d b 1 p
  else if p.op = opMcast then k.noteWrite b p
  else (k.noteWrite b p).ackAlone d b 1 p

/-- The data of a packet that a tracker counts is in memory, or its write failed (R211, R213, R214, R556). -/
def Block.dataWritten (k : Block) (d : Build) (b : Nat) (p : Packet) (err : Bool) : Block :=
  if err then k.sendNack d b 1 p
  else
    let k := k.noteWrite b p
    match k.arrival b p with
    | .untracked => if p.op = opMcast then k else k.ackAlone d b 1 p
    | .accept => k.countArrival d b p
    | .duplicate => k.ackDuplicate d b p
    | _ => k

/-- WRITE (R211, R400): at EP 0. A record in LOGWAIT forwards nothing (R401), and no WRITE may commit in its old frame: one that
still comes is discarded (the model's choice, log 103). -/
def execWrite (b : Nat) (s : State) : Host.Outcome State Fault Refusal :=
  let d := s.env.build
  s.run (brickOk d b) fun k =>
    match k.rxTake b 0 [opWrite] with
    | none => k
    | some (p, k) => k.consume d b 0 p (p.op == opWrite) true fun k =>
      match k.recOf b p.addr .forward with
      | some r => k.forwardOld d b r p
      | none => if (k.recOf b p.addr .logwait).isSome then k else k.takeData d b p

/-- CHUNK (R399): committed and acknowledged as a WRITE is. -/
def execChunk (b : Nat) (s : State) : Host.Outcome State Fault Refusal :=
  let d := s.env.build
  s.run (brickOk d b) fun k =>
    match k.rxTake b 0 [opChunk] with
    | none => k
    | some (p, k) => k.consume d b 0 p (p.op == opChunk) true fun k => k.takeData d b p

/-- MCAST_DELIVERY (R190, R211). -/
def execMcastDelivery (b : Nat) (s : State) : Host.Outcome State Fault Refusal :=
  let d := s.env.build
  s.run (brickOk d b) fun k =>
    match k.rxTake b 0 [opMcast] with
    | none => k
    | some (p, k) => k.consume d b 0 p (p.op == opMcast) true fun k => k.takeData d b p

/-! ### READREQ and READRESP (R155, R207, R230) -/

/-- Entries of the request store. -/
def requestDepth : Nat := 256

/-- READREQ (R155, R230, R400): at EP 0. One for the old frame of a record in LOGWAIT is discarded (log 103),
one whose PLEN is not 8 is ILLEGAL (log 106). -/
def execReadreq (b : Nat) (s : State) : Host.Outcome State Fault Refusal :=
  let d := s.env.build
  s.run (brickOk d b) fun k =>
    match k.rxTake b 0 [opReadReq] with
    | none => k
    | some (p, k) => k.consume d b 0 p (p.op == opReadReq && p.plen == 8) true fun k =>
      match k.recOf b p.addr .forward with
      | some r => k.forwardOld d b r p
      | none =>
        let l := look [] k.xfr.requests b
        if (k.recOf b p.addr .logwait).isSome then k
        else if requestDepth ≤ l.length + k.answering d b 0 opReadResp then k.bump .SHW_ERR 47 32 b
        else ({ k with xfr.requests := put [] k.xfr.requests b (l ++ [p]) }).memFetch b (.packet p)
          (p.addr % 2 ^ 48) (min 8256 (natAt p.payload 0 4))

/-- The memory read of a READREQ is answered: the READRESP with the same PSEQ and PCOUNT. A read that fails is answered
with ERROR and PROGRAM_FAULT (log 22). -/
def Block.readDone (k : Block) (e : Env) (b : Nat) (p : Packet) (err : Bool) : Block :=
  let d := e.build
  let k := { k with xfr.requests := put [] k.xfr.requests b ((look [] k.xfr.requests b).erase p) }
  if err then k.answerErrorAt d b 0 p stProgramFault
  else
    k.sendDirect d b { k.response d b 0 opReadResp 3 0 p with
      payload := memRead e.mem b p.addr (min 8256 (natAt p.payload 0 4)), last := p.pseq + 1 == p.pcount }

/-- READRESP (R207, R227, R337, R475). -/
def execReadresp (b : Nat) (s : State) : Host.Outcome State Fault Refusal :=
  let d := s.env.build
  s.run (brickOk d b) fun k =>
    match k.rxTake b 0 [opReadResp] with
    | none => k
    | some (p, k) => k.consume d b 1 p (p.op == opReadResp) false fun k => k.answered b p fun t v =>
      if p.pseq < v.b ∨ v.seen.contains p.pseq = true ∨ v.issued ≤ p.pseq then k
      else match v.op with
        | .rload =>
          let (off, len) := v.pieces.getD p.pseq (0, 0)
          if !k.lpOpen b then k.bump .BRK_FLT 55 48 b
          else if p.payload.length ≠ len then k.bump .TRK_ERR 31 16 b
          else k.memIssue b (.packet p) [((v.desc.da + off) % 2 ^ 48, p.payload)]
        | .lpLoad =>
          let k := k.setTracker b t { v.acknowledge [p.pseq] with
            data := bytesAt p.payload 0 v.desc.len, moved := v.moved || p.moved }
          (k.advanceSource s.env b t).settle s.env b t
        | .gather =>
          if !k.lpOpen b then k.bump .BRK_FLT 55 48 b else k.gatherData s.env b t p.pseq p
        | _ => k.bump .TRK_ERR 31 16 b

/-- The data of a READRESP is in memory (R30, R207, R337). -/
def Block.respWritten (k : Block) (e : Env) (b : Nat) (p : Packet) (err : Bool) : Block :=
  let t := p.tracker % 1024
  let v := k.tracker b t
  if v.st ≠ .source ∨ k.ownAnswer v p = false then k
  else match v.op with
    | .rload =>
      if err then k
      else
        let k := k.setTracker b t { v.acknowledge [p.pseq] with moved := v.moved || p.moved, gtime := k.gtime }
        (k.advanceSource e b t).settle e b t
    | .gather =>
      if err then k.setJob b t { k.job b t with writes := (k.job b t).writes - 1 }
      else
        let k := k.rowBytes b t ((k.job b t).rowOfReq p.pseq) (if v.seen.contains p.pseq ∨ p.pseq < v.b then 0 else p.plen)
        let k := k.mapTracker b t fun v => { v.acknowledge [p.pseq] with moved := v.moved || p.moved, gtime := k.gtime }
        (k.issue e b t).settle e b t
    | _ => k

/-! ### COUNTER (R81, R225) -/

/-- COUNTER (R81): added once, as the arrival history has it; every arrival that it knows is acknowledged. One
whose PLEN is not 8 is ILLEGAL (log 106). -/
def execCounter (b : Nat) (s : State) : Host.Outcome State Fault Refusal :=
  let d := s.env.build
  s.run (brickOk d b) fun k =>
    match k.rxTake b 0 [opCounter] with
    | none => k
    | some (p, k) => k.consume d b 1 p (p.op == opCounter && p.plen == 8) true fun k =>
      match k.arriveOnce b (p.src, p.tracker) with
      | (some true, k) => (k.counterAdd b (natAt p.payload 0 1) (natAt p.payload 4 4)).ackAlone d b 1 p
      | (some false, k) => k.ackAlone d b 1 p
      | (none, k) => k

/-! ### ACK, NACK, ERROR (R195, R215 to R217) -/

/-- An answer to a stream of this brick at the head of the NI's receive FIFO; an answer to a message has GROUP[11:6] all
ones and is the channels' (R368). -/
def Block.streamAnswer (k : Block) (d : Build) (b op : Nat) (f : Block → Packet → Block) : Block :=
  match k.rxQueue b 0 with
  | p :: r => if p.op = op ∧ p.group < 0xFC0 then (k.setRx b 0 r).consume d b 1 p true false fun k => f k p else k
  | [] => k

/-- ACK (R213, R215, R251): a contribution's ACK names a whole part. -/
def execAck (b : Nat) (s : State) : Host.Outcome State Fault Refusal :=
  let d := s.env.build
  s.run (brickOk d b) fun k => k.streamAnswer d b opAck fun k p => k.answered b p (fun t v =>
    if v.op = .contrib then
      if (ackList p.payload p.pcount).length = p.pcount then
        let w := v.acknowledge [k.answerUnit v p]
        ((k.setTracker b t { w with bytes := v.bytes, done := v.done, gtime := k.gtime }).issue s.env b t).settle s.env b t
      else k
    else if v.op = .mcast ∨ v.op = .gather then k
    else
      let k := k.setTracker b t { v.acknowledge (ackList p.payload v.pcount) with moved := v.moved || p.moved, gtime := k.gtime }
      (k.advanceSource s.env b t).settle s.env b t)
      fun t v => k.lateAck s.env b t v p

/-- NACK (R215): the named unit is resent, and remembered as NACKed. At a spring `seen` holds members, not PSEQs. -/
def execNack (b : Nat) (s : State) : Host.Outcome State Fault Refusal :=
  let d := s.env.build
  s.run (brickOk d b) fun k => k.streamAnswer d b opNack fun k p => k.answered b p fun t v =>
    let n := k.answerUnit v p
    if v.issued ≤ n ∨ n < v.b ∨ (v.op ≠ .mcast ∧ v.seen.contains n = true) then k
    else
      let k := k.setTracker b t { v with nacked := (v.nacked.filter fun x => x.1 != n) ++ [(n, k.gtime)] }
      ((k.resendPacket s.env b t n).issue s.env b t).settle s.env b t

/-- ERROR (R217): the tracker takes the status and issues no new packet. -/
def execError (b : Nat) (s : State) : Host.Outcome State Fault Refusal :=
  let d := s.env.build
  s.run (brickOk d b) fun k => k.streamAnswer d b opError fun k p => k.answered b p fun t v =>
    let n := k.answerUnit v p
    let first := decide (v.b ≤ n) && decide (n < v.issued) && !v.seen.contains n && !v.answered.contains n
    let k := k.setTracker b t { v.halt with
      status := worse v.status (statusOf p.status), moved := v.moved || p.moved
      answered := if first then v.answered ++ [n] else v.answered }
    (k.advanceSource s.env b t).settle s.env b t

/-- FENCE_NOTICE (R195): the member mask takes the range's bits; newly set ones are counted; after the record a FENCE
event follows. `seen` of a spring lists the members already marked for its stream. -/
def execFenceNotice (b : Nat) (s : State) : Host.Outcome State Fault Refusal :=
  let d := s.env.build
  s.run (brickOk d b) fun k =>
    match k.rxTake b 0 [opFenceNotice] with
    | none => k
    | some (p, k) => k.consume d b 1 p (p.op == opFenceNotice) false fun k =>
      let t := p.tracker % 1024
      let v := k.tracker b t
      let c := v.desc
      if v.op ≠ .mcast ∨ c.group ≠ p.group ∨ (v.st ≠ .source ∧ v.st ≠ .linger ∧ v.st ≠ .completing) then k
      else
        let lo := natAt p.payload 0 4
        let n := natAt p.payload 4 4
        let last := fld (k.descWord c.group 0) 16 0
        let ms := (List.range (min n (last + 1 - lo))).map (lo + ·)
        let old (m : Nat) : Bool := (memByte s.env.mem (memKey b (c.mmask + m / 8))).toNat.testBit (m % 8) || v.seen.contains m
        let new := ms.filter fun m => !old m
        let all := v.seen ++ new
        let bytes := (new.map (· / 8)).eraseDups
        let runs := bytes.map fun i =>
          let was := (memByte s.env.mem (memKey b (c.mmask + i))).toNat
          (c.mmask + i, [BitVec.ofNat 8 (was ||| ((all.filter fun m => m / 8 == i).foldl (fun x m => x ||| 2 ^ (m % 8)) 0))])
        let k := if runs.isEmpty then k else k.memIssue b .plain runs
        if v.st = .source then k.setTracker b t { v with seen := all, fenced := v.fenced + new.length }
        else (k.setTracker b t { v with seen := all }).postEvent b { type := 8, source := t, arg0 := lo, arg1 := n }

/-! ### Timers (R212 to R216, R223, R226; each command says that its bound has been reached, log 5) -/

/-- A tracker index. -/
def trackerOk (t : Nat) : Bool := decide (t < 1024)

/-- ACK_TIMER (R212). -/
def execAckTimer (b t : Nat) (s : State) : Host.Outcome State Fault Refusal :=
  let d := s.env.build
  s.run (brickOk d b && trackerOk t) fun k =>
    let v := k.tracker b t
    if v.st = .dest ∧ 0 < v.ackDue then k.ackDest d b t v.hdr else k

/-- HOLE_TIMER (R214): a NACK for b(t). -/
def execHoleTimer (b t : Nat) (s : State) : Host.Outcome State Fault Refusal :=
  let d := s.env.build
  s.run (brickOk d b && trackerOk t) fun k =>
    let v := k.tracker b t
    if v.st = .dest then k.sendNack d b 1 { v.hdr with src := v.owner, pcount := v.pcount, pseq := v.b } else k

/-- RESEND_TIMER (R215): every issued, unacknowledged unit is resent in order, none more than four times. -/
def execResendTimer (b t : Nat) (s : State) : Host.Outcome State Fault Refusal :=
  s.run (brickOk s.env.build b && trackerOk t) fun k =>
    let v := k.tracker b t
    if v.sourceAtWork && v.op != .mcast && v.op != .send then
      ((v.unanswered.foldl (fun k n =>
        if (k.tracker b t).sourceAtWork then k.resendPacket s.env b t n else k) k).issue s.env b t).settle s.env b t
    else k

/-- The initiator timer of a tracker runs (R226, R313): packets that a source holds for their window do not run it. -/
def Block.timed (k : Block) (b t : Nat) : Bool :=
  let v := k.tracker b t
  (v.st == .source && v.op != .mcast && v.op != .send && v.unanswered.any fun n => !k.heldForWindow b t n) ||
  v.st == .dest || v.st == .collect

/-- INITIATOR_TIMEOUT (R226). -/
def execInitiatorTimeout (b t : Nat) (s : State) : Host.Outcome State Fault Refusal :=
  s.run (brickOk s.env.build b && trackerOk t) fun k =>
    if k.timed b t then ((k.completeTracker b t stTimeout).issue s.env b t).settle s.env b t else k

/-- LINGER_EXPIRY (R216): IDLE; TRK_STAT keeps what it shows of the last stream (R236). -/
def execLingerExpiry (b t : Nat) (s : State) : Host.Outcome State Fault Refusal :=
  s.run (brickOk s.env.build b && trackerOk t) fun k =>
    let v := k.tracker b t
    if v.st = .linger then k.setTracker b t { sys := v.sys, pcount := v.pcount, done := v.done, resent := v.resent } else k

/-- NOTICE_WAIT_EXPIRY (R195): the spring's tracker completes, its last packet having left. -/
def execNoticeWaitExpiry (b t : Nat) (s : State) : Host.Outcome State Fault Refusal :=
  s.run (brickOk s.env.build b && trackerOk t) fun k =>
    let v := k.tracker b t
    if v.st = .source ∧ v.op = .mcast ∧ (v.stop = true ∨ v.issued = v.pcount) ∧ k.allLeft b t = true then
      (k.completeTracker b t (if v.fenced = 0 then stOk else stPartial)).issue s.env b t
    else k

/-- COALESCE_TIMEOUT (R223). -/
def execCoalesceTimeout (b r : Nat) (s : State) : Host.Outcome State Fault Refusal :=
  s.run (brickOk s.env.build b && decide (r < 8)) fun k => (k.flushRing b r).placeRecords b r 1024

/-- REMOTE_LINE_RELEASE (R229): the remote-memory packet that tracker `t` could not issue goes once no earlier operation of its
requester has its line. -/
def execRemoteLineRelease (b t : Nat) (s : State) : Host.Outcome State Fault Refusal :=
  s.run (brickOk s.env.build b && trackerOk t) fun k =>
    if remoteOp (k.tracker b t).op then k.issue s.env b t else k

/-! ### Ring registers (R222, R237, R238) -/

/-- A write of TRK_RIDX (R238): CONS, unless PROD - CONS would exceed the ring. -/
def Block.writeRidx (k : Block) (b r : Nat) (v : Word) : Block :=
  let x := k.ringOf b r
  let c := fld v 31 0
  if k.ringSize b r < (x.prod + 2 ^ 32 - c) % 2 ^ 32 then k else (k.setRing b r { x with cons := c }).placeRecords b r 1024

/-- TRK_RIDX_WRITE (R238): the write applies from the next FCLK on (R231). -/
def execTrkRidxWrite (via : Via) (b r : Nat) (v : Word) (s : State) : Host.Outcome State Fault Refusal :=
  let d := s.env.build
  s.access (brickOk d b && decide (r < 8)) b via fun k =>
    if k.viaOpen d b via then (k.writeLate (.ridx b r v)).answerWrite b via else k

/-- Clearing EN (R222): the records that wait or are not yet written are lost, and nothing more is written to the ring. -/
def Block.disableRing (k : Block) (b r : Nat) : Block :=
  let x := k.ringOf b r
  let k := k.setRing b r { prod := x.prod, cons := x.cons }
  let drop (e : Nat × Option MemReq) : Nat × Option MemReq :=
    match e.2 with
    | some q => if e.1 / 1024 = b ∧ q.use = MemUse.batch r then (e.1, some { q with runs := [], use := .plain }) else e
    | none => e
  let wait := (look [] k.xfr.lpmWait b).filter fun q => q.use != MemUse.batch r
  let k := { k with
    xfr.lpm := k.xfr.lpm.map drop
    xfr.lpmWait := put [] k.xfr.lpmWait b wait }
  k.loseRecords b (x.writing ++ x.batch ++ x.waiting)

/-- A write of TRK_RBASE (R222, R237); a reserved SIZE changes none (R9). -/
def Block.writeRbase (k : Block) (b r : Nat) (v : Word) : Block :=
  let old := k.reg .TRK_RBASE b [r]
  let on := flag old 63
  let size := if reservedEnc .TRK_RBASE 56 (fld v 59 56) then fld old 59 56 else fld v 59 56
  if on && (size != fld old 59 56 || fld v 47 7 != fld old 47 7) then k
  else
    let k := k.applyWrite .TRK_RBASE b [r] v
    if flag v 63 && !on then k.setRing b r {}
    else if !flag v 63 && on then k.disableRing b r
    else k

/-- TRK_RBASE_WRITE (R237): the write applies from the next FCLK on (R231). -/
def execTrkRbaseWrite (via : Via) (b r : Nat) (v : Word) (s : State) : Host.Outcome State Fault Refusal :=
  let d := s.env.build
  s.access (brickOk d b && decide (r < 8)) b via fun k =>
    if k.viaOpen d b via then (k.writeLate (.rbase b r v)).answerWrite b via else k

/-! ### The memory master's responses (R554, R556) -/

/-- A request that reads cluster memory. -/
def MemReq.isRead (q : MemReq) : Bool :=
  match q.use with
  | .source _ => true
  | .message _ => true
  | .scan _ => true
  | .packet p => p.op == opReadReq
  | _ => false

/-- The runs of a request are in memory (R554). -/
def writeRuns (m : List Host.Cell) (b : Nat) : List (Nat × List Byte) → List Host.Cell
  | [] => m
  | (a, l) :: r => writeRuns (memWrite m b a l) b r

/-- The operation that a memory access was made for is still that of tracker `t`, at work. -/
def Block.serves (k : Block) (b t : Nat) (q : MemReq) (op : XferOp) : Bool :=
  let v := k.tracker b t
  v.st == .source && v.op == op && decide (v.serial < q.id)

/-- A source ends with PROGRAM_FAULT: an access of cluster memory that it needs failed (R556). -/
def Block.accessFault (k : Block) (e : Env) (b t : Nat) : Block := ((k.completeTracker b t stProgramFault).issue e b t).settle e b t

/-- The message of a SEND is read, and offered to its channel (R365, R367). -/
def Block.messageRead (k : Block) (e : Env) (b t : Nat) : Block :=
  let c := (k.tracker b t).desc
  (k.trySend e.build b (natAt c.opx 0 2) (.engine t) (memRead e.mem b c.sa 32) (natAt c.opx 8 8)
    ((natAt c.opx 2 1).testBit 0)).settle e b t

/-- What an access brings to the block when the last of its requests is answered, the bytes it wrote being in memory
`e.mem`; `err` that one of them failed (R556). -/
def Block.memResponse (k : Block) (e : Env) (b : Nat) (q : MemReq) (err : Bool) : Block :=
  let d := e.build
  match q.use with
  | .packet p =>
    if p.op = opReadReq then k.readDone e b p err
    else if p.op = opReadResp then k.respWritten e b p err
    else (k.dataWritten d b p err).settle e b (p.tracker % 1024)
  | .alone p => (k.aloneWritten d b p err).settle e b (p.tracker % 1024)
  | .memberData t p => (k.resultWritten b t p q.len err).pumpEngines e b
  | .runData t p => k.runWritten d b t p err
  | .batch r => k.batchWritten b r err
  | .source t =>
    if (k.tracker b t).reading ≠ some q.id then k
    else if err then k.accessFault e b t
    else ((k.sourceArrived e b t).issue e b t).settle e b t
  | .message t => if !k.serves b t q .send then k else if err then k.accessFault e b t else k.messageRead e b t
  | .scan t => if err && k.serves b t q .storeC then k.accessFault e b t else k
  | .gatherRow t j =>
    if !k.serves b t q .gather then k
    else if err then k.accessFault e b t
    else (k.rowBytes b t j (k.job b t).rowb).settle e b t
  | .gatherActs t n =>
    if !k.serves b t q .gather then k
    else if err then k.accessFault e b t
    else
      let k := k.setJob b t { k.job b t with writes := (k.job b t).writes - 1 }
      (k.mapTracker b t fun v => { v with bytes := v.bytes + n }).settle e b t
  | .plain => k

/-- LPM_RESPONSE (R554, R556): the request with this tag is answered; without an error its bytes are now in memory. The
access that it is part of is over with the last of its requests. -/
def execLpmResponse (b tag : Nat) (err : Bool) (s : State) : Host.Outcome State Fault Refusal :=
  s.runMem (brickOk s.env.build b && decide (tag < 1024)) fun x =>
    match x.2.memReq b tag with
    | none => x
    | some q =>
      let m := if err then x.1 else writeRuns x.1 b q.runs
      let k := x.2.memAnswered b tag
      let k := if !err then k else if q.isRead then k.bump .NI_LPERR 47 32 b else k.bump .NI_LPERR 63 48 b
      if k.accessOpen b q.id then (m, if err then k.failAccess b q.id else k)
      else (m, k.memResponse { s.env with mem := m } b q (err || q.bad))

end Sys2Proof.Machine
end

