-- ==== Sys2Proof/Machine/Domains.lean ====
section
/-!
DEFINITION. What a domain's going off does to the work of its brick: the Local Port bridge entering CLOSED (R475, R496,
R356) and the compute domain entering CLOSING (R499).
-/

namespace Sys2Proof.Machine

/-- A tracker completes with DOMAIN_OFF. -/
def Block.domainOff (k : Block) (e : Env) (b t : Nat) : Block :=
  ((k.completeTracker b t stDomainOff).issue e b t).settle e b t

/-- The packet goes to the cluster (R473): to EP 0, or along a tree. -/
def clusterBound (q : Packet) : Bool := q.mcast || q.op == opResult || (q.rmode != 2 && cEp q.dst == 0)

/-- A packet that meets a domain going off is discarded and counted, and answered unless it is an MCAST or a RESULT
(R473). -/
def Block.refuse (k : Block) (d : Build) (b : Nat) (q : Packet) : Block :=
  let k := k.bump .BRK_FLT 55 48 b
  if q.mcast || q.op == opResult then k else k.answerError d b q stDomainOff

/-- A packet whose access of cluster memory is lost with the bridge: refused, but for a READRESP, which is counted
(R475); a READREQ keeps its place in the store until its ERROR starts (R155). -/
def Block.loseAccess (k : Block) (d : Build) (b : Nat) (p : Packet) : Block :=
  if p.op = opReadResp then k.bump .BRK_FLT 55 48 b
  else if p.op = opReadReq then
    (({ k with xfr.requests := put [] k.xfr.requests b ((look [] k.xfr.requests b).erase p) }).bump .BRK_FLT 55 48
      b).answerErrorAt d b 0 p stDomainOff
  else k.refuse d b p

/-- One request of each access. -/
def firstOfAccess : List MemReq → List MemReq
  | [] => []
  | q :: r => q :: (firstOfAccess r).filter fun x => x.id != q.id

/-- The outstanding memory-master requests of a brick are lost with the bridge: records are lost (R475), a source read
ends its tracker, and the packets whose data is in flight are refused, since none is accepted then (R496). -/
def Block.dropMemory (k : Block) (e : Env) (b : Nat) : Block :=
  let reqs := (k.xfr.lpm.filter fun (x : Nat × Option MemReq) => x.1 / 1024 == b).filterMap Prod.snd
  let reqs := firstOfAccess (reqs ++ look [] k.xfr.lpmWait b)
  let k := { k with
    xfr.lpm := k.xfr.lpm.filter fun (x : Nat × Option MemReq) => x.1 / 1024 != b
    xfr.lpmWait := put [] k.xfr.lpmWait b [] }
  let k := (List.range 8).foldl (fun k r =>
    let v := k.ringOf b r
    let lost := v.writing ++ v.batch ++ v.waiting
    (k.setRing b r { v with writing := [], batch := [], waiting := [] }).loseRecords b lost) k
  reqs.foldl (fun k q => match q.use with
    | .source t => if (k.tracker b t).reading = some q.id then k.domainOff e b t else k
    | .message t => if k.serves b t q .send then k.domainOff e b t else k
    | .scan t => if k.serves b t q .storeC then k.domainOff e b t else k
    | .gatherRow t _ => if k.serves b t q .gather then k.domainOff e b t else k
    | .gatherActs t _ => if k.serves b t q .gather then k.domainOff e b t else k
    | .packet p => k.loseAccess e.build b p
    | .alone p => k.loseAccess e.build b p
    | .memberData _ p => k.loseAccess e.build b p
    | .runData _ p => k.loseAccess e.build b p
    | _ => k) k

/-- The bridge enters CLOSED (R496): nothing crosses; the target channel's requests are gone, uncommitted work completes
with DOMAIN_OFF (R475), and the queues are reset (R356). -/
def Block.closeBridge (k : Block) (e : Env) (b : Nat) : Block :=
  let k := k.setRf .RST_BRK 7 6 b [] 2
  let k := { k with
    xfr.lpHeld := put [] k.xfr.lpHeld b []
    xfr.fenceReads := put [] k.xfr.fenceReads b []
    xfr.lpDue := dropBrick 64 b k.xfr.lpDue }
  let k := k.setWaits b ((k.waits b).filter fun w => match w.who with
    | .lp _ _ => false
    | _ => true)
  let k := k.dropMemory e b
  let l := k.rxQueue b 0
  let k := k.setRx b 0 (l.filter fun q => !clusterBound q)
  let k := (l.filter clusterBound).foldl (fun k q => k.refuse e.build b q) k
  let k := (k.trackersOf b).foldl (fun k t =>
    let st := (k.tracker b t).st
    if st = .dest ∨ st = .collect then k.domainOff e b t else k) k
  (List.range 64).foldl (fun k q => k.resetQueue e.build b q) k

/-- The compute domain enters CLOSING (R499): every transfer of the sparse path completes before another could issue. -/
def Block.closeCompute (k : Block) (e : Env) (b : Nat) : Block :=
  let d := e.build
  let k := k.setRf .PWR_BRK 9 8 b [] 1
  let k := (List.range 64).foldl (fun k s =>
    if (k.slot b s).sets.any fun x => x.2.tag.isSome then k.slotFault d b s stDomainOff
    else if (k.stream b (0x100 + s)).st = .running ∨ (k.stream b (0x100 + s)).st = .waiting then k.abortStream b s
    else k) k
  let sparse := (k.trackersOf b).filter fun t => (k.tracker b t).st == .source &&
    ((k.tracker b t).op == .storeC || (k.tracker b t).op == .gather)
  let k := sparse.foldl (fun k t =>
    let k := if (k.tracker b t).op = .gather then k.stopPosting b t stDomainOff else k
    if (k.tracker b t).sourceAtWork then k.completeTracker b t stDomainOff else k) k
  let k := { k with spc.compress := put [] k.spc.compress b [], spc.gathers := put [] k.spc.gathers b [] }
  sparse.foldl (fun k t => (k.issue e b t).settle e b t) k

/-- CLOSING of a compute domain may end (R499): the accepted packets are consumed, every part has left port C and the
sparse path is empty. -/
def Block.computeIdle (k : Block) (b : Nat) : Bool :=
  (k.rxQueue b 2).isEmpty &&
  (List.range 64).all (fun s => (k.slot b s).out.all fun x => x.gone) && (k.stagedAt b 5).isEmpty &&
  (look [] k.spc.compress b).isEmpty && (look [] k.spc.gathers b).isEmpty

end Sys2Proof.Machine
end

