-- ==== Sys2Proof/Machine/Margins.lean ====
section
/-!
DEFINITION. What a course boundary measures and decides: timing margins and LOW (R511, R512, R518), the re-plan policy
(R519 to R523), and the shared-plane backlog of the congestion map (R531).
-/

namespace Sys2Proof.Machine

/-! ### Stretcher segments (R522) -/

/-- The segment that the express port of a brick serves: monitor 14 is XA, 15 is XB. -/
def segmentOf (d : Build) (b m : Nat) : Option Nat :=
  match stretcherEnd d b (m - 14) with
  | none => none
  | some _ =>
    let x := brickX b
    let y := brickY b
    if isRowStop b then some (3 * (y / 4) + (x / 4 - (m - 14))) else some (12 + 3 * (x / 4) + (y / 4 - (m - 14)))

/-- The west or north stop of segment `i`. -/
def segmentStop (i : Nat) : Nat :=
  if i < 12 then (4 * (i / 3) + 1) * 16 + 4 * (i % 3) else 4 * ((i - 12) % 3) * 16 + (4 * ((i - 12) / 3) + 2)

/-- Segment `i` is built (R15, R522). -/
def segmentBuilt (d : Build) (i : Nat) : Bool :=
  decide (i < 24) && brickOk d (segmentStop i) && (stretcherEnd d (segmentStop i) 0).isSome

/-! ### The trace SRAM (R529, R530) -/

/-- Trace records of the SRAM. -/
def traceDepth : Nat := 12288

/-- The SRAM takes a trace record at WR, in MCLK `m` (R530). -/
def Block.traceStore (k : Block) (m : Nat) (r : List Byte) : Block :=
  if flag (k.reg .PRB_TSTAT) 33 then k.bump .PRB_TSTAT 63 48 0
  else
    let wr := k.rf .PRB_TSTAT 13 0
    let old := look [] k.hlth.traceMem wr
    let k := { k with
      hlth.traceMem := put [] k.hlth.traceMem wr r, hlth.sramAt := m + 1, hlth.traceOld := some (m, wr, old) }
    if wr + 1 < traceDepth then k.setRf .PRB_TSTAT 13 0 0 [] (wr + 1)
    else if flag (k.reg .PRB_TCTL) 62 then k.setBit .PRB_TSTAT 33
    else (k.setRf .PRB_TSTAT 13 0 0 [] 0).setBit .PRB_TSTAT 32

/-- A trace record reaches the root (R529, R530): it is written, or waits while the SRAM has been written in this MCLK or
others wait before it; a record that finds four waiting is dropped. -/
def Block.traceWrite (k : Block) (r : List Byte) : Block :=
  if !flag (k.reg .PRB_TCTL) 63 then k
  else if k.hlth.traceBuf.isEmpty && k.hlth.sramAt != k.mclk + 1 then k.traceStore k.mclk r
  else if k.hlth.traceBuf.length < 4 then { k with hlth.traceBuf := k.hlth.traceBuf ++ [r] }
  else k.bump .PRB_TSTAT 63 48 0

/-- Records that wait are written, one in each MCLK from the one after `m` (R529). -/
def Block.drainTrace (k : Block) (m : Nat) : Block :=
  let l := k.hlth.traceBuf.take (k.mclk - m)
  ((List.range l.length).zip l).foldl (fun k x => k.traceStore (m + 1 + x.1) x.2)
    { k with hlth.traceBuf := k.hlth.traceBuf.drop (k.mclk - m) }

/-- What a read of PRB_TDATA finds at an entry: in the MCLK of its write the old record (R530). -/
def Block.traceRead (k : Block) (i : Nat) : List Byte :=
  match k.hlth.traceOld with
  | some (m, n, old) => if m = k.mclk ∧ n = i then old else look [] k.hlth.traceMem i
  | none => look [] k.hlth.traceMem i

/-! ### Margins (R512, R518) -/

/-- LOW and LOWCNT of a brick after a boundary (R518, R521): (LOW, LOWCNT). -/
def lowStep (low : Bool) (cnt min thr hyst : Nat) (settling : Bool) : Bool × Nat :=
  if settling then (low, 0)
  else if (if low then decide (thr + hyst ≤ min) else decide (min < thr)) then
    (if 4 ≤ cnt + 1 then (!low, 0) else (low, cnt + 1))
  else (low, 0)

/-- A brick's monitors at a boundary: `slack` lists (brick, monitor, least slack); a monitor without an entry, and 8 to
11 while the compute domain is not ON, does not report. -/
def Block.sampleBrick (k : Block) (slack : List (Nat × Nat × Nat)) (b : Nat) : Block :=
  let now (m : Nat) : Option Nat :=
    if decide (8 ≤ m) && decide (m < 12) && !k.computeOn b then none
    else (slack.find? fun x => x.1 == b && x.2.1 == m).map fun x => min 0x3FF x.2.2
  let k := (List.range 16).foldl (fun k m =>
    let k := k.setRf .AGE_MON 9 0 b [m] ((now m).getD 0x3FF)
    match now m with
    | some v => k.setRf .AGE_MON 25 16 b [m] (min v (k.rf .AGE_MON 25 16 b [m]))
    | none => k) k
  let rep := (List.range 16).filterMap fun m => (now m).map fun v => (m, v)
  let worst : Nat × Nat := match rep with
    | [] => (0, 0x3FF)
    | x :: r => r.foldl (fun (a y : Nat × Nat) => if y.2 < a.2 then y else a) x
  let (low, cnt) := lowStep (flag (k.reg .AGE_MARGIN b) 43) (k.rf .AGE_MARGIN 42 40 b) worst.2 (k.rf .AGE_CTL 9 0)
    (k.rf .AGE_CTL 25 16) k.hlth.settling
  k.setReg .AGE_MARGIN b [] (mkWord [(43, b2n low), (40, cnt), (36, worst.1),
    (16, min worst.2 (k.rf .AGE_MARGIN 25 16 b)), (0, worst.2)])

/-! ### The re-plan policy (R519 to R523) -/

/-- An action of the policy or of firmware on the margin-plan table (R519, R533): the REPLAN entry. -/
def Block.replan (k : Block) (what arg : Nat) : Block :=
  k.boxPost { kind := 5, arg0 := what, arg1 := arg }

/-- PLANSEQ rises by 1. -/
def Block.planStep (k : Block) : Block :=
  k.setRf .AGE_PLANSUM 63 32 0 [] (k.rf .AGE_PLANSUM 63 32 + 1)

/-- An action of the policy (R519). -/
def Block.policyAct (k : Block) (what arg : Nat) : Block := ((k.planStep).replan what arg).irq 1

/-- TWO of a segment is to change at the next boundary, set by the policy or by firmware (R520, R523). -/
def Block.planSegment (k : Block) (i : Nat) (two policy : Bool) : Block :=
  let k := { k with hlth.planNext := put none k.hlth.planNext i (some (two, policy, k.clk.now)) }
  k.setBit .AGE_PLAN 1 0 [i]

/-- A supply request goes to the regulator (R521). -/
def Block.requestSupply (k : Block) (steps : Nat) : Block :=
  let k := (k.setRf .AGE_VREQ 11 8 0 [] steps).setBit .AGE_VREQ 0
  { k with out := k.out ++ [.supply steps] }

/-- No request goes to the regulator: VRSTOP stands, or its boundary does not cross (R490, R521). -/
def Block.regulatorShut (k : Block) : Bool := flag (k.reg .CLK_STAT) 35 || !k.crosses .voltage

/-- A supply step, or EXHAUST where none is possible (R519, R521). -/
def Block.supplyStep (k : Block) : Block :=
  let n := k.rf .AGE_VREQ 11 8
  if n < k.rf .AGE_CTL 39 36 ∧ flag (k.reg .AGE_VREQ) 0 = false ∧ k.hlth.settling = false ∧
      k.regulatorShut = false then
    (k.requestSupply (n + 1)).policyAct 1 (n + 1)
  else if flag (k.reg .AGE_PLANSUM) 0 then k
  else ((k.setBit .AGE_PLANSUM 0).policyAct 3 n).freezeOn 7

/-- The policy acts on one LOW brick (R519). -/
def Block.policyBrick (k : Block) (d : Build) (b : Nat) : Block :=
  if !flag (k.reg .AGE_MARGIN b) 43 then k
  else
    let w := k.rf .AGE_MARGIN 39 36 b
    match (if 14 ≤ w then segmentOf d b w else none) with
    | some i =>
      if flag (k.reg .AGE_PLAN 0 [i]) 0 then k.supplyStep
      else match look none k.hlth.planNext i with
        | some (true, true, _) => k
        | _ => (k.planSegment i true true).policyAct 2 i
    | none => k.supplyStep

/-- Margins and policy at a boundary (R512, R518, R519). -/
def Block.takeSlack (k : Block) (d : Build) (slack : List (Nat × Nat × Nat)) : Block :=
  let k := (bricks d).foldl (fun k b => k.sampleBrick slack b) k
  if flag (k.reg .AGE_CTL) 32 then (bricks d).foldl (fun k b => k.policyBrick d b) k else k

/-! ### Backlog (R531) -/

/-- Shared-plane units of a brick that wait for output `p` (R531): those held in input chains, and all LEN + 1 of a staged
packet, routed or yet to be. -/
def Block.backlogOf (k : Block) (d : Build) (b p : Nat) : Nat :=
  let waits (inp : Nat) (q : Packet) (owed : Option (List Nat)) (units : Nat) : Nat :=
    if 2 ≤ q.vc ∧ (owed.getD (k.outputsOf d b inp q)).contains p = true then units else 0
  ((List.range 8).map fun inp =>
    if inp = 4 ∨ inp = 5 then ((k.stagedAt b inp).map fun x => waits inp x.pkt x.owed (pktUnits x.pkt)).sum
    else ((k.chainOf b inp).map fun x => waits inp x.pkt x.owed x.units).sum).sum

/-- At a boundary every output's backlog is taken while maps are gathered, and the course counts in the interval (R531). -/
def Block.takeBacklog (k : Block) (d : Build) : Block :=
  if !flag (k.reg .PRB_CMCTL) 63 then { k with hlth.courses := 0 }
  else
    let back := (bricks d).foldl (fun (m : Store Nat) b => (List.range 8).foldl (fun m p =>
      put 0 m (b * 8 + p) (max (look 0 m (b * 8 + p)) (min 255 (k.backlogOf d b p)))) m) k.hlth.back
    { k with
      hlth.back := back
      hlth.courses := if k.rf .PRB_CMCTL 15 0 ≤ k.hlth.courses then 1 else k.hlth.courses + 1 }

end Sys2Proof.Machine
end

