-- ==== Sys2Proof/Machine/Course.lean ====
section
/-!
DEFINITION. The scheduled plane's timing: course sequencers and their instructions (R96 to R116, R132), course
boundaries, the time base and its servo (R117 to R131), and drain and swap (R135 to R138, R65).
-/

namespace Sys2Proof.Machine

/-! ### Time -/

/-- FCLK of a nominal course. -/
def courseLen : Nat := 4800

/-- The course in units of 2^-40 ns. -/
def courseSpan : Nat := 2000 * 2 ^ 40

/-- FCLK from now to the next course boundary (R117): in the last of them CPHASE reaches the end of the course. -/
def Clock.toBoundary (c : Clock) : Nat := max 1 (ceilDiv (courseSpan - c.phase) (max 1 c.inc))

/-- An output runs the default course whatever its program holds (R97). -/
def runsDefault (d : Build) (b p : Nat) : Bool := unconnected d b p

/-! ### Sequencers -/

/-- A sequencer. -/
def Block.seqOf (k : Block) (b p : Nat) : Sequencer := look {} k.net.seq (b * 8 + p)

/-- Replace a sequencer. -/
def Block.setSeq (k : Block) (b p : Nat) (v : Sequencer) : Block :=
  { k with net.seq := put {} k.net.seq (b * 8 + p) v }

/-- The course program that an output runs: the active one, or none (the default course) while no image is in force
(R97). -/
def Block.courseOf (k : Block) (b p : Nat) : List Word :=
  if k.img.run then look [] k.net.courseProg ((b * 8 + p) * 2 + b2n k.net.bank) else []

/-- The word at an address of a course program. -/
def courseAt (l : List Word) (a : Nat) : Option CourseInstr := (l[a]?).bind fun w => decodeCourse w.toNat

/-- Addresses of the MARK words of a program. -/
def marksOf (l : List Word) : List Nat :=
  (List.range l.length).filter fun a => match courseAt l a with
    | some (.mark _) => true
    | _ => false

/-- The period of a program (R103); a program without MARK runs none. -/
def periodOf (l : List Word) : Nat := (marksOf l).length

/-- First address of part `i`. -/
def partStart (l : List Word) (i : Nat) : Nat :=
  match i with
  | 0 => 0
  | n + 1 => (marksOf l).getD n 0 + 1

/-- Part `i` of a program, each instruction with its address. -/
def partAt (l : List Word) (i : Nat) : List (Nat × CourseInstr) :=
  let s := partStart l i
  let e := (marksOf l).getD i l.length
  (List.range (e + 1 - s)).filterMap fun j => (courseAt l (s + j)).map fun x => (s + j, x)

/-- The part that course `n` runs (R103). -/
def partOf (l : List Word) (n : Nat) : Nat := n % max 1 (periodOf l)

/-- What an output executes in course `n`, REPEAT expanded (R102, R107). -/
def Block.traceOf (k : Block) (b p n : Nat) : List (Nat × CourseInstr) :=
  let l := k.courseOf b p
  traceAt (partAt l (partOf l n))

/-- The output executes its course program: it has one, does not run the default course (R97,
R491) and is not in SAFE (R116). -/
def Block.runsCourse (k : Block) (d : Build) (b p : Nat) : Bool :=
  !(runsDefault d b p || (k.seqOf b p).safe || (k.seqOf b p).dflt || (k.courseOf b p).isEmpty)

/-- The trace in which the sequencer of an output stands: that of the course to come once its MARK is executed. -/
def Block.traceNow (k : Block) (b p : Nat) : List (Nat × CourseInstr) :=
  k.traceOf b p (k.clk.course + b2n (k.seqOf b p).ahead)

/-- The instruction at which the sequencer of an output stands, with its address: none on a default course, in SAFE, or
without a program. -/
def Block.courseNext (k : Block) (d : Build) (b p : Nat) : Option (Nat × CourseInstr) :=
  if k.runsCourse d b p then (k.traceNow b p)[(k.seqOf b p).at_]? else none

/-- The sequencer of an output goes to its next instruction. -/
def Block.seqOn (k : Block) (b p : Nat) : Block :=
  let v := k.seqOf b p
  k.setSeq b p { v with at_ := v.at_ + 1 }

/-- REPEAT (R102): the sequencer goes on in the trace, to the body once more or behind it. -/
def execRepeatBody (b p : Nat) (s : State) : Host.Outcome State Fault Refusal :=
  let d := s.env.build
  s.run (brickOk d b && decide (p < 8)) fun k =>
    match k.courseNext d b p with
    | some (_, .rep _ _) => k.seqOn b p
    | _ => k

/-- MARK (R103): the part ends, and the sequencer turns to the part of the course to come. -/
def execMark (b p : Nat) (s : State) : Host.Outcome State Fault Refusal :=
  let d := s.env.build
  s.run (brickOk d b && decide (p < 8)) fun k =>
    let v := k.seqOf b p
    match k.courseNext d b p with
    | some (_, .mark _) => if v.ahead then k else k.setSeq b p { v with at_ := 0, ahead := true }
    | _ => k

/-- SYNC (R104): its add is owed until the next timed instruction opens. -/
def execSync (b p : Nat) (s : State) : Host.Outcome State Fault Refusal :=
  let d := s.env.build
  s.run (brickOk d b && decide (p < 8)) fun k =>
    let v := k.seqOf b p
    match k.courseNext d b p with
    | some (_, .sync c n) => k.setSeq b p { v with owed := v.owed ++ [(c, n)], at_ := v.at_ + 1 }
    | _ => k

/-- A COURSE event of an output (R114 to R116). -/
def Block.courseEvent (k : Block) (b p : Nat) (dbe : Bool) : Block :=
  k.postEvent b { type := 4, source := p, arg0 := k.rf .CRS_ERR 1 0 b + (if dbe then 2 ^ (8 + p) else 0), arg1 := k.clk.course }

/-- COURSE_SAFE (R116): a fetch finds an error in a course word. -/
def execCourseSafe (b p : Nat) (err : Secded) (s : State) : Host.Outcome State Fault Refusal :=
  s.run (brickOk s.env.build b && decide (p < 8)) fun k =>
    match err with
    | .single => k.bump .CRS_ERR 15 8 b
    | .double =>
      let v := k.seqOf b p
      let a := ((k.traceNow b p)[v.at_]?.map Prod.fst).getD 0
      let k := k.setSeq b p { v with safe := true, owed := [] }
      let (n, h) := k.failures k.prog.memFaults (2 ^ 30 + (b * 8 + p) * 512 + a) 1000000
      let k := { k with prog.memFaults := h }
      let k := if n = 2 ∨ 2 < n ∧ flag (k.reg .BRK_FLT b) 0 = false then (k.setBit .BRK_FLT 0 b).permanent 7 b p else k
      ((k.setBit .CRS_ERR (16 + p) b).courseEvent b p true).freezeOn 4

/-! ### Windows and fit (R107 to R109, R132, R133) -/

/-- SKEW_NS margin of a lane port in ns (R133): 80 while no image is in force. -/
def Block.laneMargin (k : Block) : Nat := if k.img.run then 2 * k.img.skewNs else 80

/-- The margin M of an FCLK-timed output (R109). -/
def Block.margin (k : Block) (d : Build) (b p : Nat) : Nat :=
  let g := k.rf .CRS_CTL 11 0 b - 66
  match beyond d b p with
  | .bridge _ => g + k.rf .CRS_CTL 47 40 b
  | _ => g

/-- The place within the course at which an output stands: cycles, or 10 ns units on a time-timed output (R107, R132). -/
def Block.place (k : Block) (d : Build) (b p : Nat) : Nat :=
  if timeTimed d b p then k.clk.phase / (10 * 2 ^ 40) else k.clk.cyc

/-- The window in force on an output (R97, R107, R116, R132): what its course memory has at this place of the course. -/
def Block.windowNow (k : Block) (d : Build) (b p : Nat) : CourseWindow :=
  if k.runsCourse d b p then (windowIn (k.place d b p) 0 (k.traceOf b p k.clk.course)).getD {} else {}

/-- The kind of window in force, with LHALT taken as IDLE (R125). -/
def Block.windowKind (k : Block) (d : Build) (b p : Nat) : WinKind :=
  if k.clk.lhalt && timeTimed d b p then .idle else (k.windowNow d b p).kind

/-- The cycle of a brick in which the next course begins, as the brick knows it (R110): by the boundary message, or, while
none has reached it, by its copy of the course clock. -/
def Block.courseEnd (k : Block) (b : Nat) : Nat :=
  k.clk.cyc + match look none k.clk.due b with
    | some f => f - k.clk.now
    | none => k.clk.toBoundary

/-- The cycle (FCLK, or 10 ns units) after the last of the window in force (R107, R108, R110, R114): the closing window
ends at the boundary, and a boundary known to come sooner cuts any other (R115). -/
def Block.windowEnd (k : Block) (d : Build) (b p : Nat) : Nat :=
  let w := k.windowNow d b p
  if timeTimed d b p then (if w.kind = .closing then 200 else w.first + w.slots)
  else if w.kind = .closing then k.courseEnd b
  else min (w.first + w.slots) (k.courseEnd b)

/-- The unit time of a lane port (R133, R417) in units of 2^-20 ns: four blocks of 258 bits at 514/544 of the line rate
of 453.125 Gbit/s, on `lanes` lanes. -/
def unitTime (lanes : Nat) : Nat := 1032 * 544 * 1000 * 2 ^ 20 / (453125 * 514 * max 1 lanes)

/-- A packet with LEN data units fits the window at this moment (R108, R133). -/
def Block.fits (k : Block) (d : Build) (b p len : Nat) : Bool :=
  match beyond d b p with
  | .lane n =>
    let close := (k.windowEnd d b p) * 10 * 2 ^ 20
    decide (k.clk.phase / 2 ^ 20 + (len + 1) * unitTime (k.activeLanes n) + k.laneMargin * 2 ^ 20 ≤ close)
  | _ => decide (k.clk.cyc + len + k.margin d b p + 1 ≤ k.windowEnd d b p)

/-- LEFT of CRS_STAT (R141). Until the first boundary since reset no course has begun, and it holds its reset value 0
(log 80). -/
def Block.slotsLeft (k : Block) (d : Build) (b p : Nat) : Nat :=
  if k.clk.now = k.clk.cyc then 0 else k.windowEnd d b p - k.place d b p

/-! ### The time base (R120 to R127) -/

/-- Nominal INC (R121). -/
def nominalInc : Nat := 458129844907

/-- Clamp an integer to ±lim. -/
def clampInt (lim x : Int) : Int := if x < -lim then -lim else if lim < x then lim else x

/-- The servo of R121; `e` in units of 2^-16 ns, the integral term in units of 2^-56 ns. -/
def Clock.servo (c : Clock) (ki kp maxadj : Nat) (e : Int) : Clock :=
  let e56 : Int := e * 2 ^ 40
  let f := c.servoF + e56 / ((4800 * 2 ^ ki : Nat) : Int)
  let adj := f + e56 / ((4800 * 2 ^ kp : Nat) : Int)
  let lim : Int := ((maxadj * 10 * nominalInc * 2 ^ 16 / 1000000 : Nat) : Int)
  let f := clampInt lim f
  let adj := clampInt lim adj
  { c with servoF := f, inc := ((nominalInc : Int) - (adj + 2 ^ 15) / 2 ^ 16).toNat }

/-- The code of a time state (R122). -/
def TimeState.code : TimeState → Nat
  | .root => 0
  | .acquire => 1
  | .tracking => 2
  | .locked => 3
  | .holdover => 4
  | .lost => 5

/-- OFFSET as the register shows it (R130): 1/16 ns, saturating, two's complement. -/
def Clock.offsetField (c : Clock) : Nat :=
  ofSigned 16 (if c.offset < -32768 then -32768 else if 32767 < c.offset then 32767 else c.offset)

/-- The die enters a time state; an entry into LOCKED or a departure from it posts a TIME event at the root brick (R122). -/
def Block.enterTime (k : Block) (t : TimeState) : Block :=
  let was := k.clk.st
  let k := { k with clk.st := t, clk.good := 0, clk.holdCourses := 0 }
  if (was = .locked) ≠ (t = .locked) then
    k.postEvent 0 { type := 5, source := 0, arg0 := t.code, arg1 := k.clk.offsetField }
  else k

/-- Step the course clock by -e (R122): `e` in units of 2^-16 ns. -/
def Clock.step (c : Clock) (e : Int) : Clock :=
  let t : Int := ((c.course * courseUnits : Nat) : Int) * 2 ^ 24 + (c.phase : Int) - e * 2 ^ 24
  let span : Int := (courseSpan : Int)
  { c with course := ((t / span) % (2 ^ 48 : Int)).toNat, phase := (t % span).toNat, due := [] }

/-- WIDE (R124): a lane of the lane port that carries the exchange is in electrical idle in either direction, or the
upstream, on a lane port or a bridge, reports WIDE. -/
def Block.wide (k : Block) : Bool :=
  let p := k.rf .TIM_CTL 13 8
  (decide (2 ≤ k.rf .TIM_CTL 1 0) && k.clk.upWide) || k.rf .TIM_CTL 1 0 == 3 && (flag (k.reg .LNK_STAT p) 50 || flag (k.reg .LNK_STAT p) 51 || (k.port false p).burst ||
    (List.range 4).any fun l => k.rf .LN_STAT 63 61 p [l] == 4 || k.rf .LN_STAT 63 61 p [l] == 5)

/-- An offset sample arrives (R120 to R123, R125): in whatever state the die takes it, it ends a launch halt at the next
boundary. OFFSET is the offset rounded down to 1/16 ns (R130, log 107). -/
def Block.takeSample (k : Block) (e : Int) : Block :=
  let mag : Nat := e.natAbs
  let lim (n2 : Nat) : Nat := n2 * 32768 * (if k.wide then 2 else 1)
  let k := { k with clk.offset := e / 4096, clk.since := 0, clk.lhaltEnd := k.clk.lhalt }
  let k := { k with clk := k.clk.servo (k.rf .TIM_CTL 35 32 0) (k.rf .TIM_CTL 39 36 0) (k.rf .TIM_CTL 47 40 0) e }
  match k.clk.st with
  | .root => { k with clk.inc := nominalInc }
  | .acquire => (if k.img.run then k else { k with clk := k.clk.step e }).enterTime .tracking
  | .tracking =>
    if mag ≤ lim 4 then
      if 64 ≤ k.clk.good + 1 then k.enterTime .locked else { k with clk.good := k.clk.good + 1 }
    else { k with clk.good := 0 }
  | .locked => if lim 5 < mag then k.enterTime .tracking else k
  | .holdover => k.enterTime .tracking
  | .lost => k.enterTime .tracking

/-- TREF_EDGE (R126): an edge of the time reference input. -/
def execTrefEdge (s : State) : Host.Outcome State Fault Refusal :=
  s.run true fun k =>
    if k.rf .TIM_CTL 1 0 0 = 1 then
      let c : Int := (k.clk.cphase : Int)
      k.takeSample (if 1000 * 65536 < c then c - 2000 * 65536 else c)
    else k

/-- HOLDOVER_ENTRY (R122): 256 courses have passed without a sample. -/
def execHoldoverEntry (s : State) : Host.Outcome State Fault Refusal :=
  s.run true fun k =>
    if (k.clk.st = .tracking ∨ k.clk.st = .locked) ∧ 256 ≤ k.clk.since then k.enterTime .holdover else k

/-- TIME_LOST (R122, R125): HOLDMAX courses have passed in HOLDOVER. -/
def execTimeLost (s : State) : Host.Outcome State Fault Refusal :=
  s.run true fun k =>
    if k.clk.st = .holdover ∧ k.rf .TIM_CTL 63 48 0 ≤ k.clk.holdCourses then
      { (k.enterTime .lost).freezeOn 3 with clk.lhalt := true, clk.lhaltEnd := false }
    else k

/-- A write of TIM_CTL (R122, R129). The model's choices (log 81): the integral term of R121 survives a write of a
non-zero SRC and is cleared by SRC = 0; SRC = 0 ends a launch halt at the next boundary; what the former upstream
reported of WIDE is forgotten. -/
def Block.writeTimCtl (k : Block) (v : Word) : Block :=
  let k := { k.applyWrite .TIM_CTL 0 [] v with clk.upWide := false }
  if fld v 1 0 = 0 then
    { k.enterTime .root with clk.inc := nominalInc, clk.servoF := 0, clk.lhaltEnd := k.clk.lhalt }
  else k.enterTime .acquire

/-- TIM_CTL_SRC_WRITE (R122). -/
def execTimCtlSrcWrite (v : Word) (s : State) : Host.Outcome State Fault Refusal :=
  s.access true 0 .mp fun k => (k.writeTimCtl v).answerWrite 0 .mp

/-- A write of TIM_SET (R127). -/
def Block.writeTimSet (k : Block) (v : Word) : Block :=
  if k.img.run then k.lockVio else { k with clk.setHeld := some (fld v 47 0) }

/-- TIM_SET (R127). -/
def execTimSet (v : Word) (s : State) : Host.Outcome State Fault Refusal :=
  s.access true 0 .mp fun k => (k.writeTimSet v).answerWrite 0 .mp

/-- TIM_NOW_READ (R128). -/
def execTimNowRead (s : State) : Host.Outcome State Fault Refusal :=
  s.access true 0 .mp fun k =>
    ({ k with clk.latched := k.clk.course }).answerRead 0 .mp (BitVec.ofNat 64 k.gtime)

/-- TIME_MESSAGE (R119): the brick's copy of the course clock is corrected to the root's; every copy holds one value, so
nothing changes. -/
def execTimeMessage (b : Nat) (s : State) : Host.Outcome State Fault Refusal :=
  s.run (brickOk s.env.build b) id

/-- FCLK that a mortar message takes to a stop and by which the stop corrects its time copy (R22, R24): 8 a position. -/
def stopLag (pos : Nat) : Nat := 8 * pos

/-- FCLK, as `now` counts, in which the boundary at GTIME `time` takes effect, as the stop of brick `b` finds it (R24): its
time copy is as old as the message that brought it, by the stop's place on the ring, and is corrected by the position
that enumeration assigned. None for a time that is past. -/
def Block.boundaryAt (k : Block) (d : Build) (b time : Nat) : Option Nat :=
  let inc : Int := (k.clk.inc : Int)
  let copy : Int := (k.clk.phase % 2 ^ 24 : Nat) - inc * stopLag (ringPos d b)
  let fixed : Int := copy + inc * stopLag (look 0 k.rst.position b)
  let left : Int := timeDiff time k.gtime * 2 ^ 24 - fixed
  if left ≤ 0 then none else some (k.clk.now + ceilDiv left.toNat (max 1 k.clk.inc))

/-- BOUNDARY_MESSAGE (R24, R110): the message, which left the root brick at least TRIP MCLK before the boundary, tells the
brick at which GTIME it takes effect. The boundary itself falls in every brick where the course clock does (R117). -/
def execBoundaryMessage (b time : Nat) (s : State) : Host.Outcome State Fault Refusal :=
  let d := s.env.build
  s.run (brickOk d b) fun k => { k with clk.due := put none k.clk.due b (k.boundaryAt d b time) }

/-! ### Drain and swap (R135 to R137) -/

/-- The course at which the swap may first take place (R135). -/
def Block.swapTarget (k : Block) : Nat := k.net.target

/-- Every held scheduled packet of the die: those staged, those in router inputs, those in hold queues, and the parts of
reducer slots that have not been offered (R137). -/
def Block.heldScheduled (k : Block) : List Packet :=
  ((k.net.stage.flatMap fun e => e.2.map Staged.pkt) ++ (k.net.chain.flatMap fun e => e.2.map Chained.pkt) ++
    (k.net.hold.flatMap Prod.snd) ++ (k.rdc.slots.flatMap fun e => e.2.out.flatMap OutPart.left)).filter
    fun p => decide (p.vc < 2)

/-- The NI of a brick holds scheduled packets of this transfer: those it has not issued yet, parts begun and resends that
wait (R137). -/
def Tracker.holdsScheduled (v : Tracker) : Bool :=
  v.sourceAtWork && decide (v.service < 2) && (!v.todo.isEmpty || (!v.stop && decide (v.issued < v.pcount)))

/-- The trackers whose transfers hold such packets, by key. -/
def Block.trackersHolding (k : Block) : List Nat := (k.xfr.trk.filter fun x => x.2.holdsScheduled).map Prod.fst

/-- The die has drained (R137): no brick holds a scheduled packet. -/
def Block.drained (k : Block) : Bool := k.heldScheduled.isEmpty && k.trackersHolding.isEmpty

/-- Image start falls at the boundary that course `n` begins with (R135, R137): exactly at the target with AT named; else
at the first boundary from it on at which the die has drained, and at the latest DRAINMAX after it. -/
def Block.startsAt (k : Block) (n : Nat) : Bool :=
  let t := k.net.target
  let last := t + k.rf .CRS_SWAP 59 56
  k.img.written &&
  (if k.rf .CRS_SWAP 47 0 ≠ 0 then n == t
   else decide (last ≤ n) || (decide (t ≤ n) && k.drained))

/-- DRAIN_INJECTION_STOP (R137). -/
def execDrainInjectionStop (s : State) : Host.Outcome State Fault Refusal :=
  s.run true fun k =>
    if k.img.written ∧ k.net.target ≤ k.clk.course + 1 then
      ({ k with net.injStop := true }).setRf .CRS_SWAP 63 62 0 [] 2
    else k

/-- The trackers of this die whose packets a swap discards (R137), by key: those of held packets, and those that hold
packets not yet issued. A packet of another die is discarded without an answer (log 109). -/
def Block.discardedTrackers (k : Block) (d : Build) : List Nat :=
  let of (p : Packet) : Option Nat :=
    let b := cBrick p.src
    let t := p.tracker % 1024
    if onDie d p.src && cEp p.src == 1 && (k.tracker b t).sourceAtWork then some (b * 1024 + t) else none
  ((k.heldScheduled.filterMap of) ++ k.trackersHolding).eraseDups

/-- Keep the elements of the lists of a store that satisfy `p`; a list that is left empty is not listed. -/
def keepLists {α : Type} (p : α → Bool) (m : Store (List α)) : Store (List α) :=
  (m.map fun (x : Nat × List α) => (x.1, x.2.filter p)).filter fun x => !x.2.isEmpty

/-! ### The boundary (R96, R114, R115) -/

/-- What the boundary that ends course `n` after `fclks` FCLK does to one sequencer (R107, R114, R115): what of the part
had its time is executed, and a window still to open when the boundary comes is cut. An output of
no role counts as FCLK-timed (log 108). -/
def Block.seqBoundary (k : Block) (d : Build) (n fclks b p : Nat) : Block :=
  let timed := timeTimed d b p
  let slip := !timed && (decide (fclks + 8 < courseLen) || decide (courseLen + 8 < fclks))
  let k := if slip then (k.setBit .CRS_ERR 0 b).courseEvent b p false else k
  let v := k.seqOf b p
  if !k.runsCourse d b p then k
  else if v.ahead then k.setSeq b p { v with ahead := false }
  else
    let tr := k.traceOf b p n
    let r := finishTrace (fun c => timed || decide (c < fclks)) (traceSlots (tr.take v.at_)) [] v.owed (tr.drop v.at_)
    let k := r.1.foldl (fun k x => k.counterAdd b x.1 x.2) k
    let k := k.setSeq b p { v with at_ := 0, owed := r.2.1 }
    if r.2.2 then (k.setBit .CRS_ERR 1 b).courseEvent b p false else k

/-- The shared-window cycles of an output in course `n`, which lasted `fclks` FCLK (R97, R116, R531): those outside its CONNECT
and IDLE windows. -/
def Block.sharedCycles (k : Block) (d : Build) (n fclks b p : Nat) : Nat :=
  if k.runsCourse d b p then
    let at_ (u : Nat) : Nat := min fclks (if timeTimed d b p then u * 24 else u)
    fclks - ((windowsFrom 0 ((k.traceOf b p n).map Prod.snd)).map fun x => match x.2.2 with
      | .shared _ => 0
      | _ => at_ (x.1 + x.2.1) - at_ x.1).sum
  else fclks

/-- The shared-window cycles of the course that ends, while maps are gathered (R531). -/
def Block.countShared (k : Block) (d : Build) (n fclks : Nat) : Block :=
  if !flag (k.reg .PRB_CMCTL) 63 then k
  else { k with hlth.shared := (bricks d).foldl (fun (m : Store Nat) b => (List.range 8).foldl (fun m p =>
    put 0 m (b * 8 + p) (look 0 m (b * 8 + p) + k.sharedCycles d n fclks b p)) m) k.hlth.shared }

/-- Shared-plane units of a lane port that wait to leave (R184, R531). -/
def Block.laneBacklog (k : Block) (d : Build) (n : Nat) : Nat :=
  match exitOf d false n with
  | none => 0
  | some (b, p) => k.backlogOf d b p

/-- The exchange of a course ends with it, at every port (R431, R432): a request unanswered, and that it was answered. -/
def Block.endExchanges (k : Block) : Block :=
  { k with lnk.port := k.lnk.port.foldl (fun m e => put {} m e.1 { e.2 with request := none, answered := false }) k.lnk.port }

/-- A course of the port that TIM_CTL names ends: without a sample it counts in MISSED (R432, R448), whether or not its
TSREQ could be sent. -/
def Block.missedSample (k : Block) (d : Build) : Block :=
  let src := k.rf .TIM_CTL 1 0
  let n := k.rf .TIM_CTL 13 8
  let v := k.port (src == 2) n
  let k := k.endExchanges
  if src < 2 then k
  else
    if src = 3 ∧ n < d.lanePorts ∧ v.answered = false then k.bump .LNK_TSYNC 31 16 n else k

/-- A compute domain whose ramp has ended becomes ON at the boundary (R501), and closes again if CGATE = 1 (R502). -/
def Block.wakeDomains (k : Block) (e : Env) : Block :=
  let l := k.rst.ramped
  let k := { k with rst.ramped := [] }
  l.foldl (fun k b =>
    let k := k.setRf .PWR_BRK 9 8 b [] 0
    if flag (k.reg .PWR_BRK b) 0 then k.closeCompute e b else k) k

/-- The course clock goes on to the boundary (R117, R118): CPHASE carries into COURSE. -/
def Clock.toNext (c : Clock) : Clock :=
  let n := c.toBoundary
  { c with
    now := c.now + n, cyc := 0, course := (c.course + 1) % 2 ^ 48, phase := (c.phase + n * c.inc - courseSpan) % courseSpan
    since := satAdd 0xFFFF c.since 1, due := []
    holdCourses := if c.st = .holdover then c.holdCourses + 1 else c.holdCourses
    lhalt := c.lhalt && !c.lhaltEnd, lhaltEnd := false }

end Sys2Proof.Machine
end

