-- ==== Sys2Proof/Machine/Starts.lean ====
section
/-!
DEFINITION. How packets start on router outputs: the shared plane's arbitration and shapers (R142 to R152), scheduled
starts and their bounds (R99, R108, R111 to R113, R189), the send side of links (R421, R428, R430, R440), and delivery
to the neighbour, the port or the endpoint, with the refusals of a domain that goes off (R473); then the routing
commands, whose packets leave room for the next unit of their engine (R159, R186, R187, R192).
-/

namespace Sys2Proof.Machine

/-! ### Shapers (R149 to R151) -/

/-- The token count of a shaper now, in 2^-16 units: `r` is SHW_SVC with output and service, or SHW_SUB with subscriber. -/
def Block.tokenCount (k : Block) (r : RegName) (b : Nat) (ix : List Nat) : Int :=
  let w := k.reg r b ix
  let (c, t) := look ((0 : Int), 0) k.net.tokens (regAddr r b ix)
  if fld w 48 32 = 0 then c
  else min ((fld w 31 16 * 65536 : Nat) : Int) (c + ((fld w 48 32 * (k.clk.now - t) : Nat) : Int))

/-- Store a token count as of now; a count that RATE 0 keeps still needs no time. -/
def Block.setTokens (k : Block) (r : RegName) (b : Nat) (ix : List Nat) (c : Int) : Block :=
  let now := if k.rf r 48 32 b ix = 0 then 0 else k.clk.now
  { k with net.tokens := put ((0 : Int), 0) k.net.tokens (regAddr r b ix) (c, now) }

/-- A write leaves a shaper with its count clipped to the new BURST, or full with FWREFILL = 1 (R150). -/
def Block.refill (k : Block) (r : RegName) (b : Nat) (ix : List Nat) (c : Int) : Int :=
  let full : Int := ((k.rf r 31 16 b ix * 65536 : Nat) : Int)
  if flag (k.reg .SHW_CTL b) 0 then full else min full c

/-- The word and the count that a start finds in a shaper: of a shaper written in this FCLK, those before the write
(R151). -/
def Block.shaperNow (k : Block) (r : RegName) (b : Nat) (ix : List Nat) : Word × Int :=
  let x := look ((0 : Nat), (0 : Word), (0 : Int)) k.net.shaped (regAddr r b ix)
  if x.1 = k.clk.now + 1 then x.2 else (k.reg r b ix, k.tokenCount r b ix)

/-- A packet passes a shaper (R149). -/
def Block.passesShaper (k : Block) (r : RegName) (b : Nat) (ix : List Nat) : Bool :=
  let x := k.shaperNow r b ix
  fld x.1 48 32 == 0 || decide (0 ≤ x.2)

/-- A start takes its units from a shaper (R149); of a shaper written in this FCLK, before the write (R151). -/
def Block.chargeShaper (k : Block) (r : RegName) (b : Nat) (ix : List Nat) (units : Nat) : Block :=
  let x := k.shaperNow r b ix
  let c := x.2 - ((units * 65536 : Nat) : Int)
  if fld x.1 48 32 = 0 then k
  else if (look ((0 : Nat), (0 : Word), (0 : Int)) k.net.shaped (regAddr r b ix)).1 = k.clk.now + 1 then
    { k with net.shaped := put ((0 : Nat), (0 : Word), (0 : Int)) k.net.shaped (regAddr r b ix) (k.clk.now + 1, x.1, c) }.setTokens
      r b ix (k.refill r b ix c)
  else k.setTokens r b ix c

/-! ### Virtual time (R145 to R147) -/

/-- later(a, b) of R147. -/
def later (a b : Nat) : Nat := if serialLe 32 a b then b else a

/-- inv(w) of R145. -/
def invWeight (w : Nat) : Nat := 65536 / max 1 w

/-- A finish tag from its start tag (R145). -/
def finishTag (start units w : Nat) : Nat := (start + units * invWeight w) % 2 ^ 32

/-- The subscribers that hold a staged packet of service `s` at injection point `i` of a brick, each with the units of
its first. -/
def Block.subscribers (k : Block) (b i s : Nat) : List (Nat × Nat) :=
  (look [] k.net.stage (b * 2 + i)).foldl (fun (l : List (Nat × Nat)) (x : Staged) =>
    match x.sub with
    | some u => if x.pkt.vc = s + 2 ∧ l.all (fun y => y.1 != u) then l ++ [(u, pktUnits x.pkt)] else l
    | none => l) []

/-- Tags of the subscribers of a service (R145, R147): the start tag and the weight are set where a packet has become a
head, and dropped where none is staged. -/
def Block.refreshSubs (k : Block) (b i s : Nat) : Block :=
  let subs := k.subscribers b i s
  let gone := fun (key : Nat) => key / 2048 == b * 8 + s && (decide (key % 2048 < 1040) == (i == 0)) &&
    subs.all fun x => subKey b s x.1 != key
  let st := k.net.subStart.filter fun (e : Nat × Option (Nat × Nat)) => !gone e.1
  let v := look 0 k.net.subVtime ((b * 2 + i) * 8 + s)
  let st := subs.foldl (fun (m : Store (Option (Nat × Nat))) x =>
    match look none m (subKey b s x.1) with
    | some _ => m
    | none => put none m (subKey b s x.1)
        (some (later v (look 0 k.net.subTag (subKey b s x.1)), k.rf .SHW_SUB 7 0 b [x.1]))) st
  { k with net.subStart := st }

/-- The finish tag of a subscriber's head: a change of weight leaves it as it stands (R147). -/
def Block.subFinish (k : Block) (b s : Nat) (x : Nat × Nat) : Nat :=
  let (st, w) := (look none k.net.subStart (subKey b s x.1)).getD (0, k.rf .SHW_SUB 7 0 b [x.1])
  finishTag st x.2 w

/-- Of two (number, finish tag) pairs, the one that R145 and R147 choose; equal tags go to the lower number. -/
def firstTag (x y : Nat × Nat) : Nat × Nat :=
  if x.2 = y.2 then (if x.1 ≤ y.1 then x else y) else if serialLe 32 x.2 y.2 then x else y

/-- The subscriber level (R148): a winner offered and not yet started stays; otherwise the candidate with the smallest
finish tag is offered. -/
def Block.offerWinner (k : Block) (b i s : Nat) : Block :=
  let k := k.refreshSubs b i s
  let key := (b * 2 + i) * 8 + s
  let subs := k.subscribers b i s
  let keep := match look none k.net.offered key with
    | some u => subs.any fun x => x.1 == u
    | none => false
  if keep then k
  else
    let cands := (subs.filter fun x => k.passesShaper .SHW_SUB b [x.1]).map fun x => (x.1, k.subFinish b s x)
    let win := match cands with
      | [] => none
      | x :: r => some (r.foldl firstTag x).1
    { k with net.offered := put none k.net.offered key win }

/-! ### Heads (R143, R144, R148) -/

/-- A head of an input: the input, its place there, the packet, the outputs it owes, its subscriber, whether it has begun on
an output, and the FCLK from which a lane port can hold it whole. -/
structure Head where
  inp : Nat
  idx : Nat
  pkt : Packet
  owed : List Nat
  sub : Option Nat := none
  begun : Bool := false
  ready : Nat := 0
  deriving DecidableEq, Repr

/-- A staged packet as a head, if it has been routed. -/
def stagedHead (inp : Nat) (l : List Staged) (sel : Staged → Bool) : Option Head :=
  match l.findIdx? sel with
  | none => none
  | some i => match l[i]? with
    | none => none
    | some x => x.owed.map fun o => 
        { inp := inp, idx := i, pkt := x.pkt, owed := o, sub := x.sub, begun := x.fixed, ready := x.ready }

/-- The head of service `s` at an input (R143, R148): at an injection point the packets without subscriber go first. -/
def Block.headOf (k : Block) (b inp s : Nat) : Option Head :=
  if inp = 4 ∨ inp = 5 then
    let l := k.stagedAt b inp
    if l.any fun x => x.sub.isNone && x.pkt.vc == s + 2 then
      stagedHead inp l fun x => x.sub.isNone && x.pkt.vc == s + 2
    else match look none k.net.offered ((b * 2 + (inp - 4)) * 8 + s) with
      | some u => stagedHead inp l fun x => x.sub == some u && x.pkt.vc == s + 2
      | none => none
  else match (k.chainOf b inp).head? with
    | some x => if x.pkt.vc = s + 2 then 
        x.owed.map fun o => { inp := inp, idx := 0, pkt := x.pkt, owed := o, ready := x.ready }
      else none
    | none => none

/-- The heads of a service that are routed to output `p`. -/
def Block.headsFor (k : Block) (b p s : Nat) : List Head :=
  (List.range 8).filterMap fun inp => (k.headOf b inp s).filter fun h => h.owed.contains p

/-- The input that round-robin chooses within a service (R144). -/
def Block.roundRobin (k : Block) (b p s : Nat) (l : List Head) : Option Head :=
  let last := look 0 k.net.rrobin (svcKey b p s)
  ((List.range 8).map fun i => (last + 1 + i) % 8).findSome? fun inp => l.find? fun h => h.inp == inp

/-- Start tags of the services at an output and the weights in force when their heads became such (R145 to R147): a
service without a head is idle, and a packet that has taken the place of another at the head of an injection point is a
new head. -/
def Block.refreshHeads (k : Block) (b p : Nat) : Block :=
  (List.range 6).foldl (fun k s =>
    let key := svcKey b p s
    match k.roundRobin b p s (k.headsFor b p s) with
    | none => { k with net.headStart := put none k.net.headStart key none }
    | some h =>
      let stands := match look none k.net.headStart key with
        | some (_, _, inp, sub) => !(inp == h.inp && sub != h.sub)
        | none => false
      if stands then k
      else
        let st := later (look 0 k.net.vtime (b * 8 + p)) (look 0 k.net.ftag key)
        { k with net.headStart := put none k.net.headStart key (some (st, k.rf .SHW_SVC 7 0 b [p, s], h.inp, h.sub)) }) k

/-- The winners of both injection points are offered, and the heads at an output have their tags (R145, R148). R148 names no
FCLK in which the subscriber level chooses: the model lets it choose where an output of the brick decides next, or a shaper
of the brick is written (the model's choice, log 69). -/
def Block.refreshTags (k : Block) (b p : Nat) : Block :=
  ((List.range 2).foldl (fun k i => (List.range 6).foldl (fun k s => k.offerWinner b i s) k) k).refreshHeads b p

/-- A word written to a shaper's register (R150, R9): a reserved RATE, BURST or WEIGHT leaves its field unchanged. The
heads that stand have their tags by the old weight (R147). -/
def Block.writeShaper (k : Block) (r : RegName) (b : Nat) (ix : List Nat) (v : Word) : Block :=
  let k := k.refreshTags b (if r = .SHW_SVC then ix.headD 0 else 0)
  let old := k.reg r b ix
  let c := k.tokenCount r b ix
  let rate := if fld v 48 32 ≤ 65536 then fld v 48 32 else fld old 48 32
  let burst := if fld v 31 16 = 0 ∧ rate ≠ 0 then fld old 31 16 else fld v 31 16
  let weight := if fld v 7 0 = 0 then fld old 7 0 else fld v 7 0
  let was := k.shaperNow r b ix
  let k := k.setReg r b ix (mkWord [(32, rate), (16, burst), (0, weight)])
  let k := { k with
    net.shaped := put ((0 : Nat), (0 : Word), (0 : Int)) k.net.shaped (regAddr r b ix) (k.clk.now + 1, was.1, was.2) }
  k.setTokens r b ix (k.refill r b ix c)

/-! ### Delivery -/

/-- A packet that R473 or R548 refuses at the endpoint it reaches through L (`ep` none: MCAST or RESULT to the cluster)
or C. -/
def Block.refusedAt (k : Block) (d : Build) (b : Nat) (toC : Bool) (q : Packet) : Bool :=
  if toC then !k.computeOn b
  else if clusterBound q then !(lpBuilt d b && k.lpOpen b)
  else if q.rmode != 2 && cEp q.dst == 6 then !(lpBuilt d b && k.computeOn b)
  else false

/-- The receive FIFO of a packet that crosses output L. -/
def rxOfLocal (q : Packet) : Nat :=
  if q.mcast || q.op == opResult then 0
  else if q.rmode = 2 then 3
  else match cEp q.dst with
    | 3 => 3
    | 4 => 4
    | 5 => 5
    | _ => 0

/-- A packet reaches an endpoint through L or C (R456, R473). -/
def Block.toEndpoint (k : Block) (d : Build) (b inp : Nat) (toC : Bool) (q : Packet) : Block :=
  let q := { q with inPort := inp }
  if k.refusedAt d b toC q then
    k.refuse d b q
  else
    let c := if toC then 2 else rxOfLocal q
    k.setRx b c (k.rxQueue b c ++ [q])

/-- Units a retry buffer holds (R428). -/
def retryRoom : Nat := 2048

/-- Units in use of a retry buffer. -/
def LinkLayer.used (v : LinkLayer) : Nat := (v.kept.map fun x => pktUnits x.2).sum

/-- Link-level retry of a lane port (R428). -/
def Block.llr (k : Block) (n : Nat) : Bool := flag (k.reg .LNK_CTL n) 2

/-- LIMIT(v) - SENT(v) of R430 and R440. -/
def LinkLayer.credits (v : LinkLayer) (bridge : Bool) (vc : Nat) : Nat :=
  let base := if bridge then 80 else 8 * v.cred.getD (vc - 2) 0
  (base + look 0 v.peer vc + 4096 - look 0 v.sent vc) % 4096

/-- A lane port takes a new packet (R428, R430, R433): the link is up and awake, no replay waits, the retry buffer has
room and, for the shared plane, the link credits suffice. -/
def Block.laneTakes (k : Block) (n : Nat) (q : Packet) : Bool :=
  let v := k.port false n
  k.portUp false n && !flag (k.reg .LNK_STAT n) 50 && !v.burst && v.replay.isEmpty &&
  (!k.llr n || decide (v.used + pktUnits q ≤ retryRoom)) &&
  (decide (q.vc < 2) || decide (pktUnits q ≤ v.credits false q.vc))

/-- The VC whose total the next header carries (R430): the next after the last told whose total has changed. -/
def LinkLayer.nextTotal (v : LinkLayer) : Option Nat :=
  ((List.range 6).map fun i => (v.lastVc - 2 + 1 + i) % 6 + 2).find? fun vc => look 0 v.ctot vc != look 0 v.told vc

/-- A header leaves over a lane port with the link fields in force (R421, R428, R430). -/
def Block.laneHeader (k : Block) (n : Nat) (q : Packet) (lseq : Nat) : Block :=
  let v := k.port false n
  let vc := v.nextTotal
  let tot := look 0 v.ctot (vc.getD 0)
  let lack := if k.llr n then v.expected else 0
  let nak := k.llr n && v.nak
  let v := { v with toldAck := lack, toldNak := nak }
  let v := match vc with
    | some c => { v with told := put 0 v.told c tot, lastVc := c }
    | none => v
  (k.setPort false n v).send (.lanePacket n q lseq lack nak (vc.getD 0) (if vc.isSome then tot else 0))

/-- A new packet goes out over a lane port (R421, R428, R430). -/
def Block.laneSend (k : Block) (n : Nat) (q : Packet) : Block :=
  let next := k.rf .LNK_STAT 31 16 n
  let v := k.port false n
  let v := if q.vc < 2 then v else { v with sent := put 0 v.sent q.vc ((look 0 v.sent q.vc + pktUnits q) % 4096) }
  if k.llr n then
    let k := k.setPort false n { v with kept := v.kept ++ [(next, q)] }
    (k.setRf .LNK_STAT 31 16 n [] ((next + 1) % 2 ^ 16)).laneHeader n q next
  else (k.setPort false n v).laneHeader n q 0

/-- A bridge port takes a new packet (R440). -/
def Block.bridgeTakes (k : Block) (n : Nat) (q : Packet) : Bool :=
  k.portUp true n && (decide (q.vc < 2) || decide (pktUnits q ≤ (k.port true n).credits true q.vc))

/-- A new packet goes out over a bridge port (R438, R440). -/
def Block.bridgeSend (k : Block) (n : Nat) (q : Packet) : Block :=
  let v := k.port true n
  let v := if q.vc < 2 then v else { v with sent := put 0 v.sent q.vc ((look 0 v.sent q.vc + pktUnits q) % 4096) }
  (k.setPort true n v).send (.bridgePacket n q)

/-- Units of a receive FIFO (R456). -/
def rxCapacity : Nat := 130

/-- The receive FIFO behind output L or C (`toC`) has room for a packet (R456); one that R473 refuses there needs none. -/
def Block.fifoTakes (k : Block) (d : Build) (b : Nat) (toC : Bool) (q : Packet) : Bool :=
  k.refusedAt d b toC q ||
  decide (((k.rxQueue b (if toC then 2 else rxOfLocal q)).map pktUnits).sum + pktUnits q ≤ rxCapacity)

/-- Output `p` can take the first unit of a packet: a hop credit, room in the receive FIFO, or the port's conditions (R144,
R152, R430, R456). -/
def Block.outputTakes (k : Block) (d : Build) (b p : Nat) (q : Packet) : Bool :=
  match beyond d b p with
  | .unconnected => false
  | .brick _ _ => decide (0 < k.credits b p)
  | .ni => k.fifoTakes d b false q
  | .reducer => k.fifoTakes d b true q
  | .lane n => k.laneTakes n q
  | .bridge n => k.bridgeTakes n q

/-- FCLK for which a packet holds an output (R14): one a unit, or on lanes its unit times. -/
def Block.holdTime (k : Block) (d : Build) (b p : Nat) (q : Packet) : Nat :=
  match beyond d b p with
  | .lane n => ceilDiv (pktUnits q * unitTime (k.activeLanes n) * 12) (5 * 2 ^ 20)
  | _ => pktUnits q

/-- The output is free at this FCLK (R14): no packet that started on it has units left. -/
def Block.outputFree (k : Block) (d : Build) (b p : Nat) : Bool :=
  decide (look 0 k.net.busy (b * 8 + p) ≤ k.clk.now) && !k.stalled d b p

/-- Units of a packet that find a hop credit at output `p` as it starts there; behind any other output none wait for one. -/
def Block.unitsTaken (k : Block) (d : Build) (b p : Nat) (q : Packet) : Nat :=
  match beyond d b p with
  | .brick c _ => if k.isolated c then pktUnits q else min (k.credits b p) (pktUnits q)
  | _ => pktUnits q

/-- The units of a shared-plane packet count in BUSY of its output, while maps are gathered (R531). -/
def Block.countCarried (k : Block) (b p : Nat) (q : Packet) : Block :=
  if flag (k.reg .PRB_CMCTL) 63 && decide (2 ≤ q.vc) then
    { k with hlth.carried := put 0 k.hlth.carried (b * 8 + p) (look 0 k.hlth.carried (b * 8 + p) + pktUnits q) }
  else k

/-- A packet that came by input `inp` crosses output `p`: the probes see it, the output is held, and the packet reaches
what stands behind the output, its other units standing in the chains `behind`. An isolated brick discards it (R493). -/
def Block.cross (k : Block) (d : Build) (b inp p : Nat) (q : Packet) (behind : List (Nat × Nat) := []) : Block :=
  let k := { k with net.busy := put 0 k.net.busy (b * 8 + p) (k.clk.now + k.holdTime d b p q) }
  let k := (k.probe d b p true q).countCarried b p q
  match beyond d b p with
  | .unconnected => k
  | .brick c i =>
    if k.isolated c then k
    else
      let n := k.unitsTaken d b p q
      (k.setCredits b p (k.credits b p - n)).setChain c i
        (k.chainOf c i ++ [{ pkt := q, units := n, behind := behind }])
  | .ni => k.toEndpoint d b inp false q
  | .reducer => k.toEndpoint d b inp true q
  | .lane n => k.laneSend n q
  | .bridge n => k.bridgeSend n q

/-- The packet at a place of an input owes nothing more when it has been sent on `outs`. -/
def Block.leavesBy (k : Block) (b inp idx : Nat) (outs : List Nat) : Option Chained :=
  if inp = 4 ∨ inp = 5 then none
  else match (k.chainOf b inp)[idx]? with
    | some x => if (x.owed.getD []).all fun p => outs.contains p then some x else none
    | none => none

/-- The packet at a place of an input has been sent on `outs`, the last of which has taken all but `keep` of its units; it
leaves its place when it owes nothing more. -/
def Block.sentOn (k : Block) (d : Build) (b inp idx : Nat) (outs : List Nat) (keep : Nat := 0) : Block :=
  if inp = 4 ∨ inp = 5 then
    let l := k.stagedAt b inp
    match l[idx]? with
    | none => k
    | some x =>
      let o := (x.owed.getD []).filter fun p => !outs.contains p
      k.setStaged b inp (if o.isEmpty then l.eraseIdx idx else l.set idx { x with owed := some o, fixed := true })
  else
    let l := k.chainOf b inp
    match l[idx]? with
    | none => k
    | some x =>
      let o := (x.owed.getD []).filter fun p => !outs.contains p
      if o.isEmpty then k.leaveChain d b inp idx keep
      else k.setChain b inp (l.set idx { x with owed := some o })

/-- A head starts on outputs in one FCLK (R14, R111, R152). When it leaves a chain, the units that find no place behind its
last output stay in that chain and those behind it. -/
def Block.startOn (k : Block) (d : Build) (b : Nat) (h : Head) (outs : List Nat) : Block :=
  match k.leavesBy b h.inp h.idx outs, outs.getLast? with
  | some x, some o =>
    let keep := pktUnits h.pkt - k.unitsTaken d b o h.pkt
    let behind := ((unitsBehind keep ((b * 8 + h.inp, x.units) :: x.behind)).1).filter fun y => y.2 != 0
    let k := k.sentOn d b h.inp h.idx outs keep
    (outs.dropLast.foldl (fun k p => k.cross d b h.inp p h.pkt) k).cross d b h.inp o h.pkt behind
  | _, _ =>
    outs.foldl (fun k p => k.cross d b h.inp p h.pkt) (k.sentOn d b h.inp h.idx outs)

/-! ### The injection points go on (R159) -/

/-- The channels of a brick that hold a message to be staged. -/
def Block.channelsToStart (k : Block) (b : Nat) : List Nat :=
  (k.mq.chan.filter fun x => x.1 / 1024 == b && x.2.unacked.any fun m => m.sent.isNone || m.again).map fun x => x.1 % 1024

/-- The subscribers of a brick whose staged packets have left offer their next (R148, R159): its slots, its engines and other
sources, its channels. -/
def Block.pumpNi (k : Block) (e : Env) (b : Nat) : Block :=
  let k := (k.pumpSlots e.build b).pumpEngines e b
  (k.channelsToStart b).foldl (fun k c => k.startMsgs e.build b c 64) k

/-- After a decision at input `p`: a staged packet may have been discarded. -/
def Block.pumpAt (k : Block) (e : Env) (b p : Nat) : Block := if p = 4 ∨ p = 5 then k.pumpNi e b else k

/-! ### Routing commands (R87, R88, R187) -/

/-- ROUTE_SOURCE (R87). -/
def execRouteSource (b p : Nat) (err : RxError) (s : State) : Host.Outcome State Fault Refusal :=
  let d := s.env.build
  s.run (brickOk d b && decide (p < 8)) fun k =>
    (k.routeHead d b p err (fun q => !q.mcast && q.rmode == 0) fun k q => k.routeSource d b p q).pumpAt s.env b p

/-- ROUTE_COORDINATE (R88). -/
def execRouteCoordinate (b p : Nat) (err : RxError) (s : State) : Host.Outcome State Fault Refusal :=
  let d := s.env.build
  s.run (brickOk d b && decide (p < 8)) fun k =>
    (k.routeHead d b p err (fun q => !q.mcast && q.rmode != 0) fun k q => k.routeCoordinate d b p q).pumpAt s.env b p

/-- MCAST_REPLICATE (R187). -/
def execMcastReplicate (b p : Nat) (err : RxError) (s : State) : Host.Outcome State Fault Refusal :=
  let d := s.env.build
  s.run (brickOk d b && decide (p < 8)) fun k =>
    (k.routeHead d b p err (fun q => q.mcast) fun k q => k.replicate d b p q).pumpAt s.env b p

/-! ### Shared arbitration (R144) -/

/-- All units of the head are held in the lane port behind output `p` (R133, R422); any other output needs none. -/
def Block.heldIn (k : Block) (d : Build) (b p : Nat) (h : Head) : Bool :=
  match beyond d b p with
  | .lane _ => decide (h.ready ≤ k.clk.now)
  | _ => true

/-- The head may start on output `p` now. -/
def Block.isCandidate (k : Block) (d : Build) (b p : Nat) (h : Head) : Bool :=
  k.passesShaper .SHW_SVC b [p, h.pkt.vc - 2] && k.fits d b p h.pkt.len && k.outputTakes d b p h.pkt &&
  k.heldIn d b p h

/-- The finish tag of service `s` at an output for a head (R145). -/
def Block.svcFinish (k : Block) (b p s : Nat) (h : Head) : Nat :=
  let (st, w, _) := (look none k.net.headStart (svcKey b p s)).getD (0, k.rf .SHW_SVC 7 0 b [p, s], 0, none)
  finishTag st (pktUnits h.pkt) w

/-- The subscriber level takes the start (R148): the tag and the shaper in the FCLK in which the packet starts, on the first
of its outputs; the head of the service goes to another when the packet leaves its injection point (the model's choice for
a packet of several outputs, log 101). -/
def Block.subscriberStart (k : Block) (b : Nat) (h : Head) : Block :=
  match h.sub with
  | none => k
  | some u =>
    let s := h.pkt.vc - 2
    let i := h.inp - 4
    let k :=
      if h.begun then k
      else
        let f := k.subFinish b s (u, pktUnits h.pkt)
        let k := { k with
          net.subTag := put 0 k.net.subTag (subKey b s u) f
          net.subVtime := put 0 k.net.subVtime ((b * 2 + i) * 8 + s) f }
        k.chargeShaper .SHW_SUB b [u] (pktUnits h.pkt)
    if 1 < h.owed.length then k
    else { k with
      net.subStart := put none k.net.subStart (subKey b s u) none
      net.offered := put none k.net.offered ((b * 2 + i) * 8 + s) none }

/-- The chosen head starts (R144, R145, R149). -/
def Block.startShared (k : Block) (d : Build) (b p : Nat) (h : Head) : Block :=
  let s := h.pkt.vc - 2
  let f := k.svcFinish b p s h
  let k := { k with
    net.ftag := put 0 k.net.ftag (svcKey b p s) f
    net.vtime := put 0 k.net.vtime (b * 8 + p) f
    net.headStart := put none k.net.headStart (svcKey b p s) none
    net.rrobin := put 0 k.net.rrobin (svcKey b p s) h.inp }
  let k := (k.chargeShaper .SHW_SVC b [p, s] (pktUnits h.pkt)).subscriberStart b h
  k.startOn d b h [p]

/-- The decision of R144 at an output in a shared window: the candidate of each service by round-robin, then the service
with the smallest finish tag. -/
def Block.arbitrate (k : Block) (d : Build) (b p : Nat) : Block :=
  let k := k.refreshTags b p
  let cands := (List.range 6).filterMap fun s =>
    (k.roundRobin b p s ((k.headsFor b p s).filter fun h => k.isCandidate d b p h)).map fun h => (s, h)
  match cands with
  | [] => k
  | x :: r =>
    let tag := fun (y : Nat × Head) => (y.1, k.svcFinish b p y.1 y.2)
    let win := r.foldl (fun acc y => if firstTag (tag acc) (tag y) = tag acc then acc else y) x
    k.startShared d b p win.2

/-- A replayed packet goes out ahead of any new one, in whatever window is current (R27, R428). -/
def Block.replayNext (k : Block) (d : Build) (b p n : Nat) : Block :=
  let v := k.port false n
  match v.replay with
  | [] => k
  | q :: r =>
    match v.kept.find? fun x => x.1 == q with
    | none => k.setPort false n { v with replay := r }
    | some x =>
      if k.portUp false n && !flag (k.reg .LNK_STAT n) 50 && !v.burst && k.fits d b p x.2.len then
        let k := { k with net.busy := put 0 k.net.busy (b * 8 + p) (k.clk.now + k.holdTime d b p x.2) }
        (k.setPort false n { v with replay := r }).laneHeader n x.2 q
      else k

/-- The lane port behind an output that has packets to replay. -/
def Block.replays (k : Block) (d : Build) (b p : Nat) : Option Nat :=
  match beyond d b p with
  | .lane n => if (k.port false n).replay.isEmpty then none else some n
  | _ => none

/-- A packet routed to `outs` leaves place `idx` of input `inp` without having started: where it was the head of its service,
the next packet takes its start tag as it becomes the head (R145, R146). -/
def Block.headLost (k : Block) (b inp idx vc : Nat) (outs : List Nat) : Block :=
  if vc < 2 then k
  else outs.foldl (fun k p =>
    match k.roundRobin b p (vc - 2) (k.headsFor b p (vc - 2)) with
    | some h =>
      if h.inp = inp ∧ h.idx = idx then { k with net.headStart := put none k.net.headStart (svcKey b p (vc - 2)) none }
      else k
    | none => k) k

/-- A head routed to an exit that is no longer up is discarded and answered (R174). -/
def Block.dropAtExit (k : Block) (d : Build) (b p : Nat) : Block :=
  let k := (List.range 2).foldl (fun k i => (List.range 6).foldl (fun k s => k.offerWinner b i s) k) k
  match ((List.range 6).flatMap fun s => k.headsFor b p s).head? with
  | some h =>
    let k := (k.headLost b h.inp h.idx h.pkt.vc [p]).sentOn d b h.inp h.idx [p]
    let k := if h.owed.length = 1 then k.subLost b (h.inp - 4) h.pkt.vc h.sub else k
    (k.bump .BRK_RTERR 31 16 b).answerError d b h.pkt stNoRoute
  | none => k

/-- SHARED_ARBITRATE (R144). -/
def execSharedArbitrate (b p : Nat) (s : State) : Host.Outcome State Fault Refusal :=
  let d := s.env.build
  s.run (brickOk d b && decide (p < 8)) fun k =>
    if k.isolated b || !k.outputFree d b p then k
    else match k.replays d b p with
      | some n => k.replayNext d b p n
      | none =>
        let w := k.windowKind d b p
        if w ≠ .shared ∧ w ≠ .closing then k
        else if k.exitDown d b p then (k.dropAtExit d b p).pumpNi s.env b
        else (k.arbitrate d b p).pumpNi s.env b

/-! ### Scheduled starts (R99, R111 to R113, R189) -/

/-- The scheduled packet of a flow that stands at an input for output `p`: any staged packet at an injection point, the
head elsewhere. -/
def Block.scheduledHead (k : Block) (b inp p flow : Nat) : Option Head :=
  if inp = 4 ∨ inp = 5 then
    if k.net.injStop then none
    else stagedHead inp (k.stagedAt b inp) fun x =>
      decide (x.pkt.vc < 2) && x.pkt.flow == flow && (x.owed.getD []).contains p
  else match (k.chainOf b inp).head? with
    | some x =>
      if x.pkt.vc < 2 ∧ x.pkt.flow = flow ∧ (x.owed.getD []).contains p = true then
        some { inp := inp, idx := 0, pkt := x.pkt, owed := x.owed.getD [], ready := x.ready }
      else none
    | none => none

/-- A scheduled packet's outputs match the window of output `p` (R99, R189): each is in a CONNECT window with this input
and flow and the packet fits there; a replicated packet's outputs and the fenced ones of RMASK are RMASK. -/
def Block.inWindow (k : Block) (d : Build) (b p inp : Nat) (q : Packet) (outs : List Nat) : Bool :=
  let v := k.windowNow d b p
  k.windowKind d b p == .connect && v.inp == inp && v.flow == q.flow && outs.contains p &&
  (!q.mcast || (List.range 8).all fun o =>
    v.rmask.testBit o == (outs.contains o || (v.rmask.testBit o && k.fencedOut b o))) &&
  outs.all fun o =>
    let u := k.windowNow d b o
    k.windowKind d b o == .connect && u.inp == inp && u.flow == q.flow && k.fits d b o q.len

/-- A scheduled packet's outputs match and no packet holds any of them. -/
def Block.matchesWindow (k : Block) (d : Build) (b p inp : Nat) (q : Packet) (outs : List Nat) : Bool :=
  k.inWindow d b p inp q outs && outs.all fun o => k.outputFree d b o

/-- SCHEDULED_START (R111): the packet starts on every output of its replica set in one FCLK. -/
def Block.startScheduled (k : Block) (d : Build) (b p : Nat) : Block :=
  let v := k.windowNow d b p
  match k.scheduledHead b v.inp p v.flow with
  | some h =>
    if k.matchesWindow d b p h.inp h.pkt h.owed && h.owed.all (fun o => k.outputTakes d b o h.pkt && k.heldIn d b o h) then
      k.startOn d b h h.owed
    else k
  | none => k

/-- SCHEDULED_START (R111). -/
def execScheduledStart (b p : Nat) (s : State) : Host.Outcome State Fault Refusal :=
  let d := s.env.build
  s.run (brickOk d b && decide (p < 8)) fun k =>
    if k.isolated b || !k.outputFree d b p then k
    else match k.replays d b p with
      | some n => k.replayNext d b p n
      | none => (k.startScheduled d b p).pumpNi s.env b

/-- A scheduled packet at the head of input `p` waits for a window or a credit (R112, R153). -/
def Block.misses (k : Block) (d : Build) (b p : Nat) (x : Chained) : Bool :=
  let outs := x.owed.getD (k.outputsOf d b p x.pkt)
  match outs with
  | [] => true
  | o :: _ => !(k.inWindow d b o p x.pkt outs && outs.all fun o => k.outputTakes d b o x.pkt)

/-- MISSBOUND_EXPIRY (R112): the scheduled head of an input fed by a link, whose window has not come, is discarded whole. -/
def execMissboundExpiry (b p : Nat) (s : State) : Host.Outcome State Fault Refusal :=
  let d := s.env.build
  s.run (brickOk d b && decide (p < 8)) fun k =>
    if p = 4 ∨ p = 5 then k
    else match k.chainOf b p with
      | x :: _ =>
        if x.pkt.vc < 2 ∧ k.misses d b p x = true then (k.leaveChain d b p 0).bump .CRS_ERR 63 48 b else k
      | [] => k

/-- HOLD_QUEUE_RELEASE (R113): the head's output is in a matching window in which it fits, and its input has room (R159). -/
def execHoldQueueRelease (b p : Nat) (s : State) : Host.Outcome State Fault Refusal :=
  let d := s.env.build
  s.run (brickOk d b && isExit d b p) fun k =>
    match look [] k.net.hold (b * 8 + p) with
    | q :: r =>
      let outs := k.outputsOf d b p q
      match outs with
      | o :: _ =>
        if k.inWindow d b o p q outs && decide (chainUnits (k.chainOf b p) < 4) then
          let x : Chained := { pkt := q, units := roomFor (k.chainOf b p) q }
          ({ k with net.hold := put [] k.net.hold (b * 8 + p) r }).setChain b p (k.chainOf b p ++ [x])
        else k
      | [] => k
    | [] => k

/-- HOLD_QUEUE_EXPIRY (R113): the head has waited 4,800 FCLK. -/
def execHoldQueueExpiry (b p : Nat) (s : State) : Host.Outcome State Fault Refusal :=
  let d := s.env.build
  s.run (brickOk d b && isExit d b p) fun k =>
    match look [] k.net.hold (b * 8 + p) with
    | _ :: r => ({ k with net.hold := put [] k.net.hold (b * 8 + p) r }).bump .CRS_ERR 47 32 b
    | [] => k

/-- HEADMAX_EXPIRY (R458): a shared-plane header that has stood HEADMAX µs at an input fed by a link or an edge port is
discarded with its packet and counted. -/
def execHeadmaxExpiry (b p : Nat) (s : State) : Host.Outcome State Fault Refusal :=
  let d := s.env.build
  s.run (brickOk d b && decide (p < 8)) fun k =>
    if p = 4 ∨ p = 5 then k
    else match k.chainOf b p with
      | x :: _ =>
        if x.pkt.vc < 2 then k
        else ((k.headLost b p 0 x.pkt.vc (x.owed.getD [])).leaveChain d b p 0).bump .BRK_FLT 31 16 b
      | [] => k

/-! ### Fences (R191 to R193) -/

/-- A packet that was routed to output `p` before its FENCE bit was set meets the fence (R192, R193). -/
def Block.meetsFence (k : Block) (d : Build) (b p : Nat) (q : Packet) : Block :=
  if q.mcast then
    match k.treeEntry b q.group with
    | some i => k.fenceDrop d b i p q
    | none => k.bump .BRK_RTERR 63 48 b
  else (k.bump .BRK_RTERR 63 48 b).answerError d b q stFenced

/-- The first packet at input `inp` that is routed to output `p` and has not started there, if any, is dropped there. -/
def Block.fenceNext (k : Block) (d : Build) (b inp p : Nat) : Block :=
  let for_ (o : Option (List Nat)) : Bool := (o.getD []).contains p
  let rest (o : Option (List Nat)) : List Nat := (o.getD []).filter fun x => x != p
  if inp = 4 ∨ inp = 5 then
    match (k.stagedAt b inp).findIdx? fun x => for_ x.owed with
    | none => k
    | some i => match (k.stagedAt b inp)[i]? with
      | none => k
      | some x =>
        let k := k.headLost b inp i x.pkt.vc [p]
        let k := if (rest x.owed).isEmpty then k.unstage b inp i x
          else k.setStaged b inp ((k.stagedAt b inp).set i { x with owed := some (rest x.owed) })
        k.meetsFence d b p x.pkt
  else
    match (k.chainOf b inp).findIdx? fun x => for_ x.owed with
    | none => k
    | some i => match (k.chainOf b inp)[i]? with
      | none => k
      | some x =>
        let k := k.headLost b inp i x.pkt.vc [p]
        let k := if (rest x.owed).isEmpty then k.leaveChain d b inp i
          else k.setChain b inp ((k.chainOf b inp).set i { x with owed := some (rest x.owed) })
        k.meetsFence d b p x.pkt

/-- A FENCE bit is set: no packet starts on the output any more (R191), and those routed to it are dropped. -/
def Block.fenceOutput (k : Block) (d : Build) (b p : Nat) : Block :=
  (List.range 8).foldl (fun k inp =>
    (List.range (if inp = 4 ∨ inp = 5 then (k.stagedAt b inp).length else (k.chainOf b inp).length)).foldl
      (fun k _ => k.fenceNext d b inp p) k) k

/-- A write of BRK_RTCTL (R191, R198, R320, R467): a write that sets a FENCE bit drops what waits for the output and starts
an episode, and slots that wait behind a fenced input fault. -/
def Block.writeRtctl (k : Block) (e : Env) (b : Nat) (v : Word) : Block :=
  let d := e.build
  let old := k.rf .BRK_RTCTL 7 0 b
  let new := fld v 7 0
  let set_ := (List.range 8).filter fun p => new.testBit p && !old.testBit p
  let k := k.applyWrite .BRK_RTCTL b [] v
  if set_.isEmpty then (List.range 64).foldl (fun k sl => k.checkFence d b sl) k
  else
    let k := set_.foldl (fun k p => k.fenceOutput d b p) k.episode
    ((List.range 64).foldl (fun k sl => k.checkFence d b sl) k).pumpNi e b

/-- FENCE_BITS_WRITE (R191): the word written to BRK_RTCTL takes effect from the next FCLK on. -/
def execFenceBitsWrite (b : Nat) (v : Word) (s : State) : Host.Outcome State Fault Refusal :=
  s.access (brickOk s.env.build b) b .mp fun k => (k.writeLate (.rtctl b v)).answerWrite b .mp

/-- SHAPER_WRITE (R150): a write at the window address of an SHW_SVC or SHW_SUB word. -/
def shaperAt (addr : Nat) : Option (RegName × Nat × List Nat) :=
  if addr < 0x01000000 ∨ 0x02000000 ≤ addr ∨ addr % 8 ≠ 0 then none
  else
    let b := (addr - 0x01000000) / 0x10000
    let o := addr % 0x10000
    if 0x400 ≤ o ∧ o < 0x400 + 8 * 0x30 then
      let i := (o - 0x400) / 8
      some (.SHW_SVC, b, [i / 6, i % 6])
    else if 0x7000 ≤ o ∧ o < 0x7000 + 1104 * 8 then some (.SHW_SUB, b, [(o - 0x7000) / 8])
    else none

/-- SHAPER_WRITE (R150). -/
def execShaperWrite (addr : Nat) (v : Word) (s : State) : Host.Outcome State Fault Refusal :=
  let x := shaperAt addr
  s.access (match x with | some y => brickOk s.env.build y.2.1 | none => false) 0 .mp fun k =>
    match x with
    | some (r, b, ix) => (k.writeShaper r b ix v).answerWrite 0 .mp
    | none => k

end Sys2Proof.Machine
end

