-- ==== Sys2Proof/Machine/Boundary.lean ====
section
/-!
DEFINITION. Time goes on: FCLK that pass, the windows that open (R104, R107, R132), and course boundaries (R96).
-/

namespace Sys2Proof.Machine

/-- A write of the FCLK that ended applies (R191, R231). -/
def Block.applyWriteLate (k : Block) (e : Env) : LateWrite → Block
  | .bind b t v => k.applyWrite .TRK_BIND b [t] v
  | .rbase b r v => k.writeRbase b r v
  | .ridx b r v => k.writeRidx b r v
  | .rtctl b v => k.writeRtctl e b v

/-- The writes that apply from this FCLK on apply, in their order. -/
def Block.applyLate (k : Block) (e : Env) : Block :=
  k.late.foldl (fun k w => k.applyWriteLate e w) { k with late := [] }

/-- `n` FCLK pass (R118); the FCLK of the course boundary is `Block.boundary`'s. Writes that apply from the next
FCLK on apply when it comes. -/
def Block.pass (k : Block) (e : Env) (n : Nat) : Block :=
  let n := min n (k.clk.toBoundary - 1)
  let k := if n = 0 then k else k.applyLate e
  { k with clk.cyc := k.clk.cyc + n, clk.now := k.clk.now + n, clk.phase := k.clk.phase + n * k.clk.inc }.drainTrace k.mclk

/-- Pass FCLK until cycle `c` of the course. -/
def Block.reachCycle (k : Block) (e : Env) (c : Nat) : Block := k.pass e (c - k.clk.cyc)

/-- Pass FCLK until CPHASE reaches `u` units of 10 ns. -/
def Block.reachPhase (k : Block) (e : Env) (u : Nat) : Block :=
  k.pass e (ceilDiv (u * 10 * 2 ^ 40 - k.clk.phase) (max 1 k.clk.inc))

/-- The window at which the sequencer of an output stands opens in the course that runs: it is of that course, and the
boundary does not come before it (R107, R115). -/
def Block.windowComes (k : Block) (d : Build) (b p : Nat) : Bool :=
  let v := k.seqOf b p
  !v.ahead && decide (traceSlots ((k.traceNow b p).take v.at_) <
    (if timeTimed d b p then 200 else k.clk.cyc + k.clk.toBoundary))

/-- A window opens (R104, R107, R132): time has come to it, and the SYNC adds owed apply. The windows of the course to
come wait for its boundary, and a window that the boundary comes before does not open (R115). -/
def Block.openWindow (k : Block) (e : Env) (b p : Nat) : Block :=
  let v := k.seqOf b p
  if k.windowComes e.build b p then
    let start := traceSlots ((k.traceNow b p).take v.at_)
    let k := if timeTimed e.build b p then k.reachPhase e start else k.reachCycle e start
    let k := v.owed.foldl (fun k x => k.counterAdd b x.1 x.2) k
    k.setSeq b p { v with at_ := v.at_ + 1, owed := [] }
  else k

/-- CONNECT (R99). -/
def execConnect (b p : Nat) (s : State) : Host.Outcome State Fault Refusal :=
  let d := s.env.build
  s.run (brickOk d b && decide (p < 8)) fun k =>
    match k.courseNext d b p with
    | some (_, .connect _ _ _ _) => k.openWindow s.env b p
    | _ => k

/-- IDLE (R100). -/
def execIdle (b p : Nat) (s : State) : Host.Outcome State Fault Refusal :=
  let d := s.env.build
  s.run (brickOk d b && decide (p < 8)) fun k =>
    match k.courseNext d b p with
    | some (_, .idle _) => k.openWindow s.env b p
    | _ => k

/-- SHARED (R100). -/
def execShared (b p : Nat) (s : State) : Host.Outcome State Fault Refusal :=
  let d := s.env.build
  s.run (brickOk d b && decide (p < 8)) fun k =>
    match k.courseNext d b p with
    | some (_, .shared n) => if n = 0 then k else k.openWindow s.env b p
    | _ => k

/-- CLOSING_WINDOW (R101). -/
def execClosingWindow (b p : Nat) (s : State) : Host.Outcome State Fault Refusal :=
  let d := s.env.build
  s.run (brickOk d b && decide (p < 8)) fun k =>
    match k.courseNext d b p with
    | some (_, .shared n) => if n = 0 then k.openWindow s.env b p else k
    | _ => k

/-! ### The boundary (R96, R114, R115) -/

/-- A course boundary (R96): time goes on to it, and every brick begins a new course in that FCLK. -/
def Block.boundary (k : Block) (e : Env) (slack : List (Nat × Nat × Nat)) : Block :=
  let d := e.build
  let n := k.clk.course
  let fclks := k.clk.cyc + k.clk.toBoundary
  let k := k.applyLate e
  let k := k.countShared d n fclks
  let starts := k.startsAt (n + 1)
  let k := { k with clk := k.clk.toNext, net.injStop := false }.drainTrace k.mclk
  let k := match k.clk.setHeld with
    | none => k
    | some v =>
      let k := { k with clk.setHeld := none }
      if k.img.run || starts then k.lockVio else { k with clk.course := v }
  let k := ((bricks d).filter fun b => !k.isolated b).foldl (fun k b => (List.range 8).foldl (fun k p => k.seqBoundary d n fclks b p) k) k
  let k := { k with prog.ticks := [] }
  let back := (List.range d.lanePorts).foldl (fun (l : Store Nat) n => put 0 l n (k.laneBacklog d n)) []
  let occ := (k.mq.queue.filter fun x => !x.2.msgs.isEmpty).map fun x => (x.1, x.2.msgs.length)
  let k := { k with
    net.backlog := back, net.sprayS := [], gpd.occ := occ, gpd.steered := [], net.holdLeft := k.net.holdLeft - 1 }
  ((((k.missedSample d).wakeDomains e).takeBacklog d).takeSlack d slack)

/-- COURSE_BOUNDARY (R96): the course that ends has lasted `fclks` FCLK, and `slack` is what the timing monitors measured in
it (R512). The boundary falls where the course clock carries (R117); a command that names another FCLK finds none (log 6). -/
def execCourseBoundary (fclks : Nat) (slack : List (Nat × Nat × Nat)) (s : State) : Host.Outcome State Fault Refusal :=
  s.run true fun k => if fclks = k.clk.cyc + k.clk.toBoundary then k.boundary s.env slack else k

/-- One FCLK passes with no command (R118): the course clock gains INC, and carries into the next course in the FCLK of
the boundary. -/
def Block.tick (k : Block) (e : Env) : Block := if k.clk.toBoundary = 1 then k.boundary e [] else k.pass e 1

end Sys2Proof.Machine
end

