-- ==== Sys2Proof/Machine/Links.lean ====
section
/-!
DEFINITION. The states of lane and bridge links (R427, R439), what leaving UP brings about (R461, R464, R467), lane
retirement (R436), active sets (R435), and the operations of link-level retry (R428) and link credits (R430).
-/

namespace Sys2Proof.Machine

/-! ### Link states -/

def linkDownCode : Nat := 0
def linkTraining : Nat := 1
def linkInit : Nat := 2

/-- State of a link (R427, R439). -/
def Block.linkState (k : Block) (bridge : Bool) (n : Nat) : Nat :=
  if bridge then k.rf .D2D_STAT 1 0 0 [n] else k.rf .LNK_STAT 49 48 n

/-- A link changes state: a LINK entry of the black box (R533) and the LINK interrupt (R574). -/
def Block.setLink (k : Block) (bridge : Bool) (n st : Nat) : Block :=
  if k.linkState bridge n = st then k
  else
    let k := if bridge then k.setRf .D2D_STAT 1 0 0 [n] st else k.setRf .LNK_STAT 49 48 n [] st
    (k.boxPost { kind := 6, arg0 := b2n bridge * 64 + n, arg1 := st }).irq 6

/-- The port is marked retired (R479). -/
def Block.portRetired (k : Block) (bridge : Bool) (n : Nat) : Bool :=
  if bridge then flag (k.reg .GLB_PORTRET1) n else flag (k.reg .GLB_PORTRET0) n

/-- EN of a port. -/
def Block.portEnabled (k : Block) (bridge : Bool) (n : Nat) : Bool :=
  if bridge then flag (k.reg .D2D_CTL 0 [n]) 0 else flag (k.reg .LNK_CTL n) 0

/-- The brick of a port is isolated: its ports are held in DOWN (R493). -/
def Block.portIsolated (k : Block) (d : Build) (bridge : Bool) (n : Nat) : Bool :=
  match exitOf d bridge n with
  | some (b, _) => k.isolated b
  | none => false

/-- The port is the time-sync source of its die (R129). -/
def Block.timeSource (k : Block) (bridge : Bool) (n : Nat) : Bool :=
  k.rf .TIM_CTL 1 0 == (if bridge then 2 else 3) && k.rf .TIM_CTL 13 8 == n

/-- A port is retired as a permanent classification does (R461, R462, R464). -/
def Block.markPort (k : Block) (bridge : Bool) (n : Nat) : Block :=
  if k.portRetired bridge n then k
  else
    let k := if bridge then k.setBit .GLB_PORTRET1 n else k.setBit .GLB_PORTRET0 n
    let k := k.permanent (if bridge then 4 else 3) n 0
    if k.timeSource bridge n && (k.clk.st == .tracking || k.clk.st == .locked) then k.enterTime .holdover else k

/-- A port leaves UP for DOWN (R461, R467): the DOWN entry, the episode, and the exits counted within 1 s. -/
def Block.portExit (k : Block) (bridge : Bool) (n : Nat) : Block :=
  let k := (k.faultLog 3 (if bridge then 4 else 3) n 0).episode
  let (m, h) := k.failures k.flt.portHist (portKey bridge n) 1000000
  let k := { k with flt.portHist := h }
  if k.rf .GLB_FLTCTL 39 36 ≤ m then k.markPort bridge n else k

/-! ### Lanes -/

/-- Receive state of a lane (R426). -/
def Block.laneState (k : Block) (p l : Nat) : Nat := k.rf .LN_STAT 63 61 p [l]

/-- Set the receive state of a lane. -/
def Block.setLaneState (k : Block) (p l st : Nat) : Block := k.setRf .LN_STAT 63 61 p [l] st

def laneOff : Nat := 0
def laneTrain : Nat := 1
def laneHunt : Nat := 2
def laneLocked : Nat := 3
def laneIdle : Nat := 4
def laneExit : Nat := 5

/-- The lane is retired (R436). -/
def Block.laneRetired (k : Block) (p l : Nat) : Bool := flag (k.reg .LN_CTL p [l]) 0

/-- The lanes of a port that are not retired. -/
def Block.lanesOf (k : Block) (p : Nat) : List Nat := (List.range 4).filter fun l => !k.laneRetired p l

/-- What a lane holds beside LN_STAT. -/
def Block.laneRx (k : Block) (p l : Nat) : LaneRx := look {} k.lnk.lane (p * 4 + l)

/-- Replace it. -/
def Block.setLaneRx (k : Block) (p l : Nat) (v : LaneRx) : Block :=
  { k with lnk.lane := put {} k.lnk.lane (p * 4 + l) v }

/-- A lane enters TRAIN (R426). -/
def Block.enterTrain (k : Block) (p l : Nat) (retrain : Bool) : Block :=
  (k.setLaneState p l laneTrain).setLaneRx p l { retrain := retrain }

/-- A lane is switched off. -/
def Block.laneToOff (k : Block) (p l : Nat) : Block := (k.setLaneState p l laneOff).setLaneRx p l {}

/-- The mask of a list of lanes. -/
def laneMask (l : List Nat) : Nat := (l.map fun i => 2 ^ i).sum

/-- Receive active set (R416). -/
def Block.rxSet (k : Block) (p : Nat) : Nat := k.rf .LNK_STAT 59 56 p
/-- Transmit active set. -/
def Block.txSet (k : Block) (p : Nat) : Nat := k.rf .LNK_STAT 55 52 p

/-- Mortar is enumerated: training may begin (R503). -/
def Block.enumerated (k : Block) : Bool := k.rf .GLB_MORTAR 8 0 != 0

/-- A lane port may train: mortar enumerated, enabled, not retired, its brick not isolated, a lane left (R427, R464, R493,
R503). -/
def Block.mayTrain (k : Block) (d : Build) (p : Nat) : Bool :=
  k.enumerated && k.portEnabled false p && !k.portRetired false p && !k.portIsolated d false p && !(k.lanesOf p).isEmpty

/-- A lane port leaves DOWN (R427): every lane not retired enters TRAIN, and the handshake of its FIFO
starts (R497). -/
def Block.leaveDown (k : Block) (d : Build) (p : Nat) : Block :=
  if k.linkState false p = linkDownCode ∧ k.mayTrain d p = true then
    (k.lanesOf p).foldl (fun k l => (k.enterTrain p l false).handshake (.lane p l)) (k.setLink false p linkTraining)
  else k

/-- A lane port goes to DOWN (R427): what an exit from UP brings, the retry buffer dropped, sequence numbers, credits
and sets cleared; it trains again while it may. -/
def Block.laneDown (k : Block) (d : Build) (p : Nat) : Block :=
  let st := k.linkState false p
  let k := if linkInit ≤ st then k.bump .LNK_ERR 15 8 p else k
  let k := k.setLink false p linkDownCode
  let k := if st = linkUpCode then k.portExit false p else k
  let k := k.setPort false p { stale := (k.rxBuffer false p).length, answered := (k.port false p).answered }
  let k := (k.setRf .LNK_STAT 59 50 p [] 0).setRf .LNK_STAT 43 0 p [] 0
  let k := k.setRf .LNK_PEER 0 0 p [] 0
  let k := (List.range 4).foldl (fun k l => k.laneToOff p l) k
  k.leaveDown d p

/-- A transmit direction leaves electrical idle (R434). -/
def Block.wakeTx (k : Block) (n : Nat) : Block :=
  if flag (k.reg .LNK_STAT n) 50 then
    ((k.setRf .LNK_STAT 50 50 n [] 0).mapPort false n fun v => { v with bursts := v.bursts ++ [true] }).send (.burst n)
  else k

/-- A receiving end asks for a new active set (R435), over a transmit direction that wakes for it (R433, R434); an empty one
takes the link to DOWN. -/
def Block.askSet (k : Block) (d : Build) (p mask : Nat) : Block :=
  let k := (k.wakeTx p).send (.lset p mask false)
  if mask = 0 then k.laneDown d p else k.mapPort false p fun v => { v with asked := some mask }

/-- The receive active set as last asked for. -/
def Block.wantedSet (k : Block) (p : Nat) : Nat := (k.port false p).asked.getD (k.rxSet p)

/-- A lane that left LOCKED or is retired leaves the receive active set (R435). -/
def Block.dropLane (k : Block) (d : Build) (p l : Nat) : Block :=
  let w := k.wantedSet p
  if w.testBit l then k.askSet d p (w - 2 ^ l) else k

/-- A receiving end in TRAINING chooses its first active set (R427) from the lanes LOCKED. -/
def Block.chooseSet (k : Block) (d : Build) (p : Nat) : Block :=
  let m := laneMask ((k.lanesOf p).filter fun l => k.laneState p l == laneLocked)
  if k.linkState false p = linkTraining ∧ k.rxSet p = 0 ∧ (k.port false p).asked = none ∧ m ≠ 0 then k.askSet d p m else k

/-- The first set is due once every lane not retired is LOCKED (R427). -/
def Block.chooseIfAll (k : Block) (d : Build) (p : Nat) : Block :=
  if (k.lanesOf p).all fun l => k.laneState p l == laneLocked then k.chooseSet d p else k

/-- The INIT of a lane port goes out in a broadcast row (R423, R427). -/
def Block.sendInit (k : Block) (d : Build) (p : Nat) : Block :=
  k.send (.init p (dieOf (coord d 0 0)) p (k.llr p) ((List.range 6).map fun i => k.rf .LNK_CRED (8 * i + 7) (8 * i) p))

/-- TRAINING ends when both directions have an active set, and the link sends INIT (R427). -/
def Block.enterInit (k : Block) (d : Build) (p : Nat) : Block :=
  if k.linkState false p = linkTraining ∧ k.rxSet p ≠ 0 ∧ k.txSet p ≠ 0 then (k.setLink false p linkInit).sendInit d p else k

/-- A lane is retired (R436): by a trigger (`permanent`) or by firmware. The last lane's retirement retires the port. -/
def Block.retireLane (k : Block) (d : Build) (p l : Nat) (perm : Bool) : Block :=
  if k.laneRetired p l then k
  else
    let k := (k.setRf .LN_CTL 0 0 p [l] 1).laneToOff p l
    let k := if perm then k.permanent 2 p l else k
    if (k.lanesOf p).isEmpty then (k.markPort false p).laneDown d p
    else (k.dropLane d p l).chooseIfAll d p

/-! ### Retry and credits (R428, R430) -/

/-- A LACK reaches the sender: packets before it are acknowledged. -/
def Block.takeLack (k : Block) (p lack : Nat) : Block :=
  if !k.llr p then k
  else
    let v := k.port false p
    let before (s : Nat) : Bool := s != lack && serialLe 16 s lack
    let k := k.setRf .LNK_STAT 15 0 p [] lack
    if v.kept.any fun x => before x.1 then
      k.setPort false p { v with
        kept := v.kept.filter fun (x : Nat × Packet) => !before x.1
        replay := v.replay.filter fun s => !before s
        replayAt := none
        replays := 0 }
    else k

/-- A replay from LSEQ `s` (R428): every kept packet from there goes again, ahead of new ones; REPLAYMAX of them from one
LSEQ take the link to DOWN. -/
def Block.startReplay (k : Block) (d : Build) (p s : Nat) : Block :=
  let v := k.port false p
  let l := (v.kept.filter fun (x : Nat × Packet) => serialLe 16 s x.1).map Prod.fst
  if l.isEmpty then k
  else
    let n := if v.replayAt = some s then v.replays + 1 else 1
    let k := (k.bump .LNK_ERR 63 48 p).setPort false p { v with replay := l, replayAt := some s, replays := n }
    if k.rf .LNK_CTL 39 36 p ≤ n then k.laneDown d p else k

/-- A NAK with LACK = s (R428). -/
def Block.takeNak (k : Block) (d : Build) (p s : Nat) : Block :=
  let v := k.port false p
  if !k.llr p || (v.replayAt == some s && !v.replay.isEmpty) then k else k.startReplay d p s

/-- A credit total of the partner (R430). -/
def Block.takeTotal (k : Block) (bridge : Bool) (n vc tot : Nat) : Block :=
  if vc < 2 ∨ 7 < vc then k else k.mapPort bridge n fun v => { v with peer := put 0 v.peer vc (tot % 4096) }

/-- A change of a total, of LACK or of NAK is owed to the partner (R430). -/
def Block.owes (k : Block) (p : Nat) : Bool :=
  let v := k.port false p
  v.nextTotal.isSome || (k.llr p && (v.expected != v.toldAck || v.nak != v.toldNak))

/-- A packet waits for output `p` of a brick: staged, chained or held. -/
def Block.readyFor (k : Block) (b p : Nat) : Bool :=
  (List.range 8).any fun i =>
    if i = 4 ∨ i = 5 then (k.stagedAt b i).any fun x => (x.owed.getD []).contains p
    else (k.chainOf b i).any fun x => (x.owed.getD []).contains p

/-- A CONNECT window of an output opens within 1 µs (R433). -/
def Block.connectSoon (k : Block) (d : Build) (b p : Nat) : Bool :=
  if k.runsCourse d b p then
    let now := k.clk.phase / (10 * 2 ^ 40)
    let opens (n off : Nat) : Bool := (windowsFrom 0 ((k.traceOf b p n).map Prod.snd)).any fun x =>
      isConnect x.2.2 && decide (now ≤ x.1 + off) && decide (x.1 + off < now + 100)
    opens k.clk.course 0 || opens (k.clk.course + 1) 200
  else false

/-- The conditions of R433 on what the port holds: link UP and IDLEEN, nothing ready, owed or pending. -/
def Block.mayIdle (k : Block) (d : Build) (n : Nat) : Bool :=
  let v := k.port false n
  flag (k.reg .LNK_CTL n) 3 && k.portUp false n && v.kept.isEmpty && !k.owes n && v.asked.isNone &&
  match exitOf d false n with
  | some (b, p) => !k.readyFor b p && !k.connectSoon d b p
  | none => true

/-! ### Bridges (R439) -/

/-- The content [16:1] of INIT fragment `i` of a bridge port of this die (R438). -/
def initFragment (d : Build) (n i : Nat) : Nat :=
  let die := dieOf (coord d 0 0)
  if i = 0 then die / 8 else die % 8 * 2 ^ 13 + n % 16 * 2 ^ 9

/-- INIT fragments 0 and 1 go out in turn (R438, R439). -/
def Block.sendFragments (k : Block) (d : Build) (n : Nat) : Block :=
  (k.send (.bridgeControl n (controlField 4 (initFragment d n 0)))).send
    (.bridgeControl n (controlField 4 (2 ^ 16 + initFragment d n 1)))

/-- A bridge link in TRAINING whose PHY link is up, with the handshake of its FIFO over (R497), enters INIT and sends its
fragments (R439). -/
def Block.bridgeEnterInit (k : Block) (d : Build) (n : Nat) : Block :=
  if k.linkState true n = linkTraining ∧ flag (k.reg .D2D_STAT 0 [n]) 2 = true ∧ k.crosses (.bridge n) = true then
    (k.setLink true n linkInit).sendFragments d n
  else k

/-- A bridge port leaves DOWN (R439, R503), and the handshake of its FIFO starts (R497); INIT follows it as soon as the PHY
reports the link up. -/
def Block.bridgeLeaveDown (k : Block) (d : Build) (n : Nat) : Block :=
  if k.linkState true n = linkDownCode ∧ k.enumerated = true ∧ k.portEnabled true n = true ∧ k.portRetired true n = false ∧
      k.portIsolated d true n = false then
    (k.setLink true n linkTraining).handshake (.bridge n)
  else k

/-- A bridge port goes to DOWN (R439). -/
def Block.bridgeDown (k : Block) (d : Build) (n : Nat) : Block :=
  let st := k.linkState true n
  let k := if linkInit ≤ st then k.bump .D2D_ERR 47 40 0 [n] else k
  let k := k.setLink true n linkDownCode
  let k := if st = linkUpCode then k.portExit true n else k
  let v : LinkLayer := { stale := (k.rxBuffer true n).length, answered := (k.port true n).answered }
  (k.setPort true n v).bridgeLeaveDown d n

/-- A port goes to DOWN. -/
def Block.portDown (k : Block) (d : Build) (bridge : Bool) (n : Nat) : Block :=
  if bridge then k.bridgeDown d n else k.laneDown d n

/-- A port leaves DOWN if it may. -/
def Block.portTrain (k : Block) (d : Build) (bridge : Bool) (n : Nat) : Block :=
  if bridge then k.bridgeLeaveDown d n else k.leaveDown d n

/-! ### Time samples (R431, R432) -/

/-- A latency or asymmetry of LNK_TSCFG or D2D_TSCFG in GTIME units: 1/16 ns is 4,096 of them. -/
def latency (sixteenths : Nat) : Nat := sixteenths * 4096

/-- TSCFG of a port. -/
def Block.tsCfg (k : Block) (bridge : Bool) (n : Nat) : Word :=
  if bridge then k.reg .D2D_TSCFG 0 [n] else k.reg .LNK_TSCFG n

/-- The sample and delay of R432, in GTIME units, from corrected timestamps. -/
def tsSample (t1 t2 t3 t4 : Nat) (asym : Int) : Int × Int :=
  let up := timeDiff t2 t1
  let down := timeDiff t4 t3
  ((down - up + asym) / 2, (up + down) / 2)

/-- A TSREQ reaches this die upstream (R431): the answer carries its corrected timestamps. -/
def Block.answerTime (k : Block) (bridge : Bool) (n t2 t3 : Nat) : Block :=
  if !k.portUp bridge n then k
  else
    let w := k.tsCfg bridge n
    let t2 := (t2 + 2 ^ 64 - latency (fld w 31 16)) % 2 ^ 64
    let t3 := (t3 + latency (fld w 15 0)) % 2 ^ 64
    let k := if bridge then k else k.wakeTx n
    k.send (.tsresp bridge n t2 t3)

/-- A TSRESP reaches this die downstream in the course of its TSREQ (R432): the sample goes to the servo. No
rule names the message that carries the upstream's report of WIDE (R124): the exchange brings it, as a free value (log 82). -/
def Block.takeTime (k : Block) (bridge : Bool) (n t2 t3 t4 : Nat) : Block :=
  if !k.timeSource bridge n then k
  else match (k.port bridge n).request with
    | none => k
    | some t1 =>
      let w := k.tsCfg bridge n
      let asym : Int := (BitVec.ofNat 16 (fld w 63 48)).toInt * 4096
      let r := tsSample t1 t2 t3 ((t4 + 2 ^ 64 - latency (fld w 31 16)) % 2 ^ 64) asym
      let k := k.mapPort bridge n fun v => { v with request := none, answered := true }
      let k := { k with clk.upWide := (Config.freeByte k.free).getLsbD 0, free := k.free + 1 }
      let k := if bridge then k else k.setRf .LNK_TSYNC 47 32 n [] (min 65535 (r.2 / 4096).toNat)
      k.takeSample r.1

end Sys2Proof.Machine
end

