-- ==== Sys2Proof/Machine/Lanes.lean ====
section
/-!
DEFINITION. The commands of lane ports: lane states (R426), FEC intervals (R436, R524), link start (R427), active sets
(R435), retry and credits (R428, R430), time sync (R431, R432), electrical idle (R433, R434), and the writes of LNK_CTL
and LN_CTL (R442, R449).
-/

namespace Sys2Proof.Machine

/-- The lane port exists. -/
def laneOk (d : Build) (p : Nat) : Bool := decide (p < d.lanePorts)

/-- The lane of a lane port exists. -/
def laneLOk (d : Build) (p l : Nat) : Bool := laneOk d p && decide (l < 4)

/-! ### Lane states (R425, R426, R436) -/

/-- Every lane of a port that trains has done so. -/
def Block.trainingOver (k : Block) (p : Nat) : Bool :=
  (k.lanesOf p).all fun l => k.laneState p l != laneTrain || (k.laneRx p l).trained

/-- TRAINING_DONE (R426): the training results are kept (R491), and the lane waits for a MARK; with the last lane in training
MARKs go out on every lane not retired (R425). -/
def execTrainingDone (p l : Nat) (eq : Word) (s : State) : Host.Outcome State Fault Refusal :=
  s.run (laneLOk s.env.build p l) fun k =>
    if k.laneState p l = laneTrain then
      let k := ({ k with lnk.eq := put 0 k.lnk.eq (p * 4 + l) eq }).setLaneRx p l { k.laneRx p l with trained := true }
      if k.trainingOver p then k.send (.mark p (k.lanesOf p)) else k
    else k

/-- MARK_CODEWORD (R425, R426): a trained lane, or one in an exit burst, enters HUNT; a MARK more than 5 ns off keeps it
there and is counted. The codeword count serves the deskew only. Nothing comes before the handshake of R497 is over. -/
def execMarkCodeword (p l _count : Nat) (skewed : Bool) (s : State) : Host.Outcome State Fault Refusal :=
  s.run (laneLOk s.env.build p l) fun k =>
    let st := k.laneState p l
    let r := k.laneRx p l
    if k.crosses (.lane p l) = true ∧ ((st = laneTrain ∧ r.trained = true) ∨ st = laneExit ∨ st = laneHunt) then
      let k := (k.setLaneState p l laneHunt).setLaneRx p l { r with skewed := skewed }
      if skewed then k.bump .LN_CNT 15 0 p [l] else k
    else k

/-- HUNT_LOCK (R426): 64 valid headers in a row lock the lane; the first active set may now be due (R427). -/
def execHuntLock (p l : Nat) (s : State) : Host.Outcome State Fault Refusal :=
  let d := s.env.build
  s.run (laneLOk d p l) fun k =>
    if k.crosses (.lane p l) = true ∧ k.laneState p l = laneHunt ∧ (k.laneRx p l).skewed = false then
      ((k.setLaneState p l laneLocked).setLaneRx p l {}).chooseIfAll d p
    else k

/-- HUNT_UNLOCK (R426): the lane returns to HUNT, is counted, and leaves the active set (R435). -/
def execHuntUnlock (p l : Nat) (s : State) : Host.Outcome State Fault Refusal :=
  let d := s.env.build
  s.run (laneLOk d p l) fun k =>
    if k.laneState p l = laneLocked then ((k.setLaneState p l laneHunt).bump .LN_CNT 15 0 p [l]).dropLane d p l else k

/-- HUNT_TIMEOUT (R426): 10 µs in HUNT start a retrain. -/
def execHuntTimeout (p l : Nat) (s : State) : Host.Outcome State Fault Refusal :=
  s.run (laneLOk s.env.build p l) fun k =>
    if k.laneState p l = laneHunt then k.enterTrain p l true else k

/-- RETRAIN_CHECK (R436): a retrain whose lane is not LOCKED 1 ms after entering TRAIN has failed; RTMAX of them within
1 s retire the lane. -/
def execRetrainCheck (p l : Nat) (s : State) : Host.Outcome State Fault Refusal :=
  let d := s.env.build
  s.run (laneLOk d p l) fun k =>
    let st := k.laneState p l
    if (k.laneRx p l).retrain && (st == laneTrain || st == laneHunt) then
      let (n, h) := k.failures k.flt.laneHist (p * 4 + l) 1000000
      let k := { k with flt.laneHist := h }
      let k := k.setRf .LN_STAT 51 48 p [l] (min 15 n)
      if k.rf .LN_CTL 35 32 p [l] ≤ n then k.retireLane d p l true else k.enterTrain p l true
    else k

/-- LANE_ADD_TIMER (R435): a lane LOCKED for 1 ms joins the receive active set. -/
def execLaneAddTimer (p l : Nat) (s : State) : Host.Outcome State Fault Refusal :=
  let d := s.env.build
  s.run (laneLOk d p l) fun k =>
    let w := k.wantedSet p
    if k.laneState p l == laneLocked && !k.laneRetired p l && !w.testBit l && w != 0 then k.askSet d p (w + 2 ^ l) else k

/-- FIRST_LOCK_TIMEOUT (R427): 20 µs after the first lane locked, the first active set is chosen. -/
def execFirstLockTimeout (p : Nat) (s : State) : Host.Outcome State Fault Refusal :=
  let d := s.env.build
  s.run (laneOk d p) fun k => k.chooseSet d p

/-- The bit of LN_STAT that shows a signal (R450). -/
def signalBit : LaneSignal → Nat
  | .los => 60
  | .lol => 59
  | .oeFault => 58
  | .oeWarn => 57

/-- LOS, LOL or an optical-engine fault stands, or the far clock has stopped (R490), on a lane whose state heeds it (R433,
R436). -/
def Block.laneLost (k : Block) (p l : Nat) : Bool :=
  let st := k.laneState p l
  (k.rf .LN_STAT 60 58 p [l] != 0 || k.rst.stopped.contains (.lane p l)) && st != laneOff && st != laneIdle && st != laneExit

/-- LOS_LOL (R436, R450). -/
def execLosLol (p l : Nat) (sig : LaneSignal) (s : State) : Host.Outcome State Fault Refusal :=
  s.run (laneLOk s.env.build p l) fun k => k.setBit .LN_STAT (signalBit sig) p [l]

/-- A loss of a lane that stood (`lost`) may be over (R436): after a short loss the lane enters TRAIN. -/
def Block.endLoss (k : Block) (d : Build) (p l : Nat) (lost : Bool) : Block :=
  let st := k.laneState p l
  if lost && !k.laneLost p l && (st == laneHunt || st == laneLocked) then (k.enterTrain p l true).dropLane d p l else k

/-- LOS_LOL_CLEAR (R436). -/
def execLosLolClear (p l : Nat) (sig : LaneSignal) (s : State) : Host.Outcome State Fault Refusal :=
  let d := s.env.build
  s.run (laneLOk d p l) fun k =>
    (k.setRf .LN_STAT (signalBit sig) (signalBit sig) p [l] 0).endLoss d p l (k.laneLost p l)

/-- LOS_TIMEOUT (R436): LOS or LOL beyond LOSMAX retires the lane. -/
def execLosTimeout (p l : Nat) (s : State) : Host.Outcome State Fault Refusal :=
  let d := s.env.build
  s.run (laneLOk d p l) fun k => if k.laneLost p l then k.retireLane d p l true else k

/-- What an interval of a lane that ends counts (R436, R450, R524): its corrected and uncorrectable codewords, and the most
symbols corrected in one codeword. UC100 shows the count of the interval that has ended (log 36). -/
def Block.fecCount (k : Block) (p l corr uncorr peak : Nat) : Block :=
  let k := (k.bump .LN_CNT 63 32 p [l] corr).bump .LN_CNT 31 16 p [l] uncorr
  let k := (k.bump .LNK_ERR 31 16 p [] uncorr).setRf .LN_STAT 47 32 p [l] (min 65535 uncorr)
  let pk := min 15 peak
  let high := decide (k.rf .LN_MARGIN 35 32 p [l] < pk)
  let run := if high then satAdd 255 (k.rf .LN_MARGIN 47 40 p [l]) 1 else 0
  let k := (k.setRf .LN_MARGIN 19 16 p [l] pk).setRf .LN_MARGIN 47 40 p [l] run
  let low := flag (k.reg .LN_MARGIN p [l]) 20
  if 16 ≤ run ∧ low = false then (k.setBit .LN_MARGIN 20 p [l]).irq 1
  else if high then k else k.setRf .LN_MARGIN 20 20 p [l] 0

/-- FEC_INTERVAL (R436, R524): a 100 ms interval of a lane ends; too many uncorrectable codewords retire it. A lane that is
OFF receives none. -/
def execFecInterval (p l corr uncorr peak : Nat) (s : State) : Host.Outcome State Fault Refusal :=
  let d := s.env.build
  s.run (laneLOk d p l) fun k =>
    if k.laneState p l = laneOff then k.fecCount p l 0 0 0
    else
      let n := k.fecCount p l corr uncorr peak
      if k.rf .LN_CTL 47 40 p [l] < uncorr then n.retireLane d p l true else n

/-! ### Link start and active sets (R427, R435) -/

/-- INIT (R427): an INIT block reaches a port in TRAINING or INIT. The second identical one in a row brings the link UP
when LLR agrees and the own credits sum to at most 256; a later one that does not bring it UP sets INITMIS. A link that stays
in INIT sends its own again. -/
def execInit (p die port : Nat) (llr : Bool) (cred : List Nat) (s : State) : Host.Outcome State Fault Refusal :=
  let d := s.env.build
  s.run (laneOk d p) fun k =>
    let st := k.linkState false p
    if st = linkDownCode then k
    else
      let v := k.port false p
      let now := (die % 2 ^ 19, port % 64, llr, cred)
      let k := k.setReg .LNK_PEER p [] (mkWord [(27, die % 2 ^ 19), (21, port % 64), (1, b2n llr), (0, 1)])
      let k := k.setPort false p { v with init := some now }
      let own := ((List.range 6).map fun i => k.rf .LNK_CRED (8 * i + 7) (8 * i) p).sum
      if st ≠ linkInit then k
      else if v.init = none then k.sendInit d p
      else if v.init = some now ∧ llr = k.llr p ∧ own ≤ 256 then
        (k.mapPort false p fun v => { v with cred := cred }).setLink false p linkUpCode
      else (k.setBit .LNK_ERR 0 p).sendInit d p

/-- LSET (R435): the transmitting end echoes the mask and stripes on it; an empty mask takes the link to DOWN. -/
def execLset (p mask : Nat) (s : State) : Host.Outcome State Fault Refusal :=
  let d := s.env.build
  s.run (laneOk d p) fun k =>
    if k.linkState false p = linkDownCode then k
    else
      let m := mask % 16
      let k := (k.wakeTx p).send (.lset p m true)
      if m = 0 then k.laneDown d p else (k.setRf .LNK_STAT 55 52 p [] m).enterInit d p

/-- LSET_ECHO (R435): the receiving end switches to the mask that the ECHO names. -/
def execLsetEcho (p mask : Nat) (s : State) : Host.Outcome State Fault Refusal :=
  let d := s.env.build
  s.run (laneOk d p) fun k =>
    if k.linkState false p = linkDownCode then k
    else
      let m := mask % 16
      let k := k.mapPort false p fun v => if v.asked = some m then { v with asked := none } else v
      if m = 0 then k.laneDown d p else (k.setRf .LNK_STAT 59 56 p [] m).enterInit d p

/-- LSET_REPEAT (R435): over a transmit direction that wakes for it. -/
def execLsetRepeat (p : Nat) (s : State) : Host.Outcome State Fault Refusal :=
  s.run (laneOk s.env.build p) fun k =>
    match (k.port false p).asked with
    | some m => (k.wakeTx p).send (.lset p m false)
    | none => k

/-! ### Packets, retry and credits (R421, R428, R430) -/

/-- The packet enters the port's receive buffer (R421): the sideband is derived anew. -/
def Block.acceptPacket (k : Block) (p : Nat) (q : Packet) : Block :=
  k.setRxBuffer false p (k.rxBuffer false p ++ [{ q with sbvc := false, dataBad := 0, viaUp := false, inPort := 0 }])

/-- The link fields of an arriving header (R421). -/
def Block.takeFields (k : Block) (d : Build) (p lack : Nat) (nak : Bool) (cvc ctot : Nat) : Block :=
  let k := (k.takeTotal false p cvc ctot).takeLack p lack
  if nak then k.takeNak d p lack else k

/-- LINK_PACKET_RX (R428): the packet is accepted in LSEQ order if it is good; the first refused sets NAK; later ones
with another LSEQ have no further effect. With LLR = 0 a bad packet is only discarded. The header bits that carried the link
fields are zero again before the checks (R421). -/
def execLinkPacketRx (p : Nat) (pkt : Packet) (lseq lack : Nat) (nak : Bool) (cvc ctot : Nat) (good : Bool) (s : State) :
    Host.Outcome State Fault Refusal :=
  let d := s.env.build
  s.run (laneOk d p) fun k =>
    if !k.portUp false p then k
    else
      let v := k.port false p
      let pkt := { pkt with rsv := 0 }
      let c := headerCheck pkt
      let sound := good && c == .good
      let counted (k : Block) : Block := match exitOf d false p with
        | some (b, _) => if good then k.countCheck b c else k
        | none => k
      if k.llr p then
        if sound ∧ lseq = v.expected then
          let k := k.setPort false p { v with expected := (v.expected + 1) % 2 ^ 16, nak := false }
          (k.acceptPacket p pkt).takeFields d p lack nak cvc ctot
        else if v.nak ∧ lseq ≠ v.expected then k
        else
          let k := counted ((k.setPort false p { v with nak := true }).bump .LNK_ERR 47 32 p)
          if sound then k.takeFields d p lack nak cvc ctot else k
      else if sound then (k.acceptPacket p pkt).takeTotal false p cvc ctot
      else (counted (k.bump .LNK_ERR 47 32 p)).advanceTotal false p pkt.vc (pktUnits pkt)

/-- NAK (R428). -/
def execNak (p lack : Nat) (s : State) : Host.Outcome State Fault Refusal :=
  let d := s.env.build
  s.run (laneOk d p) fun k => if k.portUp false p then (k.takeLack p lack).takeNak d p lack else k

/-- REPLAY_TIMEOUT (R428). -/
def execReplayTimeout (p : Nat) (s : State) : Host.Outcome State Fault Refusal :=
  let d := s.env.build
  s.run (laneOk d p) fun k =>
    match (k.port false p).kept with
    | x :: _ => if k.portUp false p ∧ k.llr p = true then k.startReplay d p x.1 else k
    | [] => k

/-- LCTL (R430). -/
def execLctl (p : Nat) (nak : Bool) (lack : Nat) (totals : List Nat) (s : State) : Host.Outcome State Fault Refusal :=
  let d := s.env.build
  s.run (laneOk d p) fun k =>
    if !k.portUp false p then k
    else
      let k := (List.range 6).foldl (fun k i => match totals[i]? with
        | some t => k.takeTotal false p (i + 2) t
        | none => k) k
      let k := k.takeLack p lack
      if nak then k.takeNak d p lack else k

/-- LCTL_SEND_DUE (R430): an LCTL carries every total, LACK and NAK. -/
def execLctlSendDue (p : Nat) (s : State) : Host.Outcome State Fault Refusal :=
  s.run (laneOk s.env.build p) fun k =>
    if k.portUp false p ∧ k.owes p = true then
      let k := k.wakeTx p
      let v := k.port false p
      let lack := if k.llr p then v.expected else 0
      let nak := k.llr p && v.nak
      (k.setPort false p { v with told := v.ctot, toldAck := lack, toldNak := nak }).send
        (.lctl p nak lack ((List.range 6).map fun i => look 0 v.ctot (i + 2)))
    else k

/-! ### Time sync (R431, R432) -/

/-- TSREQ_SEND (R431): the downstream die sends TSREQ on the port that TIM_CTL names, once in a course. A transmit direction in
electrical idle or in its exit burst has no control slot for it, and does not wake for it (R433, R434). -/
def execTsreqSend (t1 : Nat) (s : State) : Host.Outcome State Fault Refusal :=
  s.run true fun k =>
    let src := k.rf .TIM_CTL 1 0
    let bridge := src == 2
    let n := k.rf .TIM_CTL 13 8
    let idle := !bridge && (flag (k.reg .LNK_STAT n) 50 || (k.port false n).burst)
    if decide (2 ≤ src) && k.portUp bridge n && !idle && (k.port bridge n).request.isNone &&
        !(k.port bridge n).answered then
      let t := (t1 + latency (fld (k.tsCfg bridge n) 15 0)) % 2 ^ 64
      (k.mapPort bridge n fun v => { v with request := some t }).send (.tsreq bridge n t)
    else k

/-- TSREQ (R431). -/
def execTsreq (p t2 t3 : Nat) (s : State) : Host.Outcome State Fault Refusal :=
  s.run (laneOk s.env.build p) fun k => k.answerTime false p t2 t3

/-- TSRESP (R432). -/
def execTsresp (p t2 t3 t4 : Nat) (s : State) : Host.Outcome State Fault Refusal :=
  s.run (laneOk s.env.build p) fun k => if k.portUp false p then k.takeTime false p t2 t3 t4 else k

/-! ### Electrical idle (R433, R434) -/

/-- LNI_TRN_REQ of a lane (R562): its receive direction trains, or an exit burst is underway (whose wake pattern ends after
200 ns, a time that the model does not hold, log 69). -/
def Block.trainRequest (k : Block) (p l : Nat) : Bool :=
  k.laneState p l == laneTrain || ((k.port false p).burst && (k.lanesOf p).contains l)

/-- LNI_EIDLE (R433, R562): the transmit direction of a lane port is in electrical idle. -/
def Block.electricalIdle (k : Block) (p : Nat) : Bool := flag (k.reg .LNK_STAT p) 50

/-- IDLE_ENTRY (R433). -/
def execIdleEntry (p : Nat) (s : State) : Host.Outcome State Fault Refusal :=
  let d := s.env.build
  s.run (laneOk d p) fun k =>
    if k.mayIdle d p && !flag (k.reg .LNK_STAT p) 50 && !(k.port false p).burst then
      (k.setBit .LNK_STAT 50 p).send (.idlein p)
    else k

/-- IDLEIN (R433): the receiver puts its lanes in IDLE. -/
def execIdlein (p : Nat) (s : State) : Host.Outcome State Fault Refusal :=
  s.run (laneOk s.env.build p) fun k =>
    if k.portUp false p then (k.lanesOf p).foldl (fun k l => k.setLaneState p l laneIdle) (k.setBit .LNK_STAT 51 p) else k

/-- IDLE_EXIT (R434): a condition of R433 has ceased to hold, or a course whose number is a multiple of 64 begins. -/
def execIdleExit (p : Nat) (s : State) : Host.Outcome State Fault Refusal :=
  let d := s.env.build
  s.run (laneOk d p) fun k =>
    if !k.mayIdle d p || (k.clk.course % 64 == 0 && k.clk.cyc == 0) then k.wakeTx p else k

/-- WAKE_PATTERN (R434): the partner's exit burst begins. -/
def execWakePattern (p : Nat) (s : State) : Host.Outcome State Fault Refusal :=
  s.run (laneOk s.env.build p) fun k =>
    if flag (k.reg .LNK_STAT p) 51 then
      (List.range 4).foldl (fun k l => if k.laneState p l = laneIdle then k.setLaneState p l laneExit else k)
        ((k.setRf .LNK_STAT 51 51 p [] 0).mapPort false p fun v => { v with bursts := v.bursts ++ [false] })
    else k

/-- EXIT_BURST_END (R434): of the bursts underway the one that began first ends, since all last 256 ns. Its own: MARKs have
gone out on every lane (R425) and striping resumes. The partner's: lanes of the receive active set that are not LOCKED leave
it (R435), and those still in EXIT hunt. -/
def execExitBurstEnd (p : Nat) (s : State) : Host.Outcome State Fault Refusal :=
  let d := s.env.build
  s.run (laneOk d p) fun k =>
    let v := k.port false p
    let k := k.setPort false p { v with bursts := v.bursts.tail }
    match v.bursts with
    | [] => k
    | true :: _ => k.send (.mark p (k.lanesOf p))
    | false :: _ =>
      let late := (List.range 4).filter fun l => k.laneState p l == laneExit
      let k := late.foldl (fun k l => (k.setLaneState p l laneHunt).setLaneRx p l {}) k
      let w := k.wantedSet p
      let keep := laneMask ((List.range 4).filter fun l => w.testBit l && k.laneState p l == laneLocked)
      if w = 0 ∨ keep = w then k else k.askSet d p keep

/-! ### Writes of LNK_CTL and LN_CTL (R442, R449) -/

/-- A write of LNK_CTL: its fields, then EN and RETRAIN. -/
def Block.writeLnkCtl (k : Block) (d : Build) (p : Nat) (v : Word) : Block :=
  let k := k.applyWrite .LNK_CTL p [] v
  if !k.portEnabled false p then (if k.linkState false p = linkDownCode then k else k.laneDown d p)
  else if flag v 1 then k.laneDown d p
  else k.leaveDown d p

/-- LINK_ENABLE (R427). -/
def execLinkEnable (p : Nat) (v : Word) (s : State) : Host.Outcome State Fault Refusal :=
  let d := s.env.build
  s.access (laneOk d p) 0 .mp fun k => (k.writeLnkCtl d p v).answerWrite 0 .mp

/-- LINK_DISABLE (R427). -/
def execLinkDisable (p : Nat) (v : Word) (s : State) : Host.Outcome State Fault Refusal :=
  let d := s.env.build
  s.access (laneOk d p) 0 .mp fun k => (k.writeLnkCtl d p v).answerWrite 0 .mp

/-- LINK_RETRAIN (R442). -/
def execLinkRetrain (p : Nat) (v : Word) (s : State) : Host.Outcome State Fault Refusal :=
  let d := s.env.build
  s.access (laneOk d p) 0 .mp fun k => (k.writeLnkCtl d p v).answerWrite 0 .mp

/-- A retired lane is released (R436): both directions enter TRAIN. -/
def Block.releaseLane (k : Block) (d : Build) (p l : Nat) : Block :=
  if !k.laneRetired p l then k
  else
    let k := k.setRf .LN_CTL 0 0 p [l] 0
    if k.linkState false p = linkDownCode then k.leaveDown d p else k.enterTrain p l true

/-- A write of LN_CTL: its fields, then RETIRED (R436). -/
def Block.writeLnCtl (k : Block) (d : Build) (p l : Nat) (v : Word) : Block :=
  let was := b2n (k.laneRetired p l)
  let k := k.applyWrite .LN_CTL p [l] (withFld v 0 0 was)
  if flag v 0 then k.retireLane d p l false else k.releaseLane d p l

/-- LANE_RETIRE (R436). -/
def execLaneRetire (p l : Nat) (v : Word) (s : State) : Host.Outcome State Fault Refusal :=
  let d := s.env.build
  s.access (laneLOk d p l) 0 .mp fun k => (k.writeLnCtl d p l v).answerWrite 0 .mp

/-- LANE_RELEASE (R436). -/
def execLaneRelease (p l : Nat) (v : Word) (s : State) : Host.Outcome State Fault Refusal :=
  let d := s.env.build
  s.access (laneLOk d p l) 0 .mp fun k => (k.writeLnCtl d p l v).answerWrite 0 .mp

end Sys2Proof.Machine
end

