-- ==== Sys2Proof/Machine/Bridges.lean ====
section
/-!
DEFINITION. The commands of bridge ports (R437 to R441, R452).
-/

namespace Sys2Proof.Machine

/-- The bridge port exists. -/
def bridgeOk (d : Build) (n : Nat) : Bool := decide (n < d.bridgePorts)

/-- The PHY link of a bridge goes down (R439). -/
def Block.phyDown (k : Block) (d : Build) (n : Nat) : Block :=
  (k.setRf .D2D_STAT 2 2 0 [n] 0).bridgeDown d n

/-- PHY_LINK_UP (R439). -/
def execPhyLinkUp (n : Nat) (s : State) : Host.Outcome State Fault Refusal :=
  let d := s.env.build
  s.run (bridgeOk d n) fun k => (k.setBit .D2D_STAT 2 0 [n]).bridgeEnterInit d n

/-- PHY_LINK_DOWN (R439). -/
def execPhyLinkDown (n : Nat) (s : State) : Host.Outcome State Fault Refusal :=
  let d := s.env.build
  s.run (bridgeOk d n) fun k => if flag (k.reg .D2D_STAT 0 [n]) 2 then k.phyDown d n else k

/-- A bridge control field that fails parity is ignored and counted (R438). -/
def Block.controlError (k : Block) (n : Nat) : Block := k.bump .D2D_ERR 63 48 0 [n]

/-- The fields are INIT fragments 0 and 1 (R438). -/
def initPair (f0 f1 : Nat) : Bool :=
  bits f0 23 20 == 4 && bits f0 19 17 == 0 && bits f1 23 20 == 4 && bits f1 19 17 == 1

/-- BRIDGE_INIT (R438, R439): two bridge control fields, INIT fragments 0 and 1; one that fails parity is ignored, and with it
the pair. Two identical pairs in a row bring the link UP; a link that stays in INIT sends its own again. -/
def execBridgeInit (n frag0 frag1 : Nat) (s : State) : Host.Outcome State Fault Refusal :=
  let d := s.env.build
  s.run (bridgeOk d n) fun k =>
    let bad := ([frag0, frag1].filter fun f => !controlOk f).length
    let k := k.bump .D2D_ERR 63 48 0 [n] bad
    if k.linkState true n ≠ linkInit ∨ bad ≠ 0 ∨ initPair frag0 frag1 = false then k
    else
      let v := k.port true n
      let die := bits frag0 16 1 * 8 + bits frag1 16 14
      let port := bits frag1 13 10
      let now := (die, port, false, ([] : List Nat))
      let k := (k.setRf .D2D_STAT 45 27 0 [n] die).setRf .D2D_STAT 26 23 0 [n] port
      let k := k.setPort true n { v with init := some now }
      if v.init = some now then k.setLink true n linkUpCode else k.sendFragments d n

/-- BRIDGE_INIT_TIMEOUT (R452): 20 µs in INIT without a match. -/
def execBridgeInitTimeout (n : Nat) (s : State) : Host.Outcome State Fault Refusal :=
  s.run (bridgeOk s.env.build n) fun k => if k.linkState true n = linkInit then k.setBit .D2D_ERR 0 0 [n] else k

/-- BRIDGE_CREDIT (R440): a bridge control field, read as R438 lays it out. -/
def execBridgeCredit (n ctl : Nat) (s : State) : Host.Outcome State Fault Refusal :=
  s.run (bridgeOk s.env.build n) fun k =>
    if !controlOk ctl then k.controlError n
    else if bits ctl 23 20 = 1 ∧ bits ctl 19 17 < 6 ∧ k.portUp true n = true then
      k.takeTotal true n (bits ctl 19 17 + 2) (bits ctl 16 5)
    else k

/-- BRIDGE_TSREQ (R441). -/
def execBridgeTsreq (n t2 t3 : Nat) (s : State) : Host.Outcome State Fault Refusal :=
  s.run (bridgeOk s.env.build n) fun k => k.answerTime true n t2 t3

/-- The timestamps that TSRESP fragments spell: bits [16i + 15:16i] of t3 * 2^64 + t2 (R438). -/
def fragmentTimes (frags : List Nat) : Nat × Nat :=
  let v := ((List.range 8).map fun i =>
    match frags.find? fun f => bits f 19 17 == i with
    | some f => bits f 16 1 * 2 ^ (16 * i)
    | none => 0).sum
  (v % 2 ^ 64, v / 2 ^ 64)

/-- Eight TSRESP fragments of indices 0 to 7 arrived. -/
def fragmentsWhole (frags : List Nat) : Bool :=
  frags.length == 8 && frags.all (fun f => bits f 23 20 == 3) &&
    (List.range 8).all fun i => frags.any fun f => bits f 19 17 == i

/-- BRIDGE_TSRESP (R438, R441): `frags` are the bridge control fields; any that fails parity loses the sample. -/
def execBridgeTsresp (n : Nat) (frags : List Nat) (t4 : Nat) (s : State) : Host.Outcome State Fault Refusal :=
  s.run (bridgeOk s.env.build n) fun k =>
    let bad := frags.filter fun f => !controlOk f
    let k := k.bump .D2D_ERR 63 48 0 [n] bad.length
    if bad.isEmpty && fragmentsWhole frags && k.portUp true n then
      let t := fragmentTimes frags
      k.takeTime true n t.1 t.2 t4
    else k

/-- A write of D2D_CTL: EN and RETRAIN (R439, R452). -/
def Block.writeD2dCtl (k : Block) (d : Build) (n : Nat) (v : Word) : Block :=
  let k := k.applyWrite .D2D_CTL 0 [n] v
  if !k.portEnabled true n then (if k.linkState true n = linkDownCode then k else k.bridgeDown d n)
  else if flag v 1 then k.bridgeDown d n
  else k.bridgeLeaveDown d n

/-- BRIDGE_ENABLE (R452). -/
def execBridgeEnable (n : Nat) (v : Word) (s : State) : Host.Outcome State Fault Refusal :=
  let d := s.env.build
  s.access (bridgeOk d n) 0 .mp fun k => (k.writeD2dCtl d n v).answerWrite 0 .mp

/-- BRIDGE_DISABLE (R439). -/
def execBridgeDisable (n : Nat) (v : Word) (s : State) : Host.Outcome State Fault Refusal :=
  let d := s.env.build
  s.access (bridgeOk d n) 0 .mp fun k => (k.writeD2dCtl d n v).answerWrite 0 .mp

/-- BRIDGE_RETRAIN (R452). -/
def execBridgeRetrain (n : Nat) (v : Word) (s : State) : Host.Outcome State Fault Refusal :=
  let d := s.env.build
  s.access (bridgeOk d n) 0 .mp fun k => (k.writeD2dCtl d n v).answerWrite 0 .mp

end Sys2Proof.Machine
end

