-- ==== Sys2Proof/Machine/RegAccess.lean ====
section
/-!
DEFINITION. Which register a window address names (R578, R579), and what a warm reset or a brick isolation keeps of the
register words (R464, R491, R580).
-/

namespace Sys2Proof.Machine

/-- The indices of an array element from its offset in the array; none where the offset lies between elements. -/
def elemIx : List (Nat × Nat) → Nat → Option (List Nat)
  | [], rel => if rel = 0 then some [] else none
  | (n, st) :: ds, rel => if rel / st < n then (elemIx ds (rel % st)).map fun l => rel / st :: l else none

/-- The register of a page at an offset. -/
def regIn (l : List RegName) (off : Nat) : Option (RegName × List Nat) :=
  l.findSome? fun r =>
    let w := regRow r
    if w.off ≤ off then (elemIx w.dims (off - w.off)).map fun ix => (r, ix) else none

/-- The register of a bridge port that the build does not have. -/
def absentBridge (d : Build) : RegName × List Nat → Bool
  | (.D2D_CTL, [b]) => decide (d.bridgePorts ≤ b)
  | (.D2D_STAT, [b]) => decide (d.bridgePorts ≤ b)
  | (.D2D_ERR, [b]) => decide (d.bridgePorts ≤ b)
  | (.D2D_TSCFG, [b]) => decide (d.bridgePorts ≤ b)
  | _ => false

/-- The register at a window address: its name, page and indices (R578, R579). -/
def regAt (d : Build) (addr : Nat) : Option (RegName × Nat × List Nat) :=
  if addr % 8 ≠ 0 then none
  else if addr < 0x100000 then
    match regIn globalRegs addr with
    | some x => if absentBridge d x then none else some (x.1, 0, x.2)
    | none => none
  else if addr < 0x01000000 then none
  else
    let pg := addr % 0x01000000 / 0x10000
    let off := addr % 0x10000
    if addr < 0x02000000 then
      if brickOk d pg then (regIn brickRegs off).map fun x => (x.1, pg, x.2) else none
    else if addr < 0x02380000 then
      if pg < d.lanePorts then (regIn laneRegs off).map fun x => (x.1, pg, x.2) else none
    else none

/-- A register word in which only the RWS fields are kept; the others take their reset value. -/
def keepRws (r : RegName) (ix : List Nat) (w : Word) : Word :=
  (regFields r).foldl (fun v f => if f.acc = .rws then withFld v f.hi f.lo (fld w f.hi f.lo) else v) (regReset r ix)

/-- Register words after a reset that keeps the RWS fields, for the addresses that satisfy `hit`; the others stay. -/
def resetRegs (d : Build) (hit : Nat → Bool) (m : Store Word) : Store Word :=
  m.filterMap fun (x : Nat × Word) =>
    if hit x.1 then
      match regAt d x.1 with
      | some (r, _, ix) =>
        let w := keepRws r ix x.2
        if w = regReset r ix then none else some (x.1, w)
      | none => none
    else some x

end Sys2Proof.Machine
end

