-- ==== Sys2Proof/Machine/Resets.lean ====
section
/-!
DEFINITION. Resets (R484, R491, R492), the root clock and stopped boundaries (R483, R490), the Local Port bridge (R495 to
R497), brick isolation (R493, R494), compute domains (R498 to R502), bring-up (R22, R23, R503), and the test wrapper
(R568).
-/

namespace Sys2Proof.Machine

/-! ### Cold and warm reset (R491, R492) -/

/-- Cold reset: everything takes its reset value; what has been answered stays answered. -/
def Block.coldReset (k : Block) : Block :=
  { rst := { coldHeld := true, warmHeld := k.rst.warmHeld, wrapper := k.rst.wrapper, clusterUp := k.rst.clusterUp }, out := k.out, free := k.free }

/-- The queues after a warm reset: empty, EPOCH risen by 1 (R356). -/
def Block.raisedQueues (k : Block) (d : Build) : Store RxQueue :=
  (bricks d).flatMap fun b => (List.range 64).filterMap fun q =>
    let e := ((k.queue b q).epoch + 1) % 2 ^ 16
    if e = 0 then none else some (b * 64 + q, { epoch := e })

/-- The first black-box entry after a warm reset, written before any other can arrive, or its count while frozen (R533,
R537). -/
def Block.resetEntry (k : Block) (cause : Nat) : Block :=
  if flag (k.reg .BBX_STAT) 63 then k.bump .BBX_STAT 31 24 0
  else k.boxWrite { gtime := k.gtime, kind := 4, arg0 := cause }

/-- The grants that a reset of the queues revokes (R356): brick, queue and grant. -/
def Block.allGrants (k : Block) : List (Nat × Nat × Grant) :=
  k.mq.queue.flatMap fun (x : Nat × RxQueue) => x.2.grants.map fun g => (x.1 / 64, x.1 % 64, g)

/-- Warm reset of the block with its cause (R491, R492, R506). -/
def Block.warmReset (k : Block) (d : Build) (cause : Nat) : Block :=
  let n : Block := {
    regs := resetRegs d (fun _ => true) k.regs
    mq := { queue := k.raisedQueues d }
    lnk := { eq := k.lnk.eq }
    flt := { box := k.flt.box, freezing := k.flt.freezing }
    rst := {
      warmHeld := k.rst.warmHeld
      wrapper := k.rst.wrapper
      rootLost := k.rst.rootLost
      clusterUp := k.rst.clusterUp
      resync := [.managementPort] }
    out := k.out
    free := k.free }
  let n := ((n.setRf .RST_STAT 5 4 0 [] cause).setBit .RST_STAT 8).resetEntry cause
  let n := if cause = 3 then n.freezeOn 6 else n
  let n := k.allGrants.foldl (fun n x => n.sendCredit d x.1 x.2.1 x.2.2 2 (n.queue x.1 x.2.1).epoch) n
  n.lnk.eq.foldl (fun n x => n.send (.laneSettings (x.1 / 4) (x.1 % 4) x.2)) n

/-- COLD_RESET (R491): the cold reset input goes low. -/
def execColdReset (s : State) : Host.Outcome State Fault Refusal := s.runAlways Block.coldReset

/-- COLD_RESET_RELEASE (R482, R503, R568): the divider chain starts; memory self-test begins, or waits for the wrapper. -/
def execColdResetRelease (testmode : Bool) (s : State) : Host.Outcome State Fault Refusal :=
  s.runAlways fun k => if k.rst.coldHeld then { k with rst.coldHeld := false, rst.testHeld := testmode } else k

/-- WARM_RESET (R492, R566): the warm reset input goes low; cold reset overrides it. -/
def execWarmReset (s : State) : Host.Outcome State Fault Refusal :=
  let d := s.env.build
  s.runAlways fun k =>
    let k := { k with rst.warmHeld := true }
    if k.rst.coldHeld then k else k.warmReset d 1

/-- WARM_RESET_RELEASE (R566). -/
def execWarmResetRelease (s : State) : Host.Outcome State Fault Refusal :=
  s.runAlways fun k => { k with rst.warmHeld := false }

/-- A write of RST_CTL (R22, R505). -/
def Block.writeRstCtl (k : Block) (d : Build) (v : Word) : Block :=
  if flag v 0 then k.warmReset d 2 else if flag v 1 then { k with rst.enumerating := true } else k

/-- A write of RST_CTL is answered, unless a warm reset abandons the access. -/
def Block.answerRstCtl (k : Block) (v : Word) : Block := if flag v 0 then k else k.answerWrite 0 .mp

/-- WARM (R505). -/
def execWarm (v : Word) (s : State) : Host.Outcome State Fault Refusal :=
  let d := s.env.build
  s.access true 0 .mp fun k => (k.writeRstCtl d v).answerRstCtl v

/-- ENUM (R22). -/
def execEnum (v : Word) (s : State) : Host.Outcome State Fault Refusal :=
  let d := s.env.build
  s.access true 0 .mp fun k => (k.writeRstCtl d v).answerRstCtl v

/-- The ports of the die: (bridge, number). -/
def allPorts (d : Build) : List (Bool × Nat) :=
  (List.range d.lanePorts).map (fun p => (false, p)) ++ (List.range d.bridgePorts).map fun n => (true, n)

/-- ENUMERATION_DONE (R22, R23): each stop has its position, counted from 0 at the root brick in ring order; STOPS counts
the bricks, TRIP adds the measured delay of the return track; not before self-test is done; then the
ports enabled train (R503). -/
def execEnumerationDone (ret : Nat) (s : State) : Host.Outcome State Fault Refusal :=
  let d := s.env.build
  let n := (bricks d).length
  s.run true fun k =>
    if k.rst.enumerating ∧ flag (k.reg .RST_STAT) 8 = true then
      let k := { k with
        rst.enumerating := false
        rst.position := (bricks d).foldl (fun m b => put 0 m b (ringPos d b)) []
      }.setReg .GLB_MORTAR 0 [] (mkWord [(16, (2 * n + ret) % 65536), (0, n)])
      (allPorts d).foldl (fun k x => k.portTrain d x.1 x.2) k
    else k

/-! ### The root clock (R483, R484) -/

/-- CLKLOSS (R484, R565): the clock-loss output. -/
def Block.clockLoss (k : Block) : Bool := flag (k.reg .CLK_STAT) 33 && k.rst.rootLost

/-- ROOTCK_LOSS (R484). -/
def execRootckLoss (s : State) : Host.Outcome State Fault Refusal :=
  s.runAlways fun k =>
    if k.rst.rootLost ∨ k.rst.coldHeld then k else (({ k with rst.rootLost := true }).setBit .CLK_STAT 33).irq 7

/-- ROOTCK_RETURN (R484): a warm reset before any clock reaches the logic. -/
def execRootckReturn (s : State) : Host.Outcome State Fault Refusal :=
  let d := s.env.build
  s.runAlways fun k => if k.rst.rootLost then { k with rst.rootLost := false }.warmReset d 3 else k

/-- FREQUENCY_MEASURE (R483, R504): the error in ppm. -/
def execFrequencyMeasure (ferr : Int) (s : State) : Host.Outcome State Fault Refusal :=
  s.run true fun k =>
    let bad := decide (1000 < ferr.natAbs)
    let was := flag (k.reg .CLK_STAT) 32
    let f : Int := if 32767 < ferr then 32767 else if ferr < -32768 then -32768 else ferr
    let k := (k.setRf .CLK_STAT 15 0 0 [] (BitVec.ofInt 16 f).toNat).setRf .CLK_STAT 32 32 0 [] (b2n bad)
    if bad && !was then k.irq 7 else k

/-! ### The Local Port bridge (R495 to R497) -/


/-- LPC_PDACK (R496, R558): high from the entry to CLOSED until RESYNC. -/
def Block.powerDownAck (k : Block) (b : Nat) : Bool := k.lpState b == 2

/-- An event that leads to CLOSED (R496); a Local Port reset finds a closed bridge's queues as well (R356). -/
def Block.lpToClosed (k : Block) (e : Env) (b : Nat) (reset : Bool) : Block :=
  if k.lpState b ≠ 2 then k.closeBridge e b
  else if reset then (List.range 64).foldl (fun k q => k.resetQueue e.build b q) k
  else k

/-- LP_RESET (R496): the cluster's reset input; it is out of reset again with the next POWER_UP. -/
def execLpReset (b : Nat) (s : State) : Host.Outcome State Fault Refusal :=
  let e := s.env
  s.run (brickOk e.build b && lpBuilt e.build b) fun k =>
    { k with rst.clusterUp := k.rst.clusterUp.filter fun (x : Nat) => x != b }.lpToClosed e b true

/-- POWER_DOWN_REQUEST (R496). -/
def execPowerDownRequest (b : Nat) (s : State) : Host.Outcome State Fault Refusal :=
  s.run (brickOk s.env.build b && lpBuilt s.env.build b) fun k =>
    if k.lpState b = 0 then k.setRf .RST_BRK 7 6 b [] 1 else k

/-- Every accepted packet of a brick is committed and answered (R496): none waits in the receive FIFO, and no
memory-master request is outstanding. -/
def Block.lpDrained (k : Block) (b : Nat) : Bool :=
  !(k.rxQueue b 0).any clusterBound &&
  !(k.xfr.lpm.any fun (x : Nat × Option MemReq) => x.1 / 1024 == b && x.2.isSome) && (look [] k.xfr.lpmWait b).isEmpty

/-- LP_CLOSING_DONE (R496): what was accepted is committed and answered. -/
def execLpClosingDone (b : Nat) (s : State) : Host.Outcome State Fault Refusal :=
  let e := s.env
  s.run (brickOk e.build b && lpBuilt e.build b) fun k =>
    if k.lpState b = 1 ∧ k.lpDrained b = true then
      { k with rst.clusterUp := k.rst.clusterUp.filter fun (x : Nat) => x != b }.closeBridge e b
    else k

/-- A closed bridge whose cluster is out of reset and powered, and whose heartbeat is seen, enters RESYNC (R496); isolation
holds it in reset (R493). -/
def Block.lpResync (k : Block) (b : Nat) : Block :=
  if k.lpState b = 2 ∧ k.isolated b = false ∧ k.rst.clusterUp.contains b = true ∧
      k.rst.stopped.contains (.localPort b) = false then
    (k.setRf .RST_BRK 7 6 b [] 3).handshake (.localPort b)
  else k

/-- POWER_UP (R496): the cluster is out of reset and powered. -/
def execPowerUp (b : Nat) (s : State) : Host.Outcome State Fault Refusal :=
  s.run (brickOk s.env.build b && lpBuilt s.env.build b) fun k =>
    { k with rst.clusterUp := (k.rst.clusterUp.filter fun (x : Nat) => x != b) ++ [b] }.lpResync b

/-! ### Stopped boundaries (R490) -/

/-- The boundary exists in the build. -/
def boundaryOk (d : Build) : Boundary → Bool
  | .localPort b => brickOk d b && lpBuilt d b
  | .managementPort => true
  | .lane p l => laneLOk d p l
  | .bridge n => bridgeOk d n
  | .voltage => true

/-- The boundary is watched: a port with EN = 0 is not. -/
def Block.watched (k : Block) : Boundary → Bool
  | .lane p _ => k.portEnabled false p
  | .bridge n => k.portEnabled true n
  | _ => true

/-- A stopped boundary is treated as R490 says. A lane and a bridge are counted as lost while they stand among those stopped
(`laneLost`, `bridgeEnterInit`). -/
def Block.boundaryStops (k : Block) (e : Env) : Boundary → Block
  | .localPort b =>
    let k := (((k.setBit .CLK_LP 16 b).irq 7).boxPost { source := b, kind := 3, arg0 := 0 }).freezeOn 5
    k.lpToClosed e b false
  | .managementPort => ((k.setBit .CLK_STAT 34).irq 7).boxPost { kind := 3, arg0 := 1 }
  | .lane _ _ => k
  | .bridge n => k.bridgeDown e.build n
  | .voltage => ((k.setBit .CLK_STAT 35).irq 7).boxPost { kind := 3, arg0 := 2 }

/-- HEARTBEAT_STOP (R490). -/
def execHeartbeatStop (far : Boundary) (s : State) : Host.Outcome State Fault Refusal :=
  let e := s.env
  s.run (boundaryOk e.build far) fun k =>
    if k.watched far && !k.rst.stopped.contains far then
      { k with rst.stopped := k.rst.stopped ++ [far] }.boundaryStops e far
    else k

/-- HEARTBEAT_RESUME (R490): the handshake of R497 starts, at a Local Port as R496 says; a lane's loss may be over. -/
def execHeartbeatResume (far : Boundary) (s : State) : Host.Outcome State Fault Refusal :=
  let d := s.env.build
  s.run (boundaryOk d far) fun k =>
    if k.rst.stopped.contains far then
      let n := { k with rst.stopped := k.rst.stopped.filter fun (x : Boundary) => x != far }.handshake far
      match far with
      | .localPort b => n.lpResync b
      | .lane p l => n.endLoss d p l (k.laneLost p l)
      | _ => n
    else k

/-- RESYNC_DONE (R496, R497, R510): the handshake ends; a Local Port bridge opens, and a bridge link whose PHY is up enters
INIT (R439). -/
def execResyncDone (far : Boundary) (s : State) : Host.Outcome State Fault Refusal :=
  let d := s.env.build
  s.run (boundaryOk d far) fun k =>
    if k.rst.stopped.contains far then k
    else
      let k := { k with rst.resync := k.rst.resync.filter fun (x : Boundary) => x != far }
      match far with
      | .localPort b => if k.lpState b = 3 then (k.setRf .RST_BRK 7 6 b [] 0).bump .CLK_LP 15 0 b else k
      | .bridge n => k.bridgeEnterInit d n
      | _ => k

/-! ### Brick isolation (R491, R493, R494) -/

/-- The links of a brick to its mesh and stretcher neighbours: own output, neighbour, the neighbour's input. The same
port numbers serve the way back. -/
def linksOf (d : Build) (b : Nat) : List (Nat × Nat × Nat) :=
  (List.range 8).filterMap fun o => match beyond d b o with
    | .brick c i => some (o, c, i)
    | _ => none

/-- The lane and bridge ports of a brick: (bridge, number). -/
def portsOf (d : Build) (b : Nat) : List (Bool × Nat) :=
  [6, 7].filterMap fun o => match beyond d b o with
    | .lane n => some (false, n)
    | .bridge n => some (true, n)
    | _ => none

/-- The registers of a brick page after isolation: RWS fields and directory memory are kept. -/
def Block.isolateRegs (k : Block) (d : Build) (b : Nat) : Block :=
  let page (a : Nat) : Bool := decide (pageBase .brick b ≤ a) && decide (a < pageBase .brick (b + 1)) &&
    !(decide (regAddr .GPD_EPENT b [0] ≤ a) && decide (a < regAddr .GPD_EPENT b [512]))
  { k with
    regs := resetRegs d page k.regs
    fresh := keepKeys k.fresh fun a => !page a
    net.tokens := keepKeys k.net.tokens fun a => !page a
    net.shaped := keepKeys k.net.shaped fun a => !page a }

/-- Packets that have gone on have no more units in the chains that `p` names. -/
def dropBehind (p : Nat → Bool) (m : Store (List Chained)) : Store (List Chained) :=
  m.map fun e => (e.1, e.2.map fun (x : Chained) => { x with behind := x.behind.filter fun y => !p y.1 })

/-- The work of a brick after isolation (R491, R493). -/
def Block.isolateWork (k : Block) (b : Nat) : Block :=
  let k := { k with
    prog.streams := dropBrick 1024 b k.prog.streams
    prog.counters := dropBrick 256 b k.prog.counters
    prog.ticks := dropBrick 256 b k.prog.ticks
    prog.xferOld := dropBrick 4096 b k.prog.xferOld
    xfr.trk := dropBrick 1024 b k.xfr.trk
    xfr.ring := dropBrick 8 b k.xfr.ring
    xfr.lpm := dropBrick 1024 b k.xfr.lpm
    xfr.lpmWait := dropBrick 1 b k.xfr.lpmWait
    xfr.order := dropBrick 16 b k.xfr.order
    xfr.history := dropBrick 1 b k.xfr.history
    xfr.lpHeld := dropBrick 1 b k.xfr.lpHeld
    xfr.lpFail := dropBrick 64 b k.xfr.lpFail
    xfr.fenceReads := dropBrick 1 b k.xfr.fenceReads
    xfr.lpDue := dropBrick 64 b k.xfr.lpDue
    xfr.requests := dropBrick 1 b k.xfr.requests }
  let k := { k with
    rdc.slots := dropBrick 64 b k.rdc.slots
    spc.compress := dropBrick 1 b k.spc.compress
    spc.gathers := dropBrick 1 b k.spc.gathers
    spc.jobs := dropBrick 1024 b k.spc.jobs
    flt.events := dropBrick 1 b k.flt.events
    flt.evLatch := dropBrick 1 b k.flt.evLatch
    mq.popped := dropBrick 64 b k.mq.popped
    mq.chan := dropBrick 1024 b k.mq.chan
    mq.waits := dropBrick 1 b k.mq.waits
    gpd.staged := dropBrick 1 b k.gpd.staged
    gpd.seen := dropBrick 8 b k.gpd.seen
    gpd.refreshed := dropBrick 1 b k.gpd.refreshed
    gpd.coord := dropBrick 1 b k.gpd.coord
    gpd.recs := dropBrick 4 b k.gpd.recs
    gpd.asks := dropBrick 1 b k.gpd.asks
    gpd.steerLast := dropBrick 64 b k.gpd.steerLast
    gpd.steered := dropBrick 16384 b k.gpd.steered
    hlth.back := dropBrick 8 b k.hlth.back
    hlth.shared := dropBrick 8 b k.hlth.shared
    hlth.carried := dropBrick 8 b k.hlth.carried
    hlth.traces := dropBrick 1 b k.hlth.traces
    hlth.lost := dropBrick 1 b k.hlth.lost }
  { k with
    net.chain := dropBehind (fun key => key / 8 == b) (dropBrick 8 b k.net.chain)
    net.stage := dropBrick 2 b k.net.stage
    net.rx := dropBrick 8 b k.net.rx
    net.hold := dropBrick 8 b k.net.hold
    net.credit := dropBrick 8 b k.net.credit
    net.busy := dropBrick 8 b k.net.busy
    net.vtime := dropBrick 8 b k.net.vtime
    net.ftag := dropBrick 64 b k.net.ftag
    net.rrobin := dropBrick 64 b k.net.rrobin
    net.headStart := dropBrick 64 b k.net.headStart
    net.subVtime := dropBrick 16 b k.net.subVtime
    net.subTag := dropBrick 16384 b k.net.subTag
    net.subStart := dropBrick 16384 b k.net.subStart
    net.offered := dropBrick 16 b k.net.offered
    net.sprayLast := dropBrick 8192 b k.net.sprayLast
    net.sprayS := dropBrick 512 b k.net.sprayS
    net.noticeCache := dropBrick 1 b k.net.noticeCache
    rst.ramped := k.rst.ramped.filter fun (x : Nat) => x != b
    net.seq := dropBrick 8 b k.net.seq }

/-- A brick is isolated (R491, R493): its queues are reset, its bridge closes, its work and registers take their reset
values, its outputs run the default course until the next image start, its ports go to DOWN. -/
def Block.isolate (k : Block) (e : Env) (b : Nat) : Block :=
  let d := e.build
  let k := (List.range 64).foldl (fun k q => k.resetQueue d b q) k
  let k := { k with rst.isolated := k.rst.isolated ++ [b], rst.leaving := k.rst.leaving.filter fun (x : Nat) => x != b }
  let k := (k.isolateWork b).isolateRegs d b
  let k := k.setBit .RST_BRK 0 b
  let k := (List.range 8).foldl (fun k p => k.setSeq b p { dflt := true }) k
  let k := { k with late := k.late.filter fun (w : LateWrite) => w.brick != b }
  (portsOf d b).foldl (fun k x => k.portDown d x.1 x.2) k

/-- Every output that leads into the brick is fenced (R493). -/
def Block.fencedIn (k : Block) (d : Build) (b : Nat) : Bool := (linksOf d b).all fun x => k.fencedOut x.2.1 x.2.2

/-- A write of RST_BRK (R493, R494, R508). -/
def Block.writeRstBrk (k : Block) (e : Env) (b : Nat) (v : Word) : Block :=
  let k := if flag v 2 then k.setRf .RST_BRK 2 2 b [] 0 else k
  let k := if flag v 1 && lpBuilt e.build b then k.lpToClosed e b true else k
  if flag v 0 then
    if flag (k.reg .RST_BRK b) 0 then k
    else if !k.fencedIn e.build b then k.setBit .RST_BRK 2 b
    else if k.isolated b then
      { k with rst.leaving := k.rst.leaving.filter fun (x : Nat) => x != b }.setBit .RST_BRK 0 b
    else k.isolate e b
  else if k.isolated b && !k.rst.leaving.contains b then
    { k with rst.leaving := k.rst.leaving ++ [b] }.setRf .RST_BRK 0 0 b [] 0
  else k

/-- LPRST (R508). -/
def execLprst (b : Nat) (v : Word) (s : State) : Host.Outcome State Fault Refusal :=
  let e := s.env
  s.access (brickOk e.build b) b .mp fun k => (k.writeRstBrk e b v).answerWrite b .mp

/-- ISOLATE (R493). -/
def execIsolate (b : Nat) (v : Word) (s : State) : Host.Outcome State Fault Refusal :=
  let e := s.env
  s.access (brickOk e.build b) b .mp fun k => (k.writeRstBrk e b v).answerWrite b .mp

/-- ISOLATE_RELEASE (R494). -/
def execIsolateRelease (b : Nat) (v : Word) (s : State) : Host.Outcome State Fault Refusal :=
  let e := s.env
  s.access (brickOk e.build b) b .mp fun k => (k.writeRstBrk e b v).answerWrite b .mp

/-- A link between a brick's port `o` and port `i` of brick `c` is emptied, with 4 hop credits at both ends (R494). -/
def Block.emptyLink (k : Block) (b o c i : Nat) : Block :=
  let k := match k.chainOf c i with
    | x :: _ => k.headLost c i 0 x.pkt.vc (x.owed.getD [])
    | [] => k
  let k := (k.setChain b o []).setChain c i []
  ({ k with net.chain := dropBehind (fun key => key == b * 8 + o || key == c * 8 + i) k.net.chain }.setCredits b o 4).setCredits c i 4

/-- ISOLATION_EXIT (R494): at the boundary. -/
def execIsolationExit (b : Nat) (s : State) : Host.Outcome State Fault Refusal :=
  let d := s.env.build
  s.run (brickOk d b) fun k =>
    if k.clk.cyc = 0 ∧ k.rst.leaving.contains b = true then
      let k := { k with
        rst.isolated := k.rst.isolated.filter fun (x : Nat) => x != b
        rst.leaving := k.rst.leaving.filter fun (x : Nat) => x != b }
      let k := (linksOf d b).foldl (fun k x => k.emptyLink b x.1 x.2.1 x.2.2) k
      (portsOf d b).foldl (fun k x => k.portTrain d x.1 x.2) k
    else k

/-! ### Compute domains (R498 to R502) -/

/-- A write of PWR_BRK (R498, R502, R509). -/
def Block.writePwrBrk (k : Block) (e : Env) (b : Nat) (v : Word) : Block :=
  let k := k.setRf .PWR_BRK 0 0 b [] (b2n (flag v 0))
  match k.rf .PWR_BRK 9 8 b with
  | 0 => if flag v 0 then k.closeCompute e b else k
  | 2 => if flag v 0 then k else k.setRf .PWR_BRK 9 8 b [] 3
  | _ => k

/-- COMPUTE_GATE (R499). -/
def execComputeGate (b : Nat) (v : Word) (s : State) : Host.Outcome State Fault Refusal :=
  let e := s.env
  s.access (brickOk e.build b) b .mp fun k => (k.writePwrBrk e b v).answerWrite b .mp

/-- COMPUTE_UNGATE (R502). -/
def execComputeUngate (b : Nat) (v : Word) (s : State) : Host.Outcome State Fault Refusal :=
  let e := s.env
  s.access (brickOk e.build b) b .mp fun k => (k.writePwrBrk e b v).answerWrite b .mp

/-- What an OFF compute domain has lost (R500, R501): set tags, stream positions; OPEN values stay, valid slots' streams
are HALTED. -/
def Block.loseCompute (k : Block) (b : Nat) : Block :=
  (List.range 64).foldl (fun k s =>
    let k := k.setSlot b s { openSeq := (k.slot b s).openSeq }
    if (k.slotWord b s).v && (k.stream b (0x100 + s)).st != .stopped then
      k.setStream b (0x100 + s) { st := .halted }
    else k) k

/-- COMPUTE_CLOSING_DONE (R499, R502): OFF, or at once WAKING where CGATE reads 0. -/
def execComputeClosingDone (b : Nat) (s : State) : Host.Outcome State Fault Refusal :=
  s.run (brickOk s.env.build b) fun k =>
    if k.rf .PWR_BRK 9 8 b = 1 ∧ k.computeIdle b = true then
      (k.loseCompute b).setRf .PWR_BRK 9 8 b [] (if flag (k.reg .PWR_BRK b) 0 then 2 else 3)
    else k

/-- WAKING_DONE (R501): the ramp ends; the domain becomes ON at the next boundary. -/
def execWakingDone (b : Nat) (s : State) : Host.Outcome State Fault Refusal :=
  s.run (brickOk s.env.build b) fun k =>
    if k.rf .PWR_BRK 9 8 b = 3 ∧ k.rst.ramped.contains b = false then { k with rst.ramped := k.rst.ramped ++ [b] } else k

/-! ### Self-test and the wrapper (R503, R568) -/

/-- The wrapper's instruction register takes a code (R568). -/
def Block.wrap (k : Block) (code : Nat) : Block := { k with rst.wrapper := code }

/-- WS_BYPASS (R568); a reserved code behaves so. -/
def execWsBypass (s : State) : Host.Outcome State Fault Refusal := s.runAlways fun k => k.wrap 0x00

/-- WS_EXTEST (R568): the boundary cells hold the ports; the block's own state does not change. -/
def execWsExtest (s : State) : Host.Outcome State Fault Refusal := s.runAlways fun k => k.wrap 0x01

/-- WS_INTEST (R568): the scan chains stand between WSI and WSO; what is shifted in is not a command of the table. -/
def execWsIntest (s : State) : Host.Outcome State Fault Refusal := s.runAlways fun k => k.wrap 0x02

/-- MBIST_RUN (R568): memory self-test of every brick runs. -/
def execMbistRun (s : State) : Host.Outcome State Fault Refusal :=
  s.runAlways fun k => { k.wrap 0x10 with rst.testing := true }

/-- MBIST_DONE (R503, R506, R507): the bricks that failed are marked; in the bring-up it begins with the clocks good. -/
def execMbistDone (failed : List Nat) (s : State) : Host.Outcome State Fault Refusal :=
  let d := s.env.build
  s.run true fun k =>
    if k.rst.testing || (!flag (k.reg .RST_STAT) 8 && !k.rst.testHeld && k.rf .CLK_STAT 33 32 == 0) then
      let bad := (bricks d).filter fun b => failed.contains b
      let k := (List.range 4).foldl (fun k i =>
        k.setReg .RST_BISTMAP 0 [i] (BitVec.ofNat 64 ((bad.filter fun b => b / 64 == i).map fun b => 2 ^ (b % 64)).sum)) k
      ({ k with rst.testing := false, rst.testHeld := false }.setRf .RST_STAT 23 16 0 [] (min 255 bad.length)).setBit .RST_STAT 8
    else k

/-- MBIST_READ (R568): shifts out RST_BISTMAP. -/
def execMbistRead (s : State) : Host.Outcome State Fault Refusal :=
  s.runAlways fun k => (k.wrap 0x11).send (.wrapper ((List.range 4).map fun i => k.reg .RST_BISTMAP 0 [i]))

/-- PHASE of RST_STAT (R503): the step reached. -/
def Block.phase (k : Block) (d : Build) : Nat :=
  let up (bridge : Bool) (n : Nat) : Bool := !k.portEnabled bridge n || k.portRetired bridge n || k.portUp bridge n
  if k.rf .CLK_STAT 33 32 ≠ 0 then 0
  else if k.rst.coldHeld then 1
  else if !flag (k.reg .RST_STAT) 8 then 2
  else if k.rf .GLB_MORTAR 8 0 = 0 then 3
  else if !((List.range d.lanePorts).all (up false) && (List.range d.bridgePorts).all (up true)) then 5
  else if k.clk.st ≠ .locked ∧ k.clk.st ≠ .root then 6
  else if k.img.st = .empty then 7
  else 8

end Sys2Proof.Machine
end

