-- ==== Sys2Proof/Machine/Faults.lean ====
section
/-!
DEFINITION. Retiring and releasing ports by firmware (R464, R479), the end of a recovery episode (R468) and the fault
log's read (R478).
-/

namespace Sys2Proof.Machine

/-! ### GLB_PORTRET (R464, R479) -/

/-- The port exists in the build. -/
def portOk (d : Build) (bridge : Bool) (n : Nat) : Bool := if bridge then bridgeOk d n else laneOk d n

/-- A write of 1 to a port's bit (R479): retired as by a permanent classification, and held in DOWN (R464). -/
def Block.retirePort (k : Block) (d : Build) (bridge : Bool) (n : Nat) : Block :=
  if k.portRetired bridge n then k else (k.markPort bridge n).portDown d bridge n

/-- A write of 0 to a port's bit (R464): the port trains again if EN = 1. -/
def Block.releasePort (k : Block) (d : Build) (bridge : Bool) (n : Nat) : Block :=
  if k.portRetired bridge n then
    (k.setRf (if bridge then .GLB_PORTRET1 else .GLB_PORTRET0) n n 0 [] 0).portTrain d bridge n
  else k

/-- A write of a whole GLB_PORTRET word: bits of ports that the build does not have stay 0. -/
def Block.writePortret (k : Block) (d : Build) (bridge : Bool) (v : Word) : Block :=
  (List.range (if bridge then d.bridgePorts else d.lanePorts)).foldl (fun k n =>
    if flag v n then k.retirePort d bridge n else k.releasePort d bridge n) k

/-- PORT_RETIRE (R479). The bit of a port that the build does not have stays 0. -/
def execPortRetire (bridge : Bool) (n : Nat) (s : State) : Host.Outcome State Fault Refusal :=
  let d := s.env.build
  s.access true 0 .mp fun k => (if portOk d bridge n then k.retirePort d bridge n else k).answerWrite 0 .mp

/-- PORT_RELEASE (R464). The bit of a port that the build does not have stays 0. -/
def execPortRelease (bridge : Bool) (n : Nat) (s : State) : Host.Outcome State Fault Refusal :=
  let d := s.env.build
  s.access true 0 .mp fun k => (if portOk d bridge n then k.releasePort d bridge n else k).answerWrite 0 .mp

/-! ### The end of an episode (R468) -/

/-- A write of GLB_FLTCTL: DONE acts while an episode is in progress. -/
def Block.writeFltctl (k : Block) (v : Word) : Block :=
  let k := k.applyWrite .GLB_FLTCTL 0 [] v
  if flag v 0 && k.flt.recovering then { k with flt.donePend := true } else k

/-- FAULT_DONE (R468). -/
def execFaultDone (v : Word) (s : State) : Host.Outcome State Fault Refusal :=
  s.access true 0 .mp fun k => (k.writeFltctl v).answerWrite 0 .mp

/-- A source tracker holds an unacknowledged packet of the other route epoch. -/
def Tracker.oldEpoch (v : Tracker) (epoch : Bool) : Bool :=
  v.sourceAtWork && v.unanswered.any fun n =>
    (v.epochs.find? fun (x : Nat × Bool) => x.1 == n).map Prod.snd == some (!epoch)

/-- A send channel holds an unacknowledged message of the other route epoch. -/
def Channel.oldEpoch (v : Channel) (epoch : Bool) : Bool := v.unacked.any fun m => m.sent == some (!epoch)

/-- Every condition of R468 but DONEPEND. -/
def Block.recovered (k : Block) (d : Build) : Bool :=
  let up (bridge : Bool) (n : Nat) : Bool := !k.portEnabled bridge n || k.portRetired bridge n || k.portUp bridge n
  !(k.xfr.trk.any fun (x : Nat × Tracker) => x.2.oldEpoch k.net.epoch) &&
  !(k.mq.chan.any fun (x : Nat × Channel) => x.2.oldEpoch k.net.epoch) &&
  (List.range d.lanePorts).all (fun p => (k.port false p).replay.isEmpty && up false p) &&
  (List.range d.bridgePorts).all (up true)

/-- EPISODE_END (R468): at a course boundary. -/
def execEpisodeEnd (s : State) : Host.Outcome State Fault Refusal :=
  let d := s.env.build
  s.run true fun k =>
    if k.clk.cyc = 0 ∧ k.flt.recovering = true ∧ k.flt.donePend = true ∧ k.recovered d = true then
      { k with
        flt.recovering := false
        flt.donePend := false
        flt.triggers := 0 }.faultLog 4 0 0 0
    else k

/-! ### The fault log (R478) -/

/-- A read of GLB_FLTLOG: the entry it returns, and the block without it. -/
def Block.popFault (k : Block) : Word × Block :=
  match k.flt.log with
  | [] => (0, k)
  | w :: r => (w, { k with flt.log := r })

/-- FLTLOG_POP (R478). -/
def execFltlogPop (s : State) : Host.Outcome State Fault Refusal :=
  s.access true 0 .mp fun k =>
    let r := k.popFault
    r.2.answerRead 0 .mp r.1

end Sys2Proof.Machine
end

