-- ==== Sys2Proof/Machine/Health.lean ====
section
/-!
DEFINITION. The supply and the margin-plan table (R519 to R523), ageing (R515 to R517), trace records and congestion maps
(R526 to R532), the black box at the root (R533 to R537), TELEMETRY packets, and the return of a Local Port interrupt
(R557).
-/

namespace Sys2Proof.Machine

/-! ### The supply (R521, R523) -/

/-- VREQ_ACK (R521): ACKED takes the value that was sent, STEPS; LOWCNT of every brick is held at 0 while it settles. The
acknowledge is a bare change of level (R488, R565): the operand names what the regulator took, which is that value. -/
def execVreqAck (_v : Nat) (s : State) : Host.Outcome State Fault Refusal :=
  let d := s.env.build
  s.run true fun k =>
    if flag (k.reg .AGE_VREQ) 0 then
      let k := (k.setRf .AGE_VREQ 0 0 0 [] 0).setRf .AGE_VREQ 7 4 0 [] (k.rf .AGE_VREQ 11 8)
      let k := { k with hlth.settling := true }
      (bricks d).foldl (fun k b => k.setRf .AGE_MARGIN 42 40 b [] 0) k
    else k

/-- SETTLE_EXPIRY (R521). -/
def execSettleExpiry (s : State) : Host.Outcome State Fault Refusal :=
  s.run true fun k => { k with hlth.settling := false }

/-- A change of the margin-plan table by firmware: PLANSEQ counts it (R540), the black box records it (R533). -/
def Block.firmwarePlan (k : Block) (arg : Nat) : Block := k.planStep.replan 4 arg

/-- A write of AGE_VREQ (R523): DOWN requests one step down, unless STEPS is 0, a request is pending or the regulator's
clock has stopped. -/
def Block.writeVreq (k : Block) (v : Word) : Block :=
  let n := k.rf .AGE_VREQ 11 8
  if flag v 1 && decide (0 < n) && !flag (k.reg .AGE_VREQ) 0 && !k.regulatorShut then
    (k.requestSupply (n - 1)).firmwarePlan (n - 1)
  else k

/-- DOWN (R523). -/
def execDown (v : Word) (s : State) : Host.Outcome State Fault Refusal :=
  s.access true 0 .mp fun k => (k.writeVreq v).answerWrite 0 .mp

/-! ### Stretcher segments (R520, R523) -/

/-- A write of AGE_PLAN (R523): TWO changes at the next boundary; a setting of the policy for that boundary stands. -/
def Block.writePlan (k : Block) (d : Build) (i : Nat) (v : Word) : Block :=
  let now := flag (k.reg .AGE_PLAN 0 [i]) 0
  let want := flag v 0
  if !segmentBuilt d i then k
  else match look none k.hlth.planNext i with
    | none => if want == now then k else (k.planSegment i want false).firmwarePlan i
    | some (two, policy, _) =>
      if want == two || policy then k
      else ({ k with hlth.planNext := put none k.hlth.planNext i none }.setRf .AGE_PLAN 1 1 0 [i] 0).firmwarePlan i

/-- AGE_PLAN_WRITE (R523). -/
def execAgePlanWrite (i : Nat) (v : Word) (s : State) : Host.Outcome State Fault Refusal :=
  let d := s.env.build
  s.access (decide (i < 24)) 0 .mp fun k => (k.writePlan d i v).answerWrite 0 .mp

/-- SEGMENT_MODE_CHANGE (R520): at the first boundary after the change was set. -/
def execSegmentModeChange (i : Nat) (s : State) : Host.Outcome State Fault Refusal :=
  s.run (decide (i < 24)) fun k =>
    match look none k.hlth.planNext i with
    | none => k
    | some (two, _, at_) =>
      if k.clk.cyc = 0 ∧ at_ < k.clk.now then
        ({ k with hlth.planNext := put none k.hlth.planNext i none }.setRf .AGE_PLAN 1 1 0 [i] 0).setRf .AGE_PLAN 0 0 0 [i]
          (b2n two)
      else k

/-! ### Ageing (R515 to R517) -/

/-- Fraction bits of the logarithms of the fit. -/
def logBits : Nat := 40

/-- Binary digits of the logarithm of a mantissa in [1, 2) with 128 fraction bits. -/
def logFraction : Nat → Nat → Nat → Nat
  | 0, _, acc => acc
  | n + 1, m, acc =>
    let q := (m * m) >>> 128
    if 2 ^ 129 ≤ q then logFraction n (q >>> 1) (2 * acc + 1) else logFraction n q (2 * acc)

/-- log2 of a positive number in units of 2^-40. -/
def log2Fixed (x : Nat) : Nat :=
  let e := x.log2
  logFraction logBits ((x <<< 128) >>> e) 0 + e * 2 ^ logBits

/-- The samples of a fit: (k, log2 D) of every entry with V = 1 and D > 0 (R517). -/
def Block.samples (k : Block) (b : Nat) : List (Int × Int) :=
  (List.range 20).filterMap fun i =>
    let w := k.reg .AGE_HIST b [i]
    if flag w 63 && decide (0 < fld w 31 0) then some ((i : Int), (log2Fixed (fld w 31 0) : Int)) else none

/-- The least-squares line through samples at two or more places: slope and intercept as fractions of one positive
denominator, in units of 2^-40. -/
def leastSquares (l : List (Int × Int)) : Int × Int × Int :=
  let n : Int := l.length
  let sx := (l.map Prod.fst).sum
  let sy := (l.map Prod.snd).sum
  let sxx := (l.map fun (x : Int × Int) => x.1 * x.1).sum
  let sxy := (l.map fun (x : Int × Int) => x.1 * x.2).sum
  (n * sxy - sx * sy, sxx * sy - sx * sxy, n * sxx - sx * sx)

/-- a / b rounded to the nearest integer, a half upwards (b > 0). -/
def roundDiv (a b : Int) : Int := (2 * a + b).fdiv (2 * b)

/-- The greatest t below 2^n + lo with log2 t no later than the model's time for DEOL: log2 t * slope ≤ den * log2 DEOL -
intercept. -/
def searchHours (slope gap : Int) : Nat → Nat → Nat
  | 0, lo => lo
  | n + 1, lo =>
    let t := lo + 2 ^ n
    if (log2Fixed t : Int) * slope ≤ gap * 2 ^ logBits then searchHours slope gap n t else searchHours slope gap n lo

/-- EOL (R517): 0xFFFF_FFFF where the slope is not positive. -/
def endOfLife (f : Int × Int × Int) (deol : Nat) : Nat :=
  if f.1 ≤ 0 then 0xFFFFFFFF else searchHours f.1 (f.2.2 * (log2Fixed deol : Int) - f.2.1) 32 0

/-- A number of AGE_FIT that its field may not hold: a free value where it does not. -/
def fitField (x : Int) (width : Nat) (free : Word) : Nat :=
  if 0 ≤ x ∧ x < 2 ^ width then x.toNat else free.toNat

/-- The drift model is fitted again (R517). Fewer than two samples give no line: AGE_FIT takes its reset value. -/
def Block.refit (k : Block) (b : Nat) : Block :=
  let l := k.samples b
  if l.length < 2 then k.setReg .AGE_FIT b [] (regReset .AGE_FIT [])
  else
    let f := leastSquares l
    let one : Int := 2 ^ logBits
    let n := roundDiv (f.1 * 256) (f.2.2 * one)
    let a := roundDiv (f.2.1 * 256) (f.2.2 * one)
    let w := mkWord [(63, b2n (decide (3 ≤ l.length))), (48, fitField n 8 (Config.freeWord k.free) % 2 ^ 8),
      (32, fitField a 16 (Config.freeWord (k.free + 1)) % 2 ^ 16), (0, endOfLife f (k.rf .AGE_CTL 63 48))]
    { k with free := k.free + 2 }.setReg .AGE_FIT b [] w

/-- DRIFT of a measurement (R515); with a reference of 0 the quotient is not stated (log 8). -/
def driftOf (fref fstress : Nat) (free : Word) : Nat :=
  if fref ≤ fstress ∧ 0 < fstress then 0
  else if fref = 0 then free.toNat % 2 ^ 32
  else (fref - fstress) * 1000000 / fref

/-- STRESS_HOUR (R515, R516). -/
def execStressHour (b fref fstress : Nat) (s : State) : Host.Outcome State Fault Refusal :=
  s.run (brickOk s.env.build b) fun k =>
    let d := driftOf fref fstress (Config.freeWord k.free)
    let k := { k with free := k.free + 1 }
    let k := (k.bump .AGE_DRIFT 63 32 b).setRf .AGE_DRIFT 31 0 b [] d
    let h := k.rf .AGE_DRIFT 63 32 b
    match (List.range 20).find? fun i => 2 ^ i == h with
    | some i => (k.setReg .AGE_HIST b [i] (mkWord [(63, 1), (0, d)])).refit b
    | none => k

/-- AGE_HIST_WRITE (R516, R517). -/
def execAgeHistWrite (b i : Nat) (v : Word) (s : State) : Host.Outcome State Fault Refusal :=
  s.access (brickOk s.env.build b && decide (i < 20)) b .mp fun k =>
    ((k.applyWrite .AGE_HIST b [i] v).refit b).answerWrite b .mp

/-! ### The trace SRAM (R528 to R530) -/

/-- TRACE_RECORD (R528, R530): the oldest record of a brick's stop. -/
def execTraceRecord (b : Nat) (s : State) : Host.Outcome State Fault Refusal :=
  s.run (brickOk s.env.build b) fun k =>
    match look [] k.hlth.traces b with
    | [] => k
    | r :: l => { k with hlth.traces := put [] k.hlth.traces b l }.traceWrite r

/-- A write of PRB_TCTL (R530). -/
def Block.writeTctl (k : Block) (v : Word) : Block :=
  let was := flag (k.reg .PRB_TCTL) 63
  let k := k.applyWrite .PRB_TCTL 0 [] v
  if flag v 63 && !was then (k.setRf .PRB_TSTAT 13 0 0 [] 0).setRf .PRB_TSTAT 33 32 0 [] 0 else k

/-- PRB_TCTL_ENABLE (R530). -/
def execPrbTctlEnable (v : Word) (s : State) : Host.Outcome State Fault Refusal :=
  s.access true 0 .mp fun k => (k.writeTctl v).answerWrite 0 .mp

/-! ### Congestion maps (R531, R532) -/

/-- The bank of PRB_CMAP that is being filled. -/
def Block.fillBank (k : Block) : Nat := 1 - k.rf .PRB_CMSTAT 0 0

/-- BUSY of an output (R531): the shared-window cycles of the interval in which it carried a unit, in 1/256 of them. -/
def Block.busyOf (k : Block) (b p : Nat) : Nat :=
  min 255 (256 * look 0 k.hlth.carried (b * 8 + p) / max 1 (look 0 k.hlth.shared (b * 8 + p)))

/-- The two words of a brick's report (R531, R544). -/
def Block.mapWord (k : Block) (b w : Nat) : Word :=
  mkWord ((List.range 4).map fun i =>
    (16 * i, k.busyOf b (4 * w + i) * 256 + min 255 (look 0 k.hlth.back (b * 8 + 4 * w + i))))

/-- CONGESTION_INTERVAL (R531, R532): an interval of N courses ends at this boundary, and brick `b` reports. BUSY is what the
block has counted; the operand names nothing beside it. -/
def execCongestionInterval (b : Nat) (_busy : List Nat) (s : State) : Host.Outcome State Fault Refusal :=
  s.run (brickOk s.env.build b) fun k =>
    if flag (k.reg .PRB_CMCTL) 63 = true ∧ k.clk.cyc = 0 ∧ k.rf .PRB_CMCTL 15 0 ≤ k.hlth.courses then
      let n := (k.setReg .PRB_CMAP 0 [k.fillBank, b, 0] (k.mapWord b 0)).setReg .PRB_CMAP 0 [k.fillBank, b, 1] (k.mapWord b 1)
      { n with
        hlth.back := keepKeys n.hlth.back fun a => a / 8 != b
        hlth.shared := keepKeys n.hlth.shared fun a => a / 8 != b
        hlth.carried := keepKeys n.hlth.carried fun a => a / 8 != b
        hlth.reported := (n.hlth.reported.filter fun (x : Nat) => x != b) ++ [b] }
    else k

/-- CONGESTION_MAP_COMPLETE (R532). -/
def execCongestionMapComplete (s : State) : Host.Outcome State Fault Refusal :=
  let d := s.env.build
  s.run true fun k =>
    if (bricks d).all fun b => k.hlth.reported.contains b then
      let bank := k.fillBank
      let k := (k.setRf .PRB_CMSTAT 0 0 0 [] bank).setRf .PRB_CMSTAT 63 32 0 [] (k.rf .PRB_CMSTAT 63 32 + 1)
      let k := { k with hlth.reported := [] }
      if flag (k.reg .PRB_CMCTL) 62 then
        let body := (List.range 256).flatMap fun i => (List.range 2).flatMap fun w =>
          leBytes 8 (k.reg .PRB_CMAP 0 [bank, i, w]).toNat
        k.sendDirect d 0 { vc := 6, op := opTelemetry, epoch := k.net.epoch, rmode := 1, src := coord d 0 1,
                           dst := k.rf .PRB_TCTL 29 0, payload := body }
      else k
    else k

/-- TELEMETRY (R528, R532): a packet reaches the endpoint it is sent to and is consumed; at EP 5 of a brick that is not the
root, which has a rule for nothing else, any packet (R78, R583). -/
def execTelemetry (b : Nat) (s : State) : Host.Outcome State Fault Refusal :=
  let d := s.env.build
  s.run (brickOk d b) fun k =>
    let head (c : Nat) : Bool := match k.rxQueue b c with
      | p :: _ => p.op == opTelemetry || (c == 5 && unclaimed b c p)
      | [] => false
    match [0, 2, 3, 4, 5].find? head with
    | none => k
    | some c => match k.rxTake b c [opTelemetry] with
      | none => k
      | some (p, k) => k.consume d b (if c = 0 then min 1 (cEp p.dst) else c) p (p.op == opTelemetry) false id

/-! ### The black box (R533 to R537) -/

/-- An entry arrives at the root: written, or discarded in or after a freeze (R536). -/
def Block.boxArrive (k : Block) (en : BoxEntry) : Block :=
  if flag (k.reg .BBX_STAT) 63 then k
  else match k.flt.freezing with
    | none => k.boxWrite en
    | some (g, _) => if en.gtime ≤ g then k.boxWrite en else k.bump .BBX_STAT 47 32 0

/-- BLACK_BOX_ENTRY (R534): the oldest entry underway from brick `b`, or with 0xFFFF a die-wide one. -/
def execBlackBoxEntry (b : Nat) (s : State) : Host.Outcome State Fault Refusal :=
  s.run (brickOk s.env.build b || decide (b = 0xFFFF)) fun k =>
    match k.flt.boxWait.find? fun en => en.source == b with
    | none => k
    | some en => { k with flt.boxWait := k.flt.boxWait.erase en }.boxArrive en

/-- A write of BBX_CTL (R535, R537, R545): UNFREEZE takes effect before FREEZE. -/
def Block.writeBbxCtl (k : Block) (v : Word) : Block :=
  let k := k.applyWrite .BBX_CTL 0 [] v
  let k := if flag v 1 then
      ((k.setRf .BBX_STAT 63 59 0 [] 0).setRf .BBX_STAT 47 32 0 [] 0).setRf .BBX_STAT 31 24 0 [] 0
    else k
  if flag v 0 then k.freezeFor 15 else k

/-- FREEZE (R535). -/
def execFreeze (v : Word) (s : State) : Host.Outcome State Fault Refusal :=
  s.access true 0 .mp fun k => (k.writeBbxCtl v).answerWrite 0 .mp

/-- UNFREEZE (R537). -/
def execUnfreeze (v : Word) (s : State) : Host.Outcome State Fault Refusal :=
  s.access true 0 .mp fun k => (k.writeBbxCtl v).answerWrite 0 .mp

/-- FREEZE_COMPLETE (R536): what was recorded up to the freezing event has reached the root and is written, the FREEZE
entry follows, and the box is frozen. -/
def execFreezeComplete (s : State) : Host.Outcome State Fault Refusal :=
  s.run true fun k =>
    match k.flt.freezing with
    | none => k
    | some (g, c) =>
      let early := k.flt.boxWait.filter fun en => decide (en.gtime ≤ g)
      let k := early.foldl Block.boxWrite { k with
        flt.boxWait := k.flt.boxWait.filter fun en => decide (g < en.gtime)
        flt.freezing := none }
      let k := k.boxWrite { gtime := g, kind := 8, arg0 := c }
      (k.setBit .BBX_STAT 63).setRf .BBX_STAT 62 59 0 [] c

/-! ### Local Port interrupts (R557) -/

/-- INTERRUPT_RETURN (R557, R487): the return of line LPI_EVT or LPI_Q matches; merged events make one further change. -/
def execInterruptReturn (b : Nat) (queues : Bool) (s : State) : Host.Outcome State Fault Refusal :=
  let d := s.env.build
  s.run (brickOk d b && lpBuilt d b) fun k =>
    let key := b * 2 + b2n queues
    let v := look (false, false, false) k.flt.lpi key
    let n := if v.1 == v.2.1 then v else if v.2.2 then (!v.1, v.1, false) else (v.1, v.1, false)
    { k with flt.lpi := put (false, false, false) k.flt.lpi key n }

end Sys2Proof.Machine
end

