-- ==== Sys2Proof/Machine/ImageCheck.lean ====
section
/-!
DEFINITION. The form of an image (R54 to R57) and the checks of the check pass (R59 with R12, R13, R17, R20, R32, R34,
R35, R43, R92, R106, R160, R165, R168, R178, R188, R241 to R243, R252, R305 to R308, R319, R387, R388, R393, R403): each
check yields the codes of R59 that a section breaks, and the lowest code, at the lowest section that breaks it, is
reported.
-/

namespace Sys2Proof.Machine

/-! ### Codes of R59 -/

def errMagic : Nat := 0x01
def errVersion : Nat := 0x02
def errHeaderCrc : Nat := 0x03
def errMesh : Nat := 0x04
def errProfile : Nat := 0x05
def errTruncated : Nat := 0x06
def errSectionCrc : Nat := 0x07
def errTag : Nat := 0x08
def errDuplicate : Nat := 0x09
def errBrickRange : Nat := 0x0A
def errLength : Nat := 0x0B
def errRole : Nat := 0x0C
def errRoute : Nat := 0x0D
def errOpcode : Nat := 0x0E
def errBranch : Nat := 0x0F
def errPondOverlap : Nat := 0x10
def errSharedMin : Nat := 0x11
def errSkew : Nat := 0x12
def errBusy : Nat := 0x13
def errDataChanged : Nat := 0x14

/-- The code, where its condition holds. -/
def failIf (c : Bool) (code : Nat) : List Nat := if c then [code] else []

/-! ### Form (R54 to R57) -/

/-- BRICK of a die-wide section. -/
def dieWide : Nat := 0xFFFF

/-- Tags of R56. -/
def tagCourse : Nat := 1
def tagShared : Nat := 2
def tagRoute : Nat := 3
def tagGroup : Nat := 4
def tagTree : Nat := 5
def tagReducer : Nat := 6
def tagTransfer : Nat := 7
def tagGpd : Nat := 8
def tagSteer : Nat := 9

/-- A section: its index in the image (1 for the first), its header, and its body. -/
structure ImageSection where
  idx : Nat
  tag : Nat
  sub : Nat
  brick : Nat
  scrc : Nat
  body : List Byte
  deriving DecidableEq, Repr

/-- BLEN. -/
def ImageSection.blen (s : ImageSection) : Nat := s.body.length

/-- The words of a list of bytes. -/
def wordsOf : Nat → List Byte → List Word
  | 0, _ => []
  | n + 1, l => BitVec.ofNat 64 (leNat (l.take 8)) :: wordsOf n (l.drop 8)

/-- The words of a section. -/
def ImageSection.words (s : ImageSection) : List Word := wordsOf (s.blen / 8) s.body

/-- The sections in the bytes that follow the header, and what is left of them that forms no section. -/
def parseSections : Nat → Nat → List Byte → List ImageSection × List Byte
  | 0, _, l => ([], l)
  | n + 1, i, l =>
    let len := natAt l 4 4
    if l.length < 16 + len then ([], l)
    else
      let s : ImageSection :=
        { idx := i, tag := natAt l 0 1, sub := natAt l 1 1, brick := natAt l 2 2, scrc := natAt l 12 4,
          body := (l.drop 16).take len }
      let r := parseSections n (i + 1) (l.drop (16 + len))
      (s :: r.1, r.2)

/-- The complete sections of an image, or of the part of it received so far. -/
def sectionsOf (img : List Byte) : List ImageSection × List Byte := parseSections (img.length / 16 + 1) 1 (img.drop 64)

/-- LENGTH of R54. -/
def imgLength (img : List Byte) : Nat := natAt img 12 4
/-- SKEW_NS. -/
def imgSkew (img : List Byte) : Nat := natAt img 0x18 2
/-- FLAGS.FLAT. -/
def imgFlat (img : List Byte) : Bool := (natAt img 6 2).testBit 0
/-- IMAGE_ID. -/
def imgId (img : List Byte) : Nat := natAt img 0x10 8

/-- The header checks that come before TRUNCATED (R54, R59). -/
def headerCodes (d : Build) (img : List Byte) : List Nat :=
  failIf (natAt img 0 4 != 0x32464849) errMagic ++ failIf (natAt img 4 1 != 1) errVersion ++
  failIf (natAt img 0x3C 4 != crc32c (img.take 0x3C)) errHeaderCrc ++
  failIf (natAt img 8 1 != d.meshX || natAt img 9 1 != d.meshY) errMesh ++
  failIf ((natAt img 6 2).testBit 1 != d.switchProfile) errProfile

/-- SUB values of a tag (R56, R160, R241, R305, R306, R403). -/
def subCount : Nat → Nat
  | 1 => 8
  | 2 => 2
  | 3 => 3
  | 4 => 1
  | 5 => 1
  | 6 => 4
  | 7 => 1
  | 8 => 2
  | 9 => 1
  | _ => 0

/-- The section is die-wide (R56). -/
def ImageSection.wide (s : ImageSection) : Bool := s.tag == tagGroup || s.tag == tagSteer || (s.tag == tagRoute && s.sub != 0)

/-- What the checks see: the build, and the sections of the image. -/
structure ImageView where
  d : Build
  secs : List ImageSection
  deriving DecidableEq, Repr

/-- The section of a tag, SUB and BRICK. -/
def ImageView.sec (v : ImageView) (tag sub brick : Nat) : Option ImageSection :=
  v.secs.find? fun s => s.tag == tag && s.sub == sub && s.brick == brick

/-- The words of a section, if it is there. -/
def ImageView.wordsAt (v : ImageView) (tag sub brick : Nat) : List Word :=
  match v.sec tag sub brick with
  | some s => s.words
  | none => []

/-- SECTION_CRC, TAG, DUPLICATE by order or repetition, BRICK_RANGE, and a BLEN that is no multiple of 8. -/
def ImageView.formCodes (v : ImageView) (s : ImageSection) : List Nat :=
  failIf (s.scrc != crc32c s.body) errSectionCrc ++
  failIf (decide (subCount s.tag ≤ s.sub) || s.wide != (s.brick == dieWide)) errTag ++
  failIf (v.secs.any fun o => decide (o.idx < s.idx) &&
    ((o.tag == s.tag && o.sub == s.sub && o.brick == s.brick) || decide (s.tag * 65536 + s.brick < o.tag * 65536 + o.brick)))
    errDuplicate ++
  failIf (!s.wide && s.brick != dieWide && !brickOk v.d s.brick) errBrickRange ++
  failIf (s.blen % 8 != 0) errLength

/-- What a port named in an image breaks: ROLE for an express port of role none (R17), ROUTE for an unconnected one
(R12). -/
def portCodes (d : Build) (b p : Nat) : List Nat :=
  if !unconnected d b p then [] else if 6 ≤ p then [errRole] else [errRoute]

/-! ### COURSE (R106) -/

/-- The instruction takes no slot. -/
def zeroSlot (x : CourseInstr) : Bool := (courseSlots x).isNone

/-- The closing window of R101. -/
def isClosing : CourseInstr → Bool
  | .shared 0 => true
  | _ => false

/-- A MARK, and its WRAP. -/
def markWrap : CourseInstr → Option Bool
  | .mark w => some w
  | _ => none

/-- A REPEAT at place `i` of a part keeps R102. -/
def repeatOk (part : List CourseInstr) (i : Nat) : Bool :=
  match part[i]? with
  | some (CourseInstr.rep _ b) => decide (b ≤ i) && ((part.drop (i - b)).take b).all fun x =>
      !isClosing x && (markWrap x).isNone && (match x with
        | .rep _ _ => false
        | _ => true)
  | _ => true

/-- The longest run of true values, with the run in progress. -/
def longestRun : Nat → Nat → List Bool → Nat
  | best, _, [] => best
  | best, run, true :: r => longestRun (max best (run + 1)) (run + 1) r
  | best, _, false :: r => longestRun best 0 r

/-- Slots of the instructions of a trace that satisfy `p`. -/
def slotsWhere (p : CourseInstr → Bool) (l : List CourseInstr) : Nat :=
  ((l.filter p).map fun x => (courseSlots x).getD 0).sum

/-- The instruction is a SHARED window. -/
def isShared : CourseInstr → Bool
  | .shared _ => true
  | _ => false

/-- The checks of R106 on one part, for an output whose slots last `unit` FCLK, `most` of them outside the closing
window. -/
def partCodes (unit most : Nat) (part : List CourseInstr) : List Nat :=
  let timed := part.filter fun x => !zeroSlot x
  let trace := partTrace part
  let other := slotsWhere (fun _ => true) trace
  failIf (decide (most < other)) errLength ++
  failIf ((timed.dropLast.any isClosing) || !((List.range part.length).all fun i => repeatOk part i)) errBranch ++
  failIf (!(timed.any isClosing) ||
    decide (slotsWhere isShared trace * unit + (courseLen - other * unit) < 8 + ceilDiv 300 unit * unit)) errSharedMin

/-- The slots of the instruction lie in the range of R98 for an output timed in 10 ns units. -/
def timedRangeOk (x : CourseInstr) : Bool := decide ((courseSlots x).getD 0 ≤ 200)

/-- The ports that a CONNECT names, at output `p` of brick `b` (R99, R106). -/
def connectCodes (d : Build) (b p : Nat) : CourseInstr → List Nat
  | .connect i _ _ m =>
    portCodes d b i ++ failIf (i == p || !m.testBit p ||
      (List.range 8).any fun o => o != p && m.testBit o && (timeTimed d b o != timeTimed d b p)) errRoute
  | _ => []

/-- The CONNECT windows of part `n` of a program: (first slot, slots, IN, FLOW, RMASK). -/
def connectsOf (parts : List (List CourseInstr)) (n : Nat) : List (Nat × Nat × Nat × Nat × Nat) :=
  (partWindows (parts.getD (n % max 1 parts.length) [])).filterMap fun w => match w.2.2 with
    | .connect i _ f m => some (w.1, w.2.1, i, f, m)
    | _ => none

/-- The program of an output in the image. -/
def ImageView.program (v : ImageView) (b p : Nat) : List CourseInstr :=
  (v.wordsAt tagCourse p b).filterMap fun w => decodeCourse w.toNat

/-- Every output that RMASK names has the CONNECT of R99 over the same cycles, in every course. -/
def ImageView.masksMatch (v : ImageView) (b p : Nat) : Bool :=
  let mine := courseParts (v.program b p)
  (List.range 8).all fun o => o == p ||
    (let theirs := courseParts (v.program b o)
     (List.range (max mine.length theirs.length)).all fun n =>
       (connectsOf mine n).all fun w => !w.2.2.2.2.testBit o ||
         (connectsOf theirs n).any fun u =>
           u.1 == w.1 && u.2.1 == w.2.1 && u.2.2.1 == w.2.2.1 && u.2.2.2.1 == w.2.2.2.1)

/-- The checks of R106 on a COURSE section. -/
def ImageView.courseCodes (v : ImageView) (s : ImageSection) : List Nat :=
  let d := v.d
  let (b, p) := (s.brick, s.sub)
  let ws := s.words
  let prog := ws.filterMap fun w => decodeCourse w.toNat
  let parts := courseParts prog
  let tt := timeTimed d b p
  let unit := if tt then 24 else 1
  let marks := prog.filterMap markWrap
  let run := (parts.flatMap partTrace).map zeroSlot
  failIf (decide (512 < ws.length)) errLength ++
  failIf (runsDefault d b p) errRole ++
  failIf (ws.any (fun w => (decodeCourse w.toNat).isNone) || (tt && !prog.all timedRangeOk)) errOpcode ++
  prog.flatMap (connectCodes d b p) ++
  failIf (!v.masksMatch b p) errRoute ++
  failIf (!([1, 2, 4, 8, 16, 32, 64].contains marks.length) || marks.dropLast.any id ||
    (prog.getLast?.bind markWrap) != some true || decide (4 < longestRun 0 0 (run ++ run))) errBranch ++
  parts.flatMap (partCodes unit (if tt then 198 else 4784))

/-! ### SHARED (R160) -/

/-- Numbers rise strictly. -/
def rising : List Nat → Bool
  | [] => true
  | [_] => true
  | a :: b :: r => decide (a < b) && rising (b :: r)

/-- Every `n`-th word from word `i` on. -/
def everyNth (n i : Nat) (l : List Word) : List Word :=
  (List.range ((l.length + n - 1 - i) / n)).map fun j => l.getD (n * j + i) 0

/-- The checks on a SHARED section. -/
def sharedCodes (s : ImageSection) : List Nat :=
  if s.sub = 0 then failIf (s.blen != 384) errLength
  else
    let ix := (everyNth 2 0 s.words).map BitVec.toNat
    failIf (s.blen % 16 != 0 || decide (17664 < s.blen) || !ix.all (fun i => decide (i < 1104)) || !rising ix) errLength

/-! ### ROUTE (R165, R168, R178) -/

/-- What a route string breaks, walked from hop `h` at brick `b` where the packet stands at input `inp`. -/
def walkRoute (d : Build) (route : Nat) : Nat → Nat → Nat → Nat → List Nat
  | 0, _, _, _ => [errRoute]
  | n + 1, h, b, inp =>
    let p := hopOf route h
    let c := portCodes d b p
    if !c.isEmpty then c
    else match beyond d b p with
      | .brick c i => if p = inp then [errRoute] else walkRoute d route n (h + 1) c i
      | _ => failIf ((p == inp && h != 0) || route / 2 ^ (3 * (h + 1)) != 0) errRoute

/-- What a route table entry with V = 1 breaks (R168). -/
def routeEntryCodes (d : Build) (b : Nat) (lo hi : Word) : List Nat :=
  if !flag hi 63 then []
  else
    let r := routeString lo hi
    match fld hi 61 60 with
    | 0 => walkRoute d r 24 0 b 4
    | 1 => failIf (flag hi 62 || r != 0) errRoute
    | _ => [errRoute]

/-- What an entry of the package or system table with V = 1 breaks (R178). -/
def tableEntryBad (d : Build) (w : Word) : Bool :=
  let l := tablePorts w
  flag w 63 && (l.any (fun x => !portExists d x) || (decide (1 < l.length) && l.any Prod.fst))

/-- The checks on a ROUTE section. -/
def ImageView.routeCodes (v : ImageView) (s : ImageSection) : List Nat :=
  let ws := s.words
  match s.sub with
  | 0 =>
    failIf (s.blen % 16 != 0 || decide (65536 < s.blen)) errLength ++
    (List.range (ws.length / 2)).flatMap fun i => routeEntryCodes v.d s.brick (ws.getD (2 * i) 0) (ws.getD (2 * i + 1) 0)
  | 1 => failIf (s.blen != 32) errLength ++
    failIf (ws.any (tableEntryBad v.d) || flag (ws.getD v.d.die 0) 63) errRoute
  | _ => failIf (s.blen != 6144) errLength ++ failIf (ws.any (tableEntryBad v.d)) errRoute

/-! ### GROUP (R304, R305) -/

/-- ⌈log₂ (m + 1)⌉. -/
def bitLength (m : Nat) : Nat := if m = 0 then 0 else Nat.log2 m + 1

/-- A descriptor breaks R305: G and SEGK are checked where V = 1, the other fields in every descriptor. -/
def descBad (w0 w1 : Word) : Bool :=
  ((flag w0 63 && (fld w0 51 46 != bitLength (fld w0 16 0) || decide (4 < fld w0 57 55))) ||
   (!flag w0 61 && (decide (8 ≤ fld w0 45 42) || decide (8 ≤ fld w0 41 38))) ||
   (if flag w0 61 then fld w0 37 28 == 0 || decide (513 < fld w0 37 28) else fld w0 37 28 != 0) ||
   (flag w0 62 && flag w0 61) || (flag w0 60 != (fld w1 63 48 != 0)) || (fld w1 47 40 != 0 && !flag w0 61))

/-- The checks on a GROUP section. -/
def groupCodes (s : ImageSection) : List Nat :=
  let ws := s.words
  let gs := (everyNth 3 0 ws).map BitVec.toNat
  failIf (s.blen % 24 != 0 || decide (98304 < s.blen) || !gs.all (fun g => decide (g < 4096)) || !rising gs ||
    (List.range (ws.length / 3)).any fun i => descBad (ws.getD (3 * i + 1) 0) (ws.getD (3 * i + 2) 0)) errLength

/-- The valid descriptor of a group in the image. -/
def ImageView.desc (v : ImageView) (g : Nat) : Option (Word × Word) :=
  let ws := v.wordsAt tagGroup 0 dieWide
  match (List.range (ws.length / 3)).find? fun i => (ws.getD (3 * i) 0).toNat == g with
  | some i => if flag (ws.getD (3 * i + 1) 0) 63 then some (ws.getD (3 * i + 1) 0, ws.getD (3 * i + 2) 0) else none
  | none => none

/-! ### TREE (R188, R306 to R308) -/

/-- The outputs that words 2 to 7 serve. -/
def rangePorts : List Nat := [0, 1, 2, 3, 6, 7]

/-- The member ranges of a tree-node entry: (output, lowest, highest). -/
def treeRanges (e : List Word) : List (Nat × Nat × Nat) :=
  let w1 := e.getD 1 0
  (if flag w1 63 then [(4, fld w1 57 41, fld w1 57 41 + fld w1 62 58 - 1)] else []) ++
  (List.range 6).filterMap fun i =>
    let w := e.getD (i + 2) 0
    if flag w 63 then some (rangePorts.getD i 0, fld w 16 0, fld w 33 17) else none

/-- The child slots in use: (port, slot). -/
def treeChildren (w1 : Word) : List (Nat × Nat) :=
  (List.range 8).filterMap fun p =>
    let c := fld w1 (3 * p + 2) (3 * p)
    if c = 7 then none else some (p, c)

/-- What a tree-node entry with V = 1 breaks. -/
def ImageView.nodeCodes (v : ImageView) (b : Nat) (e : List Word) : List Nat :=
  let d := v.d
  let w0 := e.getD 0 0
  let w1 := e.getD 1 0
  let mask := fld w0 54 47
  let red := flag w0 62
  let root := flag w0 61
  let nch := fld w0 60 58
  let din := fld w0 57 55
  let rs := treeRanges e
  let ch := treeChildren w1
  let slots := ch.map Prod.snd
  ((List.range 8).filter fun p => mask.testBit p).flatMap (portCodes d b) ++
  (ch.map Prod.fst).flatMap (portCodes d b) ++
  failIf ((v.desc (fld w0 11 0)).isNone || (!root && mask.testBit din) || (mask.testBit 5 && !red) ||
    flag w1 63 != mask.testBit 4 || rs.any (fun r => !mask.testBit r.1) ||
    rs.any (fun r => rs.any fun q => q.1 != r.1 && decide (r.2.1 ≤ q.2.2) && decide (q.2.1 ≤ r.2.2)) ||
    ch.any (fun x => x.1 == 5 || (!root && x.1 == din)) ||
    (if red then nch == 0 || slots.length != nch || !(List.range nch).all (fun c => slots.contains c)
     else nch != 0 || !ch.isEmpty)) errRoute

/-- The entries of a TREE section. -/
def treeEntries (ws : List Word) : List (List Word) := (List.range (ws.length / 8)).map fun i => (ws.drop (8 * i)).take 8

/-- Entry `j` of a list has a value that an earlier one has. -/
def repeated (l : List Nat) : Bool := (List.range l.length).any fun j => (l.take j).contains (l.getD j 0)

/-- The checks on a TREE section. -/
def ImageView.treeCodes (v : ImageView) (s : ImageSection) : List Nat :=
  let es := (treeEntries s.words).filter fun e => flag (e.getD 0 0) 63
  failIf (s.blen % 64 != 0 || decide (8192 < s.blen)) errLength ++
  failIf (repeated (es.map fun e => fld (e.getD 0 0) 11 0)) errDuplicate ++
  es.flatMap (v.nodeCodes s.brick)

/-! ### Programs (R32, R34, R35, R43, R57) -/

/-- The loops of a program: (target, address). -/
def loopsOf (u : Nat) (ws : List Word) : List (Nat × Nat) :=
  (List.range ws.length).filterMap fun a => match ctlOf u (ws.getD a 0) with
    | some (.loop _ t) => some (t, a)
    | _ => none

/-- The loops of a program break R35. -/
def loopsBad (u : Nat) (ws : List Word) : Bool :=
  let l := loopsOf u ws
  l.any fun x => decide (x.2 < x.1) ||
    l.any (fun y => decide (x.2 < y.2) && decide (y.1 ≤ x.2) && decide (x.1 < y.1)) ||
    decide (4 < (l.filter fun y => decide (y.1 ≤ x.1) && decide (x.2 ≤ y.2)).length)

/-- A SIGNAL.R with an entry beyond the route table (R43). -/
def signalBeyond (w : Word) : Bool :=
  match decodeXfer w.toNat with
  | some (.ctl (.signalR _ e _)) => decide (4096 ≤ e)
  | _ => false

/-- What the words of a program break; `u` is a stream of the class. -/
def programCodes (u : Nat) (ws : List Word) : List Nat :=
  failIf (ws.any fun w => !wordLegal u w) errOpcode ++ failIf (loopsBad u ws) errBranch ++
  failIf (!isReducer u && ws.any signalBeyond) errRoute

/-- The checks on a TRANSFER section. -/
def transferCodes (s : ImageSection) : List Nat :=
  let ws := s.words
  let code := ws.drop 17
  failIf (decide (s.blen < 136) || decide (136 + 8 * 4096 < s.blen)) errLength ++ programCodes 0 code ++
  failIf ((ws.take 16).any fun w => flag w 63 && decide (code.length ≤ fld w 11 0)) errBranch

/-! ### REDUCER (R241 to R243, R252, R271, R273, R305, R319) -/

/-- The slot word holds a value that R271 reserves. -/
def slotReserved (w : SlotWord) : Bool :=
  w.nch == 0 || decide (4 < w.segk) || decide (17 < w.g) ||
  (if w.recs then w.recsz == 0 || decide (513 < w.recsz) else w.recsz != 0)

/-- The partition words of a brick in the image: index and word of the valid ones. -/
def ImageView.parts (v : ImageView) (b : Nat) : List (Nat × Word) :=
  let ws := v.wordsAt tagReducer 1 b
  (List.range 32).filterMap fun i => if flag (ws.getD i 0) 63 then some (i, ws.getD i 0) else none

/-- KIND of a partition word (R240). -/
def partKind (w : Word) : Nat := fld w 62 61

/-- Two valid partitions of the brick share a block. -/
def ImageView.pondOverlaps (v : ImageView) (b : Nat) : Bool :=
  let l := v.parts b
  l.any fun x => l.any fun y => x.1 != y.1 && partsOverlap x.2 y.2

/-- The partition of a slot has the kind and the size that R242 asks for. -/
def ImageView.partFits (v : ImageView) (b i kind bytes : Nat) : Bool :=
  match (v.parts b).find? fun x => x.1 == i with
  | some x => partKind x.2 == kind && decide (bytes ≤ (partRange x.2).2 * 1024)
  | none => false

/-- The valid slot words of a brick in the image. -/
def ImageView.slots (v : ImageView) (b : Nat) : List SlotWord :=
  ((v.wordsAt tagReducer 2 b).map slotFields).filter SlotWord.v

/-- The pond sizes of the slots of a brick break R242; overlap is checked before size. -/
def ImageView.pondBad (v : ImageView) (b : Nat) : Bool :=
  let l := v.slots b
  !v.pondOverlaps b &&
  (repeated (l.map SlotWord.segp) || repeated ((l.filter SlotWord.recs).map SlotWord.scrp) ||
   l.any fun w =>
     !v.partFits b w.segp 0 ((w.depth + 1) * (w.nch + 1 + b2n w.still) * w.segSize) ||
     (w.recs && !v.partFits b w.scrp 1 (w.nch * w.segSize)))

/-- A slot agrees with the tree-node entry of its group (R243). -/
def ImageView.slotNode (v : ImageView) (b : Nat) (w : SlotWord) : Bool :=
  (treeEntries (v.wordsAt tagTree 0 b)).any fun e =>
    let x := e.getD 0 0
    flag x 63 && fld x 11 0 == w.group && flag x 62 && fld x 60 58 == w.nch && flag x 61 == w.root

/-- A slot agrees with its group's descriptor (R252, R305, R319). -/
def ImageView.slotDesc (v : ImageView) (w : SlotWord) : Bool :=
  match v.desc w.group with
  | some (w0, w1) =>
    fld w0 51 46 == w.g && flag w0 62 == w.still && flag w0 61 == w.recs && fld w0 57 55 == w.segk &&
    fld w0 59 58 == w.depth &&
    !(w.recs && fld w1 47 40 != 0 && decide (fld w1 23 0 * 16 < 16 + w.nch * w.segSize))
  | none => false

/-- The checks on a REDUCER section. -/
def ImageView.reducerCodes (v : ImageView) (s : ImageSection) : List Nat :=
  let b := s.brick
  let ps := v.parts b
  match s.sub with
  | 0 => failIf (decide (8 * 1024 < s.blen)) errLength ++ programCodes 0x100 s.words
  | 1 =>
    failIf (s.blen != 256) errLength ++ failIf (v.pondOverlaps b) errPondOverlap ++
    failIf (!v.pondOverlaps b && (ps.any (fun x => (partRange x.2).2 == 0 ||
      decide (256 < (partRange x.2).1 + (partRange x.2).2)) ||
      decide (1 < (ps.filter fun x => partKind x.2 == 2).length))) errLength
  | 2 =>
    let l := v.slots b
    let code := (v.wordsAt tagReducer 0 b).length
    failIf (s.blen != 512) errLength ++ failIf (repeated (l.map SlotWord.group)) errDuplicate ++
    failIf (l.any fun w => !v.slotNode b w) errRoute ++
    failIf (l.any (fun w => slotReserved w || !v.slotDesc w) || v.pondBad b) errLength ++
    failIf (l.any fun w => decide (code ≤ w.entry)) errBranch
  | _ =>
    let room := ((ps.filter fun x => partKind x.2 == 2).map fun x => (partRange x.2).2 * 1024).sum
    failIf (s.blen % 32 != 0 || (!v.pondOverlaps b && decide (room < s.blen))) errLength

/-! ### GPDPRELOAD and STEER (R92, R387, R388, R393, R403) -/

/-- The slice brick of a hash unit (R388). -/
def sliceOfUnit (d : Build) (u : Nat) : Nat :=
  let n := ((List.range 6).foldl (fun x i => x ^^^ (u / 2 ^ (8 * i) % 256)) 0) % (d.meshX * d.meshY)
  n / d.meshX * 16 + n % d.meshX

/-- What the valid entries of a GPDPRELOAD SUB 0 section break: each entry for itself. -/
def gpdEntryBad (d : Build) (hshift b : Nat) (x : GpdEntry) : Bool :=
  x.v && (x.base >>> hshift != (x.base + x.lenm1) >>> hshift || sliceOfUnit d (x.base >>> hshift) != b ||
    x.st == .moving || x.st == .forwarding || x.home % 8 != 0 ||
    (x.st == .pinned && onDie d x.home && x.frame != x.base % 2 ^ 27))

/-- The entries of a GPDPRELOAD SUB 0 body. -/
def gpdEntries (ws : List Word) : List GpdEntry :=
  (List.range (ws.length / 3)).map fun i => gpdOfWords (ws.getD (3 * i) 0) (ws.getD (3 * i + 1) 0) (ws.getD (3 * i + 2) 0)

/-- The checks on a GPDPRELOAD section. -/
def gpdCodes (d : Build) (hshift : Nat) (s : ImageSection) : List Nat :=
  if s.sub = 0 then
    let l := (gpdEntries s.words).filter GpdEntry.v
    failIf (s.blen % 24 != 0 || decide (49152 < s.blen)) errLength ++
    failIf ((List.range l.length).any fun i => (l.take i).any fun y =>
      let x := l.getD i {}
      decide (x.base ≤ y.base + y.lenm1) && decide (y.base ≤ x.base + x.lenm1)) errDuplicate ++
    failIf (l.any (gpdEntryBad d hshift s.brick)) errRoute
  else failIf (decide (8 * 512 < s.blen)) errLength

/-- Target `t` of a set of PLC_STSET words: its brick index. -/
def steerBrick (w1 w2 : Word) (t : Nat) : Nat := if t < 4 then fld w1 (16 * t + 13) (16 * t + 6) else fld w2 (16 * t - 51) (16 * t - 58)

/-- The checks on a STEER section. -/
def steerCodes (d : Build) (s : ImageSection) : List Nat :=
  let ws := s.words.drop 32
  failIf (s.blen != 1792) errLength ++
  failIf ((List.range 64).any fun i =>
    let w0 := ws.getD (3 * i) 0
    flag w0 63 && (List.range (fld w0 61 59 + 1)).any fun t =>
      !brickOk d (steerBrick (ws.getD (3 * i + 1) 0) (ws.getD (3 * i + 2) 0) t)) errRoute

/-! ### The image (R59) -/

/-- Every code that a section breaks. -/
def ImageView.sectionCodes (v : ImageView) (hshift : Nat) (s : ImageSection) : List Nat :=
  v.formCodes s ++
  (if s.wide || brickOk v.d s.brick then
    (match s.tag with
     | 1 => v.courseCodes s
     | 2 => sharedCodes s
     | 3 => v.routeCodes s
     | 4 => groupCodes s
     | 5 => v.treeCodes s
     | 6 => v.reducerCodes s
     | 7 => transferCodes s
     | 8 => gpdCodes v.d hshift s
     | 9 => steerCodes v.d s
     | _ => [])
   else [])

/-- The lowest of some codes. -/
def lowest : List Nat → Option Nat
  | [] => none
  | a :: r => some (r.foldl min a)

/-- The failure that comes first by R59, as (code, section, brick). -/
def firstFailure (l : List (Nat × Nat × Nat)) : Option (Nat × Nat × Nat) :=
  match l with
  | [] => none
  | a :: r => some (r.foldl (fun x y => if y.1 < x.1 ∨ (y.1 = x.1 ∧ y.2.1 < x.2.1) then y else x) a)

/-- The checks of R59 on a whole image; `idle` says that electrical idle is enabled on a lane port. -/
def checkImage (d : Build) (hshift : Nat) (idle : Bool) (img : List Byte) : Option (Nat × Nat × Nat) :=
  match lowest (headerCodes d img) with
  | some c => some (c, 0, dieWide)
  | none =>
    let (secs, rest) := sectionsOf img
    if img.length ≠ imgLength img ∨ secs.length ≠ natAt img 10 2 ∨ rest ≠ [] then some (errTruncated, 0, dieWide)
    else
      let v : ImageView := { d := d, secs := secs }
      firstFailure ((secs.flatMap fun s => (v.sectionCodes hshift s).map fun c => (c, s.idx, s.brick)) ++
        (if imgSkew img < 20 ∨ (idle = true ∧ imgSkew img < 40) then [(errSkew, 0, dieWide)] else []))

end Sys2Proof.Machine
end

