-- ==== Sys2Proof/Machine/Loader.lean ====
section
/-!
DEFINITION. The image loader (R54 to R71, R585): its commands, the check and write passes, quiescing, what each section
writes, LOAD_FAILED, image start (R65, R137, R245), the program-memory window, and the writes of the route tables (R179
to R181, R197, R201).
-/

namespace Sys2Proof.Machine

/-! ### States (R67, R68) -/

/-- The loader enters a state; CHECKED, REJECTED, RUNNING and LOAD_FAILED raise the IMAGE interrupt (R574). -/
def Block.loadEnter (k : Block) (st : LoadState) : Block :=
  let k := { k with img.st := st }
  if st = .checked ∨ st = .rejected ∨ st = .running ∨ st = .loadFailed then k.irq 4 else k

/-- A failure is reported in GLB_IMAGE (R59, R68). -/
def Block.loadError (k : Block) (code sec brick : Nat) : Block :=
  { k with img.err := code, img.errSec := sec, img.errBrick := brick }

/-- IMAGE_CHECK (R60, R68): the check pass starts; a pass in progress goes on. The error fields return to 0 here, and the
state that ABORT returns to is the one before the first check (R67; log 104). -/
def Block.imageCheck (k : Block) : Block :=
  let st := k.img.st
  if st = .checking ∨ st = .quiescing ∨ st = .writing then k
  else
    let k := if st = .checked ∨ st = .rejected then k else { k with img.prev := st }
    ({ k with img.cur := [], img.checked := [], img.writeAsked := false }.loadError 0 0 0).loadEnter .checking

/-- IMAGE_ABORT (R67). -/
def Block.imageAbort (k : Block) : Block :=
  if k.img.st = .checking ∨ k.img.st = .checked ∨ k.img.st = .rejected then
    { k with img.cur := [], img.checked := [], img.writeAsked := false }.loadEnter k.img.prev
  else k

/-! ### Quiescing (R62) -/

/-- What holds an image in CHECKED after the write command: CONNECT on a lane or bridge port with AT = 0 (R136), a route
table section while WLOCK = 1 (R180), a GPD preload while an entry is MOVING (R393). -/
def Block.writeHeld (k : Block) (d : Build) : Bool :=
  let secs := (sectionsOf k.img.checked).1
  (k.rf .CRS_SWAP 47 0 == 0 && secs.any fun s =>
    s.tag == tagCourse && isExit d s.brick s.sub && s.words.any fun w => match decodeCourse w.toNat with
      | some x => isConnect x
      | none => false) ||
  (k.net.holdLeft != 0 && secs.any fun s => s.tag == tagRoute && s.sub != 0) ||
  ((secs.any fun s => s.tag == tagGpd && s.sub == 0) && k.gpd.entry.any fun e => e.2.v && e.2.st == .moving)

/-- Quiescing starts (R62): transfer streams that stand still are stopped at once. -/
def Block.startQuiesce (k : Block) : Block :=
  let still (x : Nat × Stream) : Bool := decide (x.1 % 1024 < 16) &&
    (x.2.st == .waiting || x.2.st == .halted || x.2.st == .faulted)
  let old := k.prog.streams
  { k with
    img.st := .quiescing, img.writeAsked := false, img.saved := old.filter still
    prog.streams := (old.map fun (x : Nat × Stream) =>
      if still x then (x.1, { x.2 with st := .stopped }) else x).filter fun x => x.2 != {} }

/-- IMAGE_WRITE (R62, R67). -/
def Block.imageWrite (k : Block) (d : Build) : Block :=
  if k.img.st ≠ .checked then k
  else if k.writeHeld d then { k with img.writeAsked := true }
  else k.startQuiesce

/-- A command written to GLB_IMAGE.CMD (R68). -/
def Block.imageCommand (k : Block) (d : Build) (cmd : Nat) : Block :=
  match cmd with
  | 1 => k.imageCheck
  | 2 => k.imageWrite d
  | 3 => k.imageAbort
  | _ => k

/-- IMAGE_CHECK (R60). -/
def execImageCheck (s : State) : Host.Outcome State Fault Refusal :=
  s.access true 0 .mp fun k => k.imageCheck.answerWrite 0 .mp

/-- IMAGE_WRITE (R62). -/
def execImageWrite (s : State) : Host.Outcome State Fault Refusal :=
  let d := s.env.build
  s.access true 0 .mp fun k => (k.imageWrite d).answerWrite 0 .mp

/-- IMAGE_ABORT (R67). -/
def execImageAbort (s : State) : Host.Outcome State Fault Refusal :=
  s.access true 0 .mp fun k => k.imageAbort.answerWrite 0 .mp

/-- WRITE_PASS_RELEASE (R136, R180, R393): what held the write pass has cleared. -/
def execWritePassRelease (s : State) : Host.Outcome State Fault Refusal :=
  let d := s.env.build
  s.run true fun k =>
    if k.img.st = .checked ∧ k.img.writeAsked = true ∧ k.writeHeld d = false then k.startQuiesce else k

/-- The die is quiet (R62): no reducer stream RUNNING or WAITING, every transfer stream STOPPED. A transfer stream that
enters FAULTED after the write command is not stopped, and the quiescing times out: the spec names only WAIT and HALT for
the streams that stop later (the model's choice, log 86). -/
def Block.isQuiet (k : Block) : Bool :=
  k.prog.streams.all fun x =>
    if x.1 % 1024 < 16 then x.2.st == .stopped else x.2.st != .running && x.2.st != .waiting

/-- Every stream is STOPPED (R63, R64); its latest WAIT shows still (R50). -/
def Block.stopStreams (k : Block) : Block :=
  { k with prog.streams :=
      (k.prog.streams.map fun (x : Nat × Stream) => (x.1, x.2.atRest .stopped)).filter fun x => x.2 != {} }

/-- QUIESCE_DONE (R62, R63): the write pass begins with every stream STOPPED. -/
def execQuiesceDone (s : State) : Host.Outcome State Fault Refusal :=
  s.run true fun k =>
    if k.img.st = .quiescing ∧ k.isQuiet = true then
      { k with img.st := .writing, img.cur := [], img.saved := [] }.stopStreams
    else k

/-- QUIESCE_TIMEOUT (R62): ERR reads BUSY and the stopped streams resume where they stood. -/
def execQuiesceTimeout (s : State) : Host.Outcome State Fault Refusal :=
  s.run true fun k =>
    if k.img.st = .quiescing then
      let k := k.img.saved.foldl (fun k x => { k with prog.streams := put {} k.prog.streams x.1 x.2 }) k
      ({ k with img.saved := [] }.loadError errBusy 0 dieWide).loadEnter .rejected
    else k

/-! ### What a section writes (R61, R585) -/

/-- The words of a store with V (bit 63) cleared at the keys that satisfy `p`. -/
def clearValid (m : Store Word) (p : Nat → Bool) : Store Word :=
  (m.map fun (x : Nat × Word) => if p x.1 then (x.1, withFld x.2 63 63 0) else x).filter fun x => x.2 != 0

/-- V is cleared in the elements `lo` to `hi - 1` of an array register of a page (R92, R241, R585); an element not listed
holds its reset value, with V = 0. -/
def Block.clearArray (k : Block) (r : RegName) (pg lo hi : Nat) : Block :=
  let base := regAddr r pg [0]
  let step := regAddr r pg [1] - base
  (k.regs.filter fun x => decide (base + step * lo ≤ x.1) && decide (x.1 < base + step * hi)).foldl
    (fun k x => k.setRf r 63 63 pg [(x.1 - base) / step] 0) k

/-- Word `w` of a tree-node entry without its reserved bits (R307). -/
def treeFields (w : Nat) (v : Word) : Word :=
  match w with
  | 0 => withFld v 22 12 0
  | 1 => withFld v 40 36 0
  | _ => withFld v 62 34 0

/-- The addresses of an array register of a page. -/
def inArray (r : RegName) (pg lo hi a : Nat) : Bool := decide (regAddr r pg [lo] ≤ a) && decide (a < regAddr r pg [hi])

/-- Words `l` from key `at_` on in a store. -/
def putWords (m : Store Word) (at_ : Nat) : List Word → Store Word
  | [] => m
  | w :: r => putWords (put 0 m at_ w) (at_ + 1) r

/-- The words of a memory of `size` words at `base`, replaced: those beyond the list are erased. -/
def loadWords (m : Store Word) (base size : Nat) (l : List Word) : Store Word :=
  putWords (keepKeys m fun a => !(decide (base ≤ a) && decide (a < base + size))) base (l.take size)

/-- The inactive bank of the course memories and NI route tables. -/
def Block.offBank (k : Block) : Nat := b2n (!k.net.bank)

/-- The inactive bank of the package and system tables. -/
def Block.offEpoch (k : Block) : Nat := b2n (!k.net.epoch)

/-- Every shaper register of a brick is set to its reset value, each as a write under R150 (R160). -/
def Block.resetShapers (k : Block) (b : Nat) : Block :=
  let k := (List.range 48).foldl (fun k i => k.writeShaper .SHW_SVC b [i / 6, i % 6] (regReset .SHW_SVC [i / 6, i % 6])) k
  (List.range 1104).foldl (fun k i => k.writeShaper .SHW_SUB b [i] (regReset .SHW_SUB [i])) k

/-- A SHARED section is written: after the brick's shapers were reset, unless an earlier SHARED section did so (R160). -/
def Block.loadShared (k : Block) (first : Bool) (s : ImageSection) : Block :=
  let b := s.brick
  let k := if first then k.resetShapers b else k
  let ws := s.words
  if s.sub = 0 then
    (List.range 48).foldl (fun k i => k.writeShaper .SHW_SVC b [i / 6, i % 6] (ws.getD i 0)) k
  else
    (List.range (ws.length / 2)).foldl (fun k i =>
      k.writeShaper .SHW_SUB b [(ws.getD (2 * i) 0).toNat] (ws.getD (2 * i + 1) 0)) k

/-- A ROUTE section is written (R165, R178). -/
def Block.loadRoute (k : Block) (s : ImageSection) : Block :=
  match s.sub with
  | 0 =>
    let base := (s.brick * 2 + k.offBank) * 4096 * 2
    let n := s.words.length
    let m := clearValid k.net.routeMem fun a => decide (base + n ≤ a) && decide (a < base + 8192) && a % 2 == 1
    let word (i : Nat) (w : Word) : Word := if i % 2 = 1 then fieldsWord .NI_RTHI w else w
    { k with net.routeMem := putWords m base (s.words.mapIdx word) }
  | 1 => { k with net.pkgTable := putWords k.net.pkgTable (k.offEpoch * 4) (s.words.map (fieldsWord .GLB_RTPKG)) }
  | _ => { k with net.sysTable := putWords k.net.sysTable (k.offEpoch * 768) (s.words.map (fieldsWord .GLB_RTSYS)) }

/-- Every descriptor of the die is invalid (R305). -/
def Block.clearGroups (k : Block) : Block :=
  { k with rdc.desc := clearValid k.rdc.desc fun a => a % 2 == 0 }

/-- A GROUP section is written (R305). -/
def Block.loadGroups (k : Block) (s : ImageSection) : Block :=
  let ws := s.words
  (List.range (ws.length / 3)).foldl (fun k i =>
    let g := (ws.getD (3 * i) 0).toNat
    let w0 := fieldsWord .GRP_DESC0 (ws.getD (3 * i + 1) 0)
    let w1 := fieldsWord .GRP_DESC1 (ws.getD (3 * i + 2) 0)
    { k with rdc.desc := put 0 (put 0 k.rdc.desc (g * 2) w0) (g * 2 + 1) w1 })
    k.clearGroups

/-- Tree-node entries of a brick from entry `n` on are invalid (R306). -/
def Block.clearTree (k : Block) (b n : Nat) : Block :=
  k.writeTree fun m => clearValid m fun a =>
    decide ((b * 128 + n) * 8 ≤ a) && decide (a < (b + 1) * 1024) && a % 8 == 0

/-- Endpoint entries of a brick from entry `n` on are invalid (R91, R92). -/
def Block.clearEndpoints (k : Block) (b n : Nat) : Block :=
  (((List.range 512).filter fun i => decide (n ≤ i) && flag (k.reg .GPD_EPENT b [i]) 63).foldl
    (fun k i => k.keepEndpoint b i) k).clearArray .GPD_EPENT b n 512

/-- A REDUCER section is written (R241). -/
def Block.loadReducer (k : Block) (s : ImageSection) : Block :=
  let b := s.brick
  let ws := s.words
  match s.sub with
  | 0 => { k with prog.rdcMem := loadWords k.prog.rdcMem (b * 1024) 1024 ws }
  | 1 => (List.range 32).foldl (fun k i => k.setReg .RDC_PART b [i] (fieldsWord .RDC_PART (ws.getD i 0))) k
  | 2 => (List.range 64).foldl (fun k i => k.setReg .RDC_SLOT b [i] (fieldsWord .RDC_SLOT (ws.getD i 0))) k
  | _ => (List.range (s.blen / 32)).foldl (fun k j =>
      { k with rdc.dtab := put [] k.rdc.dtab (b * 8192 + j) (bytesAt s.body (32 * j) 32) }) k

/-- The transfer program of a brick: its words, and its entry block (none: no engine enabled, no open range). -/
def Block.loadTransfer (k : Block) (b : Nat) (ws : List Word) : Block :=
  { k with
    prog.xferMem := loadWords k.prog.xferMem (b * 4096) 4096 (ws.drop 17)
    prog.entries := loadWords k.prog.entries (b * 16) 16 (ws.take 16)
    prog.openRange := put 0 k.prog.openRange b (ws.getD 16 0) }

/-- A GPDPRELOAD section is written (R92, R393). -/
def Block.loadGpd (k : Block) (s : ImageSection) : Block :=
  let b := s.brick
  if s.sub = 0 then
    let l := gpdEntries s.words
    (List.range 2048).foldl (fun k i => k.setGpd b i (l.getD i { age := 255 })) k
  else
    let ws := s.words
    (List.range ws.length).foldl (fun k i =>
      (k.keepEndpoint b i).setReg .GPD_EPENT b [i] (fieldsWord .GPD_EPENT (ws.getD i 0)))
      (k.clearEndpoints b ws.length)

/-- Word `w` of a steering set without its reserved bits (R411). -/
def stsetWord (w : Nat) (v : Word) : Word :=
  if w = 0 then withFld v 58 0 0 else mkWord ((List.range 4).map fun t => (16 * t, fld v (16 * t + 13) (16 * t)))

/-- Word `i` of PLC_STMAP takes a value (R411), by a write or from an image: a reserved set number leaves its byte (R9), and
the element of an absent brick stays zero (R579). -/
def Block.writeStmap (k : Block) (d : Build) (i : Nat) (v : Word) : Block :=
  let byte (j : Nat) : Nat :=
    let n := fld v (8 * j + 7) (8 * j)
    if brickOk d (8 * i + j) = false then 0
    else if 64 ≤ n ∧ n ≠ 0xFF then fld (k.reg .PLC_STMAP 0 [i]) (8 * j + 7) (8 * j) else n
  k.setReg .PLC_STMAP 0 [i] (mkWord ((List.range 8).map fun j => (8 * j, byte j)))

/-- The STEER section is written (R403). -/
def Block.loadSteer (k : Block) (d : Build) (s : ImageSection) : Block :=
  let ws := s.words
  let k := (List.range 32).foldl (fun k i => k.writeStmap d i (ws.getD i 0)) k
  (List.range 192).foldl (fun k i => k.setReg .PLC_STSET 0 [i / 3, i % 3] (stsetWord (i % 3) (ws.getD (32 + i) 0))) k

/-- A section of the write pass is written (R61); `first` as in `loadShared`. -/
def Block.loadSection (k : Block) (d : Build) (first : Bool) (s : ImageSection) : Block :=
  let b := s.brick
  match s.tag with
  | 1 => { k with net.courseProg := put [] k.net.courseProg ((b * 8 + s.sub) * 2 + k.offBank) s.words }
  | 2 => k.loadShared first s
  | 3 => k.loadRoute s
  | 4 => k.loadGroups s
  | 5 =>
    let k := k.writeTree fun m => putWords m (b * 1024) (s.words.mapIdx fun i w => treeFields (i % 8) w)
    k.clearTree b (s.words.length / 8)
  | 6 => k.loadReducer s
  | 7 => k.loadTransfer b s.words
  | 8 => k.loadGpd s
  | 9 => k.loadSteer d s
  | _ => k

/-- What the write pass does to the memories of a brick that the image has no section for (R585). -/
def Block.loadAbsent (k : Block) (v : ImageView) (flat : Bool) (b : Nat) : Block :=
  let has (tag sub : Nat) : Bool := (v.sec tag sub b).isSome
  let k := (List.range 8).foldl (fun k p =>
    if has tagCourse p then k
    else
      let l := if runsDefault v.d b p then [] else defaultCourse
      { k with net.courseProg := put [] k.net.courseProg ((b * 8 + p) * 2 + k.offBank) l }) k
  let k := if has tagReducer 0 then k
    else { k with prog.rdcMem := loadWords k.prog.rdcMem (b * 1024) 1024 [] }
  let k := if has tagReducer 1 then k else k.clearArray .RDC_PART b 0 32
  let k := if has tagReducer 2 then k else k.clearArray .RDC_SLOT b 0 64
  let k := if has tagTransfer 0 then k else k.loadTransfer b []
  let k := if has tagRoute 0 then k else
    let base := (b * 2 + k.offBank) * 8192
    { k with net.routeMem := clearValid k.net.routeMem fun a => decide (base ≤ a) && decide (a < base + 8192) && a % 2 == 1 }
  let k := if has tagTree 0 then k else k.clearTree b 0
  if has tagGpd 1 && flat then k else k.clearEndpoints b 0

/-- The write pass has ended (R61, R135, R179): absent memories are treated by R585, and the swap has its target. -/
def Block.endWritePass (k : Block) (d : Build) : Block :=
  let img := k.img.checked
  let v : ImageView := { d := d, secs := (sectionsOf img).1 }
  let k := if (v.sec tagGroup 0 dieWide).isSome then k else k.clearGroups
  let k := (bricks d).foldl (fun k b => k.loadAbsent v (imgFlat img) b) k
  let k := { k with
    img.written := true
    img.flipsEpoch := v.secs.any fun s => s.tag == tagRoute && s.sub != 0 }
  let at_ : Nat := k.rf .CRS_SWAP 47 0
  let late := at_ != 0 && decide (at_ < k.clk.course + 2)
  let k := if at_ = 0 ∨ late = true then k.setRf .CRS_SWAP 61 61 0 [] (b2n late) else k
  let k := { k with net.target := if at_ = 0 ∨ late = true then k.clk.course + 2 else at_ }
  k.setRf .CRS_SWAP 63 62 0 [] 1

/-! ### The passes (R60, R64, R69) -/

/-- Electrical idle is enabled on a lane port (R59). -/
def Block.anyIdle (k : Block) (d : Build) : Bool := (List.range d.lanePorts).any fun p => flag (k.reg .LNK_CTL p) 3

/-- The check pass has more bytes: the header is judged at byte 64, the image at LENGTH bytes (R59). -/
def Block.judge (k : Block) (d : Build) : Block :=
  let img := k.img.cur
  if img.length < 64 then k
  else if headerCodes d img = [] ∧ img.length < imgLength img then k
  else match checkImage d (k.rf .GPD_CTL 4 0) (k.anyIdle d) img with
    | some (c, sec, b) => (k.loadError c sec b).loadEnter .rejected
    | none => { k with img.checked := img }.loadEnter .checked

/-- LOAD_FAILED (R64): every output runs the default course and every stream is STOPPED. -/
def Block.failLoad (k : Block) (sec brick : Nat) : Block :=
  let id := imgId k.img.checked
  let k := { k with img.run := false, img.imageId := 0, img.written := false, net.seq := [] }.stopStreams
  (((k.loadError errDataChanged sec brick).loadEnter .loadFailed).boxPost
    { kind := 7, status := stProgramFault, arg1 := id }).freezeOn 2

/-- The write pass goes on with `cur` received, the sections `new` complete since the last step; it ends with the image. -/
def Block.writeOn (k : Block) (d : Build) (cur : List Byte) (new : List ImageSection) : Block :=
  let old := (sectionsOf k.img.cur).1
  let first (s : ImageSection) : Bool := !old.any fun o => o.tag == tagShared && o.brick == s.brick
  let k := new.foldl (fun k s => k.loadSection d (first s) s) { k with img.cur := cur }
  if cur.length = k.img.checked.length then k.endWritePass d else k

/-- Bytes reach the loader in image order (R60, R69). A byte past the image's last is DATA_CHANGED of the section after the
last, of no brick (log 104). -/
def Block.imageBytes (k : Block) (d : Build) (l : List Byte) : Block :=
  if k.img.st = .checking then { k with img.cur := k.img.cur ++ l }.judge d
  else if k.img.st = .writing then
    let cur := k.img.cur ++ l
    let n := (sectionsOf k.img.cur).1.length
    let all := (sectionsOf k.img.checked).1
    if k.img.checked.take cur.length = cur then
      k.writeOn d cur (if cur.length < 64 then [] else (sectionsOf cur).1.drop n)
    else if k.img.cur.length < 64 then k.failLoad 0 dieWide
    else k.failLoad (n + 1) ((all[n]?).elim dieWide ImageSection.brick)
  else k

/-- IMAGE_DATA (R69). -/
def execImageData (v : Word) (s : State) : Host.Outcome State Fault Refusal :=
  let d := s.env.build
  s.access true 0 .mp fun k => (k.imageBytes d (leBytes 8 v.toNat)).answerWrite 0 .mp

/-- The bytes of a section with its header. -/
def ImageSection.bytes (s : ImageSection) : List Byte :=
  leBytes 1 s.tag ++ leBytes 1 s.sub ++ leBytes 2 s.brick ++ leBytes 4 s.blen ++ leBytes 4 0 ++ leBytes 4 s.scrc ++ s.body

/-- The bytes received, with a section put at its place in image order (R54). -/
def placeSection (cur data : List Byte) : List Byte :=
  let key := natAt data 0 1 * 65536 + natAt data 2 2
  let before := ((sectionsOf cur).1.filter fun s => decide (s.tag * 65536 + s.brick ≤ key)).map fun s => 16 + s.blen
  let n := 64 + before.sum
  cur.take n ++ data ++ cur.drop n

/-- Place `j` of the checked image's sections holds these bytes, and the pass has not had it (R60). -/
def Block.expectsSection (k : Block) (data : List Byte) : Bool :=
  let same (s : ImageSection) : Bool := s.tag == natAt data 0 1 && s.sub == natAt data 1 1 && s.brick == natAt data 2 2
  ((sectionsOf k.img.checked).1.any fun s => same s && s.body == data.drop 16 && s.scrc == natAt data 12 4 &&
    s.blen == natAt data 4 4) && !(sectionsOf k.img.cur).1.any same

/-- An image section, or the header, arrives in band at the place it is addressed to: the header and die-wide sections
at the loader of the root brick, the others at their brick. -/
def Block.inBand (k : Block) (d : Build) (b : Nat) (data : List Byte) : Block :=
  let brick := natAt data 2 2
  if k.img.cur = [] then (if b = 0 ∧ data.length = 64 then k.imageBytes d data else k)
  else if b ≠ (if brick = dieWide then 0 else brick) ∨ data.length < 16 then k
  else if k.img.st = .checking then { k with img.cur := placeSection k.img.cur data }.judge d
  else if k.img.st = .writing then
    if k.expectsSection data then
      k.writeOn d (placeSection k.img.cur data)
        (((sectionsOf k.img.checked).1.filter fun s =>
          s.tag == natAt data 0 1 && s.sub == natAt data 1 1 && s.brick == brick))
    else
      k.failLoad (((sectionsOf k.img.checked).1.find? fun s =>
        s.tag == natAt data 0 1 && s.sub == natAt data 1 1 && s.brick == brick).elim 0 ImageSection.idx) brick
  else k

/-- IN_BAND_SECTION (R60): the bytes that a packet brings the loader (log 112). -/
def execInBandSection (b : Nat) (data : List Byte) (s : State) : Host.Outcome State Fault Refusal :=
  let d := s.env.build
  s.run (brickOk d b) fun k => k.inBand d b data

/-! ### Image start (R65, R137, R245) -/

/-- The reducer slots of a brick at image start (R245): OPEN = 0, valid ones HALTED. -/
def Block.startSlots (k : Block) (b : Nat) : Block :=
  (List.range 64).foldl (fun k s =>
    let v := (k.slotWord b s).v
    (k.setSlot b s {}).mapStream b (0x100 + s) fun x => x.atRest (if v then .halted else .stopped)) k

/-- Engines with EN = 1 start (R65). -/
def Block.startEngines (k : Block) (b : Nat) : Block :=
  (List.range 16).foldl (fun k en =>
    let w := look 0 k.prog.entries (b * 16 + en)
    if flag w 63 then k.mapStream b en fun x => { x.atRest .running with pc := fld w 11 0 } else k) k

/-- The scheduled packets in router inputs are discarded, and their places are free (R137, R152). -/
def Block.dropChains (k : Block) (d : Build) : Block :=
  k.net.chain.foldl (fun k x =>
    let gone := x.2.filter fun y => decide (y.pkt.vc < 2)
    if gone.isEmpty then k
    else (k.setChain (x.1 / 8) (x.1 % 8) (x.2.filter fun y => decide (2 ≤ y.pkt.vc))).freePlaces d (x.1 / 8) (x.1 % 8)
      (chainUnits gone)) k

/-- Packets that a source has still to stage: of units begun, and of units not begun. -/
def Block.packetsLeft (k : Block) (e : Env) (b t : Nat) (v : Tracker) : Nat :=
  v.todo.length +
  (if v.stop then 0
   else if v.op = .contrib then
    ((List.range (v.pcount - v.issued)).map fun n =>
      ((k.unitPackets e b t v (v.issued + n) false).getD []).length).sum
   else v.pcount - v.issued)

/-- The packets that the swap discards (R137): those held, and those that the NIs hold and have not issued. -/
def Block.heldCount (k : Block) (e : Env) : Nat :=
  k.heldScheduled.length + ((k.xfr.trk.filter fun x => x.2.holdsScheduled).map fun x =>
    k.packetsLeft e (x.1 / 1024) (x.1 % 1024) x.2).sum

/-- Held scheduled packets are discarded, and the trackers of their transfers complete with NO_ROUTE (R137, R138); nothing
is issued until the banks have swapped. -/
def Block.dropHeld (k : Block) (e : Env) : Block :=
  let n := k.heldCount e
  let trks := k.discardedTrackers e.build
  let k := k.dropChains e.build
  let k := { k with
    net.stage := keepLists (fun (x : Staged) => decide (2 ≤ x.pkt.vc)) k.net.stage
    net.hold := keepLists (fun (p : Packet) => decide (2 ≤ p.vc)) k.net.hold }
  let k := trks.foldl (fun k t => k.completeTracker (t / 1024) (t % 1024) stNoRoute) k
  (k.setRf .CRS_SWAP 55 48 0 [] (min 255 n)).setRf .CRS_SWAP 60 60 0 [] (b2n (n != 0))

/-- The route epoch toggles (R179). -/
def Block.flipEpoch (k : Block) : Block :=
  { k with net.epoch := !k.net.epoch, net.flipPending := false, net.holdLeft := k.rf .GLB_ROUTE 47 32 }

/-- A packet that a source has re-marked with the epoch in force: what its tracker or channel holds of its epoch. -/
def Block.noteEpoch (k : Block) (d : Build) (b : Nat) (x : Staged) : Block :=
  let p := x.pkt
  let t := p.tracker % 1024
  let ep := k.net.epoch
  if p.src / 8 ≠ coord d b 1 / 8 ∨ isResponse p = true then k
  else if p.op = opMessage then
    let v := k.chan b t
    k.setChan b t { v with
      unacked := v.unacked.map fun m => if m.seq == p.pseq && m.sent.isSome then { m with sent := some ep } else m }
  else
    let n := k.unitOf p
    if p.reduce ∧ p.pseq ≠ 0 then k
    else k.mapTracker b t fun v => { v with epochs := v.epochs.map fun y => if y.1 == n then (n, ep) else y }

/-- A message that stands at the injection point has not started (R182): it waits where its channel holds messages of the
old epoch that are not acknowledged. -/
def Block.waitsForOld (k : Block) (d : Build) (b : Nat) (p : Packet) : Bool :=
  p.op == opMessage && p.src == coord d b 1 && !p.resend &&
  (k.chan b (p.tracker % 1024)).unacked.any fun m => m.seq != p.pseq && m.sent == some (!k.net.epoch)

/-- A staged message goes back to its channel, not started. -/
def Block.unstart (k : Block) (b : Nat) (x : Staged) : Block :=
  let c := x.pkt.tracker % 1024
  let v := k.chan b c
  (k.setChan b c { v with
    unacked := v.unacked.map fun m => if m.seq == x.pkt.pseq then { m with sent := none } else m }).subLost b 0 x.pkt.vc x.sub

/-- A packet that stands at an injection point when the epoch flips is injected later: it carries the new epoch, by a new
exit lookup (R94, R173, R179), unless it is a message that R182 holds back. -/
def Block.reinject (k : Block) (d : Build) (b pt : Nat) (x : Staged) : Block :=
  if x.fixed then k.stageAt b pt x
  else if pt = 0 ∧ k.waitsForOld d b x.pkt = true then k.unstart b x
  else
    let k := if pt = 0 then k.noteEpoch d b x else k
    match k.enterDie d b (4 + pt) { x.pkt with epoch := k.net.epoch } with
    | (some q, k) => k.stageAt b pt { x with pkt := resealPacket q, owed := if q.rmode = 1 then none else x.owed }
    | (none, k) => ((k.subLost b pt x.pkt.vc x.sub).bump .BRK_RTERR 15 0 b).answerError d b x.pkt stNoRoute

/-- The routed packets of an injection point that lose their place at their outputs as the epoch flips are heads no more
(R145): what is routed there next becomes the head anew. -/
def Block.leaveHeads (k : Block) (b pt : Nat) : Block :=
  let l := k.stagedAt b (4 + pt)
  (List.range l.length).foldl (fun k i => match l[i]? with
    | some x => if x.fixed || x.pkt.rmode != 1 then k else k.headLost b (4 + pt) i x.pkt.vc (x.owed.getD [])
    | none => k) k

/-- The epoch flips and the packets not yet injected follow it (R179); the messages that waited for the old epoch go on
(R182). -/
def Block.flipRoutes (k : Block) (e : Env) : Block :=
  let l := k.net.stage
  let k := (l.foldl (fun k x => k.leaveHeads (x.1 / 2) (x.1 % 2)) k).flipEpoch
  let k := l.foldl (fun k x => x.2.foldl (fun k y => k.reinject e.build (x.1 / 2) (x.1 % 2) y) k) { k with net.stage := [] }
  (bricks e.build).foldl (fun k b => k.pumpNi e b) k

/-- The adds that SYNC instructions of the old programs owe to cycle 0 of the course (R104). -/
def Block.applyOwed (k : Block) (l : Store Sequencer) : Block :=
  l.foldl (fun k x => x.2.owed.foldl (fun k y => k.counterAdd (x.1 / 8) y.1 y.2) k) k

/-- Image start (R65, R137, R179, R245): held scheduled packets go, the banks swap, the counters are cleared where the
image asks for it and take the adds of this FCLK, and every output starts, and the streams and engines of every brick
that is not isolated (R493). What follows from the
trackers completed comes after the swap. -/
def Block.imageStart (k : Block) (e : Env) : Block :=
  let d := e.build
  let img := k.img.checked
  let trks := k.discardedTrackers d
  let old := k.net.seq
  let k := if (natAt img 6 2).testBit 2 then k.clearCounters else k
  let k := (k.applyOwed old).dropHeld e
  let k := k.setRf .CRS_SWAP 63 62 0 [] 3
  let k := { k with net.bank := !k.net.bank, net.injStop := false, img.run := true, net.seq := [] }
  let k := ((bricks d).filter fun b => !k.isolated b).foldl (fun k b => k.startSlots b) k
  let k := if k.img.flipsEpoch then k.flipRoutes e else k
  let k := { k with
    img.locked := true, img.imageId := imgId img, img.skewNs := imgSkew img, img.flat := imgFlat img
    img.written := false, img.flipsEpoch := false, img.cur := [] }
  let k := match k.clk.setHeld with
    | some _ => { k with clk.setHeld := none }.lockVio
    | none => k
  let k := ((bricks d).filter fun b => !k.isolated b).foldl (fun k b => k.startEngines b) k
  let k := trks.foldl (fun k t => k.settle e (t / 1024) (t % 1024)) k
  let k := (bricks d).foldl (fun k b => k.pumpNi e b) k
  (k.loadEnter .running).boxPost { kind := 7, arg1 := imgId img }

/-- IMAGE_START (R65): at the boundary that R135 and R137 choose. -/
def execImageStart (s : State) : Host.Outcome State Fault Refusal :=
  let e := s.env
  s.run true fun k =>
    if k.clk.cyc = 0 ∧ k.startsAt k.clk.course = true then k.imageStart e else k

/-! ### The program-memory window (R70, R71) -/

/-- The word that the window of a brick shows at a byte offset. -/
def Block.windowRead (k : Block) (b off : Nat) : Word :=
  match k.rf .GLB_PMSEL 1 0 with
  | 0 => if off < 0x8000 then
      (look [] k.net.courseProg ((b * 8 + off / 0x1000) * 2 + b2n k.net.bank)).getD (off % 0x1000 / 8) 0 else 0
  | 1 => if off < 0x2000 then look 0 k.prog.rdcMem (b * 1024 + off / 8) else 0
  | 2 => if off < 0x8000 then look 0 k.prog.xferMem (b * 4096 + off / 8) else 0
  | _ => 0

/-- Every stream of a brick's memory is STOPPED or HALTED. -/
def Block.streamsIdle (k : Block) (b : Nat) (reducer : Bool) : Bool :=
  (List.range (if reducer then 64 else 16)).all fun i =>
    let st := (k.stream b (if reducer then 0x100 + i else i)).st
    st == .stopped || st == .halted

/-- A write through the window (R71). -/
def Block.windowWrite (k : Block) (b off : Nat) (v : Word) : Block :=
  let w := look 0 k.prog.openRange b
  let inOpen := flag w 63 && decide (fld w 11 0 ≤ off / 8) && decide (off / 8 ≤ fld w 27 16)
  match k.rf .GLB_PMSEL 1 0 with
  | 1 => if off < 0x2000 ∧ k.streamsIdle b true = true then
      { k with prog.rdcMem := put 0 k.prog.rdcMem (b * 1024 + off / 8) v } else k.lockVio
  | 2 => if off < 0x8000 ∧ (inOpen = true ∨ k.streamsIdle b false = true) then
      k.writeXferWord b (off / 8) v else k.lockVio
  | _ => k.lockVio

/-- PROGRAM_WINDOW_WRITE (R71). -/
def execProgramWindowWrite (b off : Nat) (v : Word) (s : State) : Host.Outcome State Fault Refusal :=
  s.access (brickOk s.env.build b && decide (off < 0x10000)) 0 .mp fun k => (k.windowWrite b off v).answerWrite 0 .mp

/-! ### Route tables (R179, R180, R197, R201) -/

/-- A write of GLB_ROUTE (R179, R467). -/
def Block.writeGlbRoute (k : Block) (v : Word) : Block :=
  let k := k.applyWrite .GLB_ROUTE 0 [] v
  if flag v 1 then { k with net.flipPending := true }.episode else k

/-- ROUTE_FLIP_WRITE (R179). -/
def execRouteFlipWrite (v : Word) (s : State) : Host.Outcome State Fault Refusal :=
  s.access true 0 .mp fun k => (k.writeGlbRoute v).answerWrite 0 .mp

/-- ROUTE_FLIP (R179): at the boundary; where an image starts there with a flip of its own, the two are one. -/
def execRouteFlip (s : State) : Host.Outcome State Fault Refusal :=
  s.run true fun k =>
    if k.clk.cyc = 0 ∧ k.net.flipPending = true ∧ (k.img.flipsEpoch && k.startsAt k.clk.course) = false then k.flipRoutes s.env
    else k

/-- A write to bank `bank` of the package table (`sys` false) or the system table (R180, R201). -/
def Block.writeTable (k : Block) (sys : Bool) (bank i : Nat) (v : Word) : Block :=
  if bank = b2n k.net.epoch ∨ k.net.holdLeft ≠ 0 then k.lockVio
  else
    let w := withFld v 58 56 0
    if sys then { k with net.sysTable := put 0 k.net.sysTable (bank * 768 + i) w }
    else { k with net.pkgTable := put 0 k.net.pkgTable (bank * 4 + i) w }

/-- The element of a route table at a window address: (system table, bank, entry). -/
def tableAt (addr : Nat) : Option (Bool × Nat × Nat) :=
  if addr % 8 ≠ 0 then none
  else if 0x400 ≤ addr ∧ addr < 0x440 then some (false, (addr - 0x400) / 0x20, (addr - 0x400) % 0x20 / 8)
  else if 0x10000 ≤ addr ∧ addr < 0x14000 ∧ (addr - 0x10000) % 0x2000 < 768 * 8 then
    some (true, (addr - 0x10000) / 0x2000, (addr - 0x10000) % 0x2000 / 8)
  else none

/-- ROUTE_TABLE_WRITE (R180). -/
def execRouteTableWrite (addr : Nat) (v : Word) (s : State) : Host.Outcome State Fault Refusal :=
  s.access (tableAt addr).isSome 0 .mp fun k =>
    match tableAt addr with
    | some (sys, bank, i) => (k.writeTable sys bank i v).answerWrite 0 .mp
    | none => k

/-- The source route entry that NI_RTSEL selects (R196): its key. -/
def Block.selectedRoute (k : Block) (b : Nat) : Nat :=
  let bank := b2n (k.net.bank != flag (k.reg .NI_RTSEL b) 13)
  ((b * 2 + bank) * 4096 + k.rf .NI_RTSEL 11 0 b) * 2

/-- A write of NI_RTHI commits both words (R197), from the first lookup after this FCLK on (R169); a reserved MODE keeps the
entry's (R9). -/
def Block.commitRoute (k : Block) (b : Nat) (v : Word) : Block :=
  let i := k.selectedRoute b
  let old := (look 0 k.net.routeMem i, look 0 k.net.routeMem (i + 1))
  let mode := if fld v 61 60 ≤ 1 then fld v 61 60 else fld old.2 61 60
  let hi := withFld (withFld (withFld v 61 60 mode) 59 54 0) 23 8 0
  let seen := asStood k.clk.now (look ((0 : Nat), (0 : Word), (0 : Word)) k.net.routeOld (i / 2)) old
  { k with
    net.routeOld := put ((0 : Nat), (0 : Word), (0 : Word)) k.net.routeOld (i / 2) (k.clk.now + 1, seen)
    net.routeMem := put 0 (put 0 k.net.routeMem i (k.reg .NI_RTLO b)) (i + 1) hi }

/-- ROUTE_ENTRY_COMMIT (R197). -/
def execRouteEntryCommit (b : Nat) (v : Word) (s : State) : Host.Outcome State Fault Refusal :=
  s.access (brickOk s.env.build b) b .mp fun k => (k.commitRoute b v).answerWrite b .mp

end Sys2Proof.Machine
end

