-- ==== Sys2Proof/Machine/Registers.lean ====
section
/-!
DEFINITION. What every register reads (R578 to R580) and what a write of it does, by the Management Port (R559, R560), by
a Local Port (R550) and in band (R583).
-/

namespace Sys2Proof.Machine

/-! ### What registers read -/

/-- The stored word of a register with its WO fields zero (R580). -/
def Block.shown (k : Block) (r : RegName) (pg : Nat) (ix : List Nat) : Word :=
  (regFields r).foldl (fun w f => if f.acc = .wo then withFld w f.hi f.lo 0 else w) (k.reg r pg ix)

/-- GLB_IDENT (R19). -/
def identWord (d : Build) : Word :=
  mkWord [(48, 2), (40, d.step % 256), (34, d.lanePorts), (29, d.bridgePorts), (28, b2n d.stretch),
    (20, b2n d.switchProfile), (15, d.meshY), (10, d.meshX)]

/-- Role code and port number of an express port (R18). -/
def roleCode : XRole → Nat × Nat
  | .none => (0, 0x3F)
  | .lane p => (1, p)
  | .bridge p => (2, p)
  | .stretcher => (3, 0x3F)

/-- BRK_PORTS (R18). -/
def portsWord (d : Build) (b : Nat) : Word :=
  let xa := roleCode (xrole d b 0)
  let xb := roleCode (xrole d b 1)
  mkWord [(18, xb.2), (12, xa.2), (10, xb.1), (8, xa.1), (4, brickY b), (0, brickX b)]

/-- GLB_IMAGE.STATE (R68). -/
def LoadState.code : LoadState → Nat
  | .empty => 0
  | .checking => 1
  | .checked => 2
  | .rejected => 3
  | .quiescing => 4
  | .writing => 5
  | .running => 6
  | .loadFailed => 7

/-- GLB_IMAGE (R68). -/
def Block.imageWord (k : Block) : Word :=
  mkWord [(40, k.img.errSec % 2 ^ 16), (32, k.img.err % 256), (16, k.img.errBrick % 2 ^ 16), (8, k.rf .GLB_IMAGE 8 8),
    (7, b2n k.img.locked), (4, k.img.st.code), (3, b2n k.img.run)]

/-- Stream states (R45). -/
def StreamState.code : StreamState → Nat
  | .stopped => 0
  | .running => 1
  | .waiting => 2
  | .halted => 3
  | .faulted => 4

/-- XFR_STAT and RDC_STAT (R50); `size` is the number of words of the program memory. -/
def Stream.statWord (v : Stream) (size : Nat) : Word :=
  mkWord [(56, v.st.code), (48, v.waitsFor.1 % 256), (32, v.pc % size), (0, v.waitsFor.2 % 2 ^ 32)]

/-- TIM_STAT (R130). -/
def Block.timeWord (k : Block) : Word :=
  mkWord [(32, k.clk.offsetField), (16, min 0xFFFF k.clk.since), (8, b2n k.wide), (0, k.clk.st.code)]

/-- Codes of a window kind (R141). -/
def WinKind.code : WinKind → Nat
  | .idle => 0
  | .connect => 1
  | .shared => 2
  | .closing => 3

/-- CRS_STAT of an output (R141). -/
def Block.courseWord (k : Block) (d : Build) (b p : Nat) : Word :=
  let l := if (k.seqOf b p).dflt then [] else k.courseOf b p
  let runs := k.runsCourse d b p
  mkWord [(57, b2n (k.clk.lhalt && timeTimed d b p)), (56, b2n k.net.bank), (55, b2n (k.seqOf b p).safe),
    (48, (periodOf l).log2 % 8), (42, if runs then partOf l k.clk.course % 64 else 0), (32, (k.windowKind d b p).code),
    (16, k.slotsLeft d b p % 2 ^ 16), (0, (k.windowNow d b p).addr % 512)]

/-- CRS_LGUARD of a lane port (R133, R134). G has 8 bits and the spec bounds the guard to them nowhere: a larger sum shows
modulo 256 (the model's choice, log 83). -/
def Block.laneGuardWord (k : Block) (p : Nat) : Word :=
  let n := k.activeLanes p
  if n = 0 then 0
  else
    let g0 := ceilDiv (65 * unitTime n) (10 * 2 ^ 20)
    mkWord [(16, (g0 + ceilDiv k.laneMargin 10) % 256), (8, g0 % 256), (0, n)]

/-- GLB_ROUTE (R200). -/
def Block.routeStatWord (k : Block) : Word :=
  mkWord [(32, k.rf .GLB_ROUTE 47 32), (16, k.net.holdLeft % 2 ^ 16), (2, b2n (k.net.holdLeft != 0)), (0, b2n k.net.epoch)]

/-- Tracker states (R210). -/
def TrackerState.code : TrackerState → Nat
  | .idle => 0
  | .source => 1
  | .dest => 2
  | .completing => 3
  | .linger => 4
  | .collect => 5

/-- TRK_STAT (R236). -/
def Tracker.statWord (v : Tracker) : Word :=
  mkWord [(61, v.st.code), (60, b2n v.sys), (40, v.pcount % 2 ^ 16), (24, v.done % 2 ^ 16), (0, v.resent % 2 ^ 16)]

/-- MQ_CHSTAT of the selected channel (R381). -/
def Block.channelWord (k : Block) (b : Nat) : Word :=
  let v := k.chan b (k.rf .MQ_CHSEL 9 0 b)
  let st := match v.st with
    | .idle => 0
    | .opened => 1
    | .closed => 2
  mkWord [(62, st), (56, v.unacked.length % 64), (32, v.epoch % 2 ^ 16), (16, v.limit % 2 ^ 16), (0, v.next % 2 ^ 16)]

/-- MQ_QSTAT (R383). -/
def RxQueue.statWord (v : RxQueue) : Word :=
  mkWord [(16, v.msgs.length % 64), (8, (v.grants.map Grant.res).sum % 64), (0, v.grants.length % 32)]

/-- PLC_REC (R415). -/
def MoveRec.statWord (v : MoveRec) : Word :=
  let st := match v.st with
    | .free => 0
    | .copy => 1
    | .forward => 2
    | .logwait => 3
  mkWord [(62, st), (58, v.round % 16), (0, v.dirty % 2 ^ 32)]

/-- LNK_STAT with the retry buffer's units (R443). -/
def Block.linkWord (k : Block) (p : Nat) : Word :=
  withFld (k.reg .LNK_STAT p) 43 32 (((k.port false p).kept.map fun (x : Nat × Packet) => pktUnits x.2).sum)

/-- LN_STAT with the active sets and the failed retrains of the last second (R450). -/
def Block.laneWord (k : Block) (p l : Nat) : Word :=
  let fails := (k.flt.laneHist.filter fun (x : Nat × Nat) => x.1 == p * 4 + l && k.within x.2 1000000).length
  let w := withFld (k.reg .LN_STAT p [l]) 56 56 (b2n ((k.rxSet p).testBit l))
  withFld (withFld w 55 55 (b2n ((k.txSet p).testBit l))) 51 48 (min 15 fails)

/-- GLB_FLTSTAT (R477). -/
def Block.faultWord (k : Block) : Word :=
  mkWord [(40, k.rf .GLB_FLTSTAT 47 40), (32, k.flt.log.length), (16, k.flt.triggers), (1, b2n k.flt.donePend),
    (0, b2n k.flt.recovering)]

/-- The 32 bytes of a black-box entry (R533). -/
def boxBytes : Option BoxEntry → List Byte
  | none => leBytes 32 0
  | some v =>
    leBytes 8 v.gtime ++ leBytes 2 v.source ++ leBytes 1 v.kind ++ leBytes 1 v.status ++ leBytes 4 v.arg0 ++
    leBytes 8 v.arg1 ++ leBytes 2 v.evType ++ leBytes 2 v.evSource ++ leBytes 4 0

/-- Word `i` of a byte list. -/
def wordAt (l : List Byte) (i : Nat) : Word := BitVec.ofNat 64 (natAt l (8 * i) 8)

/-- GLB_EVSUM (R576). -/
def Block.eventSummary (k : Block) (i : Nat) : Word :=
  BitVec.ofNat 64 (((List.range 64).filter fun j => !(k.events (64 * i + j)).isEmpty).map fun j => 2 ^ j).sum

/-- GLB_IRQSTAT (R574). -/
def Block.irqWord (k : Block) : Word :=
  let w := withFld (k.reg .GLB_IRQSTAT) 5 5 (k.rf .BBX_STAT 63 63)
  let w := withFld w 3 3 (b2n ((List.range 4).any fun i => k.eventSummary i != 0))
  withFld (withFld w 2 2 (b2n (!k.gpd.log.isEmpty))) 0 0 (b2n (!k.flt.log.isEmpty))

/-- MP_IRQ[c] (R561): the line of cause `c`. -/
def Block.mpIrq (k : Block) (c : Nat) : Bool := flag k.irqWord c && flag (k.reg .GLB_IRQEN) c

/-- What a register reads, before what the read itself does. -/
def Block.readReg (k : Block) (d : Build) (r : RegName) (pg : Nat) (ix : List Nat) : Word :=
  let i := ix.headD 0
  let j := ix.getD 1 0
  match r with
  | .GLB_IDENT => identWord d
  | .BRK_PORTS => portsWord d pg
  | .GLB_IMAGE => k.imageWord
  | .GLB_IMGID => BitVec.ofNat 64 k.img.imageId
  | .NI_CNTVAL => BitVec.ofNat 64 (k.counter pg i)
  | .XFR_STAT => (k.stream pg i).statWord 4096
  | .RDC_STAT => (k.stream pg (0x100 + i)).statWord 1024
  | .TIM_NOW => BitVec.ofNat 64 k.gtime
  | .TIM_COURSE => BitVec.ofNat 64 k.clk.latched
  | .TIM_INC => BitVec.ofNat 64 k.clk.inc
  | .TIM_STAT => k.timeWord
  | .CRS_STAT => k.courseWord d pg i
  | .CRS_LGUARD => k.laneGuardWord pg
  | .GLB_ROUTE => k.routeStatWord
  | .GLB_RTPKG => look 0 k.net.pkgTable (i * 4 + j)
  | .GLB_RTSYS => look 0 k.net.sysTable (i * 768 + j)
  | .NI_RTLO => look 0 k.net.routeMem (k.selectedRoute pg)
  | .NI_RTHI => look 0 k.net.routeMem (k.selectedRoute pg + 1)
  | .TRK_RIDX => mkWord [(32, (k.ringOf pg i).prod), (0, (k.ringOf pg i).cons)]
  | .TRK_STAT => (k.tracker pg i).statWord
  | .RDC_GFLAG => withFld (k.reg .RDC_GFLAG pg ix) 63 48 (k.slot pg i).openSeq
  | .GRP_DESC0 => k.descWord i 0
  | .GRP_DESC1 => k.descWord i 1
  | .GRP_TDATA => k.treeStored pg (k.rf .GRP_TSEL 6 0 pg) (k.rf .GRP_TSEL 9 7 pg)
  | .MQ_EVSTAT => withFld (k.reg .MQ_EVSTAT pg) 9 0 (k.events pg).length
  | .MQ_CHSTAT => k.channelWord pg
  | .MQ_EVPOP => wordAt (eventBytes (look none k.flt.evLatch pg)) i
  | .MQ_QCFG => withFld (k.reg .MQ_QCFG pg ix) 15 0 (k.queue pg i).epoch
  | .MQ_QSTAT => (k.queue pg i).statWord
  | .MQ_POP => wordAt (k.poppedBytes pg i) j
  | .PLC_STAT => withFld (k.reg .PLC_STAT) 3 0 k.gpd.active.length
  | .GPD_DATA => (k.gpdEntry pg (k.rf .GPD_SEL 10 0 pg)).word (k.rf .GPD_SEL 13 11 pg)
  | .PLC_REC => (k.moveRec pg i).statWord
  | .LNK_STAT => k.linkWord pg
  | .LN_STAT => k.laneWord pg i
  | .GLB_FLTSTAT => k.faultWord
  | .RST_STAT => withFld (k.reg .RST_STAT) 3 0 (k.phase d)
  | .BBX_DATA => wordAt (boxBytes (look none k.flt.box (k.rf .BBX_SEL 11 0))) i
  | .PRB_TDATA => wordAt (k.traceRead (k.rf .PRB_TSEL 13 0)) i
  | .AGE_PLAN => withFld (k.reg .AGE_PLAN 0 ix) 63 63 (b2n (segmentBuilt d i))
  | .GLB_IRQSTAT => k.irqWord
  | .GLB_EVSUM => k.eventSummary i
  | _ => k.shown r pg ix

/-- A read with what it does: TIM_NOW latches (R128), the pop registers pop (R357, R373, R409, R478). -/
def Block.takeRead (k : Block) (d : Build) (r : RegName) (pg : Nat) (ix : List Nat) : Word × Block :=
  match r with
  | .TIM_NOW => (k.readReg d r pg ix, { k with clk.latched := k.clk.course })
  | .GLB_FLTLOG => k.popFault
  | .PLC_LOG => k.popPlcLog
  | .MQ_EVPOP =>
    let k := if ix = [0] then k.popEvent pg else k
    (k.readReg d r pg ix, k)
  | .MQ_POP =>
    let k := if ix.getD 1 0 = 0 then k.popQueue pg (ix.headD 0) else k
    (k.readReg d r pg ix, k)
  | _ => (k.readReg d r pg ix, k)

/-! ### What writes do -/

/-- A field that firmware rearms by writing all ones, any other value being ignored (R538). -/
def Block.rearm (k : Block) (r : RegName) (hi lo pg : Nat) (ix : List Nat) (v : Word) : Block :=
  if fld v hi lo = 2 ^ (hi + 1 - lo) - 1 then k.setRf r hi lo pg ix (fld v hi lo) else k

/-- A write of NI_PFAULT (R52): CLR clears SBE. -/
def Block.writePfault (k : Block) (b : Nat) (v : Word) : Block :=
  let k := k.applyWrite .NI_PFAULT b [] v
  if flag v 32 then k.setRf .NI_PFAULT 63 48 b [] 0 else k

/-- A write of RDC_GFLAG (R272): FIRSTIDX returns when AFLAGS becomes zero. -/
def gflagWritten (v w : Word) : Word :=
  let n := writtenWord .RDC_GFLAG v w
  if fld n 44 40 = 0 then withFld n 31 0 0xFFFFFFFF else n

/-- A write of SPC_FIRST or SPC_UROW (R352, R353): a field written all ones is rearmed, any other value is ignored. -/
def rearmed (v w : Word) : Word :=
  [0, 32].foldl (fun n lo => if fld v (lo + 31) lo = 0xFFFFFFFF then withFld n (lo + 31) lo 0xFFFFFFFF else n) w

/-- A write of MQ_SEND by the Management Port (R366, R379): the words are held, and the write of the last makes the
send. -/
def Block.writeSend (k : Block) (d : Build) (b i : Nat) (v : Word) : Block :=
  let k := k.setReg .MQ_SEND b [i] v
  if i = 7 then
    (k.setReg .MQ_SRES b [] 0).sendBytes d b .mp
      ((List.range 8).flatMap fun j => leBytes 8 (k.reg .MQ_SEND b [j]).toNat)
  else k

/-- A write of PLC_STSET (R411): reserved bits stay zero. -/
def Block.writeStset (k : Block) (s w : Nat) (v : Word) : Block := k.setReg .PLC_STSET 0 [s, w] (stsetWord w v)

/-- What a write of a register word does (R580). -/
def Block.writeReg (k : Block) (e : Env) (r : RegName) (pg : Nat) (ix : List Nat) (v : Word) : Block :=
  let d := e.build
  let i := ix.headD 0
  let j := ix.getD 1 0
  match r with
  | .GLB_IMAGE => (k.applyWrite r pg ix v).imageCommand d (fld v 1 0)
  | .GLB_IMGDATA => k.imageBytes d (leBytes 8 v.toNat)
  | .BRK_PKTERR => k.writePkterr pg v
  | .GPD_EPENT => k.writeEndpoint pg i v
  | .PLC_FRAME => k.writeFrame i v
  | .NI_CNTVAL => k.counterSet pg i setByMp (fld v 31 0)
  | .NI_CNTADD => k.counterAdd pg i (fld v 31 0)
  | .XFR_STAT => k.restart pg i v
  | .RDC_STAT => k.restart pg (0x100 + i) v
  | .NI_PFAULT => k.writePfault pg v
  | .TIM_CTL => k.writeTimCtl v
  | .TIM_SET => k.writeTimSet v
  | .SHW_SVC => k.writeShaper r pg ix v
  | .SHW_SUB => k.writeShaper r pg ix v
  | .GLB_ROUTE => k.writeGlbRoute v
  | .GLB_RTPKG => k.writeTable false i j v
  | .GLB_RTSYS => k.writeTable true i j v
  | .NI_RTHI => k.commitRoute pg v
  | .BRK_RTCTL => k.writeLate (.rtctl pg v)
  | .TRK_BIND => k.writeLate (.bind pg i v)
  | .TRK_RBASE => k.writeLate (.rbase pg i v)
  | .TRK_RIDX => k.writeLate (.ridx pg i v)
  | .RDC_RESLOG => k.writeBeforeEvents r pg [] fun w => if flag v 43 then 0 else w
  | .RDC_SLOT => k.writeSlot pg i v
  | .RDC_PART => k.writePartition pg i v
  | .RDC_GFLAG => k.writeBeforeEvents r pg ix (gflagWritten v)
  | .GRP_ABORT => k.writeAbort e v
  | .GLB_IRQSTAT => k.writeBeforeEvents r pg ix (writtenWord r v)
  | .SPC_CNT => k.writeBeforeEvents r pg ix (writtenWord r v)
  | .SPC_ERR => k.writeBeforeEvents r pg ix (writtenWord r v)
  | .SPC_FIRST => k.writeBeforeEvents r pg ix (rearmed v)
  | .SPC_UROW => k.writeBeforeEvents r pg ix fun w => if fld v 31 0 = 0xFFFFFFFF then withFld w 31 0 0xFFFFFFFF else w
  | .MQ_GRANT => k.writeGrant d pg v
  | .MQ_SEND => k.writeSend d pg i v
  | .MQ_QCFG => k.writeQcfg d pg i v
  | .MQ_CHCFG => k.writeChcfg pg i v
  | .PLC_STMAP => k.writeStmap d i v
  | .PLC_STSET => k.writeStset i j v
  | .GPD_DATA => k.writeGpdData pg v
  | .LNK_CTL => k.writeLnkCtl d pg v
  | .LN_CTL => k.writeLnCtl d pg i v
  | .D2D_CTL => k.writeD2dCtl d i v
  | .GLB_FLTCTL => k.writeFltctl v
  | .GLB_PORTRET0 => k.writePortret d false v
  | .GLB_PORTRET1 => k.writePortret d true v
  | .RST_CTL => k.writeRstCtl d v
  | .RST_BRK => k.writeRstBrk e pg v
  | .PWR_BRK => k.writePwrBrk e pg v
  | .BBX_CTL => k.writeBbxCtl v
  | .BBX_STAT => k.applyWrite r pg ix (withFld (k.reg r) 47 32 (fld v 47 32))
  | .PRB_TCTL => k.writeTctl v
  | .AGE_VREQ => k.writeVreq v
  | .AGE_PLANSUM => k.applyWrite r pg ix (withFld (k.reg r) 0 0 (fld v 0 0))
  | .AGE_PLAN => k.writePlan d i v
  | .AGE_MARGIN => k.rearm r 25 16 pg ix v
  | .AGE_MON => k.rearm r 25 16 pg ix v
  | .AGE_HIST => (k.applyWrite r pg ix v).refit pg
  | _ => k.applyWrite r pg ix v

/-! ### Accesses by address (R559, R560, R578) -/

/-- The word of the program-memory windows at a window address: (brick, offset) (R578, R579). -/
def programAt (d : Build) (addr : Nat) : Option (Nat × Nat) :=
  if 0x03000000 ≤ addr ∧ addr < 0x04000000 ∧ addr % 8 = 0 ∧ brickOk d (addr % 0x01000000 / 0x10000) = true then
    some (addr % 0x01000000 / 0x10000, addr % 0x10000)
  else none

/-- A read by the Management Port or in band: the word and the block after it; none where the address names no
register. -/
def Block.busRead (k : Block) (d : Build) (addr : Nat) : Option (Word × Block) :=
  match programAt d addr with
  | some (b, off) => some (k.windowRead b off, k)
  | none => (regAt d addr).map fun (x : RegName × Nat × List Nat) => k.takeRead d x.1 x.2.1 x.2.2

/-- A write by the Management Port or in band; none where the address names no register. -/
def Block.busWrite (k : Block) (e : Env) (addr : Nat) (v : Word) : Option Block :=
  match programAt e.build addr with
  | some (b, off) => some (k.windowWrite b off v)
  | none => (regAt e.build addr).map fun (x : RegName × Nat × List Nat) => k.writeReg e x.1 x.2.1 x.2.2 v

/-- The write is a warm reset, which abandons the access that asks for it. -/
def warmWrite (addr : Nat) (v : Word) : Bool := addr == regAddr .RST_CTL 0 [] && flag v 0

/-- The registers that 8-byte writes of a Local Port reach (R550). -/
def lpWritable : RegName → Bool
  | .NI_CNTVAL => true
  | .NI_CNTADD => true
  | .MQ_GRANT => true
  | .MQ_EVSTAT => true
  | .MQ_CHSEL => true
  | .MQ_CHSTAT => true
  | .MQ_QCFG => true
  | .MQ_QSTAT => true
  | .MQ_CHCFG => true
  | .TRK_BIND => true
  | .TRK_RBASE => true
  | .TRK_RIDX => true
  | .TRK_STAT => true
  | _ => false

/-- The brick whose page holds a window address. -/
def pageBrick (addr : Nat) : Nat := addr % 0x01000000 / 0x10000

/-- The register that a Local Port of brick `pageBrick addr` reaches: one of its brick page; an address of another page is
no address of that space (R550). -/
def lpReg (d : Build) (addr : Nat) : Option (RegName × List Nat) :=
  if 0x01000000 ≤ addr ∧ addr < 0x02000000 then
    match regAt d addr with
    | some (r, _, ix) => if lpWritable r then some (r, ix) else none
    | none => none
  else none

/-- A write of a register word through a Local Port: a set of a counter has that port's rank (R39). -/
def Block.lpWriteReg (k : Block) (e : Env) (r : RegName) (b : Nat) (ix : List Nat) (v : Word) : Block :=
  if r = .NI_CNTVAL then k.counterSet b (ix.headD 0) setByLp (fld v 31 0) else k.writeReg e r b ix v

/-- REGISTER_WRITE (R550, R560, R580): a write at a window address, by the Management Port or by the Local Port of the brick
that bits [23:16] of the address name. -/
def execRegisterWrite (via : Via) (addr : Nat) (v : Word) (s : State) : Host.Outcome State Fault Refusal :=
  let e := s.env
  let d := e.build
  let b := pageBrick addr
  s.run true fun k =>
    match via with
    | .mp =>
      if !k.crosses .managementPort then k
      else match k.busWrite e addr v with
        | none => k.send (.mp 0 true)
        | some n => if warmWrite addr v then n else n.answerWrite 0 .mp
    | .lp rid tag =>
      if !(brickOk d b && k.viaOpen d b via) then k
      else match lpReg d addr with
        | none => k.badRequest b rid tag
        | some (r, ix) => (k.lpWriteReg e r b ix v).answerWrite b via

/-! ### Accesses in band (R583) -/

/-- The answer to an access, as the history keeps it: ACK (no byte), ERROR (one byte) or the data of a read. -/
def Block.answerMgmt (k : Block) (d : Build) (b : Nat) (p : Packet) (a : List Byte) : Block :=
  match a with
  | [] => k.ackAlone d b 5 p
  | [_] => k.answerError d b p stProgramFault
  | l => k.sendDirect d b { k.response d b 5 opReadResp 3 0 p with payload := l, last := true }

/-- A new access applies; its answer is kept. A warm reset abandons both. -/
def Block.applyMgmt (k : Block) (e : Env) (b : Nat) (p : Packet) : Block :=
  let addr := natAt p.payload 0 4
  let v := wordAt p.payload 1
  let write := (natAt p.payload 4 1).testBit 0
  let r : List Byte × Block :=
    if write then
      match k.busWrite e addr v with
      | some n => ([], n)
      | none => ([1], k)
    else
      match k.busRead e.build addr with
      | some x => (leBytes 8 x.1.toNat, x.2)
      | none => ([1], k)
  let n := r.2
  if write && warmWrite addr v then n
  else
    let h := look [] n.gpd.seen (b * 8 + 5)
    let n : Block := { n with gpd.seen := put [] n.gpd.seen (b * 8 + 5) (h ++ [{ src := p.src, trk := p.tracker, answer := r.1 }]) }
    n.answerMgmt e.build b p r.1

/-- MGMT (R583): a register access at EP 5 of the root brick; a duplicate is answered again. -/
def execMgmt (s : State) : Host.Outcome State Fault Refusal :=
  let e := s.env
  let d := e.build
  s.run true fun k =>
    match k.rxTake 0 5 [opMgmt] with
    | none => k
    | some (p, k) => k.consume d 0 5 p (p.op == opMgmt && p.plen == 16) true fun k =>
      let h := look [] k.gpd.seen 5
      match h.find? fun (x : DirSeen) => x.src == p.src && x.trk == p.tracker with
      | some x => k.answerMgmt d 0 p x.answer
      | none => if 64 ≤ h.length then k.bump .TRK_ERR 15 8 0 else k.applyMgmt e 0 p

end Sys2Proof.Machine
end

