-- ==== Sys2Proof/Machine/Dispatch.lean ====
section
/-!
DEFINITION. One arm per command of the block: the meaning it has (the effect on everything but the queue).
-/

namespace Sys2Proof.Machine

def exec (i : Instr) (s : State) : Host.Outcome State Fault Refusal :=
  match i with
  | .wait b u => Sys2Proof.Machine.execWait b u s
  | .waitSatisfied b u => Sys2Proof.Machine.execWaitSatisfied b u s
  | .signal b u => Sys2Proof.Machine.execSignal b u s
  | .signalR b e => Sys2Proof.Machine.execSignalR b e s
  | .loopBack b u => Sys2Proof.Machine.execLoopBack b u s
  | .halt b u => Sys2Proof.Machine.execHalt b u s
  | .illegalInstruction b u => Sys2Proof.Machine.execIllegalInstruction b u s
  | .programMemoryError b u err => Sys2Proof.Machine.execProgramMemoryError b u err s
  | .watchdogExpiry b u => Sys2Proof.Machine.execWatchdogExpiry b u s
  | .restart b u v => Sys2Proof.Machine.execRestart b u v s
  | .copy b e ok => Sys2Proof.Machine.execCopy b e ok s
  | .mcast b e ok => Sys2Proof.Machine.execMcast b e ok s
  | .contrib b e ok => Sys2Proof.Machine.execContrib b e ok s
  | .gather b e ok => Sys2Proof.Machine.execGather b e ok s
  | .storeC b e ok => Sys2Proof.Machine.execStoreC b e ok s
  | .send b e ok => Sys2Proof.Machine.execSend b e ok s
  | .rload b e ok => Sys2Proof.Machine.execRload b e ok s
  | .rstore b e ok => Sys2Proof.Machine.execRstore b e ok s
  | .fence b e => Sys2Proof.Machine.execFence b e s
  | .fenceRelease b e => Sys2Proof.Machine.execFenceRelease b e s
  | .trackerClaim b e => Sys2Proof.Machine.execTrackerClaim b e s
  | .remoteLineRelease b t => Sys2Proof.Machine.execRemoteLineRelease b t s
  | .poolTrackerClaim b => Sys2Proof.Machine.execPoolTrackerClaim b s
  | .segin b sl => Sys2Proof.Machine.execSegin b sl s
  | .seginSatisfied b sl => Sys2Proof.Machine.execSeginSatisfied b sl s
  | .segout b sl => Sys2Proof.Machine.execSegout b sl s
  | .segmentEmitted b sl => Sys2Proof.Machine.execSegmentEmitted b sl s
  | .segmentAck b => Sys2Proof.Machine.execSegmentAck b s
  | .add b sl r => Sys2Proof.Machine.execAdd b sl r s
  | .max b sl r => Sys2Proof.Machine.execMax b sl r s
  | .min b sl r => Sys2Proof.Machine.execMin b sl r s
  | .scale b sl r => Sys2Proof.Machine.execScale b sl r s
  | .cvt b sl r => Sys2Proof.Machine.execCvt b sl r s
  | .expmax b sl r => Sys2Proof.Machine.execExpmax b sl r s
  | .align b sl r => Sys2Proof.Machine.execAlign b sl r s
  | .sort b sl => Sys2Proof.Machine.execSort b sl s
  | .merge b sl => Sys2Proof.Machine.execMerge b sl s
  | .filter b sl => Sys2Proof.Machine.execFilter b sl s
  | .topk b sl => Sys2Proof.Machine.execTopk b sl s
  | .reducerGather b sl => Sys2Proof.Machine.execReducerGather b sl s
  | .emit b sl => Sys2Proof.Machine.execEmit b sl s
  | .connect b p => Sys2Proof.Machine.execConnect b p s
  | .idle b p => Sys2Proof.Machine.execIdle b p s
  | .shared b p => Sys2Proof.Machine.execShared b p s
  | .closingWindow b p => Sys2Proof.Machine.execClosingWindow b p s
  | .repeatBody b p => Sys2Proof.Machine.execRepeatBody b p s
  | .mark b p => Sys2Proof.Machine.execMark b p s
  | .sync b p => Sys2Proof.Machine.execSync b p s
  | .courseSafe b p err => Sys2Proof.Machine.execCourseSafe b p err s
  | .courseBoundary fclks slack => Sys2Proof.Machine.execCourseBoundary fclks slack s
  | .boundaryMessage b time => Sys2Proof.Machine.execBoundaryMessage b time s
  | .timeMessage b => Sys2Proof.Machine.execTimeMessage b s
  | .drainInjectionStop => Sys2Proof.Machine.execDrainInjectionStop s
  | .imageStart => Sys2Proof.Machine.execImageStart s
  | .timCtlSrcWrite v => Sys2Proof.Machine.execTimCtlSrcWrite v s
  | .timSet v => Sys2Proof.Machine.execTimSet v s
  | .timNowRead => Sys2Proof.Machine.execTimNowRead s
  | .trefEdge => Sys2Proof.Machine.execTrefEdge s
  | .holdoverEntry => Sys2Proof.Machine.execHoldoverEntry s
  | .timeLost => Sys2Proof.Machine.execTimeLost s
  | .imageCheck => Sys2Proof.Machine.execImageCheck s
  | .imageWrite => Sys2Proof.Machine.execImageWrite s
  | .imageAbort => Sys2Proof.Machine.execImageAbort s
  | .imageData v => Sys2Proof.Machine.execImageData v s
  | .inBandSection b data => Sys2Proof.Machine.execInBandSection b data s
  | .quiesceDone => Sys2Proof.Machine.execQuiesceDone s
  | .quiesceTimeout => Sys2Proof.Machine.execQuiesceTimeout s
  | .writePassRelease => Sys2Proof.Machine.execWritePassRelease s
  | .programWindowWrite b off v => Sys2Proof.Machine.execProgramWindowWrite b off v s
  | .lpProgramWrite b rid tag off v => Sys2Proof.Machine.execLpProgramWrite b rid tag off v s
  | .counterSet via b c v => Sys2Proof.Machine.execCounterSet via b c v s
  | .counterAddWrite via b c v => Sys2Proof.Machine.execCounterAddWrite via b c v s
  | .counter b => Sys2Proof.Machine.execCounter b s
  | .routeSource b p err => Sys2Proof.Machine.execRouteSource b p err s
  | .routeCoordinate b p err => Sys2Proof.Machine.execRouteCoordinate b p err s
  | .mcastReplicate b p err => Sys2Proof.Machine.execMcastReplicate b p err s
  | .flatLookup b => Sys2Proof.Machine.execFlatLookup b s
  | .ingressRewrite b p arrival => Sys2Proof.Machine.execIngressRewrite b p arrival s
  | .sharedArbitrate b p => Sys2Proof.Machine.execSharedArbitrate b p s
  | .scheduledStart b p => Sys2Proof.Machine.execScheduledStart b p s
  | .missboundExpiry b p => Sys2Proof.Machine.execMissboundExpiry b p s
  | .holdQueueRelease b p => Sys2Proof.Machine.execHoldQueueRelease b p s
  | .holdQueueExpiry b p => Sys2Proof.Machine.execHoldQueueExpiry b p s
  | .headmaxExpiry b p => Sys2Proof.Machine.execHeadmaxExpiry b p s
  | .write b => Sys2Proof.Machine.execWrite b s
  | .mcastDelivery b => Sys2Proof.Machine.execMcastDelivery b s
  | .readreq b => Sys2Proof.Machine.execReadreq b s
  | .readresp b => Sys2Proof.Machine.execReadresp b s
  | .ack b => Sys2Proof.Machine.execAck b s
  | .nack b => Sys2Proof.Machine.execNack b s
  | .error b => Sys2Proof.Machine.execError b s
  | .fenceNotice b => Sys2Proof.Machine.execFenceNotice b s
  | .ackTimer b t => Sys2Proof.Machine.execAckTimer b t s
  | .holeTimer b t => Sys2Proof.Machine.execHoleTimer b t s
  | .resendTimer b t => Sys2Proof.Machine.execResendTimer b t s
  | .initiatorTimeout b t => Sys2Proof.Machine.execInitiatorTimeout b t s
  | .lingerExpiry b t => Sys2Proof.Machine.execLingerExpiry b t s
  | .noticeWaitExpiry b t => Sys2Proof.Machine.execNoticeWaitExpiry b t s
  | .coalesceTimeout b r => Sys2Proof.Machine.execCoalesceTimeout b r s
  | .trkRidxWrite via b r v => Sys2Proof.Machine.execTrkRidxWrite via b r v s
  | .trkRbaseWrite via b r v => Sys2Proof.Machine.execTrkRbaseWrite via b r v s
  | .lpmResponse b tag err => Sys2Proof.Machine.execLpmResponse b tag err s
  | .lpLoad b rid tag addr n => Sys2Proof.Machine.execLpLoad b rid tag addr n s
  | .lpStore b rid tag addr data => Sys2Proof.Machine.execLpStore b rid tag addr data s
  | .fenceRead b rid tag => Sys2Proof.Machine.execFenceRead b rid tag s
  | .contribFile b => Sys2Proof.Machine.execContribFile b s
  | .resultAtReducer b => Sys2Proof.Machine.execResultAtReducer b s
  | .resultDelivery b => Sys2Proof.Machine.execResultDelivery b s
  | .dispatchFile b => Sys2Proof.Machine.execDispatchFile b s
  | .dispatchDelivery b => Sys2Proof.Machine.execDispatchDelivery b s
  | .grpAbort v => Sys2Proof.Machine.execGrpAbort v s
  | .fenceBitsWrite b v => Sys2Proof.Machine.execFenceBitsWrite b v s
  | .routeFlipWrite v => Sys2Proof.Machine.execRouteFlipWrite v s
  | .routeFlip => Sys2Proof.Machine.execRouteFlip s
  | .routeTableWrite addr v => Sys2Proof.Machine.execRouteTableWrite addr v s
  | .routeEntryCommit b v => Sys2Proof.Machine.execRouteEntryCommit b v s
  | .shaperWrite addr v => Sys2Proof.Machine.execShaperWrite addr v s
  | .slotWrite b sl v => Sys2Proof.Machine.execSlotWrite b sl v s
  | .partitionWrite b ix v => Sys2Proof.Machine.execPartitionWrite b ix v s
  | .compressScanDone b => Sys2Proof.Machine.execCompressScanDone b s
  | .mergePhaseStart b => Sys2Proof.Machine.execMergePhaseStart b s
  | .mergeWaitTimeout b => Sys2Proof.Machine.execMergeWaitTimeout b s
  | .residualPost b => Sys2Proof.Machine.execResidualPost b s
  | .residualPauseExpiry b => Sys2Proof.Machine.execResidualPauseExpiry b s
  | .message b => Sys2Proof.Machine.execMessage b s
  | .steeredMessage b => Sys2Proof.Machine.execSteeredMessage b s
  | .credit b => Sys2Proof.Machine.execCredit b s
  | .channelAck b => Sys2Proof.Machine.execChannelAck b s
  | .channelNack b => Sys2Proof.Machine.execChannelNack b s
  | .channelError b => Sys2Proof.Machine.execChannelError b s
  | .channelResendTimer b c => Sys2Proof.Machine.execChannelResendTimer b c s
  | .channelTimeout b c => Sys2Proof.Machine.execChannelTimeout b c s
  | .mqSend b rid tag data => Sys2Proof.Machine.execMqSend b rid tag data s
  | .sendAccept b c => Sys2Proof.Machine.execSendAccept b c s
  | .sendBlockExpiry b c => Sys2Proof.Machine.execSendBlockExpiry b c s
  | .mqGrant via b v => Sys2Proof.Machine.execMqGrant via b v s
  | .queueReset via b q v => Sys2Proof.Machine.execQueueReset via b q v s
  | .mqPop via b q => Sys2Proof.Machine.execMqPop via b q s
  | .eventPop via b => Sys2Proof.Machine.execEventPop via b s
  | .mqChcfgWrite via b c v => Sys2Proof.Machine.execMqChcfgWrite via b c v s
  | .creditBatch b q => Sys2Proof.Machine.execCreditBatch b q s
  | .creditRefresh b q => Sys2Proof.Machine.execCreditRefresh b q s
  | .eventStale b => Sys2Proof.Machine.execEventStale b s
  | .directoryLookup b => Sys2Proof.Machine.execDirectoryLookup b s
  | .placementEvaluation b => Sys2Proof.Machine.execPlacementEvaluation b s
  | .startMove b => Sys2Proof.Machine.execStartMove b s
  | .endMove b => Sys2Proof.Machine.execEndMove b s
  | .reserve b => Sys2Proof.Machine.execReserve b s
  | .release b => Sys2Proof.Machine.execRelease b s
  | .prepare b => Sys2Proof.Machine.execPrepare b s
  | .cancel b => Sys2Proof.Machine.execCancel b s
  | .install b => Sys2Proof.Machine.execInstall b s
  | .movePage b => Sys2Proof.Machine.execMovePage b s
  | .report b => Sys2Proof.Machine.execReport b s
  | .flip b => Sys2Proof.Machine.execFlip b s
  | .refresh b => Sys2Proof.Machine.execRefresh b s
  | .dirresp b => Sys2Proof.Machine.execDirresp b s
  | .chunk b => Sys2Proof.Machine.execChunk b s
  | .copyRoundDone b r => Sys2Proof.Machine.execCopyRoundDone b r s
  | .forwardLeaseExpiry b r => Sys2Proof.Machine.execForwardLeaseExpiry b r s
  | .logwaitRelease b r => Sys2Proof.Machine.execLogwaitRelease b r s
  | .entryLeaseExpiry b ix => Sys2Proof.Machine.execEntryLeaseExpiry b ix s
  | .gpdCommit b v => Sys2Proof.Machine.execGpdCommit b v s
  | .plcLogPop => Sys2Proof.Machine.execPlcLogPop s
  | .mgmt => Sys2Proof.Machine.execMgmt s
  | .trainingDone p l eq => Sys2Proof.Machine.execTrainingDone p l eq s
  | .huntLock p l => Sys2Proof.Machine.execHuntLock p l s
  | .huntUnlock p l => Sys2Proof.Machine.execHuntUnlock p l s
  | .huntTimeout p l => Sys2Proof.Machine.execHuntTimeout p l s
  | .retrainCheck p l => Sys2Proof.Machine.execRetrainCheck p l s
  | .laneAddTimer p l => Sys2Proof.Machine.execLaneAddTimer p l s
  | .firstLockTimeout p => Sys2Proof.Machine.execFirstLockTimeout p s
  | .losLol p l sig => Sys2Proof.Machine.execLosLol p l sig s
  | .losTimeout p l => Sys2Proof.Machine.execLosTimeout p l s
  | .fecInterval p l corr uncorr peak => Sys2Proof.Machine.execFecInterval p l corr uncorr peak s
  | .init p die port llr cred => Sys2Proof.Machine.execInit p die port llr cred s
  | .lset p mask => Sys2Proof.Machine.execLset p mask s
  | .lsetEcho p mask => Sys2Proof.Machine.execLsetEcho p mask s
  | .lsetRepeat p => Sys2Proof.Machine.execLsetRepeat p s
  | .linkPacketRx p pkt lseq lack nak cvc ctot good => Sys2Proof.Machine.execLinkPacketRx p pkt lseq lack nak cvc ctot good s
  | .nak p lack => Sys2Proof.Machine.execNak p lack s
  | .replayTimeout p => Sys2Proof.Machine.execReplayTimeout p s
  | .lctl p nak lack totals => Sys2Proof.Machine.execLctl p nak lack totals s
  | .tsreqSend t1 => Sys2Proof.Machine.execTsreqSend t1 s
  | .tsreq p t2 t3 => Sys2Proof.Machine.execTsreq p t2 t3 s
  | .tsresp p t2 t3 t4 => Sys2Proof.Machine.execTsresp p t2 t3 t4 s
  | .idleEntry p => Sys2Proof.Machine.execIdleEntry p s
  | .idlein p => Sys2Proof.Machine.execIdlein p s
  | .idleExit p => Sys2Proof.Machine.execIdleExit p s
  | .exitBurstEnd p => Sys2Proof.Machine.execExitBurstEnd p s
  | .linkEnable p v => Sys2Proof.Machine.execLinkEnable p v s
  | .linkDisable p v => Sys2Proof.Machine.execLinkDisable p v s
  | .linkRetrain p v => Sys2Proof.Machine.execLinkRetrain p v s
  | .laneRetire p l v => Sys2Proof.Machine.execLaneRetire p l v s
  | .laneRelease p l v => Sys2Proof.Machine.execLaneRelease p l v s
  | .phyLinkUp d => Sys2Proof.Machine.execPhyLinkUp d s
  | .phyLinkDown d => Sys2Proof.Machine.execPhyLinkDown d s
  | .bridgeInit d frag0 frag1 => Sys2Proof.Machine.execBridgeInit d frag0 frag1 s
  | .bridgeInitTimeout d => Sys2Proof.Machine.execBridgeInitTimeout d s
  | .bridgeCredit d ctl => Sys2Proof.Machine.execBridgeCredit d ctl s
  | .bridgeTsreq d t2 t3 => Sys2Proof.Machine.execBridgeTsreq d t2 t3 s
  | .bridgeTsresp d frags t4 => Sys2Proof.Machine.execBridgeTsresp d frags t4 s
  | .bridgeEnable d v => Sys2Proof.Machine.execBridgeEnable d v s
  | .bridgeDisable d v => Sys2Proof.Machine.execBridgeDisable d v s
  | .bridgeRetrain d v => Sys2Proof.Machine.execBridgeRetrain d v s
  | .portRetire bridge n => Sys2Proof.Machine.execPortRetire bridge n s
  | .portRelease bridge n => Sys2Proof.Machine.execPortRelease bridge n s
  | .faultDone v => Sys2Proof.Machine.execFaultDone v s
  | .episodeEnd => Sys2Proof.Machine.execEpisodeEnd s
  | .fltlogPop => Sys2Proof.Machine.execFltlogPop s
  | .coldReset => Sys2Proof.Machine.execColdReset s
  | .warmReset => Sys2Proof.Machine.execWarmReset s
  | .warm v => Sys2Proof.Machine.execWarm v s
  | .enum v => Sys2Proof.Machine.execEnum v s
  | .enumerationDone ret => Sys2Proof.Machine.execEnumerationDone ret s
  | .rootckLoss => Sys2Proof.Machine.execRootckLoss s
  | .rootckReturn => Sys2Proof.Machine.execRootckReturn s
  | .frequencyMeasure ferr => Sys2Proof.Machine.execFrequencyMeasure ferr s
  | .heartbeatStop far => Sys2Proof.Machine.execHeartbeatStop far s
  | .heartbeatResume far => Sys2Proof.Machine.execHeartbeatResume far s
  | .resyncDone far => Sys2Proof.Machine.execResyncDone far s
  | .lpReset b => Sys2Proof.Machine.execLpReset b s
  | .lprst b v => Sys2Proof.Machine.execLprst b v s
  | .powerDownRequest b => Sys2Proof.Machine.execPowerDownRequest b s
  | .lpClosingDone b => Sys2Proof.Machine.execLpClosingDone b s
  | .powerUp b => Sys2Proof.Machine.execPowerUp b s
  | .isolate b v => Sys2Proof.Machine.execIsolate b v s
  | .isolateRelease b v => Sys2Proof.Machine.execIsolateRelease b v s
  | .isolationExit b => Sys2Proof.Machine.execIsolationExit b s
  | .computeGate b v => Sys2Proof.Machine.execComputeGate b v s
  | .computeUngate b v => Sys2Proof.Machine.execComputeUngate b v s
  | .computeClosingDone b => Sys2Proof.Machine.execComputeClosingDone b s
  | .wakingDone b => Sys2Proof.Machine.execWakingDone b s
  | .vreqAck v => Sys2Proof.Machine.execVreqAck v s
  | .settleExpiry => Sys2Proof.Machine.execSettleExpiry s
  | .down v => Sys2Proof.Machine.execDown v s
  | .segmentModeChange ix => Sys2Proof.Machine.execSegmentModeChange ix s
  | .agePlanWrite ix v => Sys2Proof.Machine.execAgePlanWrite ix v s
  | .stressHour b fref fstress => Sys2Proof.Machine.execStressHour b fref fstress s
  | .ageHistWrite b k v => Sys2Proof.Machine.execAgeHistWrite b k v s
  | .traceRecord b => Sys2Proof.Machine.execTraceRecord b s
  | .prbTctlEnable v => Sys2Proof.Machine.execPrbTctlEnable v s
  | .congestionInterval b busy => Sys2Proof.Machine.execCongestionInterval b busy s
  | .congestionMapComplete => Sys2Proof.Machine.execCongestionMapComplete s
  | .blackBoxEntry b => Sys2Proof.Machine.execBlackBoxEntry b s
  | .freeze v => Sys2Proof.Machine.execFreeze v s
  | .freezeComplete => Sys2Proof.Machine.execFreezeComplete s
  | .unfreeze v => Sys2Proof.Machine.execUnfreeze v s
  | .mbistRun => Sys2Proof.Machine.execMbistRun s
  | .mbistDone failed => Sys2Proof.Machine.execMbistDone failed s
  | .mbistRead => Sys2Proof.Machine.execMbistRead s
  | .wsBypass => Sys2Proof.Machine.execWsBypass s
  | .wsExtest => Sys2Proof.Machine.execWsExtest s
  | .wsIntest => Sys2Proof.Machine.execWsIntest s
  | .registerWrite via addr v => Sys2Proof.Machine.execRegisterWrite via addr v s
  | .arrivalHistoryExpiry b src trk => Sys2Proof.Machine.execArrivalHistoryExpiry b src trk s
  | .markCodeword p l count skewed => Sys2Proof.Machine.execMarkCodeword p l count skewed s
  | .losLolClear p l sig => Sys2Proof.Machine.execLosLolClear p l sig s
  | .lctlSendDue p => Sys2Proof.Machine.execLctlSendDue p s
  | .wakePattern p => Sys2Proof.Machine.execWakePattern p s
  | .coldResetRelease testmode => Sys2Proof.Machine.execColdResetRelease testmode s
  | .warmResetRelease => Sys2Proof.Machine.execWarmResetRelease s
  | .telemetry b => Sys2Proof.Machine.execTelemetry b s
  | .reducerHoleTimer b sl child => Sys2Proof.Machine.execReducerHoleTimer b sl child s
  | .segmentError b => Sys2Proof.Machine.execSegmentError b s
  | .segmentNack b => Sys2Proof.Machine.execSegmentNack b s
  | .segmentResendTimer b sl seg => Sys2Proof.Machine.execSegmentResendTimer b sl seg s
  | .interruptReturn b queues => Sys2Proof.Machine.execInterruptReturn b queues s

end Sys2Proof.Machine
end

