-- ==== Sys2Proof/Machine/Step.lean ====
section
/-!
DEFINITION. One step of the block: the command at the front of the queue, or, on an empty queue, one FCLK (log 4).
-/

namespace Sys2Proof.Machine

/-- One FCLK passes with no command; a block held in reset or without its root clock stands still (log 4). -/
def State.idle (s : State) : State := { s with blk := if s.blk.held then s.blk else s.blk.tick s.env }

/-- Take the command at the front of the queue and run it with the rest; with none waiting, one FCLK passes. -/
def step (s : State) : Host.Outcome State Fault Refusal :=
  match s.pending with
  | [] => .next s.idle
  | c :: r => exec c { s with pending := r }

/-- `s` with the command that a word spells at the front of its queue; unchanged where it spells none. -/
def State.withFetchWord (s : State) (nbits w : Nat) : State :=
  match decodeTableWord nbits w with
  | some c => { s with pending := c :: s.pending }
  | none => s

end Sys2Proof.Machine
end

