-- ==== Sys2Proof/Safety.lean ====
section
/-!
DEFINITION. The terms in which statements about the block are made: how a command completes, the legal builds, the form
of cluster memory, and the invariant that every step keeps.
-/

namespace Sys2Proof

/-- The commands that reach a block held in reset: the reset inputs, the root clock and the test wrapper (R484, R568). -/
def Instr.reachesReset : Instr → Bool
  | .coldReset
  | .coldResetRelease _
  | .warmReset
  | .warmResetRelease
  | .rootckLoss
  | .rootckReturn
  | .wsBypass
  | .wsExtest
  | .wsIntest
  | .mbistRun
  | .mbistRead => true
  | _ => false

end Sys2Proof

namespace Sys2Proof.Machine

/-- Command `c` in state `s` completes, and the block it leaves is `k`; surroundings (build, cluster memory) and the
queue of waiting commands stand as before. -/
abbrev Gives (c : Instr) (s : State) (k : Block) : Prop := exec c s = .next { s with blk := k }

/-- Command `c` in state `s` completes, leaves surroundings and queue as they were, and `P` holds of the block. -/
def Completes (c : Instr) (s : State) (P : Block → Prop) : Prop := ∃ k, Gives c s k ∧ P k

/-- The block runs (not in reset, with its root clock), and the brick is one of the die. -/
abbrev Ready (s : State) (b : Nat) : Prop := s.blk.held = false ∧ brickOk s.env.build b = true

/-- The registers of `n` read as those of `k`, but for the words at the addresses `l`. -/
def Block.regsKept (k n : Block) (l : List Nat) : Prop :=
  ∀ r pg ix, regAddr r pg ix ∉ l → n.reg r pg ix = k.reg r pg ix

/-- The block when the next window of an output opens: its clock has come to the window, and the SYNC instructions
before it have added to their counters (R99, R104; the clock's move is the model's, log 23). -/
def Block.atWindow (k : Block) (e : Env) (b p : Nat) : Block :=
  let v := k.seqOf b p
  let start := traceSlots ((k.traceNow b p).take v.at_)
  v.owed.foldl (fun k x => k.counterAdd b x.1 x.2) (if timeTimed e.build b p then k.reachPhase e start else k.reachCycle e start)

/-- The packet at the head of a receive FIFO passes every check of R78 and R84 at endpoint `ep`; `r` waits behind it. -/
abbrev Block.headGood (k : Block) (b c ep : Nat) (p : Packet) (r : List Packet) : Prop :=
  k.rxQueue b c = p :: r ∧ headerCheck p = .good ∧ deliveredRight b ep true p = true ∧ k.strayEnd b ep p = false ∧
  payloadOk p = true

/-- The command that executes a course instruction on output `p` of brick `b`. -/
def CourseInstr.command (b p : Nat) : CourseInstr → Instr
  | .connect _ _ _ _ => .connect b p
  | .idle _ => .idle b p
  | .shared n => if n = 0 then .closingWindow b p else .shared b p
  | .rep _ _ => .repeatBody b p
  | .mark _ => .mark b p
  | .sync _ _ => .sync b p

/-- The canonical form of cluster memory: addresses strictly rise, and no listed byte is 0x00. -/
def Memory.wf (m : List Host.Cell) : Bool := keysRise m && m.all fun e => e.2 != 0

/-- A brick at the edge of the mesh (R547). -/
def edgeBrick (d : Build) (b : Nat) : Bool :=
  brickX b == 0 || brickX b + 1 == d.meshX || brickY b == 0 || brickY b + 1 == d.meshY

/-- An edge role stands where R547 allows it. -/
def roleOk (d : Build) (e : Nat × XRole) : Bool :=
  brickOk d (e.1 / 2) && edgeBrick d (e.1 / 2) && (stretcherEnd d (e.1 / 2) (e.1 % 2)).isNone &&
  match e.2 with
  | .lane p => decide (p < d.lanePorts)
  | .bridge p => decide (p < d.bridgePorts)
  | _ => false

/-- A parameter set that the build tool accepts (R546, R547), with the width of the die's coordinate (R85). -/
def Build.legal (d : Build) : Bool :=
  decide (4 ≤ d.meshX) && decide (d.meshX ≤ 16) && decide (4 ≤ d.meshY) && decide (d.meshY ≤ 16) &&
  decide (d.lanePorts ≤ if d.switchProfile then 56 else 16) && decide (d.bridgePorts ≤ 16) &&
  keysRise d.roles && d.roles.all (roleOk d) &&
  ((List.range d.lanePorts).all fun p => (d.roles.filter fun e => e.2 == XRole.lane p).length == 1) &&
  ((List.range d.bridgePorts).all fun p => (d.roles.filter fun e => e.2 == XRole.bridge p).length == 1) &&
  (!d.switchProfile || decide (((bricks d).filter (lpBuilt d)).length ≤ 16)) &&
  decide (100000 ≤ d.refclkKHz) && decide (d.refclkKHz ≤ 400000) && (d.bridgeBW == 1152 || d.bridgeBW == 2304) &&
  decide (1 ≤ d.scanCh) && decide (d.scanCh ≤ 4096) && decide (d.step < 256) &&
  decide (d.pod < 256) && decide (d.pkg < 512) && decide (d.die < 4)

/-- The command of a descriptor instruction of engine `en` whose descriptor is read without an error. -/
def descCommand (o : DescOp) (b en : Nat) (ok : Bool := true) : Instr :=
  match o with
  | .copy => .copy b en ok
  | .mcast => .mcast b en ok
  | .contrib => .contrib b en ok
  | .gather => .gather b en ok
  | .storeC => .storeC b en ok
  | .send => .send b en ok
  | .rload => .rload b en ok
  | .rstore => .rstore b en ok

/-- A good DIRREQ of operation `op` that endpoint `c` has not seen, at the head of its receive FIFO (R396). -/
abbrev Block.dirNew (k : Block) (d : Build) (b c op : Nat) (p : Packet) (r : List Packet) : Prop :=
  k.headGood b c c p r ∧ p.op = opDirReq ∧ natAt p.payload 0 1 = op ∧
  (look [] k.gpd.seen (b * 8 + c)).find? (fun x => x.src == p.src && x.trk == p.tracker) = none ∧
  (look [] k.gpd.seen (b * 8 + c)).length < 64 ∧ k.answering d b c opDirResp < dirDepth

/-- The DIRRESP of a served DIRREQ is remembered and sent (R396); `h` is the history before. -/
def Block.dirReply (k : Block) (d : Build) (b c : Nat) (h : List DirSeen) (p : Packet) (result : Nat) (mid : List Byte) :
    Block :=
  let a := dirAnswer p result mid
  let k : Block := { k with gpd.seen := put [] k.gpd.seen (b * 8 + c) (h ++ [{ src := p.src, trk := p.tracker, answer := a }]) }
  k.sendDirect d b { k.response d b c opDirResp 5 0 p with group := 0, cseq := 0, payload := a }

/-- The boundary with a far clock is the Local Port of a brick, a lane of a lane port, or a bridge. -/
def atLocalPort : Boundary → Bool
  | .localPort _ => true
  | _ => false

def atLane : Boundary → Bool
  | .lane _ _ => true
  | _ => false

def atBridge : Boundary → Bool
  | .bridge _ => true
  | _ => false

/-- The command that runs reducer instruction `i` at slot `sl` of brick `b`, with what the residue check finds. -/
def RdcInstr.command (i : RdcInstr) (b sl : Nat) (r : Residue) : Option Instr :=
  match i with
  | .add .. => some (.add b sl r)
  | .max .. => some (.max b sl r)
  | .min .. => some (.min b sl r)
  | .scale .. => some (.scale b sl r)
  | .cvt .. => some (.cvt b sl r)
  | .expmax .. => some (.expmax b sl r)
  | .align .. => some (.align b sl r)
  | .sort .. => some (.sort b sl)
  | .merge .. => some (.merge b sl)
  | .filter .. => some (.filter b sl)
  | .topk .. => some (.topk b sl)
  | .gather .. => some (.reducerGather b sl)
  | .segin .. => some (.segin b sl)
  | .segout .. => some (.segout b sl)
  | .emit .. => some (.emit b sl)
  | .ctl _ => none

/-- An instruction that computes elements and is checked by residues (R297). -/
def RdcInstr.isArith : RdcInstr → Bool
  | .add .. | .max .. | .min .. | .scale .. | .cvt .. | .expmax .. | .align .. => true
  | _ => false

/-- What a record instruction makes of the slot before it retires; none for a run-time fault (R255, R258). -/
def Block.recResult (k : Block) (b sl : Nat) (i : RdcInstr) : Option Block :=
  match i with
  | .sort .. => k.sortOp b sl i
  | .merge .. => k.mergeOp b sl i
  | .filter .. => k.filterOp b sl i
  | .topk .. => k.topkOp b sl i
  | .gather .. => k.gatherOp b sl i
  | _ => none

/-- A record instruction (R258), EMIT apart. -/
def RdcInstr.isRecord : RdcInstr → Bool
  | .sort .. | .merge .. | .filter .. | .topk .. | .gather .. => true
  | _ => false

/-! ### Operands that fit their fields (R33, R98, R202, R254) -/

/-- Operands of a control operation; `r` admits SIGNAL.R (R34). -/
def CtlOp.fits (r : Bool) : CtlOp → Bool
  | .wait c s v => decide (c < 2 ^ 8) && decide (s < 2 ^ 8) && decide (v < 2 ^ 32)
  | .signal c n => decide (c < 2 ^ 8) && decide (n < 2 ^ 32)
  | .signalR c e n => r && decide (c < 2 ^ 8) && decide (e < 2 ^ 16) && decide (n < 2 ^ 24)
  | .loop n t => decide (n < 2 ^ 16) && decide (t < 2 ^ 12)
  | .halt => true

/-- Operands of a transfer instruction. -/
def XferInstr.fits : XferInstr → Bool
  | .ctl o => o.fits true
  | .desc _ st da => decide (st < 2 ^ 4) && decide (da < 2 ^ 42)
  | .fence => true

/-- Operands of a reducer instruction. -/
def RdcInstr.fits : RdcInstr → Bool
  | .ctl o => o.fits false
  | .segin _ _ _ m p e => decide (m < 2 ^ 8) && decide (p < 2) && decide (e < 2 ^ 10)
  | .segout _ _ sh _ src fmt flow => bufOk src && fmtOk fmt && decide (flow < 2 ^ 12) && (sh == (flow == 0))
  | .add d fo fi m => bufOk d && fmtOk fo && fmtOk fi && decide (m < 2 ^ 8)
  | .max d fo fi m => bufOk d && fmtOk fo && fmtOk fi && decide (m < 2 ^ 8)
  | .min d fo fi m => bufOk d && fmtOk fo && fmtOk fi && decide (m < 2 ^ 8)
  | .scale d fo src s => bufOk d && fmtOk fo && bufOk src && decide (s < 2 ^ 32)
  | .cvt _ _ d fo src fi => bufOk d && fmtOk fo && bufOk src && fmtOk fi
  | .expmax d fi m => bufOk d && fmtOk fi && decide (m < 2 ^ 8)
  | .align d src fi => bufOk d && bufOk src && fmtOk fi
  | .sort _ b kt => bufOk b && ktypeOk kt
  | .merge _ kt m => ktypeOk kt && decide (m < 2 ^ 8)
  | .filter _ b kt j => bufOk b && ktypeOk kt && decide (j < 2 ^ 8)
  | .topk _ d kt src n => bufOk d && ktypeOk kt && bufOk src && decide (0 < n) && decide (n < 2 ^ 16)
  | .gather d f src ix r => bufOk d && fmtOk f && bufOk src && bufOk ix && decide (0 < r) && decide (r < 2 ^ 16)
  | .emit src n j => bufOk src && decide (0 < n) && decide (n < 2 ^ 8) && decide (j < 2 ^ 8)

/-- Operands of a course instruction. -/
def CourseInstr.fits : CourseInstr → Bool
  | .connect i s f m =>
    decide (i < 8) && decide (0 < s) && decide (s ≤ 4800) && decide (0 < f) && decide (f < 2 ^ 12) && decide (m < 2 ^ 8)
  | .idle s => decide (0 < s) && decide (s ≤ 4800)
  | .shared s => decide (s ≤ 4800)
  | .rep n b => decide (0 < n) && decide (n ≤ 4799) && decide (0 < b) && decide (b ≤ 16)
  | .mark _ => true
  | .sync c n => decide (c < 2 ^ 8) && decide (0 < n) && decide (n < 2 ^ 16)

/-- The register has no home of its own and no effect beside its word (R580): `writeReg` and `takeRead` treat it by its access
codes alone. -/
def RegName.plain : RegName → Bool
  | .GLB_IDENT
  | .BRK_PORTS
  | .GLB_IMAGE
  | .GLB_IMGID
  | .GLB_IMGDATA
  | .NI_CNTVAL
  | .NI_CNTADD
  | .XFR_STAT
  | .RDC_STAT
  | .NI_PFAULT
  | .BRK_PKTERR
  | .GPD_EPENT
  | .TIM_NOW
  | .TIM_COURSE
  | .TIM_INC
  | .TIM_CTL
  | .TIM_STAT
  | .TIM_SET
  | .CRS_STAT
  | .CRS_LGUARD
  | .SHW_SVC
  | .SHW_SUB
  | .GLB_ROUTE
  | .GLB_RTPKG
  | .GLB_RTSYS
  | .NI_RTLO
  | .NI_RTHI
  | .BRK_RTCTL
  | .TRK_RBASE
  | .TRK_RIDX
  | .TRK_BIND
  | .TRK_STAT
  | .RDC_RESLOG
  | .RDC_SLOT
  | .RDC_GFLAG
  | .RDC_PART
  | .GRP_ABORT
  | .GRP_DESC0
  | .GRP_DESC1
  | .GRP_TDATA
  | .SPC_CNT
  | .SPC_ERR
  | .SPC_FIRST
  | .SPC_UROW
  | .MQ_GRANT
  | .MQ_EVSTAT
  | .MQ_CHSTAT
  | .MQ_SEND
  | .MQ_EVPOP
  | .MQ_QCFG
  | .MQ_QSTAT
  | .MQ_POP
  | .MQ_CHCFG
  | .PLC_STAT
  | .PLC_LOG
  | .PLC_FRAME
  | .PLC_STMAP
  | .PLC_STSET
  | .GPD_DATA
  | .PLC_REC
  | .LNK_CTL
  | .LNK_STAT
  | .LN_CTL
  | .LN_STAT
  | .D2D_CTL
  | .GLB_FLTCTL
  | .GLB_FLTSTAT
  | .GLB_FLTLOG
  | .GLB_PORTRET0
  | .GLB_PORTRET1
  | .RST_CTL
  | .RST_STAT
  | .RST_BRK
  | .PWR_BRK
  | .BBX_CTL
  | .BBX_STAT
  | .BBX_DATA
  | .PRB_TCTL
  | .PRB_TDATA
  | .AGE_VREQ
  | .AGE_PLANSUM
  | .AGE_PLAN
  | .AGE_MARGIN
  | .AGE_MON
  | .AGE_HIST
  | .GLB_IRQSTAT
  | .GLB_EVSUM => false
  | _ => true

/-- What every step keeps: a legal build, and cluster memory in canonical form. -/
def Inv (s : State) : Prop := s.env.build.legal = true ∧ Memory.wf s.env.mem = true

end Sys2Proof.Machine
end

