-- ==== Sys2Proof/Certificates/Slice0/Obligations.lean ====
section
/-!
DEFINITION. The statements about the block, family by family. Where one rests on a choice of the model, its docstring
names the entry of the assumption log.
-/

open Sys2Proof Sys2Proof.Machine

/-! ### The machine as a whole -/

/-- The block takes the command at the front of its queue and runs it with the rest; with none waiting, one FCLK
passes, and the course boundary comes in the FCLK in which the course ends (the empty queue is the model's choice, log
4). -/
def Obligations.StepRunsFrontCommand : Prop :=
  (∀ (c : Instr) (r : List Instr) (s : State), step { s with pending := c :: r } = exec c { s with pending := r }) ∧
  (∀ s : State, s.pending = [] → s.blk.held = false → s.blk.clk.toBoundary ≠ 1 →
    step s = .next { s with blk := s.blk.pass s.env 1 }) ∧
  (∀ s : State, s.pending = [] → s.blk.held = false → s.blk.clk.toBoundary = 1 →
    step s = .next { s with blk := s.blk.boundary s.env [] }) ∧
  (∀ s : State, s.pending = [] → s.blk.held = true → step s = .next s)

/-- A block in reset or without its root clock: every command but the reset inputs, the root clock and the test
wrapper leaves the whole machine as it is (R484, R492, R566). Of the model, not of the spec: an access in reset or
without the root clock leaves the machine as it is (log 52). -/
def Obligations.HeldBlockKeepsStill : Prop :=
  ∀ (c : Instr) (s : State), s.blk.held = true → c.reachesReset = false → exec c s = .next s

/-- Cluster memory is written by the answers to memory-master requests alone (R553, R554); no command changes the
build (R546) or the commands that wait. Of the model, not of the spec: an access is one request for each unit, bytes
are written at the response, with an error none (log 11). -/
def Obligations.OnlyResponsesWriteMemory : Prop :=
  ∀ (c : Instr) (s t : State), exec c s = .next t →
    t.env.build = s.env.build ∧ t.pending = s.pending ∧ ((∀ b tag err, c ≠ .lpmResponse b tag err) → t.env.mem = s.env.mem)

/-- Every command of the table, with every operand and in every state, completes: none is refused and none stops the
model. The commands that wait and the build stand as before (that a command at an absent element changes nothing is
the model's choice, log 7). Of the model, not of the spec: a command that is not enabled leaves the block as it is
(log 6). -/
def Obligations.EveryCommandCompletes : Prop :=
  ∀ (c : Instr) (s : State), ∃ t, exec c s = .next t ∧ t.pending = s.pending ∧ t.env.build = s.env.build

/-- Every step keeps a legal build and the canonical form of cluster memory (the form is the model's, log 2). -/
def Obligations.StepKeepsBuildAndMemoryForm : Prop := ∀ s t : State, Inv s → step s = .next t → Inv t

/-- The machine after reset meets that invariant. Of the model, not of the spec: the build is one that no rule names
(log 1); memory that nothing has written reads 0 (log 2). -/
def Obligations.ResetMeetsBuildAndMemoryForm : Prop := Inv State.reset

/-- A memory-master response without an error writes the bytes of the request that it answers, in order, and no other
byte of cluster memory; with an error it writes none (R554, R556). Of the model, not of the spec: an access is one
request for each unit, bytes are written at the response, with an error none (log 11). -/
def Obligations.ResponseWritesItsRequestOnly : Prop :=
  ∀ (s : State) (b tag : Nat) (q : MemReq), Ready s b → tag < 1024 → s.blk.memReq b tag = some q →
    (∃ t, exec (.lpmResponse b tag false) s = .next t ∧ t.env = { s.env with mem := writeRuns s.env.mem b q.runs } ∧
      t.pending = s.pending ∧
      ∀ key, (∀ r ∈ q.runs, ∀ i < r.2.length, key ≠ memKey b (r.1 + i)) → memByte t.env.mem key = memByte s.env.mem key) ∧
    (∃ t, exec (.lpmResponse b tag true) s = .next t ∧ t.env = s.env ∧ t.pending = s.pending)

/-- What reset leaves (R45, R122, R68, R210, R221, R373, R427, R534): streams STOPPED, counters zero, global time zero
in ROOT, no image, trackers IDLE, rings empty, event FIFOs and black box empty, no memory request outstanding; and
every byte of cluster memory reads 0. Of the model, not of the spec: the build is one that no rule names (log 1);
memory that nothing has written reads 0 (log 2); the state is the one just after a released cold reset (log 3). -/
def Obligations.ResetStateOfTheBlock : Prop :=
  State.reset.pending = [] ∧ State.reset.blk.held = false ∧ State.reset.blk.gtime = 0 ∧
  State.reset.blk.clk.st = .root ∧ State.reset.blk.img.st = .empty ∧ State.reset.blk.out = [] ∧
  (∀ b u, (State.reset.blk.stream b u).st = .stopped) ∧ (∀ b c, State.reset.blk.counter b c = 0) ∧
  (∀ b t, (State.reset.blk.tracker b t).st = .idle) ∧
  (∀ b r, (State.reset.blk.ringOf b r).prod = 0 ∧ (State.reset.blk.ringOf b r).cons = 0) ∧
  (∀ b, State.reset.blk.events b = []) ∧ State.reset.blk.flt.log = [] ∧
  (∀ b tag, State.reset.blk.memReq b tag = none) ∧ (∀ key, memByte State.reset.env.mem key = 0) ∧
  ∀ r pg ix, State.reset.blk.reg r pg ix = regReset r ix

/-! ### Program words (R31 to R33, R98, R202, R254) -/

/-- Encode, then decode: every transfer, reducer and course instruction whose operands fit their fields, with its EVT
bit, comes back from its word. -/
def Obligations.WiloriDecodeOfEncode : Prop :=
  (∀ (i : XferInstr) (evt : Bool), i.fits = true →
    decodeXfer (encodeXfer evt i) = some i ∧ wordEvt (encodeXfer evt i) = evt) ∧
  (∀ (i : RdcInstr) (evt : Bool), i.fits = true →
    decodeRdc (encodeRdc evt i) = some i ∧ wordEvt (encodeRdc evt i) = evt) ∧
  (∀ i : CourseInstr, i.fits = true → decodeCourse (encodeCourse i) = some i)

/-- Decode, then encode: no legal word has a bit that its instruction does not carry, so each instruction has one word
for each value of EVT; and what a legal word spells fits its fields. -/
def Obligations.WiloriEncodeOfDecode : Prop :=
  (∀ (w : Nat) (i : XferInstr), w < 2 ^ 64 → decodeXfer w = some i → encodeXfer (wordEvt w) i = w ∧ i.fits = true) ∧
  (∀ (w : Nat) (i : RdcInstr), w < 2 ^ 64 → decodeRdc w = some i → encodeRdc (wordEvt w) i = w ∧ i.fits = true) ∧
  (∀ (w : Nat) (i : CourseInstr), w < 2 ^ 64 → decodeCourse w = some i → encodeCourse i = w ∧ i.fits = true)

/-! ### Control instructions, streams and counters (R33 to R53) -/

/-- WAIT, its satisfaction, LOOP and HALT (R35 to R37, R40, R41): where the stream stands afterwards. What retiring an
instruction does (R31): the stream runs at the next address; without EVT nothing else changes. A command that is not
enabled leaves the block as it is (the model's choice, log 6). Of the model, not of the spec: a loop's count stands
over a write of its word (log 105). -/
def Obligations.StreamsWaitLoopHaltAndRetire : Prop :=
  (∀ (s : State) (b u c st v : Nat) (evt : Bool), Ready s b → streamOk u = true →
    ¬(s.blk.img.st = .quiescing ∧ isReducer u = false) → s.blk.ctlFetch b u = some (.wait c st v, evt) →
    let target := (v + st * s.blk.iterIndex b u (s.blk.stream b u).pc) % 2 ^ 32
    let k := s.blk.mapStream b u fun x => { x with wcnt := c, wtarget := target }
    Gives (.wait b u) s
      (if (s.blk.counter b c + 2 ^ 32 - target) % 2 ^ 32 < 2 ^ 31 then k.retire b u evt
       else k.mapStream b u fun x => { x with st := .waiting, hold := .none, word := some (s.blk.curWord b u) })) ∧
  (∀ (s : State) (b u : Nat), Ready s b → streamOk u = true → (s.blk.stream b u).st = .waiting →
    (s.blk.stream b u).hold = .none → waitMet (s.blk.counter b (s.blk.stream b u).wcnt) (s.blk.stream b u).wtarget = true →
    Gives (.waitSatisfied b u) s (s.blk.retire b u (wordEvt (s.blk.curWord b u).toNat))) ∧
  (∀ (s : State) (b u : Nat), Ready s b → streamOk u = true →
    waitMet (s.blk.counter b (s.blk.stream b u).wcnt) (s.blk.stream b u).wtarget = false →
    Gives (.waitSatisfied b u) s s.blk) ∧
  (∀ (s : State) (b u n t : Nat), Ready s b → streamOk u = true → s.blk.ctlFetch b u = some (.loop n t, false) →
    n = 0 ∨ (s.blk.stream b u).taken (s.blk.stream b u).pc < n →
    Completes (.loopBack b u) s fun k => k = s.blk.setStream b u (k.stream b u) ∧
      (k.stream b u).pc = t ∧ (k.stream b u).st = .running ∧
      (k.stream b u).taken (s.blk.stream b u).pc = (s.blk.stream b u).taken (s.blk.stream b u).pc + 1) ∧
  (∀ (s : State) (b u n t : Nat), Ready s b → streamOk u = true → s.blk.ctlFetch b u = some (.loop n t, false) →
    n ≠ 0 → n ≤ (s.blk.stream b u).taken (s.blk.stream b u).pc →
    Completes (.loopBack b u) s fun k => k = s.blk.setStream b u (k.stream b u) ∧
      (k.stream b u).pc = (s.blk.stream b u).pc + 1 ∧ (k.stream b u).st = .running) ∧
  (∀ (s : State) (b u : Nat), Ready s b → u < 16 → s.blk.img.st ≠ .quiescing → s.blk.ctlFetch b u = some (.halt, false) →
    Gives (.halt b u) s (s.blk.mapStream b u fun v => { v with st := .halted, hold := .none, word := none })) ∧
  (∀ (s : State) (b sl : Nat), Ready s b → sl < 64 → s.blk.ctlFetch b (0x100 + sl) = some (.halt, false) →
    let k := s.blk.mapStream b (0x100 + sl) fun v => { v with st := .halted, hold := .none, word := none, loops := [] }
    Gives (.halt b (0x100 + sl)) s ((k.mapSlot b sl Slot.advance).startSlot s.env.build b sl 8)) ∧
  (∀ (k : Block) (b u : Nat),
    k.retire b u false = k.setStream b u
      { k.stream b u with st := .running, pc := (k.stream b u).pc + 1, hold := .none, word := none } ∧
    ((k.retire b u true).stream b u).pc = (k.stream b u).pc + 1)

/-- Adds and sets of the sync counters by program and by register (R38, R43, R53). A transfer stream faults and
restarts (R32, R46, R48, R49, R588): an illegal word, a double-bit error and an expired watchdog put it in FAULTED
with one PROGRAM_FAULT event and its NI_PFAULT bit; a single-bit error is only counted; RESTART of a halted or faulted
stream runs it from its entry, its loop counts zero. A timer's command says itself that the bound is reached (the
model's choice, log 5). Of the model, not of the spec: a restarted stream is RUNNING at its entry (log 64); packets
already staged at a fault are still sent (log 65); errors in memories and on wires are the operand of the command (log
68); commands with no idle step between them are of one FCLK (log 69). -/
def Obligations.CountersAddAndStreamsRestart : Prop :=
  (∀ (s : State) (b u c n : Nat) (evt : Bool), Ready s b → streamOk u = true →
    s.blk.ctlFetch b u = some (.signal c n, evt) → Gives (.signal b u) s ((s.blk.counterAdd b c n).retire b u evt)) ∧
  (∀ (s : State) (via : Via) (b c : Nat) (v : Word), Ready s b → c < 256 → s.blk.viaOpen s.env.build b via = true →
    (s.blk.countTick b c).rank ≤ setRankOf via →
    Completes (.counterSet via b c v) s fun k =>
      k = (s.blk.putCounter b c (k.counter b c)
        { s.blk.countTick b c with rank := setRankOf via }).answerWrite b via ∧
      k.counter b c = (v.toNat % 2 ^ 32 + (s.blk.countTick b c).adds) % 2 ^ 32 ∧
      ∀ c' < 256, c' ≠ c → k.counter b c' = s.blk.counter b c') ∧
  (∀ (s : State) (via : Via) (b c : Nat) (v : Word), Ready s b → c < 256 → s.blk.viaOpen s.env.build b via = true →
    setRankOf via < (s.blk.countTick b c).rank → Gives (.counterSet via b c v) s (s.blk.answerWrite b via)) ∧
  (∀ (s : State) (via : Via) (b c : Nat) (v : Word), s.blk.held = false → s.blk.mpShut via = false →
    brickOk s.env.build b = false ∨ 256 ≤ c →
    Gives (.counterSet via b c v) s (s.blk.answerNone s.env.build b via) ∧
    Gives (.counterAddWrite via b c v) s (s.blk.answerNone s.env.build b via)) ∧
  (∀ (s : State) (via : Via) (b c : Nat) (v : Word), Ready s b → c < 256 → s.blk.viaOpen s.env.build b via = true →
    Completes (.counterAddWrite via b c v) s fun k =>
      k = (s.blk.putCounter b c (k.counter b c) { s.blk.countTick b c with
        adds := (s.blk.countTick b c).adds + v.toNat % 2 ^ 32 }).answerWrite b via ∧
      k.counter b c = (s.blk.counter b c + v.toNat % 2 ^ 32) % 2 ^ 32 ∧
    ∀ c' < 256, c' ≠ c → k.counter b c' = s.blk.counter b c') ∧
  (∀ (s : State) (b u c en n t : Nat) (evt : Bool), Ready s b → streamOk u = true → en < 4096 →
    s.blk.ctlFetch b u = some (.signalR c en n, evt) → s.blk.freePool b = some t →
    Gives (.signalR b u) s ((s.blk.startSignal s.env b u t c en n).retire b u evt)) ∧
  (∀ (s : State) (b u c en n : Nat) (evt : Bool), Ready s b → streamOk u = true → en < 4096 →
    s.blk.ctlFetch b u = some (.signalR c en n, evt) → s.blk.freePool b = none →
    Gives (.signalR b u) s (s.blk.stay b u .running .pool)) ∧
  (∀ (s : State) (b u c en n : Nat) (evt : Bool), Ready s b → u < 16 → 4096 ≤ en →
    s.blk.ctlFetch b u = some (.signalR c en n, evt) → Gives (.signalR b u) s (s.blk.faultStream b u 0)) ∧
  (∀ (s : State) (b u : Nat), Ready s b → u < 16 → (s.blk.stream b u).st = .running →
    (s.blk.stream b u).hold = .none → wordLegal u (s.blk.progWord b u (s.blk.stream b u).pc) = false →
    Gives (.illegalInstruction b u) s (s.blk.faultStream b u 0)) ∧
  (∀ (s : State) (b u : Nat), Ready s b → streamOk u = true → (s.blk.stream b u).st = .running →
    (s.blk.stream b u).hold = .none → Gives (.programMemoryError b u .single) s (s.blk.bump .NI_PFAULT 63 48 b)) ∧
  (∀ (s : State) (b u : Nat), Ready s b → memoryOk u = true → s.blk.isolated b = false →
    Gives (.programMemoryError b u .single) s (s.blk.bump .BRK_FLT 47 32 b) ∧
    (flag (s.blk.reg .BRK_FLT b) 0 = false →
      Gives (.programMemoryError b u .double) s ((s.blk.setBit .BRK_FLT 0 b).permanent 8 b 0))) ∧
  (∀ (s : State) (b u : Nat), Ready s b → u < 16 → (s.blk.stream b u).st = .running →
    (s.blk.stream b u).hold = .none → (s.blk.failures s.blk.prog.memFaults (b * 2 * 4096 + (s.blk.stream b u).pc) 1000000).1 < 2 →
    Completes (.programMemoryError b u .double) s fun k => k = (({ s.blk with prog.memFaults := k.prog.memFaults } : Block)).faultStream b u 0 ∧
      (k.stream b u).st = .faulted ∧
      (k.stream b u).pc = (s.blk.stream b u).pc) ∧
  (∀ (s : State) (b u : Nat), Ready s b → u < 16 → (s.blk.stream b u).st = .waiting →
    Gives (.watchdogExpiry b u) s
      (s.blk.faultStream b u ((s.blk.stream b u).waitsFor.2 * 2 ^ 32 + (s.blk.stream b u).waitsFor.1))) ∧
  (∀ (s : State) (b u : Nat) (v : Word), Ready s b →
    s.blk.crosses .managementPort = true → streamOk u = true → flag v 63 = true →
    (s.blk.stream b u).st = .halted ∨ (s.blk.stream b u).st = .faulted →
    Completes (.restart b u v) s fun k => k = (s.blk.setStream b u (k.stream b u)).answerWrite b .mp ∧
      (k.stream b u).st = .running ∧
      (k.stream b u).pc = s.blk.entryOf b u ∧ (k.stream b u).loops = [] ∧ k.out = s.blk.out ++ [.mp 0 false])

/-! ### Transfer instructions (R202 to R209, R225, R228) -/

/-- COPY, MCAST, CONTRIB, GATHER, STORE.C, SEND, RLOAD and RSTORE (R203, R206 to R208): the descriptor at (DADDR +
STRIDE * k) * 64 is read; a good one claims its tracker and retires, or waits for it in RUNNING; one that breaks its
rules starts nothing and faults the engine. TRACKER_CLAIM, FENCE and FENCE_RELEASE (R208, R209): an engine goes on
when what holds it is over. Of the model, not of the spec: when a GATHER or STORE.C lets the next transfer of its
service go (log 16); the status of a stream whose source has changed (log 17); a stream routed by the directory counts
as leaving its package (log 18); an engine, a channel and a slot stage one packet at a time (log 77). -/
def Obligations.TransfersStartAndWait : Prop :=
  (∀ (s : State) (b en st da : Nat) (o : DescOp) (evt : Bool), Ready s b → en < 16 →
    s.blk.descFetch b en = some (o, st, da, evt) → s.blk.lpOpen b = true →
    let l := memRead s.env.mem b (((da + st * s.blk.iterIndex b en (s.blk.stream b en).pc) * 64) % 2 ^ 48) 64
    (descOk o l = true → s.blk.startOk s.env b o (descOf l) = true →
      (s.blk.tracker b (descOf l).trk).st = .idle →
      Gives (descCommand o b en) s ((s.blk.startTransfer s.env b en o (descOf l)).retire b en evt)) ∧
    (descOk o l = true → s.blk.startOk s.env b o (descOf l) = true →
      (s.blk.tracker b (descOf l).trk).st ≠ .idle →
      Gives (descCommand o b en) s (s.blk.stay b en .running (.tracker (opOf o) (descOf l)))) ∧
    (descOk o l = false → Gives (descCommand o b en) s (s.blk.failStream s.env.build b en 0)) ∧
    (descOk o l = true → s.blk.startOk s.env b o (descOf l) = false →
      Gives (descCommand o b en) s (s.blk.failStream s.env.build b en 0))) ∧
  (∀ (s : State) (b en : Nat) (o : DescOp) (c : Desc), Ready s b → en < 16 → (s.blk.stream b en).st = .running →
    (s.blk.stream b en).hold = .tracker (opOf o) c → (s.blk.tracker b c.trk).st = .idle →
    s.blk.startOk s.env b o c = true →
    Gives (.trackerClaim b en) s ((s.blk.startTransfer s.env b en o c).retire b en
      (wordEvt (s.blk.curWord b en).toNat))) ∧
  (∀ (s : State) (b en st da : Nat) (o : DescOp) (evt ok : Bool), Ready s b → en < 16 →
    s.blk.descFetch b en = some (o, st, da, evt) → (ok = false ∨ s.blk.lpOpen b = false) →
    Gives (descCommand o b en ok) s
      ((if ok then s.blk else s.blk.bump .NI_LPERR 47 32 b).failStream s.env.build b en 0)) ∧
  (∀ (s : State) (b en : Nat) (o : DescOp) (c : Desc), Ready s b → en < 16 → (s.blk.stream b en).st = .running →
    (s.blk.stream b en).hold = .tracker (opOf o) c → (s.blk.tracker b c.trk).st = .idle →
    s.blk.startOk s.env b o c = false → Gives (.trackerClaim b en) s (s.blk.failStream s.env.build b en 0)) ∧
  (∀ (s : State) (b en : Nat), Ready s b → en < 16 → (s.blk.stream b en).st = .running →
    (s.blk.stream b en).hold = .none → decodeXfer (s.blk.progWord b en (s.blk.stream b en).pc).toNat = some .fence →
    Gives (.fence b en) s
      (if s.blk.engineBusy b en then s.blk.stay b en .running .fence
       else s.blk.retire b en (wordEvt (s.blk.progWord b en (s.blk.stream b en).pc).toNat))) ∧
  (∀ (s : State) (b en : Nat), Ready s b → en < 16 → (s.blk.stream b en).st = .running →
    (s.blk.stream b en).hold = .fence → s.blk.engineBusy b en = false →
    Gives (.fenceRelease b en) s (s.blk.retire b en (wordEvt (s.blk.curWord b en).toNat)))

/-- LP_LOAD, LP_STORE, FENCE_READ, LP_PROGRAM_WRITE and POOL_TRACKER_CLAIM (R58, R225, R228, R550): a legal request
takes the least idle pool tracker or waits for one; an illegal one is answered with PROGRAM_FAULT and counted. A
command that is not enabled leaves the block as it is (the model's choice, log 6). Of the model, not of the spec:
which idle tracker of the pool is taken, and in what order those who wait take one (log 19); the order of responses,
and that a stalled identifier's later requests are not taken (log 73). -/
def Obligations.LocalPortRequestsAreServed : Prop :=
  (∀ (s : State) (b rid tag addr n t : Nat), Ready s b → s.blk.lpServes s.env.build b rid = true →
    rid < 64 → lpRange addr n = true → s.blk.freePool b = some t → look [] s.blk.xfr.lpHeld b = [] →
    Gives (.lpLoad b rid tag addr n) s
      ((s.blk.owe b rid tag .held).startLp s.env b t { rid := rid, tag := tag, addr := addr, len := n, data := none })) ∧
  (∀ (s : State) (b rid tag addr t : Nat) (data : List Byte), Ready s b → s.blk.lpServes s.env.build b rid = true → rid < 64 → lpRange addr data.length = true → s.blk.freePool b = some t →
    look [] s.blk.xfr.lpHeld b = [] →
    Gives (.lpStore b rid tag addr data) s
      ((s.blk.owe b rid tag .held).startLp s.env b t
        { rid := rid, tag := tag, addr := addr, len := data.length, data := some data })) ∧
  (∀ (s : State) (b rid tag addr n : Nat), Ready s b → s.blk.lpServes s.env.build b rid = true →
    rid < 64 → lpRange addr n = false → look [] s.blk.xfr.lpDue (b * 64 + rid) = [] →
    Completes (.lpLoad b rid tag addr n) s fun k => k = s.blk.badRequest b rid tag ∧
      k.out = s.blk.out ++ [.lp b rid tag stProgramFault []] ∧
      k.xfr = s.blk.xfr ∧ k.net = s.blk.net) ∧
  (∀ (s : State) (b rid tag : Nat), Ready s b → s.blk.lpServes s.env.build b rid = true → rid < 64 →
    look [] s.blk.xfr.fenceReads b = [] → look [] s.blk.xfr.lpDue (b * 64 + rid) = [] →
    s.blk.fenceReady b (s.blk.fenceOf b rid tag) = true →
    Completes (.fenceRead b rid tag) s fun k =>
      k = { s.blk with xfr.lpFail := k.xfr.lpFail, xfr.fenceReads := k.xfr.fenceReads, xfr.lpDue := k.xfr.lpDue, out := k.out } ∧
      (∀ i, look [] k.xfr.fenceReads i = look [] s.blk.xfr.fenceReads i) ∧
      (∀ i, look [] k.xfr.lpDue i = look [] s.blk.xfr.lpDue i) ∧
      (∀ i, i ≠ b * 64 + rid → look 0 k.xfr.lpFail i = look 0 s.blk.xfr.lpFail i) ∧
      k.out = s.blk.out ++ [.lp b rid tag (look 0 s.blk.xfr.lpFail (b * 64 + rid)) []] ∧
      look 0 k.xfr.lpFail (b * 64 + rid) = 0) ∧
  (∀ (s : State) (b rid tag : Nat), Ready s b → s.blk.lpServes s.env.build b rid = true → rid < 64 →
    look [] s.blk.xfr.fenceReads b = [] → s.blk.fenceReady b (s.blk.fenceOf b rid tag) = false →
    Completes (.fenceRead b rid tag) s fun k =>
      k = { s.blk with xfr.fenceReads := put [] s.blk.xfr.fenceReads b [s.blk.fenceOf b rid tag], xfr.lpDue := k.xfr.lpDue } ∧
      look [] k.xfr.lpDue (b * 64 + rid) = look [] s.blk.xfr.lpDue (b * 64 + rid) ++ [.waits tag .fence]) ∧
  (∀ (s : State) (b rid tag addr n : Nat), Ready s b → s.blk.lpServes s.env.build b rid = true →
    rid < 64 → lpRange addr n = false → look [] s.blk.xfr.lpDue (b * 64 + rid) ≠ [] →
    Completes (.lpLoad b rid tag addr n) s fun k => k = s.blk.badRequest b rid tag ∧ k.out = s.blk.out ∧
      look [] k.xfr.lpDue (b * 64 + rid) =
        look [] s.blk.xfr.lpDue (b * 64 + rid) ++ [.ready tag stProgramFault []]) ∧
  (∀ (k : Block) (b rid tag st : Nat) (w : LpWait) (data : List Byte) (l r : List LpDue) (o : List Answer), rid < 64 →
    look [] k.xfr.lpDue (b * 64 + rid) = .waits tag w :: l → releaseDue b rid l = (o, r) →
    (k.settleLp b rid w st data).out = k.out ++ .lp b rid tag st data :: o ∧
    look [] (k.settleLp b rid w st data).xfr.lpDue (b * 64 + rid) = r) ∧
  (∀ (k : Block) (b rid tag st : Nat) (w v : LpWait) (data : List Byte) (l : List LpDue), rid < 64 → v ≠ w →
    look [] k.xfr.lpDue (b * 64 + rid) = .waits tag v :: l → (k.settleLp b rid w st data).out = k.out) ∧
  (∀ (s : State) (b rid tag off : Nat) (v : Word), Ready s b → s.blk.lpServes s.env.build b rid = true →
    off < 4096 → flag (look 0 s.blk.prog.openRange b) 63 = true → fld (look 0 s.blk.prog.openRange b) 11 0 ≤ off →
    off ≤ fld (look 0 s.blk.prog.openRange b) 27 16 → look [] s.blk.xfr.lpDue (b * 64 + rid % 64) = [] →
    Completes (.lpProgramWrite b rid tag off v) s fun k =>
      k = { s.blk with prog.xferMem := k.prog.xferMem, prog.xferOld := k.prog.xferOld, out := k.out } ∧
      look 0 k.prog.xferMem (b * 4096 + off) = v ∧
      (∀ a, a ≠ b * 4096 + off → look 0 k.prog.xferMem a = look 0 s.blk.prog.xferMem a) ∧
      k.out = s.blk.out ++ [.lp b rid tag stOk []]) ∧
  (∀ (s : State) (b rid tag off : Nat) (v : Word), Ready s b → s.blk.lpServes s.env.build b rid = true →
    (flag (look 0 s.blk.prog.openRange b) 63 = false ∨ off < fld (look 0 s.blk.prog.openRange b) 11 0 ∨
      fld (look 0 s.blk.prog.openRange b) 27 16 < off ∨ 4096 ≤ off) →
    look [] s.blk.xfr.lpDue (b * 64 + rid % 64) = [] →
    Completes (.lpProgramWrite b rid tag off v) s fun k => k = s.blk.badRequest b rid tag ∧
      k.prog = s.blk.prog ∧
      k.out = s.blk.out ++ [.lp b rid tag stProgramFault []]) ∧
  (∀ (s : State) (b rid tag a : Nat) (v : Word) (l : List Byte), Ready s b →
    s.blk.lpServes s.env.build b rid = false →
    Gives (.lpProgramWrite b rid tag a v) s s.blk ∧ Gives (.lpLoad b rid tag a a) s s.blk ∧
      Gives (.lpStore b rid tag a l) s s.blk ∧ Gives (.fenceRead b rid tag) s s.blk ∧ Gives (.mqSend b rid tag l) s s.blk) ∧
  (∀ (k : Block) (d : Build) (b rid tag c : Nat) (l : List LpDue),
    (look [] k.xfr.lpDue (b * 64 + rid % 64) = .waits tag .held :: l ∨
      look [] k.xfr.lpDue (b * 64 + rid % 64) = .waits tag (.send c) :: l) → k.lpServes d b rid = false) ∧
  (∀ (s : State) (b t : Nat) (o : LpOp) (r : List LpOp), Ready s b → s.blk.freePool b = some t →
    look [] s.blk.xfr.lpHeld b = o :: r →
    Gives (.poolTrackerClaim b) s
      (({ s.blk with xfr.lpHeld := put [] s.blk.xfr.lpHeld b r }).startLp s.env b t o)) ∧
  (∀ (s : State) (b t u c en n : Nat), Ready s b → s.blk.freePool b = some t → look [] s.blk.xfr.lpHeld b = [] →
    streamOk u = true → (s.blk.stream b u).st = .running → (s.blk.stream b u).hold = .pool →
    (∀ u' < u, (s.blk.stream b u').hold ≠ .pool) → ctlOf u (s.blk.curWord b u) = some (.signalR c en n) → en < 4096 →
    let k := s.blk.mapStream b u fun v => { v with hold := .none, word := none }
    Gives (.poolTrackerClaim b) s
      ((k.startSignal s.env b u t c en n).retire b u (wordEvt (s.blk.curWord b u).toNat))) ∧
  (∀ (s : State) (b t dst a : Nat) (l : List Byte) (r : List (Nat × Nat × List Byte)), Ready s b →
    s.blk.freePool b = some t → look [] s.blk.xfr.lpHeld b = [] → s.blk.prog.streams = [] →
    look [] s.blk.gpd.asks b = (dst, a, l) :: r → look none s.blk.gpd.coord b = none →
    Gives (.poolTrackerClaim b) s
      (({ s.blk with gpd.asks := put [] s.blk.gpd.asks b r } : Block).startAsk s.env b t dst a l)) ∧
  (∀ (s : State) (b : Nat), Ready s b → s.blk.freePool b = none → Gives (.poolTrackerClaim b) s s.blk) ∧
  (∀ (s : State) (b rid tag addr n : Nat), Ready s b → s.blk.lpServes s.env.build b rid = true →
    rid < 64 → lpRange addr n = true → s.blk.freePool b = none →
    let k := s.blk.owe b rid tag .held
    Gives (.lpLoad b rid tag addr n) s { k with
      xfr.lpHeld := put [] k.xfr.lpHeld b (look [] k.xfr.lpHeld b ++ [{ rid := rid, tag := tag, addr := addr, len := n, data := none }]) }) ∧
  (∀ (s : State) (b rid tag addr : Nat) (data : List Byte), Ready s b → s.blk.lpServes s.env.build b rid = true → rid < 64 → lpRange addr data.length = true → s.blk.freePool b = none →
    let k := s.blk.owe b rid tag .held
    Gives (.lpStore b rid tag addr data) s { k with
      xfr.lpHeld := put [] k.xfr.lpHeld b (look [] k.xfr.lpHeld b ++ [{ rid := rid, tag := tag, addr := addr, len := data.length, data := some data }]) })

/-! ### Packets at the network interface (R81, R195, R207, R211 to R217, R230) -/

/-- WRITE, CHUNK, MCAST_DELIVERY, READREQ, READRESP and COUNTER: what a good packet at the head of the receive FIFO
does. Data goes to the memory master as R211 decides; a counter packet is added once and acknowledged; a READREQ that
meets a full request store is counted and discarded (R155, log 72). What R211 decides on a packet for a receive
tracker, and what each decision does with its data: an accepted packet and an untracked one go to memory, in a request
for each 128-byte unit (R553); a duplicate is answered by R212. Once the last request of an access is answered, an
untracked WRITE is acknowledged alone, and a tracked packet counts; with the last of its stream the tracker completes.
A failed access is NACKed, or ends its source (R556). That a packet is one access, and a source read one more, is the
model's choice (log 11). Of the model, not of the spec: the BASE of the ACK for a duplicate (log 88); a packet for the
old frame in LOGWAIT is discarded (log 103); a READREQ or COUNTER of another PLEN than 8 is ILLEGAL (log 106). -/
def Obligations.DataPacketsAreTakenByTheirTracker : Prop :=
  (∀ (s : State) (b : Nat) (p : Packet) (r : List Packet), Ready s b → s.blk.headGood b 0 0 p r → p.op = opWrite →
    (s.blk.setRx b 0 r).recOf b p.addr .forward = none → (s.blk.setRx b 0 r).recOf b p.addr .logwait = none →
    Gives (.write b) s ((s.blk.setRx b 0 r).takeData s.env.build b p)) ∧
  (∀ (s : State) (b m : Nat) (p : Packet) (r : List Packet), Ready s b → s.blk.headGood b 0 0 p r → p.op = opWrite →
    (s.blk.setRx b 0 r).recOf b p.addr .forward = some m →
    Gives (.write b) s ((s.blk.setRx b 0 r).forwardOld s.env.build b m p)) ∧
  (∀ (s : State) (b : Nat) (p : Packet) (r : List Packet), Ready s b → s.blk.headGood b 0 0 p r → p.op = opChunk →
    Gives (.chunk b) s ((s.blk.setRx b 0 r).takeData s.env.build b p)) ∧
  (∀ (s : State) (b : Nat) (p : Packet) (r : List Packet), Ready s b → s.blk.headGood b 0 0 p r → p.op = opMcast →
    Gives (.mcastDelivery b) s ((s.blk.setRx b 0 r).takeData s.env.build b p)) ∧
  (∀ (s : State) (b : Nat) (p : Packet) (r : List Packet), Ready s b → s.blk.headGood b 0 0 p r → p.op = opReadReq →
    p.plen = 8 → (s.blk.setRx b 0 r).recOf b p.addr .forward = none →
    (s.blk.setRx b 0 r).recOf b p.addr .logwait = none →
    (look [] s.blk.xfr.requests b).length + s.blk.answering s.env.build b 0 opReadResp < requestDepth →
    Gives (.readreq b) s
      (({ s.blk.setRx b 0 r with
          xfr.requests := put [] s.blk.xfr.requests b (look [] s.blk.xfr.requests b ++ [p]) } : Block).memFetch b
        (.packet p) (p.addr % 2 ^ 48) (min 8256 (natAt p.payload 0 4)))) ∧
  (∀ (s : State) (b : Nat) (p : Packet) (r : List Packet), Ready s b → s.blk.headGood b 0 0 p r → p.op = opReadReq →
    p.plen = 8 → (s.blk.setRx b 0 r).recOf b p.addr .forward = none →
    (s.blk.setRx b 0 r).recOf b p.addr .logwait = none →
    requestDepth ≤ (look [] s.blk.xfr.requests b).length + s.blk.answering s.env.build b 0 opReadResp →
    Gives (.readreq b) s ((s.blk.setRx b 0 r).bump .SHW_ERR 47 32 b)) ∧
  (∀ (s : State) (b : Nat) (p : Packet) (r : List Packet) (off len : Nat), Ready s b → s.blk.headGood b 0 1 p r →
    p.op = opReadResp → s.blk.lpOpen b = true →
    let t := p.tracker % 1024
    let v := s.blk.tracker b t
    v.isDest = false → v.st = .source → v.op = .rload → p.pcount = v.pcount → v.b ≤ p.pseq → v.seen.contains p.pseq = false →
    p.pseq < v.issued → v.pieces.getD p.pseq (0, 0) = (off, len) → p.payload.length = len →
    Gives (.readresp b) s ((s.blk.setRx b 0 r).memIssue b (.packet p) [((v.desc.da + off) % 2 ^ 48, p.payload)])) ∧
  (∀ (s : State) (b : Nat) (p : Packet) (r : List Packet) (k : Block), Ready s b → s.blk.headGood b 0 1 p r →
    p.op = opCounter → p.plen = 8 → (s.blk.setRx b 0 r).arriveOnce b (p.src, p.tracker) = (some true, k) →
    Gives (.counter b) s ((k.counterAdd b (natAt p.payload 0 1) (natAt p.payload 4 4)).ackAlone s.env.build b 1 p)) ∧
  (∀ (s : State) (b : Nat) (p : Packet) (r : List Packet) (k : Block), Ready s b → s.blk.headGood b 0 1 p r →
    p.op = opCounter → p.plen = 8 → (s.blk.setRx b 0 r).arriveOnce b (p.src, p.tracker) = (some false, k) →
    Gives (.counter b) s (k.ackAlone s.env.build b 1 p)) ∧
  (∀ (k : Block) (d : Build) (b ep : Nat) (p : Packet) (rule nack : Bool) (f : Block → Block), headerCheck p ≠ .good →
    k.consume d b ep p rule nack f = k.countCheck b (headerCheck p)) ∧
  (∀ (k : Block) (d : Build) (b ep : Nat) (p : Packet) (rule nack : Bool) (f : Block → Block), headerCheck p = .good →
    deliveredRight b ep rule p = false → k.strayEnd b ep p = false →
    k.consume d b ep p rule nack f = k.countCheck b .illegal) ∧
  (∀ (k : Block) (d : Build) (b ep : Nat) (p : Packet) (rule nack : Bool) (f : Block → Block), headerCheck p = .good →
    k.strayEnd b ep p = true → k.consume d b ep p rule nack f = k.answerError d b p stNoRoute) ∧
  (∀ (k : Block) (d : Build) (b ep : Nat) (p : Packet) (rule nack : Bool) (f : Block → Block), headerCheck p = .good →
    deliveredRight b ep rule p = true → k.strayEnd b ep p = false → payloadOk p = false →
    k.consume d b ep p rule nack f = if nack then k.sendNack d b ep p else k) ∧
  (∀ (k : Block) (b : Nat) (p : Packet), 512 ≤ p.tracker % 1024 → k.arrival b p = .untracked) ∧
  (∀ (k : Block) (b : Nat) (p : Packet), p.tracker % 1024 < 512 → flag (k.binding b (p.tracker % 1024)) 63 = true →
    (k.tracker b (p.tracker % 1024)).st = .idle → p.pseq < 256 → k.arrival b p = .accept) ∧
  (∀ (k : Block) (b : Nat) (p : Packet), p.tracker % 1024 < 512 → (k.tracker b (p.tracker % 1024)).st = .dest →
    (p.src, p.pcount) ≠ ((k.tracker b (p.tracker % 1024)).owner, (k.tracker b (p.tracker % 1024)).pcount) →
    k.arrival b p = .clash) ∧
  (∀ (k : Block) (b : Nat) (p : Packet), p.tracker % 1024 < 512 → (k.tracker b (p.tracker % 1024)).st = .dest →
    (p.src, p.pcount) = ((k.tracker b (p.tracker % 1024)).owner, (k.tracker b (p.tracker % 1024)).pcount) →
    p.pseq < (k.tracker b (p.tracker % 1024)).b → k.arrival b p = .duplicate) ∧
  (∀ (k : Block) (b : Nat) (p : Packet), p.tracker % 1024 < 512 → (k.tracker b (p.tracker % 1024)).st = .dest →
    (p.src, p.pcount) = ((k.tracker b (p.tracker % 1024)).owner, (k.tracker b (p.tracker % 1024)).pcount) →
    (k.tracker b (p.tracker % 1024)).seen.contains p.pseq = false →
    (k.tracker b (p.tracker % 1024)).b + 256 ≤ p.pseq → k.arrival b p = .window) ∧
  (∀ (k : Block) (b : Nat) (p : Packet), p.tracker % 1024 < 512 → flag (k.binding b (p.tracker % 1024)) 63 = true →
    (k.tracker b (p.tracker % 1024)).st = .idle → 256 ≤ p.pseq → k.arrival b p = .window) ∧
  (∀ (k : Block) (d : Build) (b : Nat) (p : Packet), k.arrival b p = .window →
    k.takeData d b p = (k.beginDest d b p).bump .TRK_ERR 47 32 b) ∧
  (∀ (k : Block) (d : Build) (b : Nat) (p : Packet), k.arrival b p = .clash →
    k.takeData d b p = (k.bump .TRK_ERR 63 48 b).postEvent b
      { type := 0xB, source := p.tracker % 1024, arg0 := p.src, arg1 := p.pseq }) ∧
  (∀ (k : Block) (d : Build) (b : Nat) (p : Packet), k.arrival b p = .untracked →
    k.takeData d b p = k.memIssue b (.alone p) [(p.addr % 2 ^ 48, p.payload)]) ∧
  (∀ (k : Block) (d : Build) (b : Nat) (p : Packet), k.arrival b p = .accept →
    let t := p.tracker % 1024
    let runs := [(p.addr % 2 ^ 48, p.payload)]
    ((k.tracker b t).st = .dest → k.takeData d b p = k.memIssue b (.packet p) runs) ∧
    ((k.tracker b t).st = .idle → k.takeData d b p = (k.setTracker b t
      { st := .dest, isDest := true, op := if p.op = opMcast then .mcast else .copy, owner := p.src, pcount := p.pcount
        sys := p.op == opMcast || !inPackage d p.src, hdr := { p with payload := [] } }).memIssue b (.packet p) runs)) ∧
  (∀ (k : Block) (d : Build) (b : Nat) (p : Packet), k.arrival b p = .duplicate →
    let t := p.tracker % 1024
    let v := k.tracker b t
    (p.op = opMcast → k.takeData d b p = k) ∧
    (p.op ≠ opMcast → v.st ≠ .dest → k.takeData d b p = k.ackTracked d b p v.pcount 0) ∧
    (p.op ≠ opMcast → v.st = .dest → v.dupAck = none →
      k.takeData d b p = (k.setTracker b t { v with dupAck := some k.gtime }).ackDest d b t p) ∧
    (∀ g, p.op ≠ opMcast → v.st = .dest → v.dupAck = some g → k.gtime < g + k.rf .TRK_CTL 23 16 b * 6553600 →
      k.takeData d b p = k)) ∧
  (∀ (k : Block) (b a : Nat) (use : MemUse) (l : List Byte), l ≠ [] → a % 128 + l.length ≤ 128 →
    k.memIssue b use [(a, l)] = ({ k with xfr.starts := k.xfr.starts + 1 } : Block).memRequest b
      { runs := [(a, l)], use := use, id := k.xfr.starts, len := l.length }) ∧
  (∀ (a : Nat) (l : List Byte), l ≠ [] → (unitsOf [(a, l)]).length = ceilDiv (a % 128 + l.length) 128 ∧
    (unitsOf [(a, l)]).flatten.flatMap Prod.snd = l ∧ ∀ u ∈ unitsOf [(a, l)], ∀ x ∈ u, x.1 % 128 + x.2.length ≤ 128) ∧
  (∀ (k : Block) (d : Build) (b : Nat) (p : Packet), p.op = opWrite →
    k.aloneWritten d b p false = (k.dirtyChunks b p.addr p.plen).ackAlone d b 1 p) ∧
  (∀ (k : Block) (d : Build) (b : Nat) (p : Packet),
    k.aloneWritten d b p true = k.sendNack d b 1 p ∧ k.dataWritten d b p true = k.sendNack d b 1 p) ∧
  (∀ (k : Block) (d : Build) (b : Nat) (p : Packet), p.op = opChunk →
    let t := p.tracker % 1024
    let v := k.tracker b t
    let w := { v with b := v.b + 1, done := v.done + 1, bytes := v.bytes + p.plen, ackDue := v.ackDue + 1,
                      hdr := { p with payload := [] } }
    t < 512 → v.st = .dest → (p.src, p.pcount) = (v.owner, v.pcount) → p.pseq = v.b → v.seen = [] →
    (v.done + 1 ≠ v.pcount → v.ackDue < 63 → k.ackStands b (k.response d b 1 opAck 5 0 w.hdr) = none →
      k.dataWritten d b p false = k.setTracker b t w) ∧
    (v.done + 1 = v.pcount →
      k.dataWritten d b p false = ((k.setTracker b t w).ackDest d b t w.hdr).completeTracker b t stOk)) ∧
  (∀ (s : State) (b tag : Nat) (q : MemReq), Ready s b → tag < 1024 → s.blk.memReq b tag = some q →
    let k := s.blk.memAnswered b tag
    let m := { s.env with mem := writeRuns s.env.mem b q.runs }
    let k' := k.bump .NI_LPERR (if q.isRead then 47 else 63) (if q.isRead then 32 else 48) b
    (∃ t, exec (.lpmResponse b tag false) s = .next t ∧
      t.blk = if k.accessOpen b q.id then k else k.memResponse m b q q.bad) ∧
    (∃ t, exec (.lpmResponse b tag true) s = .next t ∧
      t.blk = if k'.accessOpen b q.id then k'.failAccess b q.id else k'.memResponse s.env b q true)) ∧
  (∀ (k : Block) (e : Env) (b t : Nat) (q : MemReq) (x : ToSend) (r : List ToSend), q.use = .source t →
    (k.tracker b t).reading = some q.id → (k.tracker b t).todo = x :: r →
    k.memResponse e b q true = ((k.completeTracker b t stProgramFault).issue e b t).settle e b t ∧
    ((k.tracker b t).stillWanted x = true → k.memResponse e b q false = ((((k.setTracker b t
      { k.tracker b t with todo := r, reading := none }).stagePart e b t x).issue e b t).settle e b t)))

/-- ACK, NACK, ERROR and FENCE_NOTICE at the source of a stream (R195, R213, R215, R217): an ACK acknowledges the
packets it names, or the part of a contribution; a NACK has the named unit resent and is remembered; an ERROR gives
the tracker its status and stops new packets; an answer to no stream of the tracker is counted (R216). The timers of a
tracker and of a ring, and the release of a held line (R212, R214 to R216, R223, R226, R229): what each does when its
bound is reached (that it is, is the command's to say, log 5). A command that is not enabled leaves the block as it is
(the model's choice, log 6). Of the model, not of the spec: how a part is resent and a duplicate of it acknowledged
(log 62); an engine, a channel and a slot stage one packet at a time (log 77). -/
def Obligations.AnswersAndTimersReachTrackers : Prop :=
  (∀ (s : State) (b : Nat) (p : Packet) (r : List Packet), Ready s b → s.blk.headGood b 0 1 p r → p.op = opAck →
    p.group < 0xFC0 →
    let t := p.tracker % 1024
    let v := s.blk.tracker b t
    v.isDest = false → v.st = .source → s.blk.ownAnswer v p = true → v.op ≠ .contrib → v.op ≠ .mcast → v.op ≠ .gather →
    let k := (s.blk.setRx b 0 r).setTracker b t
      { v.acknowledge (ackList p.payload v.pcount) with moved := v.moved || p.moved, gtime := s.blk.gtime }
    Gives (.ack b) s ((k.advanceSource s.env b t).settle s.env b t)) ∧
  (∀ (s : State) (b : Nat) (p : Packet) (r : List Packet), Ready s b → s.blk.headGood b 0 1 p r → p.op = opAck →
    p.group < 0xFC0 →
    let t := p.tracker % 1024
    let v := s.blk.tracker b t
    v.isDest = false → v.st = .collect → v.op = .contrib → s.blk.ownAnswer v p = true →
    (ackList p.payload p.pcount).length = p.pcount →
    let w := v.acknowledge [s.blk.answerUnit v p]
    let k := (s.blk.setRx b 0 r).setTracker b t { w with bytes := v.bytes, done := v.done, gtime := s.blk.gtime }
    Gives (.ack b) s ((k.issue s.env b t).settle s.env b t)) ∧
  (∀ (s : State) (b : Nat) (p : Packet) (r : List Packet), Ready s b → s.blk.headGood b 0 1 p r → p.op = opNack →
    p.group < 0xFC0 →
    let t := p.tracker % 1024
    let v := s.blk.tracker b t
    let n := s.blk.answerUnit v p
    v.isDest = false → v.sourceAtWork = true → s.blk.ownAnswer v p = true → n < v.issued → v.b ≤ n →
    (v.op = .mcast ∨ v.seen.contains n = false) →
    let k := (s.blk.setRx b 0 r).setTracker b t
      { v with nacked := (v.nacked.filter fun x => x.1 != n) ++ [(n, s.blk.gtime)] }
    Gives (.nack b) s (((k.resendPacket s.env b t n).issue s.env b t).settle s.env b t)) ∧
  (∀ (s : State) (b : Nat) (p : Packet) (r : List Packet), Ready s b → s.blk.headGood b 0 1 p r → p.op = opError →
    p.group < 0xFC0 →
    let t := p.tracker % 1024
    let v := s.blk.tracker b t
    let n := s.blk.answerUnit v p
    v.isDest = false → v.sourceAtWork = true → s.blk.ownAnswer v p = true →
    let first := decide (v.b ≤ n) && decide (n < v.issued) && !v.seen.contains n && !v.answered.contains n
    let k := (s.blk.setRx b 0 r).setTracker b t
      { v.halt with
        status := worse v.status (statusOf p.status)
        moved := v.moved || p.moved
        answered := if first then v.answered ++ [n] else v.answered }
    Gives (.error b) s ((k.advanceSource s.env b t).settle s.env b t) ∧ v.halt.stop = true) ∧
  (∀ (s : State) (b : Nat) (p : Packet) (r : List Packet), Ready s b → s.blk.headGood b 0 1 p r →
    p.op = opFenceNotice →
    let t := p.tracker % 1024
    let v := s.blk.tracker b t
    let lo := natAt p.payload 0 4
    let new := ((List.range (min (natAt p.payload 4 4) (fld (s.blk.descWord p.group 0) 16 0 + 1 - lo))).map (lo + ·)).filter
      fun m => !((memByte s.env.mem (memKey b (v.desc.mmask + m / 8))).toNat.testBit (m % 8) || v.seen.contains m)
    v.op = .mcast → v.desc.group = p.group → v.st = .source →
    Completes (.fenceNotice b) s fun k => k = { s.blk.setRx b 0 r with xfr := k.xfr, out := k.out } ∧
      (∀ i < 1024, i ≠ t → k.tracker b i = s.blk.tracker b i) ∧
      (k.tracker b t).fenced = v.fenced + new.length ∧
      (k.tracker b t).seen = v.seen ++ new ∧ k.regs = s.blk.regs ∧ k.flt = s.blk.flt) ∧
  (∀ (s : State) (b : Nat) (p : Packet) (r : List Packet), Ready s b → s.blk.headGood b 0 1 p r → p.op = opAck →
    p.group < 0xFC0 →
    let v := s.blk.tracker b (p.tracker % 1024)
    v.isDest = true ∨ s.blk.ownAnswer v p = false ∨ v.st = .idle ∨ v.st = .dest →
    Gives (.ack b) s ((s.blk.setRx b 0 r).bump .TRK_ERR 31 16 b)) ∧
  (∀ (s : State) (b : Nat) (p : Packet) (r : List Packet), Ready s b → s.blk.headGood b 0 1 p r → p.op = opAck →
    p.group < 0xFC0 →
    let v := s.blk.tracker b (p.tracker % 1024)
    v.isDest = false → s.blk.ownAnswer v p = true → v.st = .linger ∨ v.st = .completing →
    Gives (.ack b) s (s.blk.setRx b 0 r)) ∧
  (∀ (s : State) (b t : Nat), Ready s b → t < 1024 → (s.blk.tracker b t).st = .dest → 0 < (s.blk.tracker b t).ackDue →
    Gives (.ackTimer b t) s (s.blk.ackDest s.env.build b t (s.blk.tracker b t).hdr)) ∧
  (∀ (s : State) (b t : Nat), Ready s b → t < 1024 → (s.blk.tracker b t).st = .dest →
    let v := s.blk.tracker b t
    Gives (.holeTimer b t) s
      (s.blk.sendNack s.env.build b 1 { v.hdr with src := v.owner, pcount := v.pcount, pseq := v.b })) ∧
  (∀ (s : State) (b t n : Nat), Ready s b → t < 1024 → (s.blk.tracker b t).sourceAtWork = true →
    (s.blk.tracker b t).op ≠ .mcast → (s.blk.tracker b t).op ≠ .send → (s.blk.tracker b t).unanswered = [n] →
    Gives (.resendTimer b t) s (((s.blk.resendPacket s.env b t n).issue s.env b t).settle s.env b t)) ∧
  (∀ (s : State) (b t : Nat), Ready s b → t < 1024 → s.blk.timed b t = true →
    Gives (.initiatorTimeout b t) s
      (((s.blk.completeTracker b t stTimeout).issue s.env b t).settle s.env b t)) ∧
  (∀ (s : State) (b t : Nat), Ready s b → t < 1024 → (s.blk.tracker b t).st = .linger →
    Completes (.lingerExpiry b t) s fun k => k = s.blk.setTracker b t (k.tracker b t) ∧
      (k.tracker b t).st = .idle ∧
      (∀ t' < 1024, t' ≠ t → k.tracker b t' = s.blk.tracker b t') ∧ k.net = s.blk.net ∧ k.regs = s.blk.regs) ∧
  (∀ (s : State) (b t : Nat), Ready s b → t < 1024 → (s.blk.tracker b t).st = .source → (s.blk.tracker b t).op = .mcast →
    (s.blk.tracker b t).stop = true ∨ (s.blk.tracker b t).issued = (s.blk.tracker b t).pcount →
    s.blk.allLeft b t = true →
    Gives (.noticeWaitExpiry b t) s
      ((s.blk.completeTracker b t (if (s.blk.tracker b t).fenced = 0 then stOk else stPartial)).issue s.env b t)) ∧
  (∀ (s : State) (b r : Nat), Ready s b → r < 8 →
    Gives (.coalesceTimeout b r) s ((s.blk.flushRing b r).placeRecords b r 1024)) ∧
  (∀ (s : State) (b t : Nat), Ready s b → t < 1024 → remoteOp (s.blk.tracker b t).op = true →
    Gives (.remoteLineRelease b t) s (s.blk.issue s.env b t)) ∧
  (∀ (s : State) (b t : Nat), Ready s b → t < 1024 → remoteOp (s.blk.tracker b t).op = true →
    (s.blk.tracker b t).eng = none → (s.blk.tracker b t).todo = [] →
    s.blk.lineBusy b t (s.blk.tracker b t).issued = true → Gives (.remoteLineRelease b t) s s.blk)

/-- TRK_RIDX_WRITE and TRK_RBASE_WRITE (R222, R231, R237, R238), and TRK_BIND: a write applies from the FCLK after it.
Then CONS is taken unless it would stand behind PROD by more than the ring; enabling a ring empties it; BASE and SIZE
of an enabled ring stand. Of the model, not of the spec: commands with no idle step between them are of one FCLK (log
69). -/
def Obligations.RingRegistersAreWritten : Prop :=
  (∀ (s : State) (via : Via) (b r : Nat) (v : Word), Ready s b → s.blk.viaOpen s.env.build b via = true → r < 8 →
    Gives (.trkRidxWrite via b r v) s (({ s.blk with late := s.blk.late ++ [.ridx b r v] } : Block).answerWrite b via) ∧
    Gives (.trkRbaseWrite via b r v) s (({ s.blk with late := s.blk.late ++ [.rbase b r v] } : Block).answerWrite b via)) ∧
  (∀ (k : Block) (e : Env) (b t : Nat) (v : Word), k.writeReg e .TRK_BIND b [t] v = { k with late := k.late ++ [.bind b t v] }) ∧
  (∀ (k : Block) (e : Env) (n : Nat), 0 < n → n < k.clk.toBoundary →
    k.pass e n = { k.applyLate e with clk := { (k.applyLate e).clk with
      cyc := (k.applyLate e).clk.cyc + n, now := (k.applyLate e).clk.now + n
      phase := (k.applyLate e).clk.phase + n * (k.applyLate e).clk.inc } }) ∧
  (∀ (k : Block) (e : Env) (w : LateWrite), k.late = [w] → k.applyLate e = ({ k with late := [] } : Block).applyWriteLate e w) ∧
  (∀ (k : Block) (e : Env) (b t : Nat) (v : Word), t < 512 →
    (∀ f ∈ regFields .TRK_BIND, fld ((k.applyWriteLate e (.bind b t v)).binding b t) f.hi f.lo = fld v f.hi f.lo) ∧
    ∀ b' t', b' * 512 + t' ≠ b * 512 + t → t' < 512 → b < 256 → b' < 256 →
      (k.applyWriteLate e (.bind b t v)).binding b' t' = k.binding b' t') ∧
  (∀ (k : Block) (e : Env) (b r : Nat) (v : Word),
    k.ringSize b r < ((k.ringOf b r).prod + 2 ^ 32 - v.toNat % 2 ^ 32) % 2 ^ 32 → k.applyWriteLate e (.ridx b r v) = k) ∧
  (∀ (k : Block) (e : Env) (b r : Nat) (v : Word),
    ((k.ringOf b r).prod + 2 ^ 32 - v.toNat % 2 ^ 32) % 2 ^ 32 ≤ k.ringSize b r → (k.ringOf b r).waiting = [] →
    let n := k.applyWriteLate e (.ridx b r v)
    n = k.setRing b r (n.ringOf b r) ∧ n.ringOf b r = { k.ringOf b r with cons := v.toNat % 2 ^ 32 } ∧
      n.regs = k.regs ∧ n.xfr.trk = k.xfr.trk) ∧
  (∀ (k : Block) (e : Env) (b r : Nat) (v : Word), flag (k.reg .TRK_RBASE b [r]) 63 = false → flag v 63 = true →
    let n := k.applyWriteLate e (.rbase b r v)
    n = (k.applyWrite .TRK_RBASE b [r] v).setRing b r {} ∧ n.ringOf b r = {} ∧ n.xfr.trk = k.xfr.trk) ∧
  (∀ (k : Block) (e : Env) (b r : Nat) (v : Word), flag (k.reg .TRK_RBASE b [r]) 63 = true →
    fld v 59 56 ≠ fld (k.reg .TRK_RBASE b [r]) 59 56 → fld v 59 56 ≤ 10 → k.applyWriteLate e (.rbase b r v) = k) ∧
  (∀ (k : Block) (e : Env) (b r : Nat) (v : Word), flag (k.reg .TRK_RBASE b [r]) 63 = true → flag v 63 = false →
    10 < fld v 59 56 → fld v 47 7 = fld (k.reg .TRK_RBASE b [r]) 47 7 →
    flag ((k.applyWriteLate e (.rbase b r v)).reg .TRK_RBASE b [r]) 63 = false)

/-! ### The router (R87 to R91, R113, R158, R172 to R176, R187, R192, R455, R458) -/

/-- ROUTE_SOURCE, ROUTE_COORDINATE and MCAST_REPLICATE on the header that stands first (R73 to R75, R87, R88, R187):
the beats that came with it are counted; the probes see a header without an uncorrectable error, its route is decided,
and it stands at its place with the outputs it owes; or it leaves its place, and from a chain its credits go back. A
header with an uncorrectable error is discarded, and the output that the look-ahead set stays idle until its END has
passed. At an injection point the same is decided for the packet staged first, and the NI's subscribers go on. Where a
unicast packet goes (R73 to R75, R87, R88, R95, R192): the hop its string names, X before Y toward its brick, and at
the brick the reducer for EP 2 or the local port; a spent string is counted and answered with NO_ROUTE, a fenced
output with FENCED. What arrives with the units: a header error discards the packet, a bad data unit is counted
wherever it passes, a CPAR failure ends the packet, and units without a header are counted. Events in the FCLK of a
write that clears their count are lost. Of the model, not of the spec: a packet moves whole, its units held as places
in the chains (log 9); errors in memories and on wires are the operand of the command (log 68); the code of a unit's
check bits, and that every hop counts its bad units (log 84); the corners of exits and fences that the log lists (log
85). -/
def Obligations.RouterDecidesTheHead : Prop :=
  (∀ (s : State) (b p : Nat) (x : Chained) (r : List Chained) (err : RxError) (q : Packet) (k₀ : Block), Ready s b →
    p < 8 → p ≠ 4 → p ≠ 5 → s.blk.chainOf b p = x :: r → x.owed = none →
    (s.blk.receiveBeats b err).receiveUnits s.env.build b p x.pkt err = (some q, k₀) →
    let d := s.env.build
    let k := k₀.probe d b p false q
    let place (o : Option (Packet × List Nat) × Block) : Block :=
      match o with
      | (some (q, outs), k) =>
        k.setChain b p ((k.chainOf b p).set 0 { x with pkt := q, owed := some outs, ready := k.clk.now + q.len })
      | (none, k) => k.leaveChain d b p 0
    (x.pkt.mcast = false → x.pkt.rmode = 0 → Gives (.routeSource b p err) s (place (k.routeSource d b p q))) ∧
    (x.pkt.mcast = false → x.pkt.rmode ≠ 0 →
      Gives (.routeCoordinate b p err) s (place (k.routeCoordinate d b p q))) ∧
    (x.pkt.mcast = true → Gives (.mcastReplicate b p err) s (place (k.replicate d b p q)))) ∧
  (∀ (s : State) (b p : Nat) (x : Staged) (r : List Staged) (err : RxError) (q : Packet) (k₀ : Block), Ready s b →
    p = 4 ∨ p = 5 → s.blk.stagedAt b p = x :: r → x.owed = none →
    (s.blk.receiveBeats b err).receiveUnits s.env.build b p x.pkt err = (some q, k₀) →
    let d := s.env.build
    let k := k₀.probe d b p false q
    let place (o : Option (Packet × List Nat) × Block) : Block :=
      match o with
      | (some (q, outs), k) =>
        (k.setStaged b p ((k.stagedAt b p).set 0
          { x with pkt := q, owed := some outs, ready := k.clk.now + q.len })).pumpAt s.env b p
      | (none, k) => (k.unstage b p 0 x).pumpAt s.env b p
    (x.pkt.mcast = false → x.pkt.rmode = 0 → Gives (.routeSource b p err) s (place (k.routeSource d b p q))) ∧
    (x.pkt.mcast = false → x.pkt.rmode ≠ 0 →
      Gives (.routeCoordinate b p err) s (place (k.routeCoordinate d b p q))) ∧
    (x.pkt.mcast = true → Gives (.mcastReplicate b p err) s (place (k.replicate d b p q)))) ∧
  (∀ (s : State) (b p : Nat) (x : Chained) (r : List Chained) (err : RxError), Ready s b → p < 8 → p ≠ 4 → p ≠ 5 →
    s.blk.chainOf b p = x :: r → x.owed = none → err.header = true →
    let d := s.env.build
    let k := ((((s.blk.receiveBeats b err).badUnit d b p).leaveChain d b p 0).idleFor b x.pkt)
    (x.pkt.mcast = false → x.pkt.rmode = 0 → Gives (.routeSource b p err) s k) ∧
    (x.pkt.mcast = false → x.pkt.rmode ≠ 0 → Gives (.routeCoordinate b p err) s k) ∧
    (x.pkt.mcast = true → Gives (.mcastReplicate b p err) s k)) ∧
  (∀ (s : State) (b p : Nat) (err : RxError), Ready s b → p < 8 → p ≠ 4 → p ≠ 5 → s.blk.chainOf b p = [] →
    let k := s.blk.receiveBeats b err
    Gives (.routeSource b p err) s k ∧ Gives (.routeCoordinate b p err) s k ∧ Gives (.mcastReplicate b p err) s k) ∧
  (∀ (k : Block) (b n : Nat), n ≠ 0 →
    k.receiveBeats b {} = k ∧ k.receiveBeats b { corrected := n } = k.countFlaw b 47 32 n ∧
    k.receiveBeats b { stray := n } = k.bump .BRK_FLT 15 8 b [] n) ∧
  (∀ (k : Block) (b hi lo n : Nat) (v : Word), fld v hi lo = 0xFFFF →
    (k.writePkterr b v).countFlaw b hi lo n = k.writePkterr b v) ∧
  (∀ (k : Block) (b hi lo n : Nat), (look ((0 : Nat), (0 : Word)) k.net.pktClear b).1 ≠ k.clk.now + 1 →
    k.countFlaw b hi lo n = k.bump .BRK_PKTERR hi lo b [] n) ∧
  (∀ (k : Block) (d : Build) (b p : Nat) (q : Packet), q.dataBad = 0 →
    let bad := k.badUnit d b p
    k.receiveUnits d b p q {} = (some q, k) ∧
    k.receiveUnits d b p q { header := true } = (none, bad) ∧
    k.receiveUnits d b p q { bad := 1 } = (some { q with dataBad := 1 }, bad) ∧
    k.receiveUnits d b p q { bad := 2 } = (some { q with dataBad := 2 }, bad.badUnit d b p) ∧
    k.receiveUnits d b p q { cpar := some q.nData } = (some q, bad)) ∧
  (∀ (k : Block) (d : Build) (b p n : Nat) (q : Packet), q.dataBad = 0 → n < q.nData →
    k.receiveUnits d b p q { cpar := some n } = (some { q with nData := n }, (k.badUnit d b p).bump .BRK_FLT 15 8 b [] (q.nData - n))) ∧
  (∀ (k : Block) (d : Build) (b p : Nat) (q : Packet), q.dataBad = 1 →
    k.receiveUnits d b p q {} = (some q, k.badUnit d b p)) ∧
  (∀ (k : Block) (d : Build) (b inp : Nat) (q : Packet), 24 ≤ q.hopidx →
    k.routeSource d b inp q = (none, (k.bump .BRK_RTERR 15 0 b).answerError d b q stNoRoute)) ∧
  (∀ (k k' : Block) (d : Build) (b inp : Nat) (q : Packet), q.hopidx < 24 →
    let out := hopOf q.route q.hopidx
    let q' := { q with hopidx := q.hopidx + 1, la := hopOf q.route (q.hopidx + 1) }
    k.outputAllowed d b inp out q' = (true, k') →
    k.routeSource d b inp q = if k'.fencedOut b out
      then (none, (k'.bump .BRK_RTERR 63 48 b).answerError d b q' stFenced) else (some (q', [out]), k')) ∧
  (∀ (d : Build) (b : Nat) (q : Packet), q.rmode = 1 → onDie d q.dst = true →
    coordOut d b q = some
      (if brickX b < brickX (cBrick q.dst) then 1
       else if brickX (cBrick q.dst) < brickX b then 3
       else if brickY b < brickY (cBrick q.dst) then 2
       else if brickY (cBrick q.dst) < brickY b then 0
       else if cEp q.dst = 2 then 5 else 4)) ∧
  (∀ (d : Build) (b : Nat) (q : Packet), q.rmode = 3 → coordOut d b q = none) ∧
  (∀ (k : Block) (d : Build) (b inp out : Nat) (q : Packet), unconnected d b out = true →
    k.outputAllowed d b inp out q = (false, (k.bump .BRK_RTERR 15 0 b).answerError d b q stNoRoute)) ∧
  (∀ (k : Block) (d : Build) (b inp out : Nat) (q : Packet), unconnected d b out = false → 2 ≤ q.vc →
    breaksOrder d b inp out = true →
    k.outputAllowed d b inp out q = (false, (k.bump .SHW_ERR 63 48 b).answerError d b q stNoRoute))

/-- FLAT_LOOKUP, whose lookup finds an entry as it was before a write of its FCLK, INGRESS_REWRITE, HEADMAX_EXPIRY and
the hold queue (R91, R113, R176, R458). SHARED_ARBITRATE, SCHEDULED_START, MISSBOUND_EXPIRY and SHAPER_WRITE (R111,
R112, R144, R150). A command that is not enabled leaves the block as it is (the model's choice, log 6). A timer's
command says itself that the bound is reached (the model's choice, log 5). Of the model, not of the spec: a packet
moves whole, its units held as places in the chains (log 9); when tags are taken and how ties of subscribers go (log
31); RMASK bounds a multicast only (log 32); a packet for a down exit is dropped when arbitration finds it (log 33);
replayed packets leave in the output's own start commands (log 34); commands with no idle step between them are of one
FCLK (log 69); a flat packet is looked up whatever FLAT is (log 74); a packet starts toward an endpoint only while its
FIFO has room (log 99); a packet that waits for credits goes on in whatever window follows (log 100); a subscriber is
charged at the first of several outputs (log 101). -/
def Obligations.PacketsEnterLeaveAndStart : Prop :=
  (∀ (s : State) (b i : Nat) (p q : Packet) (r : List Packet) (k : Block), Ready s b → s.blk.rxQueue b 3 = p :: r →
    p.rmode = 2 → headerCheck p = .good →
    (findBelow 512 fun i => flag ((s.blk.setRx b 3 r).endpointEntry b i) 63 &&
      fld ((s.blk.setRx b 3 r).endpointEntry b i) 23 0 == p.dst % 2 ^ 24) = some i →
    (s.blk.setRx b 3 r).enterDie s.env.build b 4
      { p with dst := fld ((s.blk.setRx b 3 r).endpointEntry b i) 53 24, rmode := 1, route := 0 } = (some q, k) →
    Gives (.flatLookup b) s (k.stageAt b 0 { pkt := resealPacket q, fixed := true })) ∧
  (∀ (s : State) (b : Nat) (p : Packet) (r : List Packet), Ready s b → s.blk.rxQueue b 3 = p :: r → p.rmode = 2 →
    headerCheck p = .good →
    (findBelow 512 fun i => flag ((s.blk.setRx b 3 r).endpointEntry b i) 63 &&
      fld ((s.blk.setRx b 3 r).endpointEntry b i) 23 0 == p.dst % 2 ^ 24) = none →
    Gives (.flatLookup b) s (((s.blk.setRx b 3 r).answerError s.env.build b p stDirMiss).postEvent b
      { type := 6, status := stDirMiss, arg0 := p.dst % 2 ^ 24 })) ∧
  (∀ (k : Block) (b i c j : Nat) (v : Word), i < 512 → j < 512 → b < 256 → c < 256 →
    (k.writeEndpoint b i v).endpointEntry c j = k.endpointEntry c j) ∧
  (∀ (s : State) (b p n : Nat) (q : Packet) (l : List Packet), Ready s b → beyond s.env.build b p = .lane n →
    s.blk.isolated b = false → s.blk.rxBuffer false n = q :: l → q.vc < 2 →
    Gives (.ingressRewrite b p none) s
      (((s.blk.setRxBuffer false n l).leaveBuffer false n q).enterPort s.env.build b p q)) ∧
  (∀ (s : State) (b p n : Nat) (q : Packet), Ready s b → beyond s.env.build b p = .bridge n → s.blk.isolated b = false →
    s.blk.portUp true n = true →
    Gives (.ingressRewrite b p (some q)) s
      ((s.blk.setRxBuffer true n (s.blk.rxBuffer true n ++ [q])).enterFromBuffer s.env.build b p true n)) ∧
  (∀ (s : State) (b p : Nat) (x : Chained) (r : List Chained), Ready s b → p < 8 → p ≠ 4 → p ≠ 5 → s.blk.chainOf b p = x :: r →
    2 ≤ x.pkt.vc →
    Gives (.headmaxExpiry b p) s
      (((s.blk.headLost b p 0 x.pkt.vc (x.owed.getD [])).leaveChain s.env.build b p 0).bump .BRK_FLT 31 16 b)) ∧
  (∀ (k : Block) (d : Build) (b p : Nat) (x : Chained) (r : List Chained), p < 8 → k.chainOf b p = x :: r →
    pktUnits x.pkt ≤ x.units → 0 < x.units → x.behind = [] →
    k.leaveChain d b p 0 = (k.setChain b p r).freePlaces d b p x.units) ∧
  (∀ (s : State) (b p o : Nat) (q : Packet) (r : List Packet) (os : List Nat), Ready s b →
    isExit s.env.build b p = true → p < 8 → look [] s.blk.net.hold (b * 8 + p) = q :: r →
    s.blk.outputsOf s.env.build b p q = o :: os → s.blk.inWindow s.env.build b o p q (o :: os) = true →
    chainUnits (s.blk.chainOf b p) < 4 →
    Gives (.holdQueueRelease b p) s (({ s.blk with net.hold := put [] s.blk.net.hold (b * 8 + p) r }).setChain b p
      (s.blk.chainOf b p ++ [({ pkt := q, units := roomFor (s.blk.chainOf b p) q } : Chained)]))) ∧
  (∀ (s : State) (b p : Nat) (q : Packet) (r : List Packet), Ready s b → isExit s.env.build b p = true → p < 8 →
    look [] s.blk.net.hold (b * 8 + p) = q :: r →
    Gives (.holdQueueExpiry b p) s
      (({ s.blk with net.hold := put [] s.blk.net.hold (b * 8 + p) r }).bump .CRS_ERR 47 32 b)) ∧
  (∀ (s : State) (b p : Nat), Ready s b → p < 8 → s.blk.isolated b = false →
    s.blk.outputFree s.env.build b p = true → s.blk.replays s.env.build b p = none →
    s.blk.windowKind s.env.build b p = .shared ∨ s.blk.windowKind s.env.build b p = .closing →
    Gives (.sharedArbitrate b p) s
      ((if s.blk.exitDown s.env.build b p then s.blk.dropAtExit s.env.build b p
        else s.blk.arbitrate s.env.build b p).pumpNi s.env b)) ∧
  (∀ (s : State) (b p n : Nat), Ready s b → p < 8 → s.blk.isolated b = false →
    s.blk.outputFree s.env.build b p = true → s.blk.replays s.env.build b p = some n →
    Gives (.sharedArbitrate b p) s (s.blk.replayNext s.env.build b p n) ∧
    Gives (.scheduledStart b p) s (s.blk.replayNext s.env.build b p n)) ∧
  (∀ (s : State) (b p : Nat), Ready s b → p < 8 →
    (s.blk.isolated b = true ∨ s.blk.outputFree s.env.build b p = false) →
    Gives (.sharedArbitrate b p) s s.blk ∧ Gives (.scheduledStart b p) s s.blk) ∧
  (∀ (s : State) (b p : Nat) (h : Head), Ready s b → p < 8 → s.blk.isolated b = false →
    s.blk.outputFree s.env.build b p = true → s.blk.replays s.env.build b p = none →
    let v := s.blk.windowNow s.env.build b p
    s.blk.scheduledHead b v.inp p v.flow = some h → h.owed = [p] →
    s.blk.matchesWindow s.env.build b p h.inp h.pkt [p] = true → s.blk.outputTakes s.env.build b p h.pkt = true →
    s.blk.heldIn s.env.build b p h = true →
    Gives (.scheduledStart b p) s ((s.blk.startOn s.env.build b h [p]).pumpNi s.env b)) ∧
  (∀ (k : Block) (d : Build) (b o : Nat) (h : Head), pktUnits h.pkt ≤ k.unitsTaken d b o h.pkt →
    k.startOn d b h [o] = (k.sentOn d b h.inp h.idx [o]).cross d b h.inp o h.pkt) ∧
  (∀ (s : State) (b p : Nat) (x : Chained) (r : List Chained), Ready s b → p < 8 → p ≠ 4 → p ≠ 5 → s.blk.chainOf b p = x :: r →
    x.pkt.vc < 2 → s.blk.misses s.env.build b p x = true →
    Gives (.missboundExpiry b p) s ((s.blk.leaveChain s.env.build b p 0).bump .CRS_ERR 63 48 b)) ∧
  (∀ (s : State) (addr : Nat) (v : Word), s.blk.held = false →
    s.blk.crosses .managementPort = true → shaperAt addr = none →
    Gives (.shaperWrite addr v) s { s.blk with out := s.blk.out ++ [.mp 0 true] }) ∧
  (∀ (s : State) (addr b : Nat) (r : RegName) (ix : List Nat) (v : Word), Ready s b →
    s.blk.crosses .managementPort = true →
    shaperAt addr = some (r, b, ix) → fld v 48 32 ≤ 65536 → fld v 31 16 ≠ 0 → fld v 7 0 ≠ 0 →
    Completes (.shaperWrite addr v) s fun k => k = (s.blk.writeShaper r b ix v).answerWrite 0 .mp ∧
      k.reg r b ix = mkWord [(32, fld v 48 32), (16, fld v 31 16), (0, fld v 7 0)] ∧
      k.out = s.blk.out ++ [.mp 0 false]) ∧
  (∀ (s : State) (addr b : Nat) (r : RegName) (ix : List Nat) (v : Word), Ready s b →
    s.blk.crosses .managementPort = true →
    shaperAt addr = some (r, b, ix) → 65536 < fld v 48 32 → fld v 31 16 ≠ 0 → fld v 7 0 ≠ 0 →
    Completes (.shaperWrite addr v) s fun k => k = (s.blk.writeShaper r b ix v).answerWrite 0 .mp ∧
      k.reg r b ix = mkWord [(32, fld (s.blk.reg r b ix) 48 32), (16, fld v 31 16), (0, fld v 7 0)])

/-! ### Courses and global time (R96 to R128) -/

/-- CONNECT, IDLE, SHARED, CLOSING_WINDOW and SYNC (R99 to R101, R104, R107): the instruction at which the sequencer
of an output stands is executed; a window has opened when its first slot has come and is then the one in force; SYNC
adds wait for the next window. A window command advances the model's clock to the opening (the model's choice, log
23). REPEAT_BODY, MARK and COURSE_SAFE (R102, R103, R116): the b instructions before REPEAT run n more times; MARK
ends the part, and the next course runs part COURSE + 1 modulo the period; a double-bit error in a course word leaves
the output in SAFE with its bit of CRS_ERR, a single-bit error is counted. Of the model, not of the spec: errors in
memories and on wires are the operand of the command (log 68). -/
def Obligations.CourseInstructionsRun : Prop :=
  (∀ (s : State) (b p a i n fl m : Nat), Ready s b → p < 8 →
    s.blk.courseNext s.env.build b p = some (a, .connect i n fl m) → s.blk.windowComes s.env.build b p = true →
    Gives (.connect b p) s ((s.blk.atWindow s.env b p).setSeq b p
      { s.blk.seqOf b p with at_ := (s.blk.seqOf b p).at_ + 1, owed := [] })) ∧
  (∀ (s : State) (b p a n : Nat), Ready s b → p < 8 → s.blk.courseNext s.env.build b p = some (a, .idle n) →
    s.blk.windowComes s.env.build b p = true →
    Gives (.idle b p) s ((s.blk.atWindow s.env b p).setSeq b p
      { s.blk.seqOf b p with at_ := (s.blk.seqOf b p).at_ + 1, owed := [] })) ∧
  (∀ (s : State) (b p a n : Nat), Ready s b → p < 8 → s.blk.courseNext s.env.build b p = some (a, .shared n) → n ≠ 0 →
    s.blk.windowComes s.env.build b p = true →
    Gives (.shared b p) s ((s.blk.atWindow s.env b p).setSeq b p
      { s.blk.seqOf b p with at_ := (s.blk.seqOf b p).at_ + 1, owed := [] })) ∧
  (∀ (s : State) (b p a : Nat), Ready s b → p < 8 → s.blk.courseNext s.env.build b p = some (a, .shared 0) →
    s.blk.windowComes s.env.build b p = true →
    Gives (.closingWindow b p) s ((s.blk.atWindow s.env b p).setSeq b p
      { s.blk.seqOf b p with at_ := (s.blk.seqOf b p).at_ + 1, owed := [] })) ∧
  (∀ (s : State) (b p a : Nat) (i : CourseInstr) (w : CourseWindow), Ready s b → p < 8 →
    timeTimed s.env.build b p = false → s.blk.courseNext s.env.build b p = some (a, i) →
    (s.blk.seqOf b p).ahead = false →
    let l := s.blk.traceNow b p
    let start := traceSlots (l.take (s.blk.seqOf b p).at_)
    windowOf start a i = some w → (w.slots ≠ 0 ∨ ∀ x ∈ l.drop ((s.blk.seqOf b p).at_ + 1), courseSlots x.2 = none) →
    s.blk.clk.cyc ≤ start → start < s.blk.clk.cyc + s.blk.clk.toBoundary →
    Completes (i.command b p) s fun k => k.clk.cyc = start ∧ k.windowNow s.env.build b p = w) ∧
  (∀ (s : State) (b p a c n : Nat), Ready s b → p < 8 → s.blk.courseNext s.env.build b p = some (a, .sync c n) →
    Gives (.sync b p) s (s.blk.setSeq b p { s.blk.seqOf b p with
      owed := (s.blk.seqOf b p).owed ++ [(c, n)], at_ := (s.blk.seqOf b p).at_ + 1 })) ∧
  (∀ (s : State) (b p n c a x : Nat), Ready s b → p < 8 → s.blk.courseNext s.env.build b p = some (x, .idle n) →
    s.blk.windowComes s.env.build b p = true → s.blk.late = [] → (s.blk.seqOf b p).owed = [(c, a)] →
    Completes (.idle b p) s fun k => k.counter b c = (s.blk.counter b c + a) % 2 ^ 32 ∧ (k.seqOf b p).owed = []) ∧
  (∀ (s : State) (b p a n body : Nat), Ready s b → p < 8 →
    s.blk.courseNext s.env.build b p = some (a, .rep n body) →
    Gives (.repeatBody b p) s (s.blk.setSeq b p { s.blk.seqOf b p with at_ := (s.blk.seqOf b p).at_ + 1 })) ∧
  (∀ (pre body : List (Nat × CourseInstr)) (a n : Nat), (∀ x ∈ pre ++ body, ∀ m c, x.2 ≠ .rep m c) →
    traceAt (pre ++ body ++ [(a, .rep n body.length)]) =
      pre ++ body ++ (List.replicate n ((a, .rep n body.length) :: body)).flatten ++ [(a, .rep n body.length)]) ∧
  (∀ (s : State) (b p a : Nat) (w : Bool), Ready s b → p < 8 →
    s.blk.courseNext s.env.build b p = some (a, .mark w) → (s.blk.seqOf b p).ahead = false →
    Completes (.mark b p) s fun k =>
      k = s.blk.setSeq b p { s.blk.seqOf b p with at_ := 0, ahead := true } ∧
      k.traceNow b p = s.blk.traceOf b p (s.blk.clk.course + 1)) ∧
  (∀ (s : State) (b p : Nat), Ready s b → p < 8 →
    Gives (.courseSafe b p .single) s (s.blk.bump .CRS_ERR 15 8 b)) ∧
  (∀ (s : State) (b p : Nat), Ready s b → p < 8 →
    Completes (.courseSafe b p .double) s fun k => (k.seqOf b p).safe = true ∧ (k.seqOf b p).owed = [] ∧
      k.courseNext s.env.build b p = none ∧
      k.windowKind s.env.build b p = if k.clk.lhalt && timeTimed s.env.build b p then .idle else .closing)

/-- TIM_SET, TIM_NOW_READ, TIM_CTL_SRC_WRITE, TREF_EDGE, HOLDOVER_ENTRY, TIME_LOST, TIME_MESSAGE and BOUNDARY_MESSAGE
(R24, R117, R119, R122, R125 to R128). What a sample of the time servo does to the time state (R122), when no lane of
the exchange idles: 64 samples within 2 ns in a row lock a tracking die, one beyond 2.5 ns unlocks it, one in HOLDOVER
returns it to TRACKING, and the root keeps the nominal increment. A command that is not enabled leaves the block as it
is (the model's choice, log 6). A timer's command says itself that the bound is reached (the model's choice, log 5).
Of the model, not of the spec: any write of TIM_CTL enters ACQUIRE, or ROOT for SRC 0, and the sample that ends
ACQUIRE steers (log 29); what a write of TIM_CTL does to the integral term, the launch halt and the WIDE report (log
81); whether the upstream is WIDE is a free value (log 82); OFFSET is rounded down (log 107). -/
def Obligations.TimeIsSetReadAndTracked : Prop :=
  (∀ (s : State) (v : Word), s.blk.held = false → s.blk.crosses .managementPort = true → s.blk.img.run = false →
    Gives (.timSet v) s (({ s.blk with clk.setHeld := some (fld v 47 0) } : Block).answerWrite 0 .mp)) ∧
  (∀ (s : State) (v : Word), s.blk.held = false → s.blk.crosses .managementPort = true → s.blk.img.run = true →
    Gives (.timSet v) s (s.blk.lockVio.answerWrite 0 .mp)) ∧
  (∀ s : State, s.blk.held = false →
    Completes .timNowRead s fun k => k = { s.blk with clk := k.clk, out := k.out } ∧
      k.clk = { s.blk.clk with latched := s.blk.clk.course } ∧
      k.out = s.blk.out ++ [.mp (BitVec.ofNat 64 ((s.blk.clk.course * 131072000 + s.blk.clk.cphase) % 2 ^ 64)) false]) ∧
  (∀ (s : State) (v : Word), s.blk.held = false → s.blk.crosses .managementPort = true → fld v 1 0 ≠ 0 →
    Gives (.timCtlSrcWrite v) s
      ((({ s.blk.applyWrite .TIM_CTL 0 [] v with clk.upWide := false } : Block).enterTime .acquire).answerWrite 0 .mp)) ∧
  (∀ (s : State) (v : Word), s.blk.held = false → s.blk.crosses .managementPort = true → fld v 1 0 = 0 →
    Completes (.timCtlSrcWrite v) s fun k => k.clk.st = .root ∧ k.clk.inc = 458129844907 ∧
      k.out = s.blk.out ++ [.mp 0 false]) ∧
  (∀ s : State, s.blk.held = false → s.blk.rf .TIM_CTL 1 0 = 1 → s.blk.clk.cphase ≤ 65536000 →
    Gives .trefEdge s (s.blk.takeSample (s.blk.clk.cphase : Int))) ∧
  (∀ s : State, s.blk.held = false → s.blk.rf .TIM_CTL 1 0 = 1 → 65536000 < s.blk.clk.cphase →
    Gives .trefEdge s (s.blk.takeSample ((s.blk.clk.cphase : Int) - 131072000))) ∧
  (∀ s : State, s.blk.held = false → (s.blk.clk.st = .tracking ∨ s.blk.clk.st = .locked) → 256 ≤ s.blk.clk.since →
    Completes .holdoverEntry s fun k => k = s.blk.enterTime .holdover ∧
      k.clk = { s.blk.clk with st := .holdover, good := 0, holdCourses := 0 } ∧
      (s.blk.clk.st = .tracking → k.flt = s.blk.flt)) ∧
  (∀ s : State, s.blk.held = false → s.blk.clk.since < 256 → Gives .holdoverEntry s s.blk) ∧
  (∀ s : State, s.blk.held = false → s.blk.clk.st = .holdover → s.blk.rf .TIM_CTL 63 48 0 ≤ s.blk.clk.holdCourses →
    Completes .timeLost s fun k => k = { (s.blk.enterTime .lost).freezeOn 3 with clk.lhalt := true, clk.lhaltEnd := false } ∧
      k.clk.st = .lost ∧ k.clk.lhalt = true ∧ k.clk.course = s.blk.clk.course) ∧
  (∀ (s : State) (b : Nat), Ready s b → Gives (.timeMessage b) s s.blk) ∧
  (∀ (s : State) (b time : Nat), Ready s b →
    Gives (.boundaryMessage b time) s { s.blk with
      clk.due := put none s.blk.clk.due b (s.blk.boundaryAt s.env.build b time) }) ∧
  (∀ (k : Block) (d : Build) (b time : Nat), look 0 k.rst.position b = ringPos d b →
    0 < timeDiff time k.gtime * 2 ^ 24 - ((k.clk.phase % 2 ^ 24 : Nat) : Int) →
    k.boundaryAt d b time = some (k.clk.now +
      ceilDiv (timeDiff time k.gtime * 2 ^ 24 - ((k.clk.phase % 2 ^ 24 : Nat) : Int)).toNat (max 1 k.clk.inc))) ∧
  (∀ (k : Block) (e : Int), k.clk.st = .root → (k.takeSample e).clk.st = .root ∧ (k.takeSample e).clk.inc = 458129844907) ∧
  (∀ (k : Block) (e : Int), k.clk.st = .tracking → k.wide = false → e.natAbs ≤ 2 * 65536 → 63 ≤ k.clk.good →
    (k.takeSample e).clk.st = .locked) ∧
  (∀ (k : Block) (e : Int), k.clk.st = .tracking → k.wide = false → e.natAbs ≤ 2 * 65536 → k.clk.good < 63 →
    (k.takeSample e).clk.st = .tracking ∧ (k.takeSample e).clk.good = k.clk.good + 1) ∧
  (∀ (k : Block) (e : Int), k.clk.st = .tracking → k.wide = false → 2 * 65536 < e.natAbs →
    (k.takeSample e).clk.st = .tracking ∧ (k.takeSample e).clk.good = 0) ∧
  (∀ (k : Block) (e : Int), k.clk.st = .locked → k.wide = false → 163840 < e.natAbs →
    (k.takeSample e).clk.st = .tracking) ∧
  (∀ (k : Block) (e : Int), k.clk.st = .locked → k.wide = false → e.natAbs ≤ 163840 →
    (k.takeSample e).clk.st = .locked) ∧
  (∀ (k : Block) (e : Int), k.clk.st = .acquire ∨ k.clk.st = .holdover ∨ k.clk.st = .lost →
    (k.takeSample e).clk.st = .tracking) ∧
  (∀ (k : Block) (e : Int), k.clk.lhalt = true → (k.takeSample e).clk.lhaltEnd = true)

/-- COURSE_BOUNDARY and DRAIN_INJECTION_STOP (R96, R114, R117, R118, R137, R184): the next course begins at cycle 0 in
every brick, CPHASE carries into COURSE, the time since the last sample grows, and each output's units sent toward
lane ports are counted anew; a course of more than 8 FCLK too many or too few sets SLIP of every FCLK-timed output; a
window still to open when the boundary comes sets SLIPCUT. A command that is not enabled leaves the block as it is
(the model's choice, log 6). Of the model, not of the spec: one slip event for each FCLK-timed output, a second for a
cut, none of a time-timed one (log 28); an output without a role counts as FCLK-timed (log 108); a held packet of
another die is discarded without an answer (log 109). -/
def Obligations.CoursesBeginAtBoundaries : Prop :=
  (∀ (s : State) (slack : List (Nat × Nat × Nat)), s.blk.held = false → s.blk.clk.setHeld = none →
    s.blk.rst.ramped = [] →
    Completes (.courseBoundary (s.blk.clk.cyc + s.blk.clk.toBoundary) slack) s fun k => k = s.blk.boundary s.env slack ∧
      k.clk.course = (s.blk.clk.course + 1) % 2 ^ 48 ∧ k.clk.cyc = 0 ∧ k.clk.phase < 2000 * 2 ^ 40 ∧
      k.clk.now = s.blk.clk.now + s.blk.clk.toBoundary ∧
      k.clk.since = min 0xFFFF (s.blk.clk.since + 1) ∧ k.net.injStop = false ∧ k.net.sprayS = [] ∧
      k.gpd.steered = []) ∧
  (∀ (s : State) (fclks : Nat) (slack : List (Nat × Nat × Nat)), s.blk.held = false →
    fclks ≠ s.blk.clk.cyc + s.blk.clk.toBoundary → Gives (.courseBoundary fclks slack) s s.blk) ∧
  (∀ s : State, s.blk.held = false → s.blk.img.written = true → s.blk.net.target ≤ s.blk.clk.course + 1 →
    Completes .drainInjectionStop s fun k => k = (({ s.blk with net.injStop := true } : Block)).setRf .CRS_SWAP 63 62 0 [] 2 ∧
      k.net.injStop = true ∧ k.rf .CRS_SWAP 63 62 0 = 2) ∧
  (∀ (k : Block) (d : Build) (n fclks b p : Nat), k.runsCourse d b p = false → timeTimed d b p = true →
    k.seqBoundary d n fclks b p = k) ∧
  (∀ (k : Block) (d : Build) (n fclks b p : Nat), k.runsCourse d b p = false → timeTimed d b p = false →
    4792 ≤ fclks → fclks ≤ 4808 → k.seqBoundary d n fclks b p = k) ∧
  (∀ (k : Block) (d : Build) (n fclks b p : Nat), k.runsCourse d b p = false → timeTimed d b p = false →
    (fclks < 4792 ∨ 4808 < fclks) →
    k.seqBoundary d n fclks b p = (k.setBit .CRS_ERR 0 b).courseEvent b p false) ∧
  (∀ (k : Block) (d : Build) (n fclks b p : Nat), k.runsCourse d b p = true → timeTimed d b p = true →
    (k.seqOf b p).ahead = true →
    k.seqBoundary d n fclks b p = k.setSeq b p { k.seqOf b p with ahead := false }) ∧
  (∀ (k : Block) (d : Build) (n fclks b p : Nat) (adds owed : List (Nat × Nat)) (cut : Bool),
    k.runsCourse d b p = true → timeTimed d b p = false → 4792 ≤ fclks → fclks ≤ 4808 → (k.seqOf b p).ahead = false →
    let v := k.seqOf b p
    let tr := k.traceOf b p n
    finishTrace (fun c => decide (c < fclks)) (traceSlots (tr.take v.at_)) [] v.owed (tr.drop v.at_) =
      (adds, owed, cut) →
    let k₁ := (adds.foldl (fun k x => k.counterAdd b x.1 x.2) k).setSeq b p { v with at_ := 0, owed := owed }
    k.seqBoundary d n fclks b p = if cut then (k₁.setBit .CRS_ERR 1 b).courseEvent b p false else k₁)

/-! ### Lanes and links (R416 to R441) -/

/-- TRAINING_DONE, MARK_CODEWORD, HUNT_LOCK, HUNT_UNLOCK, HUNT_TIMEOUT, RETRAIN_CHECK, LANE_ADD_TIMER and
FIRST_LOCK_TIMEOUT (R426, R427, R435, R436): the states of a lane and what each change brings. LOS_LOL, LOS_LOL_CLEAR,
LOS_TIMEOUT, FEC_INTERVAL, LANE_RETIRE and LANE_RELEASE (R436, R450, R524): a lost signal is shown, beyond LOSMAX it
retires the lane, and so do too many uncorrectable codewords; a retirement that leaves other lanes takes the lane out
of the active set asked for, and the last lane's takes the link to DOWN. A command that is not enabled leaves the
block as it is (the model's choice, log 6). A timer's command says itself that the bound is reached (the model's
choice, log 5). Of the model, not of the spec: UC100 shows the interval that has ended, and a skewed MARK stays in
HUNT (log 36); a field that every row carries is one answer (log 70). -/
def Obligations.LanesTrainLockAndRetire : Prop :=
  (∀ (s : State) (p l : Nat) (eq : Word), s.blk.held = false → p < s.env.build.lanePorts → l < 4 →
    s.blk.laneState p l = laneTrain →
    let m := ({ s.blk with lnk.eq := put 0 s.blk.lnk.eq (p * 4 + l) eq } : Block).setLaneRx p l
      { s.blk.laneRx p l with trained := true }
    Completes (.trainingDone p l eq) s fun k => k = (if m.trainingOver p then m.send (.mark p (m.lanesOf p)) else m) ∧
      look 0 k.lnk.eq (p * 4 + l) = eq ∧ (k.laneRx p l).trained = true ∧
      k.regs = s.blk.regs) ∧
  (∀ (s : State) (p l n : Nat), s.blk.held = false → p < s.env.build.lanePorts → l < 4 →
    s.blk.crosses (.lane p l) = true →
    (s.blk.laneState p l = laneTrain ∧ (s.blk.laneRx p l).trained = true) ∨ s.blk.laneState p l = laneExit ∨
      s.blk.laneState p l = laneHunt →
    Gives (.markCodeword p l n true) s (((s.blk.setLaneState p l laneHunt).setLaneRx p l
      { s.blk.laneRx p l with skewed := true }).bump .LN_CNT 15 0 p [l])) ∧
  (∀ (s : State) (p l n : Nat), s.blk.held = false → p < s.env.build.lanePorts → l < 4 →
    s.blk.crosses (.lane p l) = true →
    (s.blk.laneState p l = laneTrain ∧ (s.blk.laneRx p l).trained = true) ∨ s.blk.laneState p l = laneExit ∨
      s.blk.laneState p l = laneHunt →
    Completes (.markCodeword p l n false) s fun k => k = (s.blk.setLaneState p l laneHunt).setLaneRx p l (k.laneRx p l) ∧
      k.laneState p l = laneHunt ∧ (k.laneRx p l).skewed = false) ∧
  (∀ (s : State) (p l : Nat), s.blk.held = false → p < s.env.build.lanePorts → l < 4 →
    s.blk.crosses (.lane p l) = true → s.blk.laneState p l = laneHunt → (s.blk.laneRx p l).skewed = false →
    Gives (.huntLock p l) s (((s.blk.setLaneState p l laneLocked).setLaneRx p l {}).chooseIfAll s.env.build p)) ∧
  (∀ (s : State) (p l : Nat), s.blk.held = false → p < s.env.build.lanePorts → l < 4 →
    s.blk.laneState p l = laneLocked →
    Gives (.huntUnlock p l) s
      (((s.blk.setLaneState p l laneHunt).bump .LN_CNT 15 0 p [l]).dropLane s.env.build p l)) ∧
  (∀ (s : State) (p l : Nat), s.blk.held = false → p < s.env.build.lanePorts → l < 4 →
    s.blk.laneState p l = laneHunt →
    Completes (.huntTimeout p l) s fun k => k = s.blk.enterTrain p l true ∧
      k.laneState p l = laneTrain ∧ (k.laneRx p l).retrain = true) ∧
  (∀ (s : State) (p l n : Nat) (h : List (Nat × Nat)), s.blk.held = false → p < s.env.build.lanePorts → l < 4 →
    s.blk.laneState p l = laneHunt → (s.blk.laneRx p l).retrain = true →
    s.blk.failures s.blk.flt.laneHist (p * 4 + l) 1000000 = (n, h) →
    let k := ({ s.blk with flt.laneHist := h } : Block).setRf .LN_STAT 51 48 p [l] (min 15 n)
    Gives (.retrainCheck p l) s
      (if k.rf .LN_CTL 35 32 p [l] ≤ n then k.retireLane s.env.build p l true else k.enterTrain p l true)) ∧
  (∀ (s : State) (p l : Nat), s.blk.held = false → p < s.env.build.lanePorts → l < 4 →
    s.blk.laneState p l = laneLocked → s.blk.laneRetired p l = false → (s.blk.wantedSet p).testBit l = false →
    s.blk.wantedSet p ≠ 0 →
    Gives (.laneAddTimer p l) s (s.blk.askSet s.env.build p (s.blk.wantedSet p + 2 ^ l))) ∧
  (∀ (s : State) (p : Nat), s.blk.held = false → p < s.env.build.lanePorts → s.blk.linkState false p = linkTraining →
    s.blk.rxSet p = 0 → (s.blk.port false p).asked = none →
    let m := laneMask ((s.blk.lanesOf p).filter fun l => s.blk.laneState p l == laneLocked)
    m ≠ 0 → Gives (.firstLockTimeout p) s (s.blk.askSet s.env.build p m)) ∧
  (∀ (s : State) (p l n : Nat) (skewed : Bool), s.blk.held = false → p < s.env.build.lanePorts → l < 4 →
    s.blk.crosses (.lane p l) = false →
    Gives (.markCodeword p l n skewed) s s.blk ∧ Gives (.huntLock p l) s s.blk) ∧
  (∀ (s : State) (p l : Nat) (sig : LaneSignal), s.blk.held = false → p < s.env.build.lanePorts → l < 4 →
    Completes (.losLol p l sig) s fun k => k = s.blk.setBit .LN_STAT (signalBit sig) p [l] ∧
      flag (k.reg .LN_STAT p [l]) (signalBit sig) = true ∧ k.laneState p l = s.blk.laneState p l) ∧
  (∀ (s : State) (p l : Nat) (sig : LaneSignal), s.blk.held = false → p < s.env.build.lanePorts → l < 4 →
    let k := s.blk.setRf .LN_STAT (signalBit sig) (signalBit sig) p [l] 0
    Gives (.losLolClear p l sig) s
      (if s.blk.laneLost p l = true ∧ k.laneLost p l = false ∧
          (s.blk.laneState p l = laneHunt ∨ s.blk.laneState p l = laneLocked)
        then (k.enterTrain p l true).dropLane s.env.build p l else k)) ∧
  (∀ (s : State) (p l : Nat), s.blk.held = false → p < s.env.build.lanePorts → l < 4 → s.blk.laneLost p l = true →
    Gives (.losTimeout p l) s (s.blk.retireLane s.env.build p l true)) ∧
  (∀ (s : State) (p l corr uncorr peak : Nat), s.blk.held = false → p < s.env.build.lanePorts → l < 4 →
    s.blk.laneState p l ≠ laneOff →
    let n := s.blk.fecCount p l corr uncorr peak
    Completes (.fecInterval p l corr uncorr peak) s fun k =>
      (uncorr ≤ s.blk.rf .LN_CTL 47 40 p [l] → k = n) ∧
      (s.blk.rf .LN_CTL 47 40 p [l] < uncorr → k = n.retireLane s.env.build p l true ∧ k.laneRetired p l = true)) ∧
  (∀ (s : State) (p l corr uncorr peak : Nat), s.blk.held = false → p < s.env.build.lanePorts → l < 4 →
    s.blk.laneState p l = laneOff → Gives (.fecInterval p l corr uncorr peak) s (s.blk.fecCount p l 0 0 0)) ∧
  (∀ (k : Block) (p l corr uncorr peak : Nat), l < 4 → peak < 16 → peak ≤ k.rf .LN_MARGIN 35 32 p [l] →
    let n := k.fecCount p l corr uncorr peak
    n = { k with regs := n.regs } ∧
      k.regsKept n [regAddr .LN_CNT p [l], regAddr .LNK_ERR p [], regAddr .LN_STAT p [l], regAddr .LN_MARGIN p [l]] ∧
      n.rf .LN_STAT 47 32 p [l] = min 65535 uncorr ∧ n.laneState p l = k.laneState p l ∧
      n.rf .LN_MARGIN 19 16 p [l] = peak ∧ n.rf .LN_MARGIN 47 40 p [l] = 0 ∧ flag (n.reg .LN_MARGIN p [l]) 20 = false) ∧
  (∀ (k : Block) (p l corr uncorr peak : Nat), l < 4 → peak < 16 → k.rf .LN_MARGIN 35 32 p [l] < peak →
    let n := k.fecCount p l corr uncorr peak
    n = { k with regs := n.regs, fresh := n.fresh } ∧
      n.rf .LN_MARGIN 47 40 p [l] = min 255 (k.rf .LN_MARGIN 47 40 p [l] + 1) ∧
      (15 ≤ k.rf .LN_MARGIN 47 40 p [l] → flag (n.reg .LN_MARGIN p [l]) 20 = true) ∧
      (k.rf .LN_MARGIN 47 40 p [l] < 15 → flag (n.reg .LN_MARGIN p [l]) 20 = flag (k.reg .LN_MARGIN p [l]) 20)) ∧
  (∀ (s : State) (p l : Nat) (v : Word), s.blk.held = false →
    s.blk.crosses .managementPort = true → p < s.env.build.lanePorts → l < 4 → flag v 0 = true →
    Gives (.laneRetire p l v) s ((((s.blk.applyWrite .LN_CTL p [l] (withFld v 0 0 (b2n (s.blk.laneRetired p l)))).retireLane
      s.env.build p l false)).answerWrite 0 .mp)) ∧
  (∀ (s : State) (p l : Nat) (v : Word), s.blk.held = false →
    s.blk.crosses .managementPort = true → p < s.env.build.lanePorts → l < 4 → flag v 0 = false →
    Gives (.laneRelease p l v) s ((((s.blk.applyWrite .LN_CTL p [l] (withFld v 0 0 (b2n (s.blk.laneRetired p l)))).releaseLane
      s.env.build p l)).answerWrite 0 .mp)) ∧
  (∀ (k : Block) (d : Build) (p l : Nat), k.laneRetired p l = true → k.retireLane d p l true = k) ∧
  (∀ (k : Block) (d : Build) (p l : Nat) (perm : Bool), k.laneRetired p l = false →
    let m := (k.setRf .LN_CTL 0 0 p [l] 1).laneToOff p l
    let m := if perm then m.permanent 2 p l else m
    k.retireLane d p l perm =
      if m.lanesOf p = [] then (m.markPort false p).laneDown d p else (m.dropLane d p l).chooseIfAll d p) ∧
  (∀ (k : Block) (d : Build) (p l : Nat), (k.wantedSet p).testBit l = true → k.wantedSet p ≠ 2 ^ l →
    (k.dropLane d p l).wantedSet p = k.wantedSet p - 2 ^ l ∧
      (k.dropLane d p l).out = (k.wakeTx p).out ++ [.lset p (k.wantedSet p - 2 ^ l) false]) ∧
  (∀ (k : Block) (d : Build) (p l : Nat), (k.wantedSet p).testBit l = true → k.wantedSet p = 2 ^ l →
    k.dropLane d p l = ((k.wakeTx p).send (.lset p 0 false)).laneDown d p)

/-- INIT, LSET, LSET_ECHO, LSET_REPEAT, LINK_ENABLE, LINK_DISABLE and LINK_RETRAIN (R427, R435, R442): how a lane link
comes up and goes down. IDLE_ENTRY, IDLEIN, IDLE_EXIT, WAKE_PATTERN and EXIT_BURST_END (R433, R434). A timer's command
says itself that the bound is reached (the model's choice, log 5). Of the model, not of the spec: the link leaves DOWN
in the same step, INIT is sent once, and INITMIS is not set by the first INIT (log 35); a field that every row carries
is one answer (log 70). -/
def Obligations.LaneLinksAndElectricalIdle : Prop :=
  (∀ (s : State) (p die port : Nat) (llr : Bool) (cred : List Nat), s.blk.held = false → p < s.env.build.lanePorts →
    s.blk.linkState false p = linkInit →
    (s.blk.port false p).init = some (die % 2 ^ 19, port % 64, llr, cred) → llr = s.blk.llr p →
    ((List.range 6).map fun i => s.blk.rf .LNK_CRED (8 * i + 7) (8 * i) p).sum ≤ 256 →
    Completes (.init p die port llr cred) s fun k => k = { s.blk with regs := k.regs, lnk := k.lnk, flt.boxWait := k.flt.boxWait, fresh := k.fresh } ∧
      s.blk.regsKept k [regAddr .LNK_PEER p [], regAddr .LNK_STAT p [], regAddr .GLB_IRQSTAT 0 []] ∧
      k.linkState false p = 3 ∧ (k.port false p).cred = cred) ∧
  (∀ (s : State) (p die port : Nat) (llr : Bool) (cred : List Nat), s.blk.held = false → p < s.env.build.lanePorts →
    s.blk.linkState false p = linkInit → (s.blk.port false p).init = none →
    Completes (.init p die port llr cred) s fun k => k = { s.blk with regs := k.regs, lnk := k.lnk, out := k.out } ∧
      s.blk.regsKept k [regAddr .LNK_PEER p []] ∧ k.out = (s.blk.sendInit s.env.build p).out ∧
      k.linkState false p = linkInit ∧
      (k.port false p).init = some (die % 2 ^ 19, port % 64, llr, cred)) ∧
  (∀ (s : State) (p die port : Nat) (llr : Bool) (cred : List Nat) (x : Nat × Nat × Bool × List Nat), s.blk.held = false →
    p < s.env.build.lanePorts → s.blk.linkState false p = linkInit → (s.blk.port false p).init = some x →
    x ≠ (die % 2 ^ 19, port % 64, llr, cred) ∨ llr ≠ s.blk.llr p →
    Completes (.init p die port llr cred) s fun k => k = { s.blk with regs := k.regs, lnk := k.lnk, out := k.out } ∧
      s.blk.regsKept k [regAddr .LNK_PEER p [], regAddr .LNK_ERR p []] ∧ flag (k.reg .LNK_ERR p) 0 = true ∧
      k.out = (s.blk.sendInit s.env.build p).out ∧ k.linkState false p = linkInit) ∧
  (∀ (k : Block) (d : Build) (p : Nat), k.linkState false p = linkTraining → k.rxSet p ≠ 0 → k.txSet p ≠ 0 →
    (k.enterInit d p).linkState false p = linkInit ∧
    (k.enterInit d p).out = k.out ++ [.init p (dieOf (coord d 0 0)) p (k.llr p)
      ((List.range 6).map fun i => k.rf .LNK_CRED (8 * i + 7) (8 * i) p)]) ∧
  (∀ (s : State) (p mask : Nat), s.blk.held = false → p < s.env.build.lanePorts →
    s.blk.linkState false p ≠ linkDownCode → 0 < mask → mask < 16 →
    Gives (.lset p mask) s
      ((((s.blk.wakeTx p).send (.lset p mask true)).setRf .LNK_STAT 55 52 p [] mask).enterInit s.env.build p)) ∧
  (∀ (s : State) (p mask : Nat), s.blk.held = false → p < s.env.build.lanePorts →
    s.blk.linkState false p ≠ linkDownCode → 0 < mask → mask < 16 →
    Gives (.lsetEcho p mask) s (((s.blk.mapPort false p fun v =>
      if v.asked = some mask then { v with asked := none } else v).setRf .LNK_STAT 59 56 p [] mask).enterInit
      s.env.build p)) ∧
  (∀ (s : State) (p m : Nat), s.blk.held = false → p < s.env.build.lanePorts → (s.blk.port false p).asked = some m →
    Gives (.lsetRepeat p) s ((s.blk.wakeTx p).send (.lset p m false))) ∧
  (∀ (s : State) (p : Nat) (v : Word), s.blk.held = false →
    s.blk.crosses .managementPort = true → p < s.env.build.lanePorts →
    let k := s.blk.applyWrite .LNK_CTL p [] v
    (k.portEnabled false p = true → flag v 1 = false →
      Gives (.linkEnable p v) s ((k.leaveDown s.env.build p).answerWrite 0 .mp)) ∧
    (k.portEnabled false p = false → k.linkState false p ≠ linkDownCode →
      Gives (.linkDisable p v) s ((k.laneDown s.env.build p).answerWrite 0 .mp)) ∧
    (k.portEnabled false p = true → flag v 1 = true →
      Gives (.linkRetrain p v) s ((k.laneDown s.env.build p).answerWrite 0 .mp))) ∧
  (∀ (s : State) (p : Nat), s.blk.held = false → p < s.env.build.lanePorts → s.blk.mayIdle s.env.build p = true →
    flag (s.blk.reg .LNK_STAT p) 50 = false → (s.blk.port false p).burst = false →
    Gives (.idleEntry p) s ((s.blk.setBit .LNK_STAT 50 p).send (.idlein p))) ∧
  (∀ (s : State) (p : Nat), s.blk.held = false → p < s.env.build.lanePorts → s.blk.portUp false p = true →
    s.blk.lanesOf p = [0, 1, 2, 3] →
    Completes (.idlein p) s fun k => k = { s.blk with regs := k.regs } ∧
      s.blk.regsKept k (regAddr .LNK_STAT p [] :: (List.range 4).map fun l => regAddr .LN_STAT p [l]) ∧
      flag (k.reg .LNK_STAT p) 51 = true ∧ ∀ l < 4, k.laneState p l = laneIdle) ∧
  (∀ (s : State) (p : Nat), s.blk.held = false → p < s.env.build.lanePorts → s.blk.mayIdle s.env.build p = false →
    flag (s.blk.reg .LNK_STAT p) 50 = true →
    Gives (.idleExit p) s (((s.blk.setRf .LNK_STAT 50 50 p [] 0).mapPort false p fun v => { v with
      bursts := v.bursts ++ [true] }).send (.burst p))) ∧
  (∀ (s : State) (p : Nat), s.blk.held = false → p < s.env.build.lanePorts → flag (s.blk.reg .LNK_STAT p) 51 = true →
    (∀ l < 4, s.blk.laneState p l = laneIdle) →
    Completes (.wakePattern p) s fun k => k = { s.blk with regs := k.regs, lnk := k.lnk } ∧
      k.lnk = (s.blk.mapPort false p fun v => { v with bursts := v.bursts ++ [false] }).lnk ∧
      s.blk.regsKept k (regAddr .LNK_STAT p [] :: (List.range 4).map fun l => regAddr .LN_STAT p [l]) ∧
      flag (k.reg .LNK_STAT p) 51 = false ∧ ∀ l < 4, k.laneState p l = laneExit) ∧
  (∀ (s : State) (p : Nat) (r : List Bool), s.blk.held = false → p < s.env.build.lanePorts →
    (s.blk.port false p).bursts = true :: r →
    Gives (.exitBurstEnd p) s ((s.blk.setPort false p { s.blk.port false p with bursts := r }).send
      (.mark p (s.blk.lanesOf p)))) ∧
  (∀ (s : State) (p : Nat) (r : List Bool), s.blk.held = false → p < s.env.build.lanePorts →
    (s.blk.port false p).bursts = false :: r → (∀ l < 4, s.blk.laneState p l = laneLocked) → s.blk.wantedSet p < 16 →
    Gives (.exitBurstEnd p) s (s.blk.setPort false p { s.blk.port false p with bursts := r })) ∧
  (∀ (s : State) (p : Nat) (r : List Bool), s.blk.held = false → p < s.env.build.lanePorts →
    (s.blk.port false p).bursts = false :: r → (∀ l < 4, l ≠ 3 → s.blk.laneState p l = laneLocked) →
    s.blk.laneState p 3 = laneExit → s.blk.wantedSet p = 15 →
    Gives (.exitBurstEnd p) s ((((s.blk.setPort false p { s.blk.port false p with bursts := r }).setLaneState p 3
      laneHunt).setLaneRx p 3 {}).askSet s.env.build p 7))

/-- LINK_PACKET_RX, NAK, REPLAY_TIMEOUT, LCTL and LCTL_SEND_DUE (R428, R430): packets are accepted in LSEQ order, the
first refused one sets NAK, the bits of the link fields are zero again (R421), an acknowledgement frees the retry
buffer, and a NAK replays it. TSREQ_SEND, TSREQ, TSRESP, BRIDGE_TSREQ and BRIDGE_TSRESP (R431, R432, R438, R441):
timestamps are corrected by the port's latencies, and the answer in its course gives the servo the sample ((t4 - t3) -
(t2 - t1) + asymmetry) / 2. A command that is not enabled leaves the block as it is (the model's choice, log 6). A
timer's command says itself that the bound is reached (the model's choice, log 5). Of the model, not of the spec: the
halves of R432 are rounded down (log 12); link fields are taken from good packets only (log 37); raw timestamps are
corrected by the block, and every course without a sample counts (log 38); whether the upstream is WIDE is a free
value (log 82). -/
def Obligations.LinkRetryCreditsAndTime : Prop :=
  (∀ (s : State) (p lack cvc ctot : Nat) (q : Packet), s.blk.held = false → p < s.env.build.lanePorts →
    s.blk.portUp false p = true → s.blk.llr p = true → headerCheck { q with rsv := 0 } = .good →
    Gives (.linkPacketRx p q (s.blk.port false p).expected lack false cvc ctot true) s
      (((s.blk.setPort false p { s.blk.port false p with
        expected := ((s.blk.port false p).expected + 1) % 2 ^ 16, nak := false }).acceptPacket p { q with rsv := 0 }).takeFields
        s.env.build p lack false cvc ctot)) ∧
  (∀ (s : State) (p lseq lack cvc ctot : Nat) (q : Packet), s.blk.held = false → p < s.env.build.lanePorts →
    s.blk.portUp false p = true → s.blk.llr p = true → (s.blk.port false p).nak = false →
    Completes (.linkPacketRx p q lseq lack false cvc ctot false) s fun k => k = (s.blk.setPort false p (k.port false p)).bump .LNK_ERR 47 32 p ∧
      (k.port false p).nak = true ∧
      k.rxBuffer false p = s.blk.rxBuffer false p ∧ (k.port false p).expected = (s.blk.port false p).expected) ∧
  (∀ (s : State) (p lack : Nat), s.blk.held = false → p < s.env.build.lanePorts → s.blk.portUp false p = true →
    Gives (.nak p lack) s ((s.blk.takeLack p lack).takeNak s.env.build p lack)) ∧
  (∀ (s : State) (p : Nat) (x : Nat × Packet) (r : List (Nat × Packet)), s.blk.held = false →
    p < s.env.build.lanePorts → s.blk.portUp false p = true → s.blk.llr p = true → (s.blk.port false p).kept = x :: r →
    Gives (.replayTimeout p) s (s.blk.startReplay s.env.build p x.1)) ∧
  (∀ (s : State) (p lack : Nat), s.blk.held = false → p < s.env.build.lanePorts → s.blk.portUp false p = true →
    Gives (.lctl p false lack []) s (s.blk.takeLack p lack)) ∧
  (∀ (s : State) (p lack : Nat), s.blk.held = false → p < s.env.build.lanePorts → s.blk.portUp false p = true →
    Gives (.lctl p true lack []) s ((s.blk.takeLack p lack).takeNak s.env.build p lack)) ∧
  (∀ (s : State) (p t2 t3 t4 t5 t6 t7 lack : Nat), s.blk.held = false → p < s.env.build.lanePorts →
    s.blk.portUp false p = true → s.blk.llr p = false →
    Completes (.lctl p false lack [t2, t3, t4, t5, t6, t7]) s fun k => k = s.blk.setPort false p (k.port false p) ∧
      look 0 (k.port false p).peer 2 = t2 % 4096 ∧ look 0 (k.port false p).peer 7 = t7 % 4096) ∧
  (∀ (s : State) (p : Nat), s.blk.held = false → p < s.env.build.lanePorts → s.blk.portUp false p = true →
    s.blk.owes p = true → s.blk.llr p = true → flag (s.blk.reg .LNK_STAT p) 50 = false →
    let v := s.blk.port false p
    Gives (.lctlSendDue p) s ((s.blk.setPort false p
      { v with told := v.ctot, toldAck := v.expected, toldNak := v.nak }).send
        (.lctl p v.nak v.expected ((List.range 6).map fun i => look 0 v.ctot (i + 2))))) ∧
  (∀ (k : Block) (p lack : Nat) (x : Nat × Packet), k.llr p = true → x ∈ ((k.takeLack p lack).port false p).kept →
    x ∈ (k.port false p).kept ∧ (x.1 ≠ lack → serialLe 16 x.1 lack = false)) ∧
  (∀ (s : State) (t1 : Nat), s.blk.held = false → s.blk.rf .TIM_CTL 1 0 = 2 →
    let n := s.blk.rf .TIM_CTL 13 8
    s.blk.portUp true n = true → (s.blk.port true n).request = none → (s.blk.port true n).answered = false →
    let t := (t1 + fld (s.blk.reg .D2D_TSCFG 0 [n]) 15 0 * 4096) % 2 ^ 64
    Gives (.tsreqSend t1) s
      ((s.blk.mapPort true n fun v => { v with request := some t }).send (.tsreq true n t))) ∧
  (∀ (s : State) (t1 : Nat), s.blk.held = false → s.blk.rf .TIM_CTL 1 0 = 3 →
    let n := s.blk.rf .TIM_CTL 13 8
    s.blk.portUp false n = true → (s.blk.port false n).request = none → (s.blk.port false n).answered = false →
    flag (s.blk.reg .LNK_STAT n) 50 = false → (s.blk.port false n).burst = false →
    let t := (t1 + fld (s.blk.reg .LNK_TSCFG n) 15 0 * 4096) % 2 ^ 64
    Gives (.tsreqSend t1) s
      ((s.blk.mapPort false n fun v => { v with request := some t }).send (.tsreq false n t))) ∧
  (∀ (s : State) (t1 : Nat), s.blk.held = false → s.blk.rf .TIM_CTL 1 0 = 3 →
    flag (s.blk.reg .LNK_STAT (s.blk.rf .TIM_CTL 13 8)) 50 = true → Gives (.tsreqSend t1) s s.blk) ∧
  (∀ (s : State) (p t2 t3 : Nat), s.blk.held = false → p < s.env.build.lanePorts → s.blk.portUp false p = true →
    flag (s.blk.reg .LNK_STAT p) 50 = false →
    Gives (.tsreq p t2 t3) s (s.blk.send (.tsresp false p
      ((t2 + 2 ^ 64 - fld (s.blk.reg .LNK_TSCFG p) 31 16 * 4096) % 2 ^ 64)
      ((t3 + fld (s.blk.reg .LNK_TSCFG p) 15 0 * 4096) % 2 ^ 64)))) ∧
  (∀ (s : State) (p t1 t2 t3 t4 : Nat), s.blk.held = false → p < s.env.build.lanePorts → s.blk.portUp false p = true →
    s.blk.timeSource false p = true → (s.blk.port false p).request = some t1 →
    let w := s.blk.reg .LNK_TSCFG p
    let asym : Int := (BitVec.ofNat 16 (fld w 63 48)).toInt * 4096
    let t4' := (t4 + 2 ^ 64 - fld w 31 16 * 4096) % 2 ^ 64
    let k := ({ s.blk.mapPort false p fun v => { v with request := none, answered := true } with
      clk.upWide := (Config.freeByte s.blk.free).getLsbD 0, free := s.blk.free + 1 } : Block).setRf .LNK_TSYNC 47 32 p []
      (min 65535 (((timeDiff t2 t1 + timeDiff t4' t3) / 2) / 4096).toNat)
    Gives (.tsresp p t2 t3 t4) s (k.takeSample ((timeDiff t4' t3 - timeDiff t2 t1 + asym) / 2))) ∧
  (∀ (s : State) (n t2 t3 : Nat), s.blk.held = false → n < s.env.build.bridgePorts → n < 16 → s.blk.portUp true n = true →
    Gives (.bridgeTsreq n t2 t3) s (s.blk.send (.tsresp true n
      ((t2 + 2 ^ 64 - fld (s.blk.reg .D2D_TSCFG 0 [n]) 31 16 * 4096) % 2 ^ 64)
      ((t3 + fld (s.blk.reg .D2D_TSCFG 0 [n]) 15 0 * 4096) % 2 ^ 64)))) ∧
  (∀ (s : State) (n t4 : Nat) (frags : List Nat), s.blk.held = false → n < s.env.build.bridgePorts → n < 16 →
    s.blk.portUp true n = true → (∀ f ∈ frags, controlOk f = true) → fragmentsWhole frags = true →
    Gives (.bridgeTsresp n frags t4) s ((s.blk.bump .D2D_ERR 63 48 0 [n] 0).takeTime true n (fragmentTimes frags).1
      (fragmentTimes frags).2 t4))

/-- PHY_LINK_UP, PHY_LINK_DOWN, BRIDGE_INIT, BRIDGE_INIT_TIMEOUT, BRIDGE_CREDIT, BRIDGE_ENABLE, BRIDGE_DISABLE and
BRIDGE_RETRAIN (R438 to R440, R452). A timer's command says itself that the bound is reached (the model's choice, log
5). Of the model, not of the spec: a bridge tells a credit at once (log 39); a field that every row carries is one
answer (log 70); what becomes of a link enabled before its phase (log 115). -/
def Obligations.BridgeLinksStartStopAndCredit : Prop :=
  (∀ (s : State) (n : Nat), s.blk.held = false → n < s.env.build.bridgePorts → n < 16 →
    s.blk.linkState true n = linkTraining → s.blk.crosses (.bridge n) = true →
    Completes (.phyLinkUp n) s fun k =>
      k = ((s.blk.setBit .D2D_STAT 2 0 [n]).setLink true n linkInit).sendFragments s.env.build n ∧
      k.linkState true n = linkInit ∧ flag (k.reg .D2D_STAT 0 [n]) 2 = true) ∧
  (∀ (s : State) (n : Nat), s.blk.held = false → n < s.env.build.bridgePorts → n < 16 →
    s.blk.crosses (.bridge n) = false → Gives (.phyLinkUp n) s (s.blk.setBit .D2D_STAT 2 0 [n])) ∧
  (∀ (k : Block) (d : Build) (n : Nat), dieOf (coord d 0 0) < 2 ^ 19 → n < 16 →
    ∃ f0 f1, (k.sendFragments d n).out = k.out ++ [.bridgeControl n f0, .bridgeControl n f1] ∧
      controlOk f0 = true ∧ controlOk f1 = true ∧ initPair f0 f1 = true ∧
      bits f0 16 1 * 8 + bits f1 16 14 = dieOf (coord d 0 0) ∧ bits f1 13 10 = n) ∧
  (∀ (s : State) (n : Nat), s.blk.held = false → n < s.env.build.bridgePorts → n < 16 →
    flag (s.blk.reg .D2D_STAT 0 [n]) 2 = true →
    Gives (.phyLinkDown n) s ((s.blk.setRf .D2D_STAT 2 2 0 [n] 0).bridgeDown s.env.build n)) ∧
  (∀ (s : State) (n f0 f1 : Nat), s.blk.held = false → n < s.env.build.bridgePorts → n < 16 →
    s.blk.linkState true n = linkInit → controlOk f0 = true → controlOk f1 = true → initPair f0 f1 = true →
    let die := bits f0 16 1 * 8 + bits f1 16 14
    let port := bits f1 13 10
    let k := ((s.blk.bump .D2D_ERR 63 48 0 [n] 0).setRf .D2D_STAT 45 27 0 [n] die).setRf .D2D_STAT 26 23 0 [n] port
    let k := k.setPort true n { s.blk.port true n with init := some (die, port, false, []) }
    ((s.blk.port true n).init = some (die, port, false, []) → Completes (.bridgeInit n f0 f1) s fun m =>
      m = k.setLink true n linkUpCode ∧ m.linkState true n = 3) ∧
    ((s.blk.port true n).init ≠ some (die, port, false, []) →
      Gives (.bridgeInit n f0 f1) s (k.sendFragments s.env.build n))) ∧
  (∀ (s : State) (n f0 f1 : Nat), s.blk.held = false → n < s.env.build.bridgePorts → n < 16 →
    controlOk f0 = true → controlOk f1 = false →
    Gives (.bridgeInit n f0 f1) s (s.blk.bump .D2D_ERR 63 48 0 [n])) ∧
  (∀ (s : State) (n : Nat), s.blk.held = false → n < s.env.build.bridgePorts → n < 16 → s.blk.linkState true n = linkInit →
    Gives (.bridgeInitTimeout n) s (s.blk.setBit .D2D_ERR 0 0 [n])) ∧
  (∀ (s : State) (n ctl : Nat), s.blk.held = false → n < s.env.build.bridgePorts → n < 16 → controlOk ctl = true →
    bits ctl 23 20 = 1 → bits ctl 19 17 < 6 → s.blk.portUp true n = true →
    Completes (.bridgeCredit n ctl) s fun k => k = s.blk.takeTotal true n (bits ctl 19 17 + 2) (bits ctl 16 5) ∧
      look 0 (k.port true n).peer (bits ctl 19 17 + 2) = bits ctl 16 5 % 4096 ∧ k.regs = s.blk.regs) ∧
  (∀ (s : State) (n ctl : Nat), s.blk.held = false → n < s.env.build.bridgePorts → n < 16 → controlOk ctl = false →
    Gives (.bridgeCredit n ctl) s (s.blk.bump .D2D_ERR 63 48 0 [n])) ∧
  (∀ (s : State) (n : Nat) (v : Word), s.blk.held = false →
    s.blk.crosses .managementPort = true → n < s.env.build.bridgePorts → n < 16 →
    let k := s.blk.applyWrite .D2D_CTL 0 [n] v
    (k.portEnabled true n = true → flag v 1 = false →
      Gives (.bridgeEnable n v) s ((k.bridgeLeaveDown s.env.build n).answerWrite 0 .mp)) ∧
    (k.portEnabled true n = false → k.linkState true n ≠ linkDownCode →
      Gives (.bridgeDisable n v) s ((k.bridgeDown s.env.build n).answerWrite 0 .mp)) ∧
    (k.portEnabled true n = true → flag v 1 = true →
      Gives (.bridgeRetrain n v) s ((k.bridgeDown s.env.build n).answerWrite 0 .mp)))

/-! ### Reducer: filing (R249 to R253, R320 to R322) -/

/-- CONTRIB_FILE, RESULT_AT_REDUCER and DISPATCH_FILE (R249): a good packet at the head of port C is taken and filed;
where it starts a slot's stream, a write of RDC_SLOT in its FCLK is discarded and sets LOCKVIO (R271). The rows of
R249's table, in their order. SEGMENT_EMITTED, SEGMENT_ACK, SEGMENT_ERROR, SEGMENT_NACK, SEGMENT_RESEND_TIMER and
REDUCER_HOLE_TIMER (R215, R251, R253, R321): a part whose last packet has left is gone, its children are acknowledged
and without HOLD its set is emitted; an ACK ends it; an ERROR that answers a part, up or down the tree, faults the
collective OPEN with its status; a NACKed or unacknowledged part is resent whole, at most four times; a missing packet
is NACKed. A command that is not enabled leaves the block as it is (the model's choice, log 6). A timer's command says
itself that the bound is reached (the model's choice, log 5). Of the model, not of the spec: SEG and VC of a fault
segment, when NEXT advances, and that an abort drops only parts that have not begun (log 14); how a part is resent and
a duplicate of it acknowledged (log 62); commands with no idle step between them are of one FCLK (log 69); an ERROR of
any part not yet acknowledged faults OPEN (log 95); a packet of another PCOUNT than its part's is ILLEGAL (log 111).
-/
def Obligations.SegmentPacketsAreFiledAndAnswered : Prop :=
  (∀ (s : State) (b : Nat) (p : Packet) (r : List Packet), Ready s b → s.blk.headGood b 2 2 p r → p.op = opContrib →
    Gives (.contribFile b) s ((s.blk.setRx b 2 r).fileArriving s.env.build b p)) ∧
  (∀ (s : State) (b : Nat) (p : Packet) (r : List Packet), Ready s b → s.blk.headGood b 2 2 p r → p.op = opResult →
    Gives (.resultAtReducer b) s ((s.blk.setRx b 2 r).fileArriving s.env.build b p)) ∧
  (∀ (s : State) (b : Nat) (p : Packet) (r : List Packet), Ready s b → s.blk.headGood b 2 2 p r → p.op = opDispatch →
    Gives (.dispatchFile b) s ((s.blk.setRx b 2 r).fileArriving s.env.build b p)) ∧
  (∀ (k : Block) (d : Build) (b : Nat) (p : Packet), k.rdc.slotOld.1 ≠ k.clk.now + 1 →
    k.fileArriving d b p = k.filePacket d b p) ∧
  (∀ (k : Block) (d : Build) (b sl : Nat) (v : Word) (p : Packet), k.rdc.slotOld.1 ≠ k.clk.now + 1 → sl < 64 →
    k.slotIdle b sl = true →
    let old := (k.writeSlot b sl v).setReg .RDC_SLOT b [sl] (k.reg .RDC_SLOT b [sl])
    ((old.filePacket d b p).stream b (0x100 + sl)).st = .running →
    (k.writeSlot b sl v).fileArriving d b p = (old.filePacket d b p).lockVio) ∧
  (∀ (k : Block) (d : Build) (b : Nat) (p : Packet),
    let child := k.childSlot b p.group p.inPort
    (k.slotOfGroup b p.group = none → k.filePacket d b p = (k.bump .RDC_ERR 63 48 b).answerErrorAt d b 2 p stNoRoute) ∧
    ∀ sl, k.slotOfGroup b p.group = some sl →
      let w := k.slotWord b sl
      let v := k.slot b sl
      let n := if w.still then p.seg / 2 else p.seg
      (p.op ≠ opResult → child = none →
        k.filePacket d b p = (k.bump .RDC_ERR 63 48 b).answerErrorAt d b 2 p stNoRoute) ∧
      (p.op = opResult → (w.still = false ∨ w.root = true) → k.filePacket d b p = k.bump .RDC_ERR 63 48 b) ∧
      (p.op = opResult → w.still = true → w.root = false → p.cseq ≠ v.openSeq → k.filePacket d b p = k) ∧
      (p.op = opResult → w.still = true → w.root = false → p.cseq = v.openSeq → faultPacket p = true →
        k.filePacket d b p =
          (((k.mapSlot b sl Slot.releaseOpen).abortStream b sl).mapSlot b sl Slot.advance).startSlot d b sl 8) ∧
      (p.op = opResult → w.still = true → w.root = false → p.cseq = v.openSeq → faultPacket p = false →
        p.seg % 2 = 1 → k.filePacket d b p = k) ∧
      (∀ i, p.op = opResult → w.still = true → w.root = false → p.cseq = v.openSeq → faultPacket p = false →
        p.seg % 2 = 0 → v.tagged p.cseq n = some i →
        ((v.set i).emitted = true → k.filePacket d b p = k) ∧
        ((v.set i).emitted = false → k.filePacket d b p = (k.placePacket b sl i 14 p).startSlot d b sl 8)) ∧
      (p.op = opResult → w.still = true → w.root = false → p.cseq = v.openSeq → faultPacket p = false →
        p.seg % 2 = 0 → v.tagged p.cseq n = none →
        (n < v.next → k.filePacket d b p = k) ∧
        (∀ i, v.next ≤ n → findBelow (w.depth + 1) (fun i => (v.set i).tag.isNone) = some i →
          k.filePacket d b p = ((k.setSlot b sl (v.setSet i { tag := some (p.cseq, n) })).placePacket b sl i 14 p).startSlot
            d b sl 8) ∧
        (v.next ≤ n → findBelow (w.depth + 1) (fun i => (v.set i).tag.isNone) = none →
          k.filePacket d b p = k.bump .RDC_ERR 47 32 b)) ∧
      (∀ c, p.op ≠ opResult → child = some c → seqBefore p.cseq v.openSeq = true → k.filePacket d b p = k.ackPart d b p) ∧
      (∀ c i, p.op ≠ opResult → child = some c → p.cseq = v.openSeq → v.tagged p.cseq n = some i →
        (v.set i).emitted = true → k.filePacket d b p = k.ackPart d b p) ∧
      (∀ c i, p.op ≠ opResult → child = some c → p.cseq = v.openSeq → v.tagged p.cseq n = some i →
        (v.set i).emitted = false →
        k.filePacket d b p =
          (k.placePacket b sl i (c * 2 + if w.still then p.seg % 2 else 0) p).startSlot d b sl 8) ∧
      (∀ c i, p.op ≠ opResult → child = some c → p.cseq = v.openSeq → v.tagged p.cseq n = none → v.next ≤ n →
        findBelow (w.depth + 1) (fun i => (v.set i).tag.isNone) = some i →
        k.filePacket d b p =
          ((k.setSlot b sl (v.setSet i { tag := some (p.cseq, n) })).placePacket b sl i
            (c * 2 + if w.still then p.seg % 2 else 0) p).startSlot d b sl 8) ∧
      (∀ c, p.op ≠ opResult → child = some c → p.cseq = v.openSeq → v.tagged p.cseq n = none → v.next ≤ n →
        findBelow (w.depth + 1) (fun i => (v.set i).tag.isNone) = none →
        k.filePacket d b p = k.bump .RDC_ERR 47 32 b) ∧
      (∀ c, p.op ≠ opResult → child = some c → p.cseq = v.openSeq → v.tagged p.cseq n = none → n < v.next →
        k.filePacket d b p = k.ackPart d b p) ∧
      (∀ c i, p.op ≠ opResult → child = some c → v.openSeq < 2 ^ 16 → p.cseq = (v.openSeq + 1) % 2 ^ 16 →
        v.tagged p.cseq n = some i →
        k.filePacket d b p =
          (k.placePacket b sl i (c * 2 + if w.still then p.seg % 2 else 0) p).startSlot d b sl 8) ∧
      (∀ c i, p.op ≠ opResult → child = some c → v.openSeq < 2 ^ 16 → p.cseq = (v.openSeq + 1) % 2 ^ 16 →
        v.tagged p.cseq n = none → findBelow (w.depth + 1) (fun i => (v.set i).tag.isNone) = some i →
        k.filePacket d b p =
          ((k.setSlot b sl (v.setSet i { tag := some (p.cseq, n) })).placePacket b sl i
            (c * 2 + if w.still then p.seg % 2 else 0) p).startSlot d b sl 8) ∧
      (∀ c, p.op ≠ opResult → child = some c → v.openSeq < 2 ^ 16 → p.cseq = (v.openSeq + 1) % 2 ^ 16 →
        v.tagged p.cseq n = none → findBelow (w.depth + 1) (fun i => (v.set i).tag.isNone) = none →
        k.filePacket d b p = k.bump .RDC_ERR 47 32 b) ∧
      (∀ c, p.op ≠ opResult → child = some c → seqBefore p.cseq v.openSeq = false → p.cseq ≠ v.openSeq →
        p.cseq ≠ (v.openSeq + 1) % 2 ^ 16 → k.filePacket d b p = k.bump .RDC_ERR 47 32 b)) ∧
  (∀ (s : State) (b sl : Nat) (x : OutPart), Ready s b → sl < 64 → (s.blk.slot b sl).out = [x] → x.offered = true →
    x.gone = false → x.left = [] →
    (s.blk.stagedAt b 5).any (fun y => y.sub == some (1040 + sl) && y.pkt.cseq == x.cseq && y.pkt.seg == x.seg) = false →
    Completes (.segmentEmitted b sl) s fun k => k = s.blk.partLeft s.env.build b sl x ∧
      (x.down = false → (k.slot b sl).out = [{ x with gone := true }]) ∧
      (x.down = true → (k.slot b sl).out = [] ∧
        (k.slot b sl).downs = (s.blk.slot b sl).downs ++ [(x.cseq, x.seg, x.pkts.length)])) ∧
  (∀ (s : State) (b sl i : Nat) (x : OutPart), Ready s b → sl < 64 → (s.blk.slot b sl).out = [x] → x.offered = true →
    x.gone = false → x.left = [] → x.down = false → x.set = some i →
    ((s.blk.slot b sl).set i).tag = some (x.cseq, x.seqk) → x.emits = true →
    ((s.blk.slot b sl).set i).aHeld = true → ((s.blk.slot b sl).set i).children = [] →
    (s.blk.stagedAt b 5).any (fun y => y.sub == some (1040 + sl) && y.pkt.cseq == x.cseq && y.pkt.seg == x.seg) = false →
    Completes (.segmentEmitted b sl) s fun k => ((k.slot b sl).set i).emitted = true ∧
      ((k.slot b sl).set i).aHeld = true ∧ (k.slot b sl).out = [{ x with gone := true }]) ∧
  (∀ (s : State) (b i : Nat) (p : Packet) (r : List Packet), Ready s b → s.blk.headGood b 2 2 p r → p.op = opAck →
    (s.blk.slot b (p.tracker % 1024)).out.findIdx? (answersPart p) = some i →
    (ackList p.payload p.pcount).length = p.pcount →
    Gives (.segmentAck b) s ((s.blk.setRx b 2 r).partDone s.env.build b (p.tracker % 1024) i)) ∧
  (∀ (s : State) (b : Nat) (p : Packet) (r : List Packet) (x : OutPart), Ready s b → s.blk.headGood b 2 2 p r →
    p.op = opAck → (s.blk.slot b (p.tracker % 1024)).out = [x] → answersPart p x = true → x.set = none →
    (ackList p.payload p.pcount).length = p.pcount →
    Gives (.segmentAck b) s ((s.blk.setRx b 2 r).setSlot b (p.tracker % 1024)
      { s.blk.slot b (p.tracker % 1024) with out := [] })) ∧
  (∀ (s : State) (b : Nat) (p : Packet) (r : List Packet), Ready s b → s.blk.headGood b 2 2 p r → p.op = opAck →
    (s.blk.slot b (p.tracker % 1024)).out.findIdx? (answersPart p) = none →
    Gives (.segmentAck b) s (s.blk.setRx b 2 r)) ∧
  (∀ (s : State) (b i : Nat) (p : Packet) (r : List Packet), Ready s b → s.blk.headGood b 2 2 p r → p.op = opError →
    (s.blk.slot b (p.tracker % 1024)).out.findIdx? (answersPart p) = some i →
    Gives (.segmentError b) s (((s.blk.setRx b 2 r).partDone s.env.build b (p.tracker % 1024) i).slotFault s.env.build b
      (p.tracker % 1024) (statusOf p.status))) ∧
  (∀ (s : State) (b : Nat) (p : Packet) (r : List Packet), Ready s b → s.blk.headGood b 2 2 p r → p.op = opError →
    (s.blk.slot b (p.tracker % 1024)).out.findIdx? (answersPart p) = none →
    (s.blk.slot b (p.tracker % 1024)).answersDown p = true →
    Gives (.segmentError b) s (((s.blk.setRx b 2 r).mapSlot b (p.tracker % 1024) fun v => v.forgetDown p).slotFault
      s.env.build b (p.tracker % 1024) (statusOf p.status))) ∧
  (∀ (s : State) (b i : Nat) (x : OutPart) (p : Packet) (r : List Packet), Ready s b → s.blk.headGood b 2 2 p r →
    p.op = opNack → (s.blk.slot b (p.tracker % 1024)).out.findIdx? (answersPart p) = some i →
    (s.blk.slot b (p.tracker % 1024)).out[i]? = some x →
    let k := (s.blk.setRx b 2 r).mapSlot b (p.tracker % 1024) fun v => { v with
      out := v.out.modify i fun x => { x with nacked := true } }
    (x.resent < 4 → Gives (.segmentNack b) s (k.resendPart s.env.build b (p.tracker % 1024) i)) ∧
    (4 ≤ x.resent → x.cseq = (s.blk.slot b (p.tracker % 1024)).openSeq →
      Gives (.segmentNack b) s (k.slotFault s.env.build b (p.tracker % 1024) stCrcResend))) ∧
  (∀ (s : State) (b sl seg : Nat), Ready s b → sl < 64 →
    Gives (.segmentResendTimer b sl seg) s
      (((s.blk.slot b sl).out.filter fun x => x.gone && !x.down && x.seg == seg && x.left.isEmpty).foldl
        (fun k x => k.resendStanding s.env.build b sl x) s.blk)) ∧
  (∀ (s : State) (b sl seg i : Nat) (x : OutPart), Ready s b → sl < 64 →
    (s.blk.slot b sl).out.filter (fun x => x.gone && !x.down && x.seg == seg && x.left.isEmpty) = [x] →
    (s.blk.slot b sl).out.findIdx? (· == x) = some i → (s.blk.slot b sl).out[i]? = some x →
    (x.resent < 4 → Gives (.segmentResendTimer b sl seg) s (s.blk.resendPart s.env.build b sl i)) ∧
    (4 ≤ x.resent → x.nacked = true → x.cseq = (s.blk.slot b sl).openSeq →
      Gives (.segmentResendTimer b sl seg) s (s.blk.slotFault s.env.build b sl stCrcResend)) ∧
    (4 ≤ x.resent → x.nacked = false → Gives (.segmentResendTimer b sl seg) s s.blk)) ∧
  (∀ (s : State) (b sl child : Nat) (l : List Part), Ready s b → sl < 64 →
    ((s.blk.slot b sl).sets.flatMap fun e =>
      (e.2.children.filter fun f => f.1 / 2 == child && !f.2.complete && !f.2.placed.isEmpty).map Prod.snd) = l →
    Gives (.reducerHoleTimer b sl child) s
      (l.foldl (fun k x => k.sendNack s.env.build b 2 { x.head with pseq := x.missing }) s.blk))

/-! ### Reducer: instructions (R254 to R260, R267, R297 to R302) -/

/-- ADD, MAX, MIN, SCALE, CVT, EXPMAX and ALIGN (R256, R263, R267, R279 to R293, R297, R298): an instruction whose
operands are legal stores what it computes and retires. A residue mismatch is counted and attributed to its lane, and
the result of the second execution is stored; a second mismatch aborts the collective with RESIDUE. An illegal operand
is a run-time fault. SORT, MERGE, FILTER, TOPK and GATHER (R258): a record instruction whose buffers exist has its
effect on the slot and retires; one whose buffers or dispatch entry do not exist is a run-time fault (R255). Of the
model, not of the spec: a byte that nothing has written is a free value (log 8); the operands of the record
instructions and of never-written buffers (log 63); what S holds after SORT is free (log 79); which upset occurs is an
operand (log 97). -/
def Obligations.ReducerInstructionsCompute : Prop :=
  (∀ (s : State) (b sl j : Nat) (i : RdcInstr) (evt : Bool) (r : Residue), Ready s b → sl < 64 → i.isArith = true →
    s.blk.rdcFetch b sl = some (i, evt) → (s.blk.slot b sl).cur = some j → residueOk r = true →
    let u := 0x100 + sl
    (∀ c k x, s.blk.compute b sl i = some (c, k) → (k.slot b sl).cur = some j → i.command b sl r = some x →
      mismatches i r.first = [] → Gives x s ((k.storeResult b sl j c).retire b u evt)) ∧
    (∀ c k x, s.blk.compute b sl i = some (c, k) → (k.slot b sl).cur = some j → i.command b sl r = some x →
      mismatches i r.first ≠ [] → mismatches i r.second = [] →
      Gives x s (((k.mismatchAll b sl c.op (mismatches i r.first) false).storeResult b sl j c).retire b u evt)) ∧
    (∀ c k x, s.blk.compute b sl i = some (c, k) → (k.slot b sl).cur = some j → i.command b sl r = some x →
      mismatches i r.first ≠ [] → mismatches i r.second ≠ [] →
      Gives x s ((((k.mismatchAll b sl c.op (mismatches i r.first) false).mismatchAll b sl c.op
        (mismatches i r.second) true).freezeOn 8).slotFault s.env.build b sl stResidue)) ∧
    (∀ x, s.blk.compute b sl i = none → i.command b sl r = some x →
      Gives x s (s.blk.failStream s.env.build b u 0))) ∧
  (∀ a b r : Nat, a < 2 ^ 64 → b < 2 ^ 64 → r = (a + b) % 2 ^ 64 →
    laneMismatch (.adder a b r (decide (2 ^ 64 ≤ a + b))) = false) ∧
  (∀ a b n : Nat, a < 2 ^ 64 → b < 2 ^ 64 → n < 64 →
    laneMismatch (.adder a b (((a + b) % 2 ^ 64) ^^^ 2 ^ n) (decide (2 ^ 64 ≤ a + b))) = true) ∧
  (∀ a b : Nat, laneMismatch (.product a b (a * b)) = false) ∧
  (∀ a b n : Nat, laneMismatch (.product a b (a * b + 2 ^ n)) = true) ∧
  (∀ (s : State) (b sl : Nat) (i : RdcInstr) (evt : Bool), Ready s b → sl < 64 → i.isRecord = true →
    s.blk.rdcFetch b sl = some (i, evt) →
    (∀ k x, s.blk.recResult b sl i = some k → i.command b sl {} = some x → Gives x s (k.retire b (0x100 + sl) evt)) ∧
    (∀ x, s.blk.recResult b sl i = none → i.command b sl {} = some x →
      Gives x s (s.blk.failStream s.env.build b (0x100 + sl) 0)))

/-- What ADD, MAX and MIN of integers compute (R256, R260, R281, R282, R287): for legal operands the result has, for
each element up to the longest operand, what the operation makes of the operands' elements in the order of R256; every
result of an integer output format fits it and raises nothing, or for ADD OVERFLOW and SATURATED; an addition is the
exact sum where it fits and else the nearer bound, left to right; a maximum or minimum is the greatest or least
operand, exactly. What an operand shorter than the longest holds beyond its data is a free byte (log 8). -/
def Obligations.IntegerArithmeticIsExactOrClipped : Prop :=
  (∀ (k : Block) (b sl j dst fo fi m : Nat), (k.slot b sl).cur = some j →
    let w := k.slotWord b sl
    let v := k.slot b sl
    let names := maskBufs w.nch m
    w.hasBuf dst = true → names.all w.hasBuf = true → 2 ≤ names.length →
    let ops := names.map fun c => (v.buf (v.set j) c, if c = 7 then fo else fi)
    let n := countOf w ops
    let xs := (k.readAll n ops).1
    let k' := (k.readAll n ops).2
    (combineOk true fo fi = true → k.compute b sl (.add dst fo fi m) =
      some (⟨dst, fo, 0x07, (List.range n).map fun e => addElem fo (rowAt xs e)⟩, k')) ∧
    (combineOk false fo fi = true → k.compute b sl (.max dst fo fi m) =
      some (⟨dst, fo, 0x08, (List.range n).map fun e => pickElem true fo (rowAt xs e)⟩, k')) ∧
    (combineOk false fo fi = true → k.compute b sl (.min dst fo fi m) =
      some (⟨dst, fo, 0x09, (List.range n).map fun e => pickElem false fo (rowAt xs e)⟩, k'))) ∧
  (∀ (k k' : Block) (b sl dst fo fi m : Nat) (c : Computed), 5 ≤ fo → fo ≤ 8 →
    (k.compute b sl (.add dst fo fi m) = some (c, k') → ∀ x, x ∈ c.res →
      x.1 < 2 ^ (8 * fmtSize fo) ∧ (x.2 = 0 ∨ x.2 = flOverflow ||| flSaturated)) ∧
    ((k.compute b sl (.max dst fo fi m) = some (c, k') ∨ k.compute b sl (.min dst fo fi m) = some (c, k')) →
      ∀ x, x ∈ c.res → x.1 < 2 ^ (8 * fmtSize fo) ∧ x.2 = 0)) ∧
  (∀ (fo f g w x y : Nat), intBits fo = some w → (intBits f).isSome = true → (intBits g).isSome = true →
    (intBits f).getD 8 ≤ w → (intBits g).getD 8 ≤ w →
    let z := toSigned ((intBits f).getD 8) x + toSigned ((intBits g).getD 8) y
    toSigned w (addElem fo [(f, x), (g, y)]).1 = (clip w z).1 ∧
    ((addElem fo [(f, x), (g, y)]).2 = 0 ↔ -(2 : Int) ^ (w - 1) ≤ z ∧ z < (2 : Int) ^ (w - 1))) ∧
  (∀ (w : Nat) (l : List Int) (y : Int), l ≠ [] → (clip w ((addInts w l).1 + y)).2 = true →
    (addInts w (l ++ [y])).1 = (clip w ((addInts w l).1 + y)).1 ∧
    (addInts w (l ++ [y])).2 = (addInts w l).2 ||| (flOverflow ||| flSaturated)) ∧
  (∀ (w : Nat) (l : List Int) (y : Int), l ≠ [] → (clip w ((addInts w l).1 + y)).2 = false →
    (addInts w (l ++ [y])).1 = (addInts w l).1 + y ∧ (addInts w (l ++ [y])).2 = (addInts w l).2) ∧
  (∀ (mx : Bool) (fo w : Nat) (l : List (Nat × Nat)), l ≠ [] → intBits fo = some w →
    (∀ x, x ∈ l → (intBits x.1).isSome = true ∧ (intBits x.1).getD 8 ≤ w) →
    let z := toSigned w (pickElem mx fo l).1
    (∃ x, x ∈ l ∧ toSigned ((intBits x.1).getD 8) x.2 = z) ∧
    (∀ x, x ∈ l → if mx then toSigned ((intBits x.1).getD 8) x.2 ≤ z else z ≤ toSigned ((intBits x.1).getD 8) x.2) ∧
    (pickElem mx fo l).2 = 0) ∧
  (∀ (w : Nat) (z : Int), 0 < w →
    -(2 : Int) ^ (w - 1) ≤ (clip w z).1 ∧ (clip w z).1 < (2 : Int) ^ (w - 1) ∧
    ((clip w z).2 = false ↔ (clip w z).1 = z)) ∧
  (∀ (w : Nat) (z : Int), 0 < w → -(2 : Int) ^ (w - 1) ≤ z → z < (2 : Int) ^ (w - 1) →
    toSigned w (ofSigned w z) = z) ∧
  (∀ (w c : Nat), 0 < w → c < 2 ^ w → ofSigned w (toSigned w c) = c)

/-- The record order of SORT and MERGE (R258): sorting permutes the records and leaves them in order; a list in order
is left as it is. -/
def Obligations.SortOrdersTheRecords : Prop :=
  ∀ (kt : Nat) (desc : Bool) (l : List (List Byte)),
    (sortRecs kt desc l).Perm l ∧ recsSorted kt desc (sortRecs kt desc l) = true ∧
    (recsSorted kt desc l = true → sortRecs kt desc l = l)

/-- SEGIN, SEGIN_SATISFIED, SEGOUT and EMIT (R253, R254, R258, R264): binding a set, waiting for it, and sending what
a slot has made. Of the model, not of the spec: SEG and VC of a fault segment, when NEXT advances, and that an abort
drops only parts that have not begun (log 14); a set's hold of A ends with its emission (log 92); a part carries whole
elements or records, EMIT's the whole run (log 93). -/
def Obligations.SegmentsEnterAndLeave : Prop :=
  (∀ (s : State) (b sl j m p e : Nat) (adv xw endj evt : Bool), Ready s b → sl < 64 →
    s.blk.rdcFetch b sl = some (.segin adv xw endj m p e, evt) →
    ((s.blk.slotWord b sl).still = true ∨ (p = 0 ∧ xw = false)) →
    (maskChildren (s.blk.slotWord b sl).nch m).all (s.blk.slotWord b sl).hasBuf = true →
    (adv = true → (s.blk.slot b sl).finalOut = false) →
    (s.blk.slot b sl).seginReady (s.blk.slotWord b sl).nch adv xw m p = some j →
    Gives (.segin b sl) s (s.blk.seginGo b sl j p evt)) ∧
  (∀ (s : State) (b sl m p e : Nat) (xw endj evt : Bool), Ready s b → sl < 64 →
    s.blk.rdcFetch b sl = some (.segin true xw endj m p e, evt) →
    ((s.blk.slotWord b sl).still = true ∨ (p = 0 ∧ xw = false)) →
    (maskChildren (s.blk.slotWord b sl).nch m).all (s.blk.slotWord b sl).hasBuf = true →
    (s.blk.slot b sl).finalOut = false →
    (s.blk.slot b sl).seginReady (s.blk.slotWord b sl).nch true xw m p = none →
    Gives (.segin b sl) s
      (((s.blk.mapSlot b sl fun v => { v with cur := none }).mapStream b (0x100 + sl) fun x =>
        { x with st := .waiting, hold := .segin (s.blk.slot b sl).next,
                 word := some (s.blk.curWord b (0x100 + sl)) }).checkFence s.env.build b sl)) ∧
  (∀ (s : State) (b sl m p e : Nat) (xw endj evt : Bool), Ready s b → sl < 64 →
    s.blk.rdcFetch b sl = some (.segin false xw endj m p e, evt) →
    ((s.blk.slotWord b sl).still = true ∨ (p = 0 ∧ xw = false)) →
    (maskChildren (s.blk.slotWord b sl).nch m).all (s.blk.slotWord b sl).hasBuf = true →
    (s.blk.slot b sl).cur = none →
    Gives (.segin b sl) s
      ((s.blk.mapStream b (0x100 + sl) fun x =>
        { x with st := .waiting, hold := .segin (s.blk.slot b sl).next,
                 word := some (s.blk.curWord b (0x100 + sl)) }).checkFence s.env.build b sl)) ∧
  (∀ (s : State) (b sl j m p e : Nat) (adv xw endj : Bool), Ready s b → sl < 64 →
    (s.blk.stream b (0x100 + sl)).st = .waiting → (s.blk.stream b (0x100 + sl)).hold ≠ .none →
    decodeRdc (s.blk.curWord b (0x100 + sl)).toNat = some (.segin adv xw endj m p e) →
    (s.blk.slot b sl).seginReady (s.blk.slotWord b sl).nch adv xw m p = some j →
    Gives (.seginSatisfied b sl) s (s.blk.seginGo b sl j p (wordEvt (s.blk.curWord b (0x100 + sl)).toNat))) ∧
  (∀ (s : State) (b sl j src fmt flow af first cseq n : Nat) (down hold sh recs evt final : Bool) (t : List Byte)
      (ps : List Packet), Ready s b → sl < 64 →
    s.blk.rdcFetch b sl = some (.segout down hold sh recs src fmt flow, evt) → (s.blk.slot b sl).cur = some j →
    (down = true → (s.blk.slotWord b sl).root = true) → (s.blk.slotWord b sl).hasBuf src = true →
    (recs = true → (s.blk.slotWord b sl).recs = true) →
    s.blk.combineTrailer b sl j = some (t, final, af, first) →
    let w := s.blk.slotWord b sl
    let v := s.blk.slot b sl
    (v.set j).tag = some (cseq, n) →
    let k := s.blk.mergeGflag b sl af first
    let seg := w.segField n v.phase
    k.buildPart s.env.build b sl (if down then opResult else if recs then opDispatch else opContrib)
      (if sh then 2 else 1) flow seg cseq (v.set j).member (if down then .down else .parent)
      (w.partData recs fmt (v.buf (v.set j) src) ++ t) = some ps →
    Gives (.segout b sl) s
      (((if hold then k else k.willEmit b sl final).queuePart s.env.build b sl
        { pkts := ps, cseq := cseq, seg := seg, seqk := n, set := some j, emits := !hold, down := down
          fromA := src == 7 }).retire b (0x100 + sl) evt)) ∧
  (∀ (s : State) (b sl src n j : Nat) (evt : Bool) (k : Block), Ready s b → sl < 64 →
    s.blk.rdcFetch b sl = some (.emit src n j, evt) →
    s.blk.emitOp s.env.build b sl (.emit src n j) evt = some k → Gives (.emit b sl) s k) ∧
  (∀ (s : State) (b sl src n j : Nat) (evt : Bool), Ready s b → sl < 64 →
    s.blk.rdcFetch b sl = some (.emit src n j, evt) → (s.blk.slot b sl).cur = none →
    Gives (.emit b sl) s (s.blk.failStream s.env.build b (0x100 + sl) 0))

/-- SLOT_WRITE, PARTITION_WRITE, FENCE_BITS_WRITE and GRP_ABORT (R191, R271, R273, R320, R322, R324): a write lands
where the slot it concerns is idle, and is a lock violation where it runs; a write of the FENCE bits takes effect from
the next FCLK on; an abort reaches every brick of the die. Of the model, not of the spec: SEG and VC of a fault
segment, when NEXT advances, and that an abort drops only parts that have not begun (log 14); commands with no idle
step between them are of one FCLK (log 69); the corners of exits and fences that the log lists (log 85). -/
def Obligations.ReducerRegistersAreGuarded : Prop :=
  (∀ (s : State) (b sl : Nat) (v : Word), Ready s b →
    s.blk.crosses .managementPort = true → sl < 64 → s.blk.slotIdle b sl = true →
    Gives (.slotWrite b sl v) s (((s.blk.keepSlot b sl).applyWrite .RDC_SLOT b [sl] v).answerWrite b .mp)) ∧
  (∀ (s : State) (b sl : Nat) (v : Word), Ready s b →
    s.blk.crosses .managementPort = true → sl < 64 → s.blk.slotIdle b sl = false →
    Gives (.slotWrite b sl v) s (s.blk.lockVio.answerWrite b .mp)) ∧
  (∀ (s : State) (b i : Nat) (v : Word), Ready s b → s.blk.crosses .managementPort = true → i < 32 →
    (∀ sl, sl < 64 → (s.blk.slotWord b sl).v = true → (s.blk.slotWord b sl).segp = i → s.blk.slotIdle b sl = true) →
    (∀ sl, sl < 64 → (s.blk.slotWord b sl).v = true → (s.blk.slotWord b sl).recs = true →
      (s.blk.slotWord b sl).scrp = i → s.blk.slotIdle b sl = true) →
    Gives (.partitionWrite b i v) s ((s.blk.applyWrite .RDC_PART b [i] v).answerWrite b .mp)) ∧
  (∀ (s : State) (b i sl : Nat) (v : Word), Ready s b →
    s.blk.crosses .managementPort = true → i < 32 → sl < 64 → (s.blk.slotWord b sl).v = true →
    (s.blk.slotWord b sl).segp = i → s.blk.slotIdle b sl = false →
    Gives (.partitionWrite b i v) s (s.blk.lockVio.answerWrite b .mp)) ∧
  (∀ (s : State) (b : Nat) (v : Word), Ready s b → s.blk.crosses .managementPort = true →
    let k := s.blk.applyWrite .BRK_RTCTL b [] v
    let set_ := (List.range 8).filter fun p => (fld v 7 0).testBit p && !(s.blk.rf .BRK_RTCTL 7 0 b).testBit p
    let slots (k : Block) : Block := (List.range 64).foldl (fun k sl => k.checkFence s.env.build b sl) k
    Gives (.fenceBitsWrite b v) s (({ s.blk with late := s.blk.late ++ [.rtctl b v] } : Block).answerWrite b .mp) ∧
    (set_ = [] → s.blk.applyWriteLate s.env (.rtctl b v) = slots k) ∧
    (set_ ≠ [] → s.blk.applyWriteLate s.env (.rtctl b v) =
      (slots (set_.foldl (fun k p => k.fenceOutput s.env.build b p) k.episode)).pumpNi s.env b)) ∧
  (∀ (s : State) (b : Nat) (v : Word), s.blk.held = false →
    s.blk.crosses .managementPort = true → brickOk s.env.build b = false →
    Gives (.fenceBitsWrite b v) s { s.blk with out := s.blk.out ++ [.mp 0 true] }) ∧
  (∀ (s : State) (v : Word), s.blk.held = false →
    s.blk.crosses .managementPort = true → 1 ≤ fld v 19 12 → fld v 19 12 ≤ 0x11 →
    Gives (.grpAbort v) s (((bricks s.env.build).foldl
      (fun k b => k.abortBrick s.env b (fld v 11 0) (fld v 19 12)) s.blk.episode).answerWrite 0 .mp)) ∧
  (∀ (s : State) (v : Word), s.blk.held = false →
    s.blk.crosses .managementPort = true → (fld v 19 12 = 0 ∨ 0x11 < fld v 19 12) →
    Completes (.grpAbort v) s fun k => k = s.blk.answerWrite 0 .mp ∧ k.rdc = s.blk.rdc ∧ k.xfr = s.blk.xfr)

/-! ### Groups (R309 to R319) -/

/-- RESULT_DELIVERY and DISPATCH_DELIVERY (R251, R314, R318): member trackers in COLLECT take a result; a destination
takes a run, starting its tracker with the first; what nobody collects is counted. Of the model, not of the spec: how
a part is resent and a duplicate of it acknowledged (log 62); a RESULT in COMPLETING is LATE (log 110). -/
def Obligations.GroupPartsReachTheirTrackers : Prop :=
  (∀ (s : State) (b : Nat) (p : Packet) (r : List Packet), Ready s b → s.blk.headGood b 0 1 p r → p.op = opResult →
    let k := s.blk.setRx b 0 r
    let n := if k.groupStill p.group then p.seg / 2 else p.seg
    let ts := (List.range 1024).filter fun t =>
      (k.tracker b t).collects p.group p.cseq && k.takesResults b p.group (k.tracker b t).desc.member
    (k.groupStill p.group = true → p.seg % 2 = 1) → ts ≠ [] →
    Gives (.resultDelivery b) s ((ts.foldl (fun k t => k.takeResult b t n p) k).pumpEngines s.env b)) ∧
  (∀ (s : State) (b : Nat) (p : Packet) (r : List Packet), Ready s b → s.blk.headGood b 0 1 p r → p.op = opResult →
    (s.blk.setRx b 0 r).groupStill p.group = true → p.seg % 2 = 0 →
    Gives (.resultDelivery b) s (s.blk.setRx b 0 r)) ∧
  (∀ (s : State) (b : Nat) (p : Packet) (r : List Packet), Ready s b → s.blk.headGood b 0 1 p r → p.op = opResult →
    s.blk.xfr.trk = [] → (s.blk.groupStill p.group = true → p.seg % 2 = 1) →
    Gives (.resultDelivery b) s ((s.blk.setRx b 0 r).bump .GRP_ERR 63 48 b)) ∧
  (∀ (s : State) (b : Nat) (p : Packet) (r : List Packet), Ready s b → s.blk.headGood b 0 0 p r → p.op = opDispatch →
    let k := s.blk.setRx b 0 r
    k.descValid p.group = false →
    Gives (.dispatchDelivery b) s ((k.bump .GRP_ERR 47 32 b).answerError s.env.build b p stNoRoute)) ∧
  (∀ (s : State) (b : Nat) (p : Packet) (r : List Packet), Ready s b → s.blk.headGood b 0 0 p r → p.op = opDispatch →
    let k := s.blk.setRx b 0 r
    let t := fld (k.descWord p.group 1) 39 30
    k.descValid p.group = true → flag (k.binding b t) 63 = true → (k.tracker b t).st = .idle →
    let c : Desc := { group := p.group, cseq := p.cseq }
    let v : Tracker :=
      { st := .collect, op := .reducerPart, isDest := true, sys := true, owner := p.src, gtime := k.gtime, desc := c }
    Gives (.dispatchDelivery b) s ((k.setTracker b t v).takeRun s.env.build b t p)) ∧
  (∀ (s : State) (b : Nat) (p : Packet) (r : List Packet), Ready s b → s.blk.headGood b 0 0 p r → p.op = opDispatch →
    let k := s.blk.setRx b 0 r
    let t := fld (k.descWord p.group 1) 39 30
    k.descValid p.group = true → (k.tracker b t).op = .reducerPart →
    (k.tracker b t).desc.group = p.group → (k.tracker b t).desc.cseq = p.cseq →
    ((k.tracker b t).st = .collect → flag (k.binding b t) 63 = true →
      Gives (.dispatchDelivery b) s (k.takeRun s.env.build b t p)) ∧
    ((k.tracker b t).st = .collect → flag (k.binding b t) 63 = false →
      Gives (.dispatchDelivery b) s ((k.bump .GRP_ERR 47 32 b).answerError s.env.build b p stNoRoute)) ∧
    ((k.tracker b t).st = .linger ∨ (k.tracker b t).st = .completing →
      Gives (.dispatchDelivery b) s (k.ackRun s.env.build b p))) ∧
  (∀ (s : State) (b : Nat) (p : Packet) (r : List Packet), Ready s b → s.blk.headGood b 0 0 p r → p.op = opDispatch →
    let k := s.blk.setRx b 0 r
    let t := fld (k.descWord p.group 1) 39 30
    k.descValid p.group = true → flag (k.binding b t) 63 = true → (k.tracker b t).st ≠ .idle →
    (k.tracker b t).op ≠ .reducerPart →
    Gives (.dispatchDelivery b) s ((k.bump .TRK_ERR 63 48 b).postEvent b
      { type := 0xB, source := t, arg0 := p.src, arg1 := p.pseq }))

/-! ### Messages, credits and events (R354 to R384) -/

/-- MESSAGE and STEERED_MESSAGE (R368, R372): the next message of a grant commits to a slot and is acknowledged; a
message already taken is acknowledged again; one ahead of its turn is NACKed, at most once in TRK_CTL.HOLE, and one
without a reserved slot is counted; one of an old epoch, without a grant or at a queue with V = 0 is answered with an
ERROR; a steered message needs no grant, only STEEROK and a free slot. That a steered message's arrival is known by
its sequence number too is log 15, and that a channel's pending ACK is updated in place follows R368. -/
def Obligations.MessagesCommitInOrder : Prop :=
  (∀ (s : State) (b : Nat) (p : Packet) (r : List Packet) (g : Grant), Ready s b → s.blk.headGood b 0 1 p r →
    p.op = opMessage → p.steer = false → p.group < 64 →
    let k := s.blk.setRx b 0 r
    let mine (g : Grant) : Bool := g.brick == p.src / 8 && g.chan == p.tracker % 1024
    flag (k.reg .MQ_QCFG b [p.group]) 63 = true → p.cseq = (k.queue b p.group).epoch →
    (k.queue b p.group).grants.find? mine = some g → p.pseq < 2 ^ 16 → g.next = p.pseq → 0 < g.res →
    Gives (.message b) s ((k.commitMsg b p.group (messageOf p) fun v => { v with
      grants := v.grants.map fun x =>
        if mine x then { x with next := (x.next + 1) % 2 ^ 16, res := x.res - 1 } else x }).ackChannel
          s.env.build b p ((p.pseq + 1) % 2 ^ 16))) ∧
  (∀ (s : State) (b : Nat) (p : Packet) (r : List Packet) (g : Grant), Ready s b → s.blk.headGood b 0 1 p r →
    p.op = opMessage → p.steer = false → p.group < 64 →
    let k := s.blk.setRx b 0 r
    flag (k.reg .MQ_QCFG b [p.group]) 63 = true → p.cseq = (k.queue b p.group).epoch →
    (k.queue b p.group).grants.find? (fun g => g.brick == p.src / 8 && g.chan == p.tracker % 1024) = some g →
    before16 p.pseq g.next = true → Gives (.message b) s (k.ackChannel s.env.build b p g.next)) ∧
  (∀ (s : State) (b : Nat) (p : Packet) (r : List Packet), Ready s b → s.blk.headGood b 0 1 p r →
    p.op = opMessage → p.steer = false → p.group < 64 →
    let k := s.blk.setRx b 0 r
    flag (k.reg .MQ_QCFG b [p.group]) 63 = true → p.cseq = (k.queue b p.group).epoch →
    (k.queue b p.group).grants.find? (fun g => g.brick == p.src / 8 && g.chan == p.tracker % 1024) = none →
    Gives (.message b) s ((k.bump .MQ_ERR 47 32 b).answerMessage s.env.build b opError 7 stClosed p [])) ∧
  (∀ (s : State) (b : Nat) (p : Packet) (r : List Packet) (g : Grant), Ready s b → s.blk.headGood b 0 1 p r →
    p.op = opMessage → p.steer = false → p.group < 64 →
    let k := s.blk.setRx b 0 r
    let mine (g : Grant) : Bool := g.brick == p.src / 8 && g.chan == p.tracker % 1024
    flag (k.reg .MQ_QCFG b [p.group]) 63 = true → p.cseq = (k.queue b p.group).epoch →
    (k.queue b p.group).grants.find? mine = some g → before16 p.pseq g.next = false →
    (p.pseq ≠ g.next → g.nackAt = none →
      Gives (.message b) s ((k.setQueue b p.group { k.queue b p.group with
        grants := (k.queue b p.group).grants.map fun x => if mine x then { x with nackAt := some k.gtime } else x
        }).answerMessage s.env.build b opNack 5 0 { p with pseq := g.next } [])) ∧
    (∀ t, p.pseq ≠ g.next → g.nackAt = some t → k.within t (k.rf .TRK_CTL 31 24 b) = true → Gives (.message b) s k) ∧
    (p.pseq = g.next → g.res = 0 → Gives (.message b) s (k.bump .MQ_ERR 31 16 b))) ∧
  (∀ (s : State) (b : Nat) (p : Packet) (r : List Packet), Ready s b → s.blk.headGood b 0 1 p r →
    p.op = opMessage → p.steer = false → p.group < 64 →
    let k := s.blk.setRx b 0 r
    flag (k.reg .MQ_QCFG b [p.group]) 63 = true → p.cseq ≠ (k.queue b p.group).epoch →
    Gives (.message b) s ((k.bump .MQ_ERR 63 48 b).answerMessage s.env.build b opError 7 stStaleEpoch p [])) ∧
  (∀ (s : State) (b : Nat) (p : Packet) (r : List Packet), Ready s b → s.blk.headGood b 0 1 p r →
    p.op = opMessage → p.steer = false → p.group < 64 →
    let k := s.blk.setRx b 0 r
    flag (k.reg .MQ_QCFG b [p.group]) 63 = false →
    Gives (.message b) s ((k.bump .MQ_ERR 47 32 b).answerMessage s.env.build b opError 7 stClosed p [])) ∧
  (∀ (s : State) (b : Nat) (p : Packet) (r : List Packet), Ready s b → s.blk.headGood b 0 1 p r →
    p.op = opMessage → p.steer = true → p.group < 64 →
    let k := s.blk.setRx b 0 r
    let key := (p.src, p.tracker + 2 ^ 18 * (1 + p.pseq))
    flag (k.reg .MQ_QCFG b [p.group]) 63 = true → (k.history b).contains key = false → (k.history b).length < 64 → flag (k.reg .MQ_QCFG b [p.group]) 61 = true →
    0 < (k.queue b p.group).free →
    Gives (.steeredMessage b) s
      ((({ k with xfr.history := put [] k.xfr.history b (k.history b ++ [key]) } : Block).commitMsg b p.group
        (messageOf p) id).sendAck s.env.build b 1 p ((p.pseq + 1) % 2 ^ 16) 0 true)) ∧
  (∀ (s : State) (b : Nat) (p : Packet) (r : List Packet), Ready s b → s.blk.headGood b 0 1 p r →
    p.op = opMessage → p.steer = true → p.group < 64 →
    let k := s.blk.setRx b 0 r
    let key := (p.src, p.tracker + 2 ^ 18 * (1 + p.pseq))
    (flag (k.reg .MQ_QCFG b [p.group]) 63 = true → (k.history b).contains key = false →
      ((k.queue b p.group).free = 0 ∨ flag (k.reg .MQ_QCFG b [p.group]) 61 = false) →
      Gives (.steeredMessage b) s (k.answerError s.env.build b p stWouldBlock)) ∧
    (flag (k.reg .MQ_QCFG b [p.group]) 63 = true → (k.history b).contains key = true →
      Gives (.steeredMessage b) s (k.sendAck s.env.build b 1 p ((p.pseq + 1) % 2 ^ 16) 0 true)) ∧
    (flag (k.reg .MQ_QCFG b [p.group]) 63 = false →
      Gives (.steeredMessage b) s ((k.bump .MQ_ERR 47 32 b).answerMessage s.env.build b opError 7 stClosed p []))) ∧
  (∀ (k : Block) (d : Build) (b base : Nat) (p : Packet),
    ((look [] k.net.stage (b * 2)).filter (ackFor p)).length ≤ 1 →
    ((look [] (k.ackChannel d b p base).net.stage (b * 2)).filter (ackFor p)).length ≤ 1)

/-- CHANNEL_ACK, CHANNEL_NACK, CHANNEL_ERROR, CHANNEL_RESEND_TIMER and CHANNEL_TIMEOUT (R369, R370): what
acknowledges, repeats or closes what a channel has sent. A command that is not enabled leaves the block as it is (the
model's choice, log 6). A timer's command says itself that the bound is reached (the model's choice, log 5). Of the
model, not of the spec: an engine, a channel and a slot stage one packet at a time (log 77); FENCED leaves a channel
open (log 96). -/
def Obligations.ChannelsAreAnswered : Prop :=
  (∀ (s : State) (b : Nat) (p : Packet) (r : List Packet), Ready s b → s.blk.headGood b 0 1 p r → p.op = opAck →
    0xFC0 ≤ p.group →
    let c := p.tracker % 1024
    Gives (.channelAck b) s
      ((((s.blk.setRx b 0 r).ackMsgs b c p).startMsgs s.env.build b c 64).pumpGathers s.env b)) ∧
  (∀ (k : Block) (b c t : Nat) (p : Packet) (m : SentMsg), (k.chan b c).unacked = [m] → m.trk = some t →
    m.residual = false → (natAt p.payload 36 1).testBit 0 = true → before16 m.seq (natAt p.payload 0 4) = true →
    k.ackMsgs b c p = ((k.setChan b c { k.chan b c with unacked := [] }).mapTracker b t fun x =>
      { x with b := 1, done := 1, bytes := 32 }).completeTracker b t (if p.moved then stMoved else stOk)) ∧
  (∀ (s : State) (b : Nat) (p : Packet) (r : List Packet), Ready s b → s.blk.headGood b 0 1 p r → p.op = opNack →
    0xFC0 ≤ p.group → (s.blk.chan b (p.tracker % 1024)).unacked.any (fun m => m.seq == p.pseq) = true →
    Gives (.channelNack b) s ((s.blk.setRx b 0 r).resendMsgs s.env.build b (p.tracker % 1024))) ∧
  (∀ (s : State) (b : Nat) (p : Packet) (r : List Packet) (m : SentMsg), Ready s b → s.blk.headGood b 0 1 p r →
    p.op = opError → 0xFC0 ≤ p.group →
    (s.blk.chan b (p.tracker % 1024)).unacked.find? (fun m => m.seq == p.pseq) = some m →
    (statusOf p.status = stStaleEpoch ∨ statusOf p.status = stClosed ∨ statusOf p.status = stNoRoute) →
    Gives (.channelError b) s
      (((s.blk.setRx b 0 r).closeChan b (p.tracker % 1024) (statusOf p.status)).pumpGathers s.env b)) ∧
  (∀ (s : State) (b t : Nat) (p : Packet) (r : List Packet) (m : SentMsg), Ready s b → s.blk.headGood b 0 1 p r →
    p.op = opError → 0xFC0 ≤ p.group → statusOf p.status = stFenced →
    (s.blk.chan b (p.tracker % 1024)).unacked.find? (fun m => m.seq == p.pseq) = some m →
    m.trk = some t → m.residual = false →
    let v := s.blk.chan b (p.tracker % 1024)
    Gives (.channelError b) s
      (((s.blk.setRx b 0 r).setChan b (p.tracker % 1024) { v with
        unacked := v.unacked.map fun x => if x.seq == m.seq then { x with trk := none, quiet := true } else x }).completeTracker
          b t stFenced)) ∧
  (∀ (s : State) (b c : Nat), Ready s b → c < 1024 →
    Gives (.channelResendTimer b c) s (s.blk.resendMsgs s.env.build b c)) ∧
  (∀ (s : State) (b c : Nat), Ready s b → c < 1024 → (s.blk.chan b c).unacked ≠ [] →
    Gives (.channelTimeout b c) s ((s.blk.closeChan b c stTimeout).pumpGathers s.env b)) ∧
  (∀ (s : State) (b c : Nat), Ready s b → c < 1024 → (s.blk.chan b c).unacked = [] →
    Gives (.channelTimeout b c) s s.blk)

/-- MQ_SEND, SEND_ACCEPT, SEND_BLOCK_EXPIRY and MQ_CHCFG_WRITE (R359, R365, R366, R550): a send is refused, accepted
or waits; a channel is written while it is not open. A timer's command says itself that the bound is reached (the
model's choice, log 5). Of the model, not of the spec: the key of a steered message's history and the statuses with
which a channel closes (log 15); what a write does to RWS fields and reserved encodings, and where a Local Port may
write (log 60); packets already staged at a fault are still sent (log 65); the order of responses, and that a stalled
identifier's later requests are not taken (log 73). -/
def Obligations.SendsAreAcceptedOrWait : Prop :=
  (∀ (s : State) (b rid tag : Nat) (l : List Byte), Ready s b → s.blk.lpServes s.env.build b rid = true →
    l.length = 64 → 0 < natAt (bytesAt l 0 32) 2 1 →
    let c := natAt l 32 2 % 1024
    s.blk.chanOn b c = true → (s.blk.chan b c).st = .opened → s.blk.chanAccepts b c = true →
    (s.blk.waits b).any (fun w => w.chan == c) = false →
    Gives (.mqSend b rid tag l) s
      ((s.blk.owe b rid tag (.send c)).acceptMsg s.env.build b c (.lp rid tag) (bytesAt l 0 32) (natAt l 40 8))) ∧
  (∀ (s : State) (b rid tag : Nat) (l : List Byte), Ready s b → s.blk.lpServes s.env.build b rid = true →
    l.length = 64 → 0 < natAt (bytesAt l 0 32) 2 1 →
    let c := natAt l 32 2 % 1024
    s.blk.chanOn b c = true → (s.blk.chan b c).st ≠ .closed → s.blk.chanAccepts b c = false →
    Gives (.mqSend b rid tag l) s
      (if (natAt l 34 1).testBit 0 then s.blk.answerStatus b rid tag stWouldBlock
       else (s.blk.owe b rid tag (.send c)).setWaits b (s.blk.waits b ++
         [{ chan := c, who := .lp rid tag, data := bytesAt l 0 32, addr := natAt l 40 8 }]))) ∧
  (∀ (s : State) (b rid tag : Nat) (l : List Byte), Ready s b → s.blk.lpServes s.env.build b rid = true →
    l.length ≠ 64 → look [] s.blk.xfr.lpDue (b * 64 + rid % 64) = [] →
    Completes (.mqSend b rid tag l) s fun k => k = s.blk.badRequest b rid tag ∧
      k.out = s.blk.out ++ [.lp b rid tag stProgramFault []] ∧
      k.mq = s.blk.mq) ∧
  (∀ (s : State) (b rid tag : Nat) (l : List Byte), Ready s b → s.blk.lpServes s.env.build b rid = true →
    l.length = 64 → 0 < natAt (bytesAt l 0 32) 2 1 → (s.blk.chan b (natAt l 32 2 % 1024)).st = .closed →
    look [] s.blk.xfr.lpDue (b * 64 + rid % 64) = [] →
    Completes (.mqSend b rid tag l) s fun k => k = s.blk.answerStatus b rid tag stClosed ∧
      k.out = s.blk.out ++ [.lp b rid tag stClosed []] ∧ k.mq = s.blk.mq) ∧
  (∀ (s : State) (b c : Nat) (w : WaitSend), Ready s b → c < 1024 →
    (s.blk.waits b).find? (fun w => w.chan == c) = some w → s.blk.chanAccepts b c = true →
    Gives (.sendAccept b c) s
      ((s.blk.setWaits b ((s.blk.waits b).erase w)).acceptMsg s.env.build b c w.who w.data w.addr)) ∧
  (∀ (s : State) (b c rid tag : Nat) (w : WaitSend), Ready s b → c < 1024 →
    (s.blk.waits b).find? (fun w => w.chan == c) = some w →
    w.who = .lp rid tag →
    Gives (.sendBlockExpiry b c) s
      (((s.blk.setWaits b ((s.blk.waits b).erase w)).postEvent b
        { type := 0xC, status := stWouldBlock, source := c, arg0 := (s.blk.chan b c).next }).settleLp
          b rid (.send c) stWouldBlock [])) ∧
  (∀ (s : State) (via : Via) (b c : Nat) (v : Word), Ready s b → s.blk.viaOpen s.env.build b via = true → c < 1024 → (s.blk.chan b c).st ≠ .opened →
    (s.blk.chan b c).unacked = [] →
    Completes (.mqChcfgWrite via b c v) s fun k => k = ((s.blk.applyWrite .MQ_CHCFG b [c] v).setChan b c (k.chan b c)).answerWrite b via ∧
      k.chan b c = { st := if flag v 63 && flag v 62 then .opened else .idle } ∧
      k.regs = (s.blk.applyWrite .MQ_CHCFG b [c] v).regs) ∧
  (∀ (s : State) (via : Via) (b c : Nat) (v : Word), Ready s b → s.blk.viaOpen s.env.build b via = true → c < 1024 →
    ((s.blk.chan b c).st = .opened ∨ (s.blk.chan b c).unacked ≠ []) →
    Gives (.mqChcfgWrite via b c v) s (s.blk.lockVio.answerWrite b via))

/-- CREDIT, MQ_GRANT, CREDIT_BATCH and CREDIT_REFRESH (R361 to R364): a grant opens a channel, raises its limit, or of
a newer epoch closes and reopens it; a REVOKE of the same or a newer epoch closes it; other CREDITs are ignored, or
counted where they are not the channel's; a queue's word adds reserved slots to a grant entry. That what is not
acknowledged then fails with STALE_EPOCH is log 15. -/
def Obligations.CreditsOpenAndFeedChannels : Prop :=
  (∀ (s : State) (b : Nat) (p : Packet) (r : List Packet), Ready s b → s.blk.headGood b 0 1 p r → p.op = opCredit →
    Gives (.credit b) s (((s.blk.setRx b 0 r).takeCredit b (p.tracker % 1024) p).pumpGathers s.env b)) ∧
  (∀ (k : Block) (b c : Nat) (p : Packet), k.chanSteer b c = false → k.chanOn b c = true →
    p.src = k.chanDst b c → p.group % 64 = k.rf .MQ_CHCFG 48 43 b [c] → natAt p.payload 2 1 = 1 →
    (k.chan b c).st = .idle →
    k.takeCredit b c p = k.setChan b c { k.chan b c with
      st := .opened, epoch := p.cseq, next := 0, limit := natAt p.payload 0 2 }) ∧
  (∀ (k : Block) (b c : Nat) (p : Packet), k.chanSteer b c = false → k.chanOn b c = true →
    p.src = k.chanDst b c → p.group % 64 = k.rf .MQ_CHCFG 48 43 b [c] → natAt p.payload 2 1 = 1 →
    (k.chan b c).st = .opened → p.cseq = (k.chan b c).epoch →
    serialLe 16 (k.chan b c).limit (natAt p.payload 0 2) = true →
    k.takeCredit b c p = k.setChan b c { k.chan b c with limit := natAt p.payload 0 2 }) ∧
  (∀ (k : Block) (b c : Nat) (p : Packet), k.chanSteer b c = false → k.chanOn b c = true →
    p.src = k.chanDst b c → p.group % 64 = k.rf .MQ_CHCFG 48 43 b [c] → natAt p.payload 2 1 = 1 →
    (k.chan b c).st = .closed → epochNewer p.cseq (k.chan b c).epoch = false → k.takeCredit b c p = k) ∧
  (∀ (k : Block) (b c : Nat) (p : Packet), k.chanSteer b c = false → p.src = k.chanDst b c →
    p.group % 64 = k.rf .MQ_CHCFG 48 43 b [c] → natAt p.payload 2 1 = 1 → (k.chan b c).st = .opened →
    p.cseq ≠ (k.chan b c).epoch →
    (epochNewer p.cseq (k.chan b c).epoch = true →
      k.takeCredit b c p = (k.closeChan b c stStaleEpoch).openChan b c p.cseq (natAt p.payload 0 2)) ∧
    (epochNewer p.cseq (k.chan b c).epoch = false → k.takeCredit b c p = k)) ∧
  (∀ (k : Block) (b c : Nat) (p : Packet), k.chanSteer b c = false → p.src = k.chanDst b c →
    p.group % 64 = k.rf .MQ_CHCFG 48 43 b [c] → natAt p.payload 2 1 = 2 →
    ((k.chan b c).st = .opened → (p.cseq = (k.chan b c).epoch ∨ epochNewer p.cseq (k.chan b c).epoch = true) →
      k.takeCredit b c p = k.closeChan b c stStaleEpoch) ∧
    ((k.chan b c).st = .opened → p.cseq ≠ (k.chan b c).epoch → epochNewer p.cseq (k.chan b c).epoch = false →
      k.takeCredit b c p = k) ∧
    ((k.chan b c).st ≠ .opened → k.takeCredit b c p = k)) ∧
  (∀ (k : Block) (b c : Nat) (p : Packet), k.chanSteer b c = false → p.src = k.chanDst b c →
    p.group % 64 = k.rf .MQ_CHCFG 48 43 b [c] → natAt p.payload 2 1 = 1 → (k.chan b c).st = .closed →
    epochNewer p.cseq (k.chan b c).epoch = true →
    k.takeCredit b c p = k.openChan b c p.cseq (natAt p.payload 0 2)) ∧
  (∀ (k : Block) (b c : Nat), (k.chan b c).unacked = [] → (k.waits b).any (fun w => w.chan == c) = false →
    ∀ status, ((k.closeChan b c status).chan b c).st = .closed ∧ ((k.closeChan b c status).chan b c).unacked = [] ∧
      ((k.closeChan b c status).chan b c).epoch = (k.chan b c).epoch) ∧
  (∀ (k : Block) (b c epoch limit : Nat), ((k.openChan b c epoch limit).chan b c).st = .opened ∧
    ((k.openChan b c epoch limit).chan b c).epoch = epoch ∧ ((k.openChan b c epoch limit).chan b c).next = 0 ∧
    ((k.openChan b c epoch limit).chan b c).limit = limit) ∧
  (∀ (k : Block) (b c : Nat) (p : Packet),
    (k.chanSteer b c = true ∨ p.src ≠ k.chanDst b c ∨ p.group % 64 ≠ k.rf .MQ_CHCFG 48 43 b [c]) →
    k.takeCredit b c p = k.bump .MQ_ERR 7 0 b) ∧
  (∀ (s : State) (via : Via) (b : Nat) (v : Word), Ready s b → s.blk.viaOpen s.env.build b via = true →
    Gives (.mqGrant via b v) s ((s.blk.writeGrant s.env.build b v).answerWrite b via)) ∧
  (∀ (k : Block) (d : Build) (b : Nat) (w : Word),
    let q := fld w 52 47
    (k.queue b q).grants = [] →
    let g : Grant :=
      { brick := fld w 36 10, chan := fld w 46 37, renew := flag w 53
        res := if 32 < fld w 59 54 then 0 else min (fld w 59 54) (k.queue b q).free }
    k.writeGrant d b w = (k.setQueue b q { k.queue b q with grants := [g] }).creditsOut d b q fun g =>
      g.brick == fld w 36 10 && g.chan == fld w 46 37) ∧
  (∀ (k : Block) (d : Build) (b : Nat) (w : Word),
    let v := k.queue b (fld w 52 47)
    let mine (g : Grant) : Bool := g.brick == fld w 36 10 && g.chan == fld w 46 37
    let add := if 32 < fld w 59 54 then 0 else min (fld w 59 54) v.free
    (v.grants.any mine = true →
      let give (g : Grant) : Grant := if mine g then { g with res := g.res + add, renew := flag w 53 } else g
      k.writeGrant d b w =
        (k.setQueue b (fld w 52 47) { v with grants := v.grants.map give }).creditsOut d b (fld w 52 47) mine) ∧
    (v.grants.any mine = false → 16 ≤ v.grants.length → k.writeGrant d b w = k.bump .MQ_ERR 15 8 b)) ∧
  (∀ (s : State) (b q : Nat), Ready s b → q < 64 →
    Gives (.creditBatch b q) s (s.blk.creditsOut s.env.build b q fun g => before16 g.told (g.next + g.res))) ∧
  (∀ (s : State) (b q : Nat), Ready s b → q < 64 →
    Gives (.creditRefresh b q) s (s.blk.creditsOut s.env.build b q fun g => decide (0 < g.res)))

/-- MQ_POP, EVENT_POP, QUEUE_RESET, EVENT_STALE and ARRIVAL_HISTORY_EXPIRY (R225, R356 to R358, R373, R375): a pop
takes the oldest entry and leaves the others in order; a reset empties the queue under the next epoch. A command that
is not enabled leaves the block as it is (the model's choice, log 6). A timer's command says itself that the bound is
reached (the model's choice, log 5). Of the model, not of the spec: commands with no idle step between them are of one
FCLK (log 69). -/
def Obligations.QueuesPopAndReset : Prop :=
  (∀ (s : State) (b q : Nat) (m : Message) (r : List Message), Ready s b → q < 64 → (s.blk.queue b q).seen s.blk.clk.now = m :: r →
    Completes (.mqPop .mp b q) s fun k => k = { s.blk with mq.queue := k.mq.queue, mq.popped := k.mq.popped, out := k.out } ∧
      (k.queue b q).msgs = r ∧
      k.out = s.blk.out ++ [.mp (BitVec.ofNat 64 (natAt (bytesAt (popBytes m) 0 64) 0 8)) false] ∧
      k.poppedBytes b q = bytesAt (popBytes m) 0 64 ∧ (k.queue b q).epoch = (s.blk.queue b q).epoch ∧
      ∀ q', q' ≠ q → q' < 64 → k.queue b q' = s.blk.queue b q') ∧
  (∀ (s : State) (via : Via) (b q : Nat), Ready s b → s.blk.viaOpen s.env.build b via = true → q < 64 →
    (s.blk.queue b q).seen s.blk.clk.now = [] →
    Completes (.mqPop via b q) s fun k =>
      k = ({ s.blk with mq.popped := k.mq.popped } : Block).answerPop b via (List.replicate 64 0) ∧
      k.mq.queue = s.blk.mq.queue) ∧
  (∀ (s : State) (b rid tag q : Nat) (m : Message) (r : List Message), Ready s b → q < 64 →
    s.blk.lpServes s.env.build b rid = true → (s.blk.queue b q).seen s.blk.clk.now = m :: r →
    look [] s.blk.xfr.lpDue (b * 64 + rid % 64) = [] →
    Completes (.mqPop (.lp rid tag) b q) s fun k => k = { s.blk with mq.queue := k.mq.queue, mq.popped := k.mq.popped, out := k.out } ∧
      (k.queue b q).msgs = r ∧
      k.out = s.blk.out ++ [.lp b rid tag stOk (bytesAt (popBytes m) 0 64)]) ∧
  (∀ (s : State) (via : Via) (b : Nat) (v : Event) (r : List Event), Ready s b →
    s.blk.viaOpen s.env.build b via = true → s.blk.events b = v :: r →
    Completes (.eventPop via b) s fun k =>
      k = ({ s.blk with flt.events := put [] s.blk.flt.events b r, flt.evLatch := k.flt.evLatch } : Block).answerPop b via
        (eventBytes (some v)) ∧
      k.events b = r) ∧
  (∀ (s : State) (via : Via) (b : Nat), Ready s b → s.blk.viaOpen s.env.build b via = true → s.blk.events b = [] →
    Completes (.eventPop via b) s fun k =>
      k = ({ s.blk with flt.evLatch := k.flt.evLatch } : Block).answerPop b via (eventBytes none) ∧ k.events b = []) ∧
  (∀ (s : State) (via : Via) (b q : Nat) (v : Word), Ready s b → s.blk.viaOpen s.env.build b via = true → q < 64 →
    flag v 62 = true →
    Gives (.queueReset via b q v) s
      (((s.blk.applyWrite .MQ_QCFG b [q] v).resetQueue s.env.build b q).answerWrite b via)) ∧
  (∀ (k : Block) (b q : Nat) (m : Message), (k.queue b q).msgs = [] → (k.queue b q).late.1 ≠ k.clk.now + 1 →
    ((k.commitMsg b q m id).queue b q).seen (k.commitMsg b q m id).clk.now = [] ∧
    ((k.commitMsg b q m id).queue b q).seen (k.clk.now + 1) = [m]) ∧
  (∀ (k : Block) (d : Build) (b q : Nat), (k.queue b q).grants = [] →
    k.resetQueue d b q = k.setQueue b q { epoch := ((k.queue b q).epoch + 1) % 2 ^ 16 }) ∧
  (∀ (s : State) (b : Nat), Ready s b → s.blk.events b ≠ [] →
    let k := (s.blk.setBit .MQ_EVSTAT 16 b).lpiTrigger b 0
    Gives (.eventStale b) s
      (if flag (k.reg .MQ_EVSTAT b) 25 then k.counterAdd b (k.rf .MQ_EVSTAT 24 17 b) 1 else k)) ∧
  (∀ (s : State) (b : Nat), Ready s b → s.blk.events b = [] → Gives (.eventStale b) s s.blk) ∧
  (∀ (s : State) (b src trk : Nat), Ready s b →
    Completes (.arrivalHistoryExpiry b src trk) s fun k => k = { s.blk with xfr.history := put [] s.blk.xfr.history b (k.history b), gpd.seen := k.gpd.seen } ∧
      k.history b = (s.blk.history b).filter (fun x => !(x.1 == src && x.2 % 2 ^ 18 == trk)) ∧ k.mq = s.blk.mq)

/-! ### Sparse operands (R332 to R346) -/

/-- COMPRESS_SCAN_DONE, MERGE_PHASE_START, MERGE_WAIT_TIMEOUT, RESIDUAL_POST and RESIDUAL_PAUSE_EXPIRY (R330, R331,
R339, R342, R343): the phases of a STORE.C's scan and of a GATHER's merge. A timer's command says itself that the
bound is reached (the model's choice, log 5). Of the model, not of the spec: the status of a stream whose source has
changed (log 17); the statuses of residuals that end and of a failed output write (log 25); which residual descriptors
count as dropped (log 89). -/
def Obligations.SparsePhasesFollow : Prop :=
  (∀ (s : State) (b t : Nat) (ps : List (Nat × Nat)), Ready s b → s.blk.scanning b = some t →
    let v := s.blk.tracker b t
    let src := memRead s.env.mem b v.desc.sa v.desc.len
    let len := (storeBytes v.desc.opx src).length
    (storeBlocks v.desc.opx src).all (fun x => !x.1.dense) = true → storeSplit s.env.mem b v.desc = some ps →
    Gives (.compressScanDone b) s
      (((s.blk.countSparse b 16 (((storeBlocks v.desc.opx src).map fun x => x.1.dropped).sum)).setTracker b t
        { v with pcount := ps.length, data := src, desc := { v.desc with len := len } }).issue s.env b t)) ∧
  (∀ (s : State) (b t : Nat), Ready s b → s.blk.gatherTurn b = some t → (s.blk.job b t).phase = .fetch →
    (s.blk.job b t).started = true → (s.blk.tracker b t).stop = false →
    (s.blk.job b t).nFetch ≤ (s.blk.tracker b t).issued →
    ((s.blk.job b t).mw = false ∨ waitMet (s.blk.counter b (s.blk.job b t).mcnt) (s.blk.job b t).mval = true) →
    let j := s.blk.job b t
    Gives (.mergePhaseStart b) s
      ((s.blk.setJob b t { j with
        phase := .arrays
        reqs := j.reqs ++
          ((splitStream j.abase (16 * ceilDiv j.nrows 64)).getD []).map fun x => (j.abase + x.1, x.2, none) }).issue
            s.env b t)) ∧
  (∀ (s : State) (b t : Nat), Ready s b → s.blk.gatherTurn b = some t → (s.blk.job b t).phase = .fetch →
    (s.blk.job b t).mw = true → (s.blk.job b t).started = true → (s.blk.job b t).nFetch ≤ (s.blk.tracker b t).issued →
    Gives (.mergeWaitTimeout b) s
      ((((s.blk.setJob b t { s.blk.job b t with mergeOver := true }).mapTracker b t fun v =>
        { v with status := worse v.status stTimeout }).checkGather b t).pumpGathers s.env b)) ∧
  (∀ (s : State) (b t : Nat) (w : WaitSend) (r : List WaitSend), Ready s b → s.blk.waits b = w :: r →
    w.who = .residual t → s.blk.chanAccepts b w.chan = true →
    Gives (.residualPost b) s
      ((((s.blk.setWaits b r).acceptMsg s.env.build b w.chan (.residual t) w.data w.addr).resumePosting
        s.env.build b).pumpGathers s.env b)) ∧
  (∀ (s : State) (b : Nat), Ready s b → s.blk.waits b = [] →
    Gives (.residualPost b) s ((s.blk.resumePosting s.env.build b).pumpGathers s.env b)) ∧
  (∀ (k : Block) (d : Build) (b t n : Nat) (m : List Byte) (r : List (List Byte)),
    (k.job b t).posts = m :: r → k.chanOn b (k.job b t).chan = true → (k.chan b (k.job b t).chan).st ≠ .closed →
    ((k.waits b).any fun w => w.chan == (k.job b t).chan) = true →
    k.residHeld b (k.job b t).rpart < k.residCapacity b (k.job b t).rpart →
    k.postResiduals d b t (n + 1) = ((k.setJob b t { k.job b t with posts := r }).setWaits b
      (k.waits b ++ [{ chan := (k.job b t).chan, who := .residual t, data := m, addr := 0 }])).postResiduals d b t n) ∧
  (∀ (s : State) (b t : Nat), Ready s b → s.blk.gatherTurn b = some t → (s.blk.job b t).posts ≠ [] →
    Gives (.residualPauseExpiry b) s ((s.blk.stopPosting b t stWouldBlock).pumpGathers s.env b))

/-! ### Placement (R385 to R415) -/

/-- START, END, RESERVE and RELEASE at a root (R155, R396, R397): a new request is served once, and its answer
remembered; a second arrival of it gets the stored answer and changes nothing else; one that meets a full request
store is counted and discarded (whose entries are the answers not yet started, the model's reading, log 72). RESERVE
takes a pooled frame; firmware's write of its FCLK applies after it (R410). PREPARE, CANCEL, INSTALL, REFRESH and
REPORT at a slice (R397, R398, R402). Of the model, not of the spec: the corners of the directory protocol that the
log lists (log 26); a DIRREQ of a reserved or misplaced OP is ILLEGAL (log 91). -/
def Obligations.RootsAndSlicesServeMoves : Prop :=
  (∀ (s : State) (b c op : Nat) (p : Packet) (r : List Packet) (x : DirSeen) (i : Instr), Ready s b →
    (c, op, i) ∈ [(4, 1, .startMove b), (4, 2, .endMove b), (4, 3, .reserve b), (4, 4, .release b), (3, 5, .prepare b),
      (3, 6, .cancel b), (3, 7, .install b), (4, 8, .movePage b), (3, 9, .report b), (4, 0xA, .flip b),
      (3, 0xB, Instr.refresh b)] →
    s.blk.headGood b c c p r → p.op = opDirReq → natAt p.payload 0 1 = op → s.blk.answering s.env.build b c opDirResp < dirDepth →
    (look [] s.blk.gpd.seen (b * 8 + c)).find? (fun x => x.src == p.src && x.trk == p.tracker) = some x →
    Gives i s ((s.blk.setRx b c r).sendDirect s.env.build b
      { (s.blk.setRx b c r).response s.env.build b c opDirResp 5 0 p with
        group := 0, cseq := 0, payload := x.answer })) ∧
  (∀ (s : State) (b c op : Nat) (p : Packet) (r : List Packet) (i : Instr), Ready s b →
    (c, op, i) ∈ [(4, 1, .startMove b), (4, 2, .endMove b), (4, 3, .reserve b), (4, 4, .release b), (3, 5, .prepare b),
      (3, 6, .cancel b), (3, 7, .install b), (4, 8, .movePage b), (3, 9, .report b), (4, 0xA, .flip b),
      (3, 0xB, Instr.refresh b)] →
    s.blk.headGood b c c p r → p.op = opDirReq → natAt p.payload 0 1 = op → dirDepth ≤ s.blk.answering s.env.build b c opDirResp →
    Gives i s ((s.blk.setRx b c r).bump .SHW_ERR 31 16 b)) ∧
  (∀ (s : State) (p : Packet) (r : List Packet), Ready s 0 → s.blk.dirNew s.env.build 0 4 1 p r →
    flag (s.blk.reg .PLC_POL) 63 = true → s.blk.gpd.active.length < s.blk.rf .PLC_POL 43 40 0 → s.blk.gpd.lastGrant = none →
    s.blk.img.st = .running →
    let k := s.blk.setRx 0 4 r
    Gives (.startMove 0) s
      (({ k with gpd.active := k.gpd.active ++ [p.src], gpd.lastGrant := some k.clk.course } : Block).dirReply s.env.build 0 4
        (look [] s.blk.gpd.seen 4) p dirOk (dirMid p))) ∧
  (∀ (s : State) (b : Nat) (p : Packet) (r : List Packet), Ready s b → s.blk.dirNew s.env.build b 4 1 p r →
    (flag (s.blk.reg .PLC_POL) 63 = false ∨ s.blk.rf .PLC_POL 43 40 0 ≤ s.blk.gpd.active.length ∨ s.blk.img.st = .checking ∨
      s.blk.img.st = .checked ∨ s.blk.img.st = .quiescing ∨ s.blk.img.st = .writing ∨
      ∃ g, s.blk.gpd.lastGrant = some g ∧ s.blk.clk.course < g + s.blk.rf .PLC_POL 55 48 0) →
    Gives (.startMove b) s
      ((s.blk.setRx b 4 r).dirReply s.env.build b 4 (look [] s.blk.gpd.seen (b * 8 + 4)) p dirRefused (dirMid p))) ∧
  (∀ (s : State) (b : Nat) (p : Packet) (r : List Packet), Ready s b → s.blk.dirNew s.env.build b 4 2 p r →
    let k := s.blk.setRx b 4 r
    Gives (.endMove b) s (({ k with gpd.active := k.gpd.active.erase p.src } : Block).dirReply s.env.build b 4
      (look [] s.blk.gpd.seen (b * 8 + 4)) p dirOk (dirMid p))) ∧
  (∀ (s : State) (b i : Nat) (p : Packet) (r : List Packet), Ready s b → s.blk.dirNew s.env.build b 4 3 p r →
    findBelow 64 (fun i => flag (s.blk.pooledFrame i) 63) = some i →
    let k := s.blk.setRx b 4 r
    let w := s.blk.pooledFrame i
    Gives (.reserve b) s ((k.takeFrame i).dirReply s.env.build b 4
      (look [] s.blk.gpd.seen (b * 8 + 4)) p dirOk (leBytes 4 (fld w 26 0) ++ leBytes 4 (coord s.env.build (fld w 34 27) 0)))) ∧
  (∀ (s : State) (b : Nat) (p : Packet) (r : List Packet), Ready s b → s.blk.dirNew s.env.build b 4 3 p r →
    findBelow 64 (fun i => flag (s.blk.pooledFrame i) 63) = none →
    Gives (.reserve b) s (((s.blk.setRx b 4 r).bump .PLC_STAT 31 16 0).dirReply s.env.build b 4
      (look [] s.blk.gpd.seen (b * 8 + 4)) p dirRefused (dirMid p))) ∧
  (∀ (s : State) (b i : Nat) (p : Packet) (r : List Packet), Ready s b → s.blk.dirNew s.env.build b 4 4 p r →
    findBelow 64 (fun i => !flag (s.blk.reg .PLC_FRAME 0 [i]) 63) = some i →
    Gives (.release b) s (((s.blk.setRx b 4 r).setReg .PLC_FRAME 0 [i]
      (mkWord [(63, 1), (27, cBrick (dirCoord p.payload)), (0, dirFrame p.payload)])).dirReply s.env.build b 4
        (look [] s.blk.gpd.seen (b * 8 + 4)) p dirOk (dirMid p))) ∧
  (∀ (k : Block) (i : Nat), (look ((0 : Nat), (0 : Word)) k.gpd.frameOld i).1 ≠ k.clk.now + 1 →
    k.pooledFrame i = k.reg .PLC_FRAME 0 [i] ∧ k.takeFrame i = k.setRf .PLC_FRAME 63 63 0 [i] 0) ∧
  (∀ (k : Block) (i j : Nat) (v : Word), i < 64 → j < 64 →
    (k.writeFrame i v).pooledFrame j = k.pooledFrame j ∧
    ((k.writeFrame i v).takeFrame i).reg .PLC_FRAME 0 [i] = (k.applyWrite .PLC_FRAME 0 [i] v).reg .PLC_FRAME 0 [i]) ∧
  (∀ (s : State) (b i : Nat) (p : Packet) (r : List Packet), Ready s b → s.blk.dirNew s.env.build b 3 5 p r →
    s.blk.pageEntry b p.addr = none → s.blk.findEntry b (pageOf p.addr) = none →
    findBelow 2048 (fun i => !(s.blk.gpdEntry b i).v) = some i →
    let v : GpdEntry :=
      { v := true, st := .moving, base := pageOf p.addr, home := dirCoord p.payload, epoch := dirEpoch p.payload }
    Gives (.prepare b) s (((s.blk.setRx b 3 r).setGpd b i v).dirReply s.env.build b 3
      (look [] s.blk.gpd.seen (b * 8 + 3)) p dirOk (dirMid p))) ∧
  (∀ (s : State) (b i : Nat) (p : Packet) (r : List Packet), Ready s b → s.blk.dirNew s.env.build b 3 5 p r →
    s.blk.pageEntry b p.addr = none → s.blk.findEntry b (pageOf p.addr) = some i →
    Gives (.prepare b) s ((s.blk.setRx b 3 r).dirReply s.env.build b 3
      (look [] s.blk.gpd.seen (b * 8 + 3)) p dirRefused (dirMid p))) ∧
  (∀ (s : State) (b i : Nat) (p : Packet) (r : List Packet), Ready s b → s.blk.dirNew s.env.build b 3 6 p r →
    s.blk.pageEntry b p.addr = some i → (s.blk.gpdEntry b i).st = .moving →
    Gives (.cancel b) s (((s.blk.setRx b 3 r).setGpd b i { s.blk.gpdEntry b i with st := .home }).dirReply
      s.env.build b 3 (look [] s.blk.gpd.seen (b * 8 + 3)) p dirOk (dirMid p))) ∧
  (∀ (s : State) (b i : Nat) (p : Packet) (r : List Packet), Ready s b → s.blk.dirNew s.env.build b 3 7 p r →
    s.blk.pageEntry b p.addr = some i →
    let v : GpdEntry := { s.blk.gpdEntry b i with
      st := .home, home := dirCoord p.payload, frame := dirFrame p.payload, epoch := dirEpoch p.payload
      total := 0, heat := [], age := 0 }
    Gives (.install b) s (((s.blk.setRx b 3 r).setGpd b i v).dirReply s.env.build b 3
      (look [] s.blk.gpd.seen (b * 8 + 3)) p dirOk (dirMid p))) ∧
  (∀ (s : State) (b : Nat) (p : Packet) (r : List Packet), Ready s b → s.blk.dirNew s.env.build b 3 7 p r →
    s.blk.pageEntry b p.addr = none →
    Gives (.install b) s ((s.blk.setRx b 3 r).dirReply s.env.build b 3 (look [] s.blk.gpd.seen (b * 8 + 3)) p dirRefused
      (dirMid p))) ∧
  (∀ (s : State) (b i : Nat) (p : Packet) (r : List Packet), Ready s b → s.blk.dirNew s.env.build b 3 0xB p r →
    findBelow 2048 (fun i => (s.blk.gpdEntry b i).v && (s.blk.gpdEntry b i).base == pageOf p.addr) = some i →
    (s.blk.gpdEntry b i).isHome s.env.build = false → (s.blk.gpdEntry b i).st = .home →
    epochNewer (dirEpoch p.payload) (s.blk.gpdEntry b i).epoch = true →
    Gives (.refresh b) s ((((s.blk.setRx b 3 r).setGpd b i { s.blk.gpdEntry b i with
      home := dirCoord p.payload, epoch := dirEpoch p.payload }).bump .GPD_ERR 31 16 b).dirReply s.env.build b 3
        (look [] s.blk.gpd.seen (b * 8 + 3)) p dirOk (dirMid p))) ∧
  (∀ (s : State) (b : Nat) (c : Coordinator) (p : Packet) (r : List Packet), Ready s b → s.blk.dirNew s.env.build b 3 9 p r →
    look none s.blk.gpd.coord b = some c → c.step = .report →
    (s.blk.gpdEntry b c.entry).holds (pageOf p.addr) = true →
    Gives (.report b) s (((s.blk.setRx b 3 r).coordReport s.env b c (natAt p.payload 1 1 == dirOk)).dirReply s.env.build
      b 3 (look [] s.blk.gpd.seen (b * 8 + 3)) p dirOk (dirMid p)))

/-- MOVE, FLIP, COPY_ROUND_DONE, FORWARD_LEASE_EXPIRY, LOGWAIT_RELEASE and ENTRY_LEASE_EXPIRY (R397 to R401): a page
leaves its old home in rounds of chunks, is forwarded for a lease, and its frame enters the log. A command that is not
enabled leaves the block as it is (the model's choice, log 6). A timer's command says itself that the bound is reached
(the model's choice, log 5). Of the model, not of the spec: placement's own packets name EP 1 (log 24); the corners of
the directory protocol that the log lists (log 26); a move waits for accesses underway to the old frame (log 76). -/
def Obligations.OldHomesMoveTheirPages : Prop :=
  (∀ (s : State) (b i : Nat) (p : Packet) (r : List Packet), Ready s b → s.blk.dirNew s.env.build b 4 8 p r →
    findBelow 4 (fun r => (s.blk.moveRec b r).st == .free) = some i →
    let v : MoveRec :=
      { st := .copy, addr := p.addr / 2 ^ 21 * 2 ^ 21, frame := dirFrame p.payload
        nframe := natAt p.payload 16 4 % 2 ^ 27, newHome := dirCoord p.payload, coordTo := p.src / 8 * 8 + 3
        dirty := 2 ^ 32 - 1, todo := List.range 32 }
    Gives (.movePage b) s ((((s.blk.setRx b 4 r).setRec b i v).pumpChunks s.env b i 4).dirReply s.env.build b 4
      (look [] s.blk.gpd.seen (b * 8 + 4)) p dirOk (dirMid p))) ∧
  (∀ (s : State) (b i : Nat) (p : Packet) (r : List Packet), Ready s b → s.blk.dirNew s.env.build b 4 0xA p r →
    findBelow 4 (fun r => (s.blk.moveRec b r).st == .forward && (s.blk.moveRec b r).addr / 2 ^ 21 == p.addr / 2 ^ 21) =
      some i →
    Gives (.flip b) s (((s.blk.setRx b 4 r).setRec b i { s.blk.moveRec b i with flipped := true }).dirReply
      s.env.build b 4 (look [] s.blk.gpd.seen (b * 8 + 4)) p dirOk (dirMid p))) ∧
  (∀ (s : State) (b r : Nat), Ready s b → r < 4 → (s.blk.moveRec b r).st = .copy → (s.blk.moveRec b r).todo = [] →
    (s.blk.moveRec b r).flight = [] → (s.blk.moveRec b r).dirty = 0 →
    s.blk.frameBusy b (s.blk.moveRec b r).frame = true → Gives (.copyRoundDone b r) s s.blk) ∧
  (∀ (s : State) (b r : Nat), Ready s b → r < 4 → (s.blk.moveRec b r).st = .copy → (s.blk.moveRec b r).todo = [] →
    (s.blk.moveRec b r).flight = [] → (s.blk.moveRec b r).dirty = 0 →
    s.blk.frameBusy b (s.blk.moveRec b r).frame = false →
    Gives (.copyRoundDone b r) s ((s.blk.setRec b r { s.blk.moveRec b r with st := .forward }).sendReport s.env b
      (s.blk.moveRec b r) dirOk)) ∧
  (∀ (s : State) (b r : Nat), Ready s b → r < 4 → (s.blk.moveRec b r).st = .copy → (s.blk.moveRec b r).todo = [] →
    (s.blk.moveRec b r).flight = [] → (s.blk.moveRec b r).dirty ≠ 0 →
    s.blk.rf .PLC_POL 59 56 0 ≤ (s.blk.moveRec b r).round →
    Gives (.copyRoundDone b r) s ((s.blk.setRec b r {}).sendReport s.env b (s.blk.moveRec b r) dirAborted)) ∧
  (∀ (s : State) (b r : Nat), Ready s b → r < 4 → (s.blk.moveRec b r).st = .copy → (s.blk.moveRec b r).todo = [] →
    (s.blk.moveRec b r).flight = [] → (s.blk.moveRec b r).dirty ≠ 0 →
    (s.blk.moveRec b r).round < s.blk.rf .PLC_POL 59 56 0 →
    Gives (.copyRoundDone b r) s ((s.blk.setRec b r { s.blk.moveRec b r with
      round := (s.blk.moveRec b r).round + 1
      todo := (List.range 32).filter fun c => (s.blk.moveRec b r).dirty.testBit c }).pumpChunks s.env b r 4)) ∧
  (∀ (s : State) (b r : Nat), Ready s b → r < 4 → (s.blk.moveRec b r).st = .forward →
    (s.blk.moveRec b r).flipped = true → s.blk.gpd.log.length < 64 →
    Completes (.forwardLeaseExpiry b r) s fun k => k = (({ s.blk with gpd.log := k.gpd.log } : Block)).setRec b r {} ∧
      k.moveRec b r = {} ∧
      k.gpd.log = s.blk.gpd.log ++ [(b, (s.blk.moveRec b r).frame)]) ∧
  (∀ (s : State) (b r : Nat), Ready s b → r < 4 → (s.blk.moveRec b r).st = .forward →
    (s.blk.moveRec b r).flipped = true → s.blk.gpd.log.length = 64 →
    Completes (.forwardLeaseExpiry b r) s fun k => k = s.blk.setRec b r { s.blk.moveRec b r with st := .logwait } ∧
      (k.moveRec b r).st = .logwait ∧ k.gpd.log = s.blk.gpd.log) ∧
  (∀ (s : State) (b r : Nat), Ready s b → r < 4 → (s.blk.moveRec b r).st = .logwait → s.blk.gpd.log.length < 64 →
    Completes (.logwaitRelease b r) s fun k => k = (({ s.blk with gpd.log := k.gpd.log } : Block)).setRec b r {} ∧
      k.moveRec b r = {} ∧
      k.gpd.log = s.blk.gpd.log ++ [(b, (s.blk.moveRec b r).frame)]) ∧
  (∀ (s : State) (b i : Nat), Ready s b → i < 2048 → (s.blk.gpdEntry b i).st = .forwarding →
    Completes (.entryLeaseExpiry b i) s fun k => k = s.blk.setGpd b i (k.gpdEntry b i) ∧
      k.gpdEntry b i = { s.blk.gpdEntry b i with st := .home } ∧
      ∀ j, j ≠ i → k.gpdEntry b j = s.blk.gpdEntry b j) ∧
  (∀ (s : State) (b : Nat) (v : Word), Ready s b →
    s.blk.crosses .managementPort = true → s.blk.rf .GPD_SEL 13 11 b = 2 →
    let i := s.blk.rf .GPD_SEL 10 0 b
    let x := gpdOfWords (look (0, 0) s.blk.gpd.staged b).1 (look (0, 0) s.blk.gpd.staged b).2 v
    (s.blk.gpdEntry b i).st ≠ .moving → x.st ≠ .moving → x.st ≠ .forwarding →
    Completes (.gpdCommit b v) s fun k =>
      k = ({ s.blk.setGpd b i x with gpd.entryOld := k.gpd.entryOld } : Block).answerWrite b .mp ∧
      k.gpdEntry b i = x ∧ (∀ c j, k.seenEntry c j = s.blk.seenEntry c j) ∧ x.age = 255 ∧ x.heat = [] ∧ x.total = 0) ∧
  (∀ (s : State) (b : Nat) (v : Word), Ready s b →
    s.blk.crosses .managementPort = true → s.blk.rf .GPD_SEL 13 11 b = 2 →
    (s.blk.gpdEntry b (s.blk.rf .GPD_SEL 10 0 b)).st = .moving →
    Gives (.gpdCommit b v) s (s.blk.lockVio.answerWrite b .mp)) ∧
  (∀ (s : State) (b f : Nat) (r : List (Nat × Nat)), s.blk.held = false →
    s.blk.crosses .managementPort = true → s.blk.gpd.log = (b, f) :: r →
    Completes .plcLogPop s fun k => k = { s.blk with gpd.log := r, out := k.out } ∧
      k.gpd.log = r ∧
      k.out = s.blk.out ++ [.mp (mkWord [(63, 1), (55, b), (0, f)]) false]) ∧
  (∀ (s : State), s.blk.held = false → s.blk.crosses .managementPort = true → s.blk.gpd.log = [] →
    Completes .plcLogPop s fun k => k = { s.blk with out := k.out } ∧
      k.gpd.log = [] ∧ k.out = s.blk.out ++ [.mp 0 false])

/-- DIRECTORY_LOOKUP (R390, R392, R402, R404), whose lookup finds an entry as it was before a commit of its FCLK: a
packet for a page with no entry is answered DIR_MISS; at a pinned home it goes on with its local address, at another
home with its frame; for a page of another die it is forwarded there once. PLACEMENT_EVALUATION and DIRRESP (R394,
R395, R398): at a slice's interval boundary the best candidate asks its own root to start and heat halves; an answer
advances the move. Of the model, not of the spec: placement's own packets name EP 1 (log 24); the corners of the
directory protocol that the log lists (log 26). -/
def Obligations.DirectoryAndCoordinators : Prop :=
  (∀ (s : State) (b : Nat) (p : Packet) (r : List Packet), Ready s b → s.blk.headGood b 3 3 p r → p.rmode ≠ 2 →
    (p.op = opReadReq ∨ p.op = opWrite ∨ (p.op = opMessage ∧ p.steer = true)) →
    Gives (.directoryLookup b) s ((s.blk.setRx b 3 r).lookupDirectory s.env b p)) ∧
  (∀ (k : Block) (e : Env) (b : Nat) (p : Packet), k.lookupEntry b (pageOf p.addr) = none →
    k.lookupDirectory e b p = ((k.answerError e.build b p stDirMiss).postEvent b
      { type := 6, status := stDirMiss, arg1 := p.addr }).bump .GPD_ERR 63 48 b) ∧
  (∀ (k : Block) (e : Env) (b i : Nat) (p : Packet), k.lookupEntry b (pageOf p.addr) = some i → p.op ≠ opMessage →
    (k.seenEntry b i).isHome e.build = true → (k.seenEntry b i).st = .pinned →
    k.lookupDirectory e b p = k.sliceForward e.build b { p with dst := (k.seenEntry b i).home, addr := p.addr % 2 ^ 48 }) ∧
  (∀ (k : Block) (e : Env) (b i : Nat) (p : Packet), k.lookupEntry b (pageOf p.addr) = some i → p.op ≠ opMessage →
    (k.seenEntry b i).isHome e.build = true → (k.seenEntry b i).st = .moving →
    k.lookupDirectory e b p = k.sliceForward e.build b { p with
      addr := (k.seenEntry b i).frame * 2 ^ 21 + (p.addr - (k.seenEntry b i).base * 2 ^ 21)
      dst := (k.seenEntry b i).home }) ∧
  (∀ (k : Block) (e : Env) (b i : Nat) (p : Packet), k.lookupEntry b (pageOf p.addr) = some i →
    (k.seenEntry b i).isHome e.build = false → p.moved = true →
    k.lookupDirectory e b p = (k.answerError e.build b p stNoRoute).bump .GPD_ERR 47 32 b) ∧
  (∀ (k : Block) (e : Env) (b i : Nat) (p : Packet), k.lookupEntry b (pageOf p.addr) = some i →
    (k.seenEntry b i).isHome e.build = false → p.moved = false → onDie e.build p.src = true →
    k.lookupDirectory e b p = k.sliceForward e.build b { p with dst := dieCoord (dieOf (k.seenEntry b i).home) 3 }) ∧
  (∀ (k : Block) (e : Env) (b i : Nat) (p : Packet), k.lookupEntry b (pageOf p.addr) = some i →
    (k.seenEntry b i).isHome e.build = false → p.moved = false → onDie e.build p.src = false →
    let v := k.seenEntry b i
    k.lookupDirectory e b p = (k.sliceForward e.build b { p with
      moved := true, hint := v.home, dst := dieCoord (dieOf v.home) 3 }).sendRefresh e b p.src p.addr v) ∧
  (∀ (k : Block) (e : Env) (b src addr : Nat) (v : GpdEntry),
    (look [] k.gpd.refreshed b).contains (dieOf src, pageOf addr) = true →
    (k.sendRefresh e b src addr v).xfr = k.xfr ∧ (k.sendRefresh e b src addr v).net = k.net) ∧
  (∀ (k : Block) (e : Env) (b src addr : Nat) (v : GpdEntry),
    (look [] k.gpd.refreshed b).contains (dieOf src, pageOf addr) = false →
    let c := (look [] k.gpd.refreshed b).filter (· != (dieOf src, pageOf addr)) ++ [(dieOf src, pageOf addr)]
    k.sendRefresh e b src addr v =
      (({ k with gpd.refreshed := put [] k.gpd.refreshed b (c.drop (c.length - 16)) } : Block).ask e b
        (dieCoord (dieOf src) 3) (addr / 2 ^ 21 * 2 ^ 21) (dirBody 0xB 0 0 v.home v.epoch 0)).2) ∧
  (∀ (k : Block) (e : Env) (b i : Nat) (p : Packet), k.lookupEntry b (pageOf p.addr) = some i → p.op = opMessage →
    (k.seenEntry b i).isHome e.build = true →
    k.lookupDirectory e b p = (k.countHeat b i p.src).steer e.build b (k.seenEntry b i) p) ∧
  (∀ (k : Block) (e : Env) (b i : Nat) (p : Packet), k.lookupEntry b (pageOf p.addr) = some i → p.op ≠ opMessage →
    (k.seenEntry b i).isHome e.build = true → (k.seenEntry b i).st = .home →
    k.lookupDirectory e b p = (k.countHeat b i p.src).sliceForward e.build b { p with
      addr := (k.seenEntry b i).frame * 2 ^ 21 + (p.addr - (k.seenEntry b i).base * 2 ^ 21)
      dst := (k.seenEntry b i).home }) ∧
  (∀ (k : Block) (b i src : Nat), (k.gpdEntry b i).st = .home →
    k.countHeat b i src = k.setGpd b i ((k.gpdEntry b i).access (dieOf src))) ∧
  (∀ (k : Block) (b i src : Nat), (k.gpdEntry b i).st ≠ .home → k.countHeat b i src = k) ∧
  (∀ (k : Block) (b i page : Nat), k.lookupEntry b page = some i → (k.seenEntry b i).v = true ∧
    (k.seenEntry b i).base ≤ page ∧ page ≤ (k.seenEntry b i).base + (k.seenEntry b i).lenm1) ∧
  (∀ (s : State) (b : Nat), Ready s b → s.blk.isolated b = false →
    (s.blk.clk.course + b) % max 1 (s.blk.rf .PLC_POL 39 32 0 * 16) = 0 → look none s.blk.gpd.coord b = none →
    s.blk.candidates s.env.build b = [] →
    Completes (.placementEvaluation b) s fun k => k = { s.blk with gpd.entry := k.gpd.entry } ∧
      k.gpd.coord = s.blk.gpd.coord ∧ k.xfr = s.blk.xfr ∧
      (∀ c i, c ≠ b → i < 2048 → k.gpdEntry c i = s.blk.gpdEntry c i) ∧
      ∀ i, i < 2048 →
        (k.gpdEntry b i).total = (s.blk.gpdEntry b i).total / 2 ∧
        (k.gpdEntry b i).heat = (s.blk.gpdEntry b i).heat.map (fun x => (x.1, x.2 / 2)) ∧
        (k.gpdEntry b i).age = satAdd 255 (s.blk.gpdEntry b i).age 1) ∧
  (∀ (s : State) (b : Nat) (x : Nat × Nat × Nat), Ready s b → s.blk.isolated b = false →
    (s.blk.clk.course + b) % max 1 (s.blk.rf .PLC_POL 39 32 0 * 16) = 0 → look none s.blk.gpd.coord b = none →
    x ∈ s.blk.candidates s.env.build b →
    (∀ y, y ∈ s.blk.candidates s.env.build b → y.2.1 < x.2.1 ∨ (y.2.1 = x.2.1 ∧ x.1 ≤ y.1)) →
    (flag (s.blk.reg .PLC_POL) 63 = true → Gives (.placementEvaluation b) s
      ((s.blk.coordAsk s.env b { entry := x.1, die := x.2.2 } (rootCoord s.env.build) (dirBody 1 0 0 0 0 0)).coolSlice b)) ∧
    (flag (s.blk.reg .PLC_POL) 63 = false → Gives (.placementEvaluation b) s (s.blk.coolSlice b))) ∧
  (∀ (s : State) (b : Nat) (c : Coordinator), Ready s b → s.blk.isolated b = false →
    (s.blk.clk.course + b) % max 1 (s.blk.rf .PLC_POL 39 32 0 * 16) = 0 → look none s.blk.gpd.coord b = some c →
    (c.step ≠ .installAgain → Gives (.placementEvaluation b) s (s.blk.coolSlice b)) ∧
    (c.step = .installAgain → Gives (.placementEvaluation b) s ((s.blk.sendInstall s.env b c).coolSlice b))) ∧
  (∀ (k : Block) (d : Build) (b i n die : Nat), (i, n, die) ∈ k.candidates d b →
    i < 2048 ∧ (k.gpdEntry b i).v = true ∧ (k.gpdEntry b i).st = .home ∧ (k.gpdEntry b i).lenm1 = 0 ∧
    k.rf .PLC_TIME 23 16 0 ≤ (k.gpdEntry b i).age ∧ n = (k.gpdEntry b i).total ∧ k.rf .PLC_POL 31 16 0 ≤ n ∧
    die ≠ dieOf (coord d 0 0) ∧
    ((k.gpdEntry b i).heat.any fun y => y.1 == die && decide (k.rf .PLC_POL 7 0 0 * n < y.2 * 256)) = true) ∧
  (∀ (s : State) (b : Nat) (c : Coordinator) (p : Packet) (r : List Packet), Ready s b → s.blk.headGood b 0 1 p r →
    p.op = opDirResp → look none s.blk.gpd.coord b = some c → c.trk = some (p.tracker % 1024) →
    let t := p.tracker % 1024
    let v := s.blk.tracker b t
    v.st = .source → v.op = .dirreq → p.pcount = v.pcount →
    let k : Block := { s.blk.setRx b 0 r with gpd.coord := put none s.blk.gpd.coord b (some { c with trk := none }) }
    Gives (.dirresp b) s
      (((k.setTracker b t { v.acknowledge [0] with done := 1 }).completeTracker b t stOk).coordAnswer s.env b
        { c with trk := none } (natAt p.payload 1 1 == dirOk) (dirFrame p.payload) (dirCoord p.payload))) ∧
  (∀ (k : Block) (e : Env) (b : Nat) (c : Coordinator) (f x : Nat), c.step = .start →
    k.coordAnswer e b c false f x = k.endMove e b c) ∧
  (∀ (k : Block) (e : Env) (b : Nat) (c : Coordinator) (f x : Nat), c.step = .start →
    k.coordAnswer e b c true f x =
      k.coordAsk e b { c with step := .reserve } (dieCoord c.die 4) (dirBody 3 0 0 0 0 0)) ∧
  (∀ (k : Block) (e : Env) (b : Nat) (c : Coordinator) (f x : Nat), c.step = .reserve →
    let v := k.gpdEntry b c.entry
    k.coordAnswer e b c false f x = k.endMove e b c ∧
    k.coordAnswer e b c true f x =
      k.coordAsk e b { c with step := .prepare, frame := f, newHome := x, oldHome := v.home, oldFrame := v.frame }
        (dieCoord c.die 3) (dirBody 5 0 0 v.home v.epoch 0)) ∧
  (∀ (k : Block) (e : Env) (b : Nat) (c : Coordinator) (f x : Nat), c.step = .prepare →
    k.coordAnswer e b c false f x = (k.releaseFrame e b c).endMove e b c ∧
    k.coordAnswer e b c true f x =
      (k.entryState b c.entry .moving).coordAsk e b { c with step := .move } (c.oldHome / 8 * 8 + 4)
        (dirBody 8 0 c.oldFrame c.newHome 0 c.frame)) ∧
  (∀ (k : Block) (e : Env) (b : Nat) (c : Coordinator) (f x : Nat), c.step = .move → c.early = none →
    k.coordAnswer e b c false f x =
      (((k.cancelEntry e b c).releaseFrame e b c).entryState b c.entry .home).endMove e b c ∧
    k.coordAnswer e b c true f x =
      { k with gpd.coord := put none k.gpd.coord b (some { c with step := .report, trk := none }) }) ∧
  (∀ (k : Block) (e : Env) (b : Nat) (c : Coordinator) (f x : Nat), c.step = .install →
    let v := k.gpdEntry b c.entry
    k.coordAnswer e b c false f x =
      { k with gpd.coord := put none k.gpd.coord b (some { c with step := .installAgain, trk := none }) } ∧
    k.coordAnswer e b c true f x =
      (((k.setGpd b c.entry { v with
        home := c.newHome, frame := 0, epoch := (v.epoch + 1) % 2 ^ 16, st := .forwarding }).tell e b c.entry
          (c.oldHome / 8 * 8 + 4) (dirBody 0xA 0 0 0 0 0)).bump .PLC_STAT 63 48 0).endMove e b c) ∧
  (∀ (v : GpdEntry) (die : Nat), v.heat.length ≤ 4 → (v.access die).heat.length = 4 ∧
    (v.access die).total = min (v.total + 1) 65535)

/-! ### The loader (R54 to R71, R585) and the route tables (R165 to R201) -/

/-- IMAGE_CHECK, IMAGE_DATA, IN_BAND_SECTION and IMAGE_ABORT (R59, R60, R67 to R69): bytes gather in the check pass
and are judged at their end; a failure is reported by its lowest code; an abort goes back to the state before the
check. A command that is not enabled leaves the block as it is (the model's choice, log 6). Of the model, not of the
spec: what a loader command does in each STATE (log 43); the moment and the order of the checks (log 44); in-band
sections come in the image's order, and what holds a write back (log 49); when the error fields clear, and where ABORT
returns after a second check (log 104); IN_BAND_SECTION brings the bytes alone (log 112). -/
def Obligations.CheckPassJudgesTheImage : Prop :=
  (∀ (s : State), s.blk.held = false →
    s.blk.crosses .managementPort = true → s.blk.img.st ≠ .checking → s.blk.img.st ≠ .quiescing → s.blk.img.st ≠ .writing →
    Completes .imageCheck s fun k => k = (({ s.blk with img := k.img } : Block)).answerWrite 0 .mp ∧
      k.img.st = .checking ∧ k.img.cur = [] ∧ k.img.checked = [] ∧ k.img.err = 0 ∧
      k.img.errSec = 0 ∧ k.img.errBrick = 0 ∧ k.img.run = s.blk.img.run ∧ k.prog = s.blk.prog ∧
      (k.img.prev = if s.blk.img.st = .checked ∨ s.blk.img.st = .rejected then s.blk.img.prev else s.blk.img.st)) ∧
  (∀ (s : State), s.blk.held = false →
    s.blk.crosses .managementPort = true → (s.blk.img.st = .checked ∨ s.blk.img.st = .rejected ∨ s.blk.img.st = .checking) →
    Completes .imageAbort s fun k => k = (({ s.blk with img := k.img } : Block)).answerWrite 0 .mp ∧
      k.img.st = s.blk.img.prev ∧ k.img.cur = [] ∧ k.img.checked = [] ∧
      k.net = s.blk.net ∧ k.prog = s.blk.prog ∧ k.rdc = s.blk.rdc) ∧
  (∀ (s : State) (v : Word), s.blk.held = false → s.blk.crosses .managementPort = true → s.blk.img.st = .checking →
    s.blk.img.cur.length + 8 < 64 →
    Completes (.imageData v) s fun k => k = (({ s.blk with img := k.img } : Block)).answerWrite 0 .mp ∧
      k.img.st = .checking ∧ k.img.cur = s.blk.img.cur ++ leBytes 8 v.toNat ∧
      k.net = s.blk.net ∧ k.prog = s.blk.prog ∧ k.rdc = s.blk.rdc) ∧
  (∀ (s : State) (v : Word), s.blk.held = false → s.blk.crosses .managementPort = true → s.blk.img.st = .checking →
    let img := s.blk.img.cur ++ leBytes 8 v.toNat
    64 ≤ img.length → (headerCodes s.env.build img ≠ [] ∨ imgLength img ≤ img.length) →
    ∀ code sec brick, checkImage s.env.build (s.blk.rf .GPD_CTL 4 0) (s.blk.anyIdle s.env.build) img =
      some (code, sec, brick) →
    Completes (.imageData v) s fun k => k = ((({ s.blk with img := k.img } : Block)).irq 4).answerWrite 0 .mp ∧
      k.img.st = .rejected ∧ k.img.err = code ∧ k.img.errSec = sec ∧
      k.img.errBrick = brick ∧ k.net = s.blk.net ∧ k.prog = s.blk.prog ∧ k.rdc = s.blk.rdc) ∧
  (∀ (s : State) (v : Word), s.blk.held = false → s.blk.crosses .managementPort = true → s.blk.img.st = .checking →
    let img := s.blk.img.cur ++ leBytes 8 v.toNat
    64 ≤ img.length → imgLength img ≤ img.length →
    checkImage s.env.build (s.blk.rf .GPD_CTL 4 0) (s.blk.anyIdle s.env.build) img = none →
    Completes (.imageData v) s fun k => k = ((({ s.blk with img := k.img } : Block)).irq 4).answerWrite 0 .mp ∧
      k.img.st = .checked ∧ k.img.checked = img ∧
      k.net = s.blk.net ∧ k.prog = s.blk.prog ∧ k.rdc = s.blk.rdc) ∧
  (∀ (s : State) (data : List Byte), Ready s 0 → s.blk.img.cur = [] → s.blk.img.st = .checking → data.length = 64 →
    Gives (.inBandSection 0 data) s (({ s.blk with img.cur := data } : Block).judge s.env.build)) ∧
  (∀ (s : State) (b : Nat) (data : List Byte), Ready s b → s.blk.img.cur ≠ [] → s.blk.img.st = .checking →
    16 ≤ data.length → b = (if natAt data 2 2 = 0xFFFF then 0 else natAt data 2 2) →
    Gives (.inBandSection b data) s
      (({ s.blk with img.cur := placeSection s.blk.img.cur data } : Block).judge s.env.build)) ∧
  (∀ (s : State) (b : Nat) (data : List Byte), Ready s b → s.blk.img.cur ≠ [] →
    b ≠ (if natAt data 2 2 = 0xFFFF then 0 else natAt data 2 2) → Gives (.inBandSection b data) s s.blk)

/-- What the check accepts (R59): every code of the header and of every section is absent, the image has the length
and the sections that its header says, and its SKEW_NS is at least 20 ns. Of the model, not of the spec: the moment
and the order of the checks (log 44); which code slots and partitions report (log 45); which code ports and route
entries report (log 46); the unit of the shared bound of a time-timed output (log 47). -/
def Obligations.AcceptedImagesBreakNoRule : Prop :=
  (∀ (d : Build) (h : Nat) (idle : Bool) (img : List Byte), checkImage d h idle img = none →
    headerCodes d img = [] ∧ img.length = imgLength img ∧ (sectionsOf img).1.length = natAt img 10 2 ∧
    (sectionsOf img).2 = [] ∧ 20 ≤ imgSkew img ∧ (idle = true → 40 ≤ imgSkew img) ∧
    ∀ s ∈ (sectionsOf img).1, ({ d := d, secs := (sectionsOf img).1 } : ImageView).sectionCodes h s = []) ∧
  (∀ (d : Build) (h : Nat) (idle : Bool) (img : List Byte) (c : Nat) (r : List Nat), headerCodes d img = c :: r →
    ∃ m, checkImage d h idle img = some (m, 0, 0xFFFF) ∧ m ∈ c :: r ∧ ∀ x ∈ c :: r, m ≤ x)

/-- IMAGE_WRITE, WRITE_PASS_RELEASE, QUIESCE_DONE, QUIESCE_TIMEOUT and the write pass's IMAGE_DATA (R60 to R64, R67,
R136): a checked image is written once the streams are quiet; a write pass that differs from it fails the load.
IMAGE_START (R65, R137, R179, R245): at its boundary the staged bank takes over, the image locks its registers, and
enabled engines start. A lookup in the FCLK of a write of tree nodes finds them as they were (R306). A command that is
not enabled leaves the block as it is (the model's choice, log 6). A timer's command says itself that the bound is
reached (the model's choice, log 5). Of the model, not of the spec: what a loader command does in each STATE (log 43);
a section is written when it is complete, and 'invalid' clears V (log 48); in-band sections come in the image's order,
and what holds a write back (log 49); an image start clears the slots' work (log 50); a stream that faults while
quiescing makes the quiesce end with BUSY (log 86). -/
def Obligations.WritePassAndImageStart : Prop :=
  (∀ (s : State), s.blk.held = false →
    s.blk.crosses .managementPort = true → s.blk.img.st = .checked → s.blk.writeHeld s.env.build = false →
    Completes .imageWrite s fun k => k = (({ s.blk with img := k.img, prog.streams := k.prog.streams } : Block)).answerWrite 0 .mp ∧
      k.img.st = .quiescing ∧ k.img.writeAsked = false ∧
      k.prog.rdcMem = s.blk.prog.rdcMem ∧ k.prog.xferMem = s.blk.prog.xferMem ∧ k.net = s.blk.net) ∧
  (∀ (s : State), s.blk.held = false →
    s.blk.crosses .managementPort = true → s.blk.img.st = .checked → s.blk.writeHeld s.env.build = true →
    Completes .imageWrite s fun k => k = (({ s.blk with img.writeAsked := true } : Block)).answerWrite 0 .mp ∧
      k.img.st = .checked ∧ k.img.writeAsked = true ∧ k.prog = s.blk.prog) ∧
  (∀ (s : State), s.blk.held = false → s.blk.crosses .managementPort = true → s.blk.img.st ≠ .checked →
    Completes .imageWrite s fun k => k = s.blk.answerWrite 0 .mp ∧
      k.img = s.blk.img ∧ k.prog = s.blk.prog ∧ k.out = s.blk.out ++ [.mp 0 false]) ∧
  (∀ (s : State), s.blk.held = false → s.blk.img.st = .checked → s.blk.img.writeAsked = true →
    s.blk.writeHeld s.env.build = false → Completes .writePassRelease s fun k => k = { s.blk with img := k.img, prog.streams := k.prog.streams } ∧
      k.img.st = .quiescing ∧
      k.img.writeAsked = false) ∧
  (∀ (s : State), s.blk.held = false → s.blk.img.st = .quiescing → s.blk.isQuiet = true →
    Completes .quiesceDone s fun k => k = { s.blk with img := k.img, prog.streams := k.prog.streams } ∧
      k.img.st = .writing ∧ k.img.cur = [] ∧
      (∀ b u, (k.stream b u).st = .stopped) ∧
      (keysRise s.blk.prog.streams = true → ∀ b u, k.stream b u = (s.blk.stream b u).atRest .stopped) ∧
      k.net = s.blk.net) ∧
  (∀ (s : State), s.blk.held = false → s.blk.img.st = .quiescing → s.blk.isQuiet = false → Gives .quiesceDone s s.blk) ∧
  (∀ (s : State), s.blk.held = false → s.blk.img.st = .quiescing → s.blk.img.saved = [] →
    Completes .quiesceTimeout s fun k => k = (({ s.blk with img := k.img } : Block)).irq 4 ∧
      k.img.st = .rejected ∧ k.img.err = 19 ∧ k.img.errBrick = 0xFFFF ∧
      k.prog = s.blk.prog) ∧
  (∀ (s : State) (v : Word), s.blk.held = false → s.blk.crosses .managementPort = true → s.blk.img.st = .writing →
    s.blk.img.checked.take (s.blk.img.cur ++ leBytes 8 v.toNat).length ≠ s.blk.img.cur ++ leBytes 8 v.toNat →
    Completes (.imageData v) s fun k => k = { s.blk with img := k.img, prog.streams := k.prog.streams, net.seq := [], flt := k.flt, hlth.sramAt := k.hlth.sramAt, regs := k.regs, fresh := k.fresh, out := k.out } ∧
      s.blk.regsKept k [regAddr .GLB_IRQSTAT 0 [], regAddr .BBX_STAT 0 []] ∧
      k.img.st = .loadFailed ∧ k.img.run = false ∧ k.img.imageId = 0 ∧
      (∀ b u, (k.stream b u).st = .stopped)) ∧
  (∀ (s : State) (v : Word), s.blk.held = false → s.blk.crosses .managementPort = true → s.blk.img.st = .writing →
    let cur := s.blk.img.cur ++ leBytes 8 v.toNat
    s.blk.img.checked.take cur.length = cur → cur.length < 64 → cur.length ≠ s.blk.img.checked.length →
    Gives (.imageData v) s (({ s.blk with img.cur := cur } : Block).answerWrite 0 .mp)) ∧
  (∀ (s : State), s.blk.held = false → s.blk.clk.cyc = 0 → s.blk.startsAt s.blk.clk.course = true →
    Gives .imageStart s (s.blk.imageStart s.env)) ∧
  (∀ (s : State), s.blk.held = false → s.blk.clk.cyc = 0 → s.blk.startsAt s.blk.clk.course = true →
    Completes .imageStart s fun k => k.img.st = .running ∧ k.img.run = true ∧ k.img.locked = true ∧
      k.img.imageId = imgId s.blk.img.checked ∧ k.img.written = false) ∧
  (∀ (s : State), s.blk.held = false → (s.blk.clk.cyc ≠ 0 ∨ s.blk.startsAt s.blk.clk.course = false) →
    Gives .imageStart s s.blk) ∧
  (∀ (k : Block) (f : Store Word → Store Word) (b i w : Nat),
    (k.writeTree f).treeWord b i w = k.treeWord b i w ∧
      (k.writeTree f).treeStored b i w = look 0 (f k.rdc.tree) ((b * 128 + i) * 8 + w))

/-- PROGRAM_WINDOW_WRITE (R71): the window writes the memory that PMSEL selects while its streams are idle, or inside
the open range; otherwise it is a lock violation and the memories stand. ROUTE_FLIP_WRITE, ROUTE_FLIP,
ROUTE_TABLE_WRITE and ROUTE_ENTRY_COMMIT (R169, R178 to R180, R196, R197): a flip asked for comes at the boundary,
with a hold that locks the bank it leaves; only the bank not in force is written. A command that is not enabled leaves
the block as it is (the model's choice, log 6). Of the model, not of the spec: an image start clears the slots' work
(log 50); either bullet of R71 suffices, and reserved route bits stay 0 (log 51); a packet that has begun on no output
is injected anew at a flip (log 78). -/
def Obligations.ProgramWindowAndRouteTables : Prop :=
  (∀ (s : State) (b off : Nat) (v : Word), Ready s b →
    s.blk.crosses .managementPort = true → off < 0x2000 → s.blk.rf .GLB_PMSEL 1 0 = 1 →
    s.blk.streamsIdle b true = true →
    Completes (.programWindowWrite b off v) s fun k => k = (({ s.blk with prog.rdcMem := k.prog.rdcMem } : Block)).answerWrite 0 .mp ∧
      look 0 k.prog.rdcMem (b * 1024 + off / 8) = v ∧
      (∀ a, a ≠ b * 1024 + off / 8 → look 0 k.prog.rdcMem a = look 0 s.blk.prog.rdcMem a) ∧
      k.prog.xferMem = s.blk.prog.xferMem) ∧
  (∀ (s : State) (b off : Nat) (v : Word), Ready s b →
    s.blk.crosses .managementPort = true → off < 0x8000 → s.blk.rf .GLB_PMSEL 1 0 = 2 →
    (s.blk.streamsIdle b false = true ∨
      (flag (look 0 s.blk.prog.openRange b) 63 = true ∧ fld (look 0 s.blk.prog.openRange b) 11 0 ≤ off / 8 ∧
        off / 8 ≤ fld (look 0 s.blk.prog.openRange b) 27 16)) →
    Completes (.programWindowWrite b off v) s fun k => k = (({ s.blk with prog.xferMem := k.prog.xferMem, prog.xferOld := k.prog.xferOld } : Block)).answerWrite 0 .mp ∧
      look 0 k.prog.xferMem (b * 4096 + off / 8) = v ∧
      (∀ a, a ≠ b * 4096 + off / 8 → look 0 k.prog.xferMem a = look 0 s.blk.prog.xferMem a) ∧
      k.prog.rdcMem = s.blk.prog.rdcMem) ∧
  (∀ (s : State) (b off : Nat) (v : Word), Ready s b →
    s.blk.crosses .managementPort = true → off < 0x10000 → s.blk.rf .GLB_PMSEL 1 0 = 0 →
    Gives (.programWindowWrite b off v) s (s.blk.lockVio.answerWrite 0 .mp)) ∧
  (∀ (s : State) (b off : Nat) (v : Word), Ready s b →
    s.blk.crosses .managementPort = true → off < 0x2000 → s.blk.rf .GLB_PMSEL 1 0 = 1 →
    s.blk.streamsIdle b true = false → Gives (.programWindowWrite b off v) s (s.blk.lockVio.answerWrite 0 .mp)) ∧
  (∀ (s : State) (v : Word), s.blk.held = false → s.blk.crosses .managementPort = true → flag v 1 = true →
    Completes (.routeFlipWrite v) s fun k => k = ({ s.blk.applyWrite .GLB_ROUTE 0 [] v with net.flipPending := true } : Block).episode.answerWrite 0 .mp ∧
      k.net.flipPending = true ∧ k.net.epoch = s.blk.net.epoch) ∧
  (∀ (s : State) (v : Word), s.blk.held = false → s.blk.crosses .managementPort = true → flag v 1 = false →
    Gives (.routeFlipWrite v) s ((s.blk.applyWrite .GLB_ROUTE 0 [] v).answerWrite 0 .mp)) ∧
  (∀ (s : State), s.blk.held = false → s.blk.clk.cyc = 0 → s.blk.net.flipPending = true → s.blk.img.flipsEpoch = false →
    Completes .routeFlip s fun k => k = s.blk.flipRoutes s.env ∧
      (s.blk.net.stage = [] → k = (bricks s.env.build).foldl (fun k b => k.pumpNi s.env b) s.blk.flipEpoch) ∧
      s.blk.flipEpoch = { s.blk with net.epoch := !s.blk.net.epoch, net.flipPending := false
                                     net.holdLeft := s.blk.rf .GLB_ROUTE 47 32 }) ∧
  (∀ (s : State), s.blk.held = false → s.blk.net.flipPending = false → Gives .routeFlip s s.blk) ∧
  (∀ (s : State), s.blk.held = false → s.blk.img.flipsEpoch = true → s.blk.startsAt s.blk.clk.course = true →
    Gives .routeFlip s s.blk) ∧
  (∀ (s : State) (bank i : Nat) (v : Word), s.blk.held = false →
    s.blk.crosses .managementPort = true → bank < 2 → i < 4 → bank ≠ b2n s.blk.net.epoch →
    s.blk.net.holdLeft = 0 →
    Completes (.routeTableWrite (0x400 + 0x20 * bank + 8 * i) v) s fun k => k = (({ s.blk with net.pkgTable := k.net.pkgTable } : Block)).answerWrite 0 .mp ∧
      look 0 k.net.pkgTable (bank * 4 + i) = withFld v 58 56 0 ∧
      (∀ a, a ≠ bank * 4 + i → look 0 k.net.pkgTable a = look 0 s.blk.net.pkgTable a) ∧
      k.net.sysTable = s.blk.net.sysTable) ∧
  (∀ (s : State) (bank i : Nat) (v : Word), s.blk.held = false →
    s.blk.crosses .managementPort = true → bank < 2 → i < 768 → bank ≠ b2n s.blk.net.epoch →
    s.blk.net.holdLeft = 0 →
    Completes (.routeTableWrite (0x10000 + 0x2000 * bank + 8 * i) v) s fun k => k = (({ s.blk with net.sysTable := k.net.sysTable } : Block)).answerWrite 0 .mp ∧
      look 0 k.net.sysTable (bank * 768 + i) = withFld v 58 56 0 ∧
      (∀ a, a ≠ bank * 768 + i → look 0 k.net.sysTable a = look 0 s.blk.net.sysTable a) ∧
      k.net.pkgTable = s.blk.net.pkgTable) ∧
  (∀ (s : State) (bank i : Nat) (v : Word), s.blk.held = false →
    s.blk.crosses .managementPort = true → bank < 2 → i < 768 →
    (bank = b2n s.blk.net.epoch ∨ s.blk.net.holdLeft ≠ 0) →
    Gives (.routeTableWrite (0x10000 + 0x2000 * bank + 8 * i) v) s (s.blk.lockVio.answerWrite 0 .mp)) ∧
  (∀ (s : State) (b : Nat) (v : Word), Ready s b → s.blk.crosses .managementPort = true → fld v 61 60 ≤ 1 →
    Completes (.routeEntryCommit b v) s fun k => k = (({ s.blk with net.routeMem := k.net.routeMem, net.routeOld := k.net.routeOld } : Block)).answerWrite b .mp ∧
      (∀ c bank e w, w < 2 → k.routeWord c bank e w = s.blk.routeWord c bank e w) ∧
      look 0 k.net.routeMem (s.blk.selectedRoute b) = s.blk.reg .NI_RTLO b ∧
      look 0 k.net.routeMem (s.blk.selectedRoute b + 1) = withFld (withFld v 59 54 0) 23 8 0 ∧
      ∀ a, a ≠ s.blk.selectedRoute b → a ≠ s.blk.selectedRoute b + 1 →
        look 0 k.net.routeMem a = look 0 s.blk.net.routeMem a)

/-! ### Recovery and ports (R464 to R479) -/

/-- PORT_RETIRE, PORT_RELEASE, FAULT_DONE, EPISODE_END and FLTLOG_POP (R464, R468, R478, R479): retiring is counted
and held; DONE ends an episode at a boundary once everything has recovered; the log is read oldest first. A command
that is not enabled leaves the block as it is (the model's choice, log 6). Of the model, not of the spec: which
packets count as of the old epoch (log 57). -/
def Obligations.EpisodesEndAndLogsAreRead : Prop :=
  (∀ (s : State) (br : Bool) (n : Nat), s.blk.held = false →
    s.blk.crosses .managementPort = true → portOk s.env.build br n = true →
    s.blk.portRetired br n = false →
    Gives (.portRetire br n) s (((s.blk.markPort br n).portDown s.env.build br n).answerWrite 0 .mp)) ∧
  (∀ (s : State) (br : Bool) (n : Nat), s.blk.held = false →
    s.blk.crosses .managementPort = true → portOk s.env.build br n = true →
    s.blk.portRetired br n = true → Gives (.portRetire br n) s (s.blk.answerWrite 0 .mp)) ∧
  (∀ (s : State) (br : Bool) (n : Nat), s.blk.held = false →
    s.blk.crosses .managementPort = true → portOk s.env.build br n = true →
    s.blk.portRetired br n = true →
    Gives (.portRelease br n) s (((s.blk.setRf (if br then .GLB_PORTRET1 else .GLB_PORTRET0) n n 0 [] 0).portTrain
      s.env.build br n).answerWrite 0 .mp)) ∧
  (∀ (s : State) (v : Word), s.blk.held = false →
    s.blk.crosses .managementPort = true → flag v 0 = true → s.blk.flt.recovering = true →
    Completes (.faultDone v) s fun k => k = ({ s.blk.applyWrite .GLB_FLTCTL 0 [] v with flt.donePend := true } : Block).answerWrite 0 .mp ∧
      k.flt.donePend = true ∧ k.flt.recovering = true) ∧
  (∀ (s : State) (v : Word), s.blk.held = false → s.blk.crosses .managementPort = true → s.blk.flt.recovering = false →
    Gives (.faultDone v) s ((s.blk.applyWrite .GLB_FLTCTL 0 [] v).answerWrite 0 .mp)) ∧
  (∀ (s : State), s.blk.held = false → s.blk.clk.cyc = 0 → s.blk.flt.recovering = true → s.blk.flt.donePend = true →
    s.blk.recovered s.env.build = true →
    Completes .episodeEnd s fun k => k = (({ s.blk with flt.recovering := false, flt.donePend := false, flt.triggers := 0 } : Block)).faultLog 4 0 0 0 ∧
      k.flt.recovering = false ∧ k.flt.donePend = false ∧ k.flt.triggers = 0) ∧
  (∀ (s : State), s.blk.held = false → (s.blk.flt.donePend = false ∨ s.blk.recovered s.env.build = false) →
    Gives .episodeEnd s s.blk) ∧
  (∀ (s : State) (w : Word) (r : List Word), s.blk.held = false →
    s.blk.crosses .managementPort = true → s.blk.flt.log = w :: r →
    Completes .fltlogPop s fun k => k = { s.blk with flt.log := r, out := k.out } ∧
      k.flt.log = r ∧ k.out = s.blk.out ++ [.mp w false]) ∧
  (∀ (s : State), s.blk.held = false → s.blk.crosses .managementPort = true → s.blk.flt.log = [] →
    Completes .fltlogPop s fun k => k = { s.blk with out := k.out } ∧
      k.flt.log = [] ∧ k.out = s.blk.out ++ [.mp 0 false])

/-! ### Resets, clocks and bring-up (R22, R483 to R507) -/

/-- COLD_RESET, COLD_RESET_RELEASE, WARM_RESET, WARM_RESET_RELEASE, WARM, ROOTCK_LOSS and ROOTCK_RETURN (R484, R491,
R492, R505, R566): what each reset leaves. A command that is not enabled leaves the block as it is (the model's
choice, log 6). Of the model, not of the spec: the state is the one just after a released cold reset (log 3); what a
warm reset keeps beside R492's list (log 53); the reset values of the wrapper, the toggles and the lane settings (log
56); POWER_UP says that the cluster is out of reset and powered, until LP_RESET (log 113). -/
def Obligations.ResetsLeaveResetValues : Prop :=
  (∀ (s : State), Completes .coldReset s fun k => k = { rst := k.rst, out := k.out, free := s.blk.free } ∧
      k.rst.coldHeld = true ∧ k.regs = [] ∧ k.prog.streams = [] ∧
    k.prog.counters = [] ∧ k.xfr.trk = [] ∧ k.img.st = .empty ∧ k.img.run = false ∧ k.img.locked = false ∧
    k.net.routeMem = [] ∧ k.rdc.slots = [] ∧ k.mq.queue = [] ∧ k.flt.box = [] ∧ k.out = s.blk.out) ∧
  (∀ (s : State) (t : Bool), s.blk.rst.coldHeld = true →
    Completes (.coldResetRelease t) s fun k => k = { s.blk with rst := k.rst } ∧
      k.rst.coldHeld = false ∧ k.rst.testHeld = t ∧ k.regs = s.blk.regs) ∧
  (∀ (s : State), s.blk.rst.coldHeld = false →
    Gives .warmReset s (({ s.blk with rst.warmHeld := true } : Block).warmReset s.env.build 1)) ∧
  (∀ (s : State), s.blk.rst.coldHeld = true →
    Completes .warmReset s fun k => k = { s.blk with rst.warmHeld := true } ∧
      k.rst.warmHeld = true ∧ k.regs = s.blk.regs) ∧
  (∀ (s : State), Completes .warmResetRelease s fun k => k = { s.blk with rst.warmHeld := false } ∧
      k.rst.warmHeld = false ∧ k.rst.coldHeld = s.blk.rst.coldHeld ∧
    k.regs = s.blk.regs) ∧
  (∀ (s : State) (v : Word), s.blk.held = false → s.blk.crosses .managementPort = true → flag v 0 = true →
    Gives (.warm v) s (s.blk.warmReset s.env.build 2)) ∧
  (∀ (s : State), s.blk.rst.rootLost = false → s.blk.rst.coldHeld = false →
    Completes .rootckLoss s fun k => k = ((({ s.blk with rst.rootLost := true } : Block)).setBit .CLK_STAT 33).irq 7 ∧
      k.rst.rootLost = true ∧ flag (k.reg .CLK_STAT) 33 = true ∧ k.held = true) ∧
  (∀ (s : State), s.blk.rst.rootLost = true →
    Gives .rootckReturn s (({ s.blk with rst.rootLost := false } : Block).warmReset s.env.build 3)) ∧
  (∀ (s : State), s.blk.rst.rootLost = false → Gives .rootckReturn s s.blk) ∧
  (∀ (k : Block) (d : Build), k.mq.queue = [] → k.lnk.eq = [] → k.flt.freezing = none →
    ((k.warmReset d 1).img.st = .empty ∧ (k.warmReset d 1).prog.streams = [] ∧ (k.warmReset d 1).xfr.trk = [] ∧
      (k.warmReset d 1).out = k.out))

/-- ENUM, ENUMERATION_DONE, FREQUENCY_MEASURE, HEARTBEAT_STOP, HEARTBEAT_RESUME and RESYNC_DONE (R22, R23, R483, R490,
R497, R504): bring-up counts the bricks; a clock off by more than 1,000 ppm is flagged once; a boundary stops and
resumes. A command that is not enabled leaves the block as it is (the model's choice, log 6). Of the model, not of the
spec: when the phases of bring-up end (log 54); POWER_UP says that the cluster is out of reset and powered, until
LP_RESET (log 113); what becomes of a link enabled before its phase (log 115). -/
def Obligations.BringUpAndHeartbeats : Prop :=
  (∀ (s : State) (v : Word), s.blk.held = false →
    s.blk.crosses .managementPort = true → flag v 0 = false → flag v 1 = true →
    Completes (.enum v) s fun k => k = (({ s.blk with rst.enumerating := true } : Block)).answerWrite 0 .mp ∧
      k.rst.enumerating = true ∧ k.regs = s.blk.regs ∧ k.out = s.blk.out ++ [.mp 0 false]) ∧
  (∀ (s : State) (r : Nat), s.blk.held = false → s.blk.rst.enumerating = true → flag (s.blk.reg .RST_STAT) 8 = true →
    let d := s.env.build
    let n := (bricks d).length
    let m := ({ s.blk with
      rst.enumerating := false
      rst.position := (bricks d).foldl (fun m b => put 0 m b (ringPos d b)) [] } : Block).setReg .GLB_MORTAR 0 []
        (mkWord [(16, (2 * n + r) % 65536), (0, n)])
    Completes (.enumerationDone r) s fun k => k = (allPorts d).foldl (fun k x => k.portTrain d x.1 x.2) m ∧
      k.rst.enumerating = false ∧ (∀ b ∈ bricks d, look 0 k.rst.position b = ringPos d b) ∧
      k.reg .GLB_MORTAR = mkWord [(16, (2 * n + r) % 65536), (0, n)]) ∧
  (∀ (k : Block) (d : Build) (br : Bool) (n : Nat), k.rf .GLB_MORTAR 8 0 = 0 → k.portTrain d br n = k) ∧
  (∀ (s : State) (r : Nat), s.blk.held = false → s.blk.rst.enumerating = false →
    Gives (.enumerationDone r) s s.blk) ∧
  (∀ (s : State) (f : Int), s.blk.held = false → f.natAbs ≤ 1000 →
    Completes (.frequencyMeasure f) s fun k => k = { s.blk with regs := k.regs } ∧ s.blk.regsKept k [regAddr .CLK_STAT 0 []] ∧
      flag (k.reg .CLK_STAT) 32 = false ∧
      k.rf .CLK_STAT 15 0 = (BitVec.ofInt 16 f).toNat ∧ k.flt = s.blk.flt) ∧
  (∀ (s : State) (f : Int), s.blk.held = false → 1000 < f.natAbs → flag (s.blk.reg .CLK_STAT) 32 = false →
    Completes (.frequencyMeasure f) s fun k => k = { s.blk with regs := k.regs, fresh := k.fresh } ∧ s.blk.regsKept k [regAddr .CLK_STAT 0 [], regAddr .GLB_IRQSTAT 0 []] ∧
      flag (k.reg .CLK_STAT) 32 = true ∧
      flag (k.reg .GLB_IRQSTAT) 7 = true) ∧
  (∀ (s : State) (x : Boundary), s.blk.held = false → boundaryOk s.env.build x = true → s.blk.watched x = true →
    s.blk.rst.stopped.contains x = false →
    Gives (.heartbeatStop x) s
      (({ s.blk with rst.stopped := s.blk.rst.stopped ++ [x] } : Block).boundaryStops s.env x)) ∧
  (∀ (s : State) (x : Boundary), s.blk.held = false → boundaryOk s.env.build x = true →
    s.blk.rst.stopped.contains x = true → Gives (.heartbeatStop x) s s.blk) ∧
  (∀ (s : State) (x : Boundary), s.blk.held = false → boundaryOk s.env.build x = true → atLocalPort x = false →
    atLane x = false → s.blk.rst.stopped.contains x = true →
    Completes (.heartbeatResume x) s fun k => k = { s.blk with rst := k.rst } ∧
      k.rst.stopped.contains x = false ∧ k.rst.resync.contains x = true) ∧
  (∀ (s : State) (p l : Nat), s.blk.held = false → p < s.env.build.lanePorts → l < 4 →
    s.blk.rst.stopped.contains (.lane p l) = true →
    Gives (.heartbeatResume (.lane p l)) s ((({ s.blk with
      rst.stopped := s.blk.rst.stopped.filter fun (x : Boundary) => x != .lane p l } : Block).handshake
        (.lane p l)).endLoss s.env.build p l (s.blk.laneLost p l))) ∧
  (∀ (k : Block) (p l : Nat), k.rst.stopped.contains (.lane p l) = true → k.laneState p l = laneLocked →
    k.laneLost p l = true) ∧
  (∀ (s : State) (b : Nat), Ready s b → lpBuilt s.env.build b = true →
    s.blk.rst.stopped.contains (.localPort b) = true → s.blk.lpState b = 2 → s.blk.isolated b = false →
    s.blk.rst.clusterUp.contains b = true →
    Completes (.heartbeatResume (.localPort b)) s fun k => k = (({ s.blk with rst := k.rst } : Block)).setRf .RST_BRK 7 6 b [] 3 ∧
      k.lpState b = 3 ∧
      k.rst.stopped.contains (.localPort b) = false) ∧
  (∀ (s : State) (b : Nat), Ready s b → lpBuilt s.env.build b = true → s.blk.lpState b = 3 →
    s.blk.rst.stopped.contains (.localPort b) = false →
    Completes (.resyncDone (.localPort b)) s fun k => k = ((({ s.blk with rst := k.rst } : Block)).setRf .RST_BRK 7 6 b [] 0).bump .CLK_LP 15 0 b ∧
      k.lpState b = 0 ∧
      k.rst.resync.contains (.localPort b) = false) ∧
  (∀ (s : State) (x : Boundary), s.blk.held = false → boundaryOk s.env.build x = true → atLocalPort x = false →
    atBridge x = false → s.blk.rst.stopped.contains x = false →
    Completes (.resyncDone x) s fun k => k = { s.blk with rst := k.rst } ∧
      k.rst = { s.blk.rst with resync := k.rst.resync } ∧ k.crosses x = true) ∧
  (∀ (s : State) (n : Nat), s.blk.held = false → boundaryOk s.env.build (.bridge n) = true →
    s.blk.rst.stopped.contains (.bridge n) = false →
    let k : Block := { s.blk with rst.resync := s.blk.rst.resync.filter fun (x : Boundary) => x != .bridge n }
    Gives (.resyncDone (.bridge n)) s (k.bridgeEnterInit s.env.build n) ∧ k.crosses (.bridge n) = true) ∧
  (∀ (s : State) (x : Boundary), s.blk.held = false → boundaryOk s.env.build x = true →
    s.blk.rst.stopped.contains x = true → Gives (.resyncDone x) s s.blk)

/-- LP_RESET, LPRST, POWER_DOWN_REQUEST, LP_CLOSING_DONE and POWER_UP (R495, R496, R508): the Local Port bridge's
states. COMPUTE_GATE, COMPUTE_UNGATE, COMPUTE_CLOSING_DONE and WAKING_DONE (R498 to R502): ON, CLOSING, OFF and WAKING
follow CGATE. A command that is not enabled leaves the block as it is (the model's choice, log 6). Of the model, not
of the spec: what becomes of work at a bridge that closes (log 42); POWER_UP says that the cluster is out of reset and
powered, until LP_RESET (log 113). -/
def Obligations.LocalPortAndComputeDomains : Prop :=
  (∀ (s : State) (b : Nat), Ready s b → lpBuilt s.env.build b = true → s.blk.lpState b ≠ 2 →
    let k : Block := { s.blk with rst.clusterUp := s.blk.rst.clusterUp.filter fun (x : Nat) => x != b }
    Gives (.lpReset b) s (k.closeBridge s.env b)) ∧
  (∀ (s : State) (b : Nat), Ready s b → lpBuilt s.env.build b = true → s.blk.lpState b = 2 →
    let k : Block := { s.blk with rst.clusterUp := s.blk.rst.clusterUp.filter fun (x : Nat) => x != b }
    Gives (.lpReset b) s ((List.range 64).foldl (fun k q => k.resetQueue s.env.build b q) k)) ∧
  (∀ (s : State) (b : Nat) (v : Word), Ready s b →
    s.blk.crosses .managementPort = true → lpBuilt s.env.build b = true → flag v 0 = false → flag v 1 = true →
    flag v 2 = false →
    let k := s.blk.lpToClosed s.env b true
    k.isolated b = false → Gives (.lprst b v) s (k.answerWrite b .mp)) ∧
  (∀ (s : State) (b : Nat), Ready s b → lpBuilt s.env.build b = true → s.blk.lpState b = 0 →
    Completes (.powerDownRequest b) s fun k => k = s.blk.setRf .RST_BRK 7 6 b [] 1 ∧
      k.lpState b = 1 ∧ k.lpOpen b = false ∧ k.xfr = s.blk.xfr) ∧
  (∀ (s : State) (b : Nat), Ready s b → lpBuilt s.env.build b = true → s.blk.lpState b ≠ 0 →
    Gives (.powerDownRequest b) s s.blk) ∧
  (∀ (s : State) (b : Nat), Ready s b → lpBuilt s.env.build b = true → s.blk.lpState b = 1 →
    s.blk.lpDrained b = true →
    let k : Block := { s.blk with rst.clusterUp := s.blk.rst.clusterUp.filter fun (x : Nat) => x != b }
    Gives (.lpClosingDone b) s (k.closeBridge s.env b)) ∧
  (∀ (s : State) (b : Nat), Ready s b → lpBuilt s.env.build b = true → s.blk.lpState b = 1 →
    s.blk.lpDrained b = false → Gives (.lpClosingDone b) s s.blk) ∧
  (∀ (s : State) (b : Nat), Ready s b → lpBuilt s.env.build b = true →
    s.blk.lpState b ≠ 2 ∨ s.blk.isolated b = true ∨ s.blk.rst.stopped.contains (.localPort b) = true →
    Completes (.powerUp b) s fun k => k = { s.blk with rst.clusterUp := k.rst.clusterUp } ∧
      k.rst.clusterUp.contains b = true ∧ k.lpState b = s.blk.lpState b) ∧
  (∀ (s : State) (b : Nat), Ready s b → lpBuilt s.env.build b = true → s.blk.lpState b = 2 → s.blk.isolated b = false →
    s.blk.rst.stopped.contains (.localPort b) = false →
    Completes (.powerUp b) s fun k => k = (({ s.blk with rst := k.rst } : Block)).setRf .RST_BRK 7 6 b [] 3 ∧
      k.rst = { s.blk.rst with clusterUp := k.rst.clusterUp, resync := k.rst.resync } ∧
      k.lpState b = 3 ∧ k.rst.resync.contains (.localPort b) = true) ∧
  (∀ (s : State) (b : Nat) (v : Word), Ready s b →
    s.blk.crosses .managementPort = true → flag v 0 = true → s.blk.rf .PWR_BRK 9 8 b = 0 →
    Gives (.computeGate b v) s
      (((s.blk.setRf .PWR_BRK 0 0 b [] 1).closeCompute s.env b).answerWrite b .mp)) ∧
  (∀ (s : State) (b : Nat) (v : Word), Ready s b →
    s.blk.crosses .managementPort = true → flag v 0 = false → s.blk.rf .PWR_BRK 9 8 b = 2 →
    Completes (.computeUngate b v) s fun k => k = ((s.blk.setRf .PWR_BRK 0 0 b [] 0).setRf .PWR_BRK 9 8 b [] 3).answerWrite b .mp ∧
      k.rf .PWR_BRK 9 8 b = 3 ∧ k.rf .PWR_BRK 0 0 b = 0 ∧ k.rdc = s.blk.rdc) ∧
  (∀ (s : State) (b : Nat) (v : Word), Ready s b →
    s.blk.crosses .managementPort = true → flag v 0 = false → s.blk.rf .PWR_BRK 9 8 b = 1 →
    Completes (.computeUngate b v) s fun k => k = (s.blk.setRf .PWR_BRK 0 0 b [] 0).answerWrite b .mp ∧
      k.rf .PWR_BRK 9 8 b = 1 ∧ k.rf .PWR_BRK 0 0 b = 0 ∧ k.rdc = s.blk.rdc) ∧
  (∀ (s : State) (b : Nat), Ready s b → s.blk.rf .PWR_BRK 9 8 b = 1 → s.blk.computeIdle b = true →
    Completes (.computeClosingDone b) s fun k => k = { s.blk with rdc.slots := k.rdc.slots, prog.streams := k.prog.streams, regs := k.regs } ∧
      s.blk.regsKept k [regAddr .PWR_BRK b []] ∧
      k.rf .PWR_BRK 9 8 b = (if flag (s.blk.reg .PWR_BRK b) 0 then 2 else 3) ∧
      ∀ sl, sl < 64 → (k.slot b sl).openSeq = (s.blk.slot b sl).openSeq ∧ (k.slot b sl).sets = []) ∧
  (∀ (s : State) (b : Nat), Ready s b → s.blk.rf .PWR_BRK 9 8 b = 3 → s.blk.rst.ramped.contains b = false →
    Completes (.wakingDone b) s fun k => k = { s.blk with rst := k.rst } ∧
      k.rst.ramped = s.blk.rst.ramped ++ [b] ∧ k.regs = s.blk.regs) ∧
  (∀ (s : State) (b : Nat), Ready s b → s.blk.rf .PWR_BRK 9 8 b ≠ 3 → Gives (.wakingDone b) s s.blk)

/-- ISOLATE, ISOLATE_RELEASE and ISOLATION_EXIT (R493, R494): a brick is isolated only once every output into it is
fenced; it comes back at a boundary, with its links empty. A command that is not enabled leaves the block as it is
(the model's choice, log 6). Of the model, not of the spec: what of an isolated brick survives (log 55); what a write
of an isolated brick's register does (log 98). -/
def Obligations.BricksAreIsolatedAndReleased : Prop :=
  (∀ (s : State) (b : Nat) (v : Word), Ready s b →
    s.blk.crosses .managementPort = true → flag v 0 = true → flag v 1 = false → flag v 2 = false →
    flag (s.blk.reg .RST_BRK b) 0 = false → s.blk.fencedIn s.env.build b = false →
    Completes (.isolate b v) s fun k => k = (s.blk.setBit .RST_BRK 2 b).answerWrite b .mp ∧
      flag (k.reg .RST_BRK b) 2 = true ∧ k.rst = s.blk.rst ∧ k.prog = s.blk.prog) ∧
  (∀ (s : State) (b : Nat) (v : Word), Ready s b →
    s.blk.crosses .managementPort = true → flag v 0 = true → flag v 1 = false → flag v 2 = false →
    flag (s.blk.reg .RST_BRK b) 0 = false → s.blk.fencedIn s.env.build b = true → s.blk.isolated b = false →
    Gives (.isolate b v) s ((s.blk.isolate s.env b).answerWrite b .mp)) ∧
  (∀ (s : State) (b : Nat) (v : Word), Ready s b →
    s.blk.crosses .managementPort = true → flag v 0 = false → flag v 1 = false → flag v 2 = false →
    s.blk.isolated b = true → s.blk.rst.leaving.contains b = false →
    Completes (.isolateRelease b v) s fun k => k = ((({ s.blk with rst.leaving := s.blk.rst.leaving ++ [b] } : Block)).setRf .RST_BRK 0 0 b [] 0).answerWrite b .mp ∧
      k.rst.leaving.contains b = true ∧ k.isolated b = true ∧
      flag (k.reg .RST_BRK b) 0 = false) ∧
  (∀ (s : State) (b : Nat), Ready s b → s.blk.clk.cyc = 0 → s.blk.rst.leaving.contains b = true →
    let k : Block := { s.blk with
      rst.isolated := s.blk.rst.isolated.filter fun (x : Nat) => x != b
      rst.leaving := s.blk.rst.leaving.filter fun (x : Nat) => x != b }
    Gives (.isolationExit b) s
      ((portsOf s.env.build b).foldl (fun k x => k.portTrain s.env.build x.1 x.2)
        ((linksOf s.env.build b).foldl (fun k x => k.emptyLink b x.1 x.2.1 x.2.2) k))) ∧
  (∀ (s : State) (b : Nat), Ready s b → s.blk.rst.leaving.contains b = false → Gives (.isolationExit b) s s.blk) ∧
  (∀ (k : Block) (b o c i : Nat), look [] (k.emptyLink b o c i).net.chain (b * 8 + o) = [] ∧
    look [] (k.emptyLink b o c i).net.chain (c * 8 + i) = [])

/-- WS_BYPASS, WS_EXTEST, WS_INTEST, MBIST_RUN, MBIST_DONE and MBIST_READ (R503, R506, R507, R568): the wrapper takes
its code whatever the reset inputs; self-test marks the bricks that failed; a read shifts the map out. A command that
is not enabled leaves the block as it is (the model's choice, log 6). Of the model, not of the spec: when the phases
of bring-up end (log 54); the reset values of the wrapper, the toggles and the lane settings (log 56). -/
def Obligations.WrapperAndSelfTest : Prop :=
  (∀ (s : State), Completes .wsBypass s fun k => k = { s.blk with rst.wrapper := 0x00 }) ∧
  (∀ (s : State), Completes .wsExtest s fun k => k = { s.blk with rst.wrapper := 0x01 }) ∧
  (∀ (s : State), Completes .wsIntest s fun k => k = { s.blk with rst.wrapper := 0x02 }) ∧
  (∀ (s : State), Completes .mbistRun s fun k => k = { s.blk with rst := k.rst } ∧
      k.rst.wrapper = 0x10 ∧ k.rst.testing = true ∧ k.regs = s.blk.regs) ∧
  (∀ (s : State), Completes .mbistRead s fun k => k = { s.blk with rst := k.rst, out := k.out } ∧
      k.rst.wrapper = 0x11 ∧ k.regs = s.blk.regs ∧
    k.out = s.blk.out ++ [.wrapper ((List.range 4).map fun i => s.blk.reg .RST_BISTMAP 0 [i])]) ∧
  (∀ (s : State) (l : List Nat), s.blk.held = false → s.blk.rst.testing = true →
    let bad := (bricks s.env.build).filter fun b => l.contains b
    Completes (.mbistDone l) s fun k => k = { s.blk with rst := k.rst, regs := k.regs } ∧
      s.blk.regsKept k (regAddr .RST_STAT 0 [] :: (List.range 4).map fun i => regAddr .RST_BISTMAP 0 [i]) ∧
      k.rst.testing = false ∧ k.rst.testHeld = false ∧
      flag (k.reg .RST_STAT) 8 = true ∧ k.rf .RST_STAT 23 16 = min 255 bad.length ∧
      ∀ i, i < 4 → k.reg .RST_BISTMAP 0 [i] =
        BitVec.ofNat 64 ((bad.filter fun b => b / 64 == i).map fun b => 2 ^ (b % 64)).sum) ∧
  (∀ (s : State) (l : List Nat), s.blk.held = false → s.blk.rst.testing = false → flag (s.blk.reg .RST_STAT) 8 = true →
    Gives (.mbistDone l) s s.blk) ∧
  (∀ (s : State) (l : List Nat), s.blk.held = false → s.blk.rst.testing = false → s.blk.rf .CLK_STAT 33 32 ≠ 0 →
    Gives (.mbistDone l) s s.blk)

/-! ### Supply, segments and ageing (R515 to R523) -/

/-- VREQ_ACK, SETTLE_EXPIRY, DOWN, AGE_PLAN_WRITE and SEGMENT_MODE_CHANGE (R520, R521, R523): a request waits for its
answer, holds LOWCNT at 0 while it settles; TWO of a segment changes at the first boundary after it was asked for. A
command that is not enabled leaves the block as it is (the model's choice, log 6). A timer's command says itself that
the bound is reached (the model's choice, log 5). Of the model, not of the spec: how firmware's changes and the
policy's meet (log 41); operands that name what the block itself knows are not read (log 67). -/
def Obligations.SupplyAndSegmentsChange : Prop :=
  (∀ (s : State) (v : Nat), s.blk.held = false → flag (s.blk.reg .AGE_VREQ) 0 = true →
    Completes (.vreqAck v) s fun k => k = { s.blk with regs := k.regs, hlth := k.hlth } ∧
      s.blk.regsKept k (regAddr .AGE_VREQ 0 [] :: (bricks s.env.build).map fun b => regAddr .AGE_MARGIN b []) ∧
      flag (k.reg .AGE_VREQ) 0 = false ∧ k.rf .AGE_VREQ 7 4 = s.blk.rf .AGE_VREQ 11 8 ∧
      k.hlth.settling = true ∧ k.rf .AGE_VREQ 11 8 = s.blk.rf .AGE_VREQ 11 8 ∧
      ∀ b, b ∈ bricks s.env.build → k.rf .AGE_MARGIN 42 40 b = 0) ∧
  (∀ (s : State) (v : Nat), s.blk.held = false → flag (s.blk.reg .AGE_VREQ) 0 = false → Gives (.vreqAck v) s s.blk) ∧
  (∀ (s : State), s.blk.held = false →
    Completes .settleExpiry s fun k => k = { s.blk with hlth.settling := false } ∧
      k.hlth.settling = false ∧ k.regs = s.blk.regs) ∧
  (∀ (s : State) (v : Word), s.blk.held = false →
    s.blk.crosses .managementPort = true → flag v 1 = true → 0 < s.blk.rf .AGE_VREQ 11 8 →
    flag (s.blk.reg .AGE_VREQ) 0 = false → s.blk.regulatorShut = false →
    let n := s.blk.rf .AGE_VREQ 11 8 - 1
    Gives (.down v) s (((s.blk.requestSupply n).firmwarePlan n).answerWrite 0 .mp)) ∧
  (∀ (s : State) (v : Word), s.blk.held = false →
    s.blk.crosses .managementPort = true → (flag v 1 = false ∨ s.blk.rf .AGE_VREQ 11 8 = 0 ∨
    flag (s.blk.reg .AGE_VREQ) 0 = true ∨ s.blk.regulatorShut = true) → Gives (.down v) s (s.blk.answerWrite 0 .mp)) ∧
  (∀ (s : State) (i : Nat) (v : Word), s.blk.held = false →
    s.blk.crosses .managementPort = true → i < 24 → segmentBuilt s.env.build i = true →
    look none s.blk.hlth.planNext i = none → flag v 0 ≠ flag (s.blk.reg .AGE_PLAN 0 [i]) 0 →
    Gives (.agePlanWrite i v) s (((s.blk.planSegment i (flag v 0) false).firmwarePlan i).answerWrite 0 .mp)) ∧
  (∀ (s : State) (i : Nat) (v : Word), s.blk.held = false →
    s.blk.crosses .managementPort = true → i < 24 → segmentBuilt s.env.build i = false →
    Gives (.agePlanWrite i v) s (s.blk.answerWrite 0 .mp)) ∧
  (∀ (s : State) (i n : Nat) (two policy : Bool), s.blk.held = false → i < 24 →
    look none s.blk.hlth.planNext i = some (two, policy, n) → s.blk.clk.cyc = 0 → n < s.blk.clk.now →
    Completes (.segmentModeChange i) s fun k => k = { s.blk with regs := k.regs, hlth.planNext := k.hlth.planNext } ∧
      s.blk.regsKept k [regAddr .AGE_PLAN 0 [i]] ∧
      flag (k.reg .AGE_PLAN 0 [i]) 0 = two ∧
      flag (k.reg .AGE_PLAN 0 [i]) 1 = false ∧ look none k.hlth.planNext i = none) ∧
  (∀ (s : State) (i : Nat), s.blk.held = false → i < 24 →
    (look none s.blk.hlth.planNext i = none ∨ s.blk.clk.cyc ≠ 0) → Gives (.segmentModeChange i) s s.blk)

/-- STRESS_HOUR and AGE_HIST_WRITE (R515 to R517): every hour counts and brings its drift; hours that are powers of
two enter the history, from which the model is fitted again. EOL fits its field (R517): a line that does not rise
gives 0xFFFF_FFFF; the search of a rising one stays in the range it is given, and ends on its lower end or on an hour
that the line puts no later than DEOL. Of the model, not of the spec: a byte that nothing has written is a free value
(log 8); the arithmetic of the fit and its rounding (log 27). -/
def Obligations.StressAndEndOfLife : Prop :=
  (∀ (s : State) (b f g : Nat), Ready s b → 0 < g → g < f → f < 2 ^ 20 →
    s.blk.rf .AGE_DRIFT 63 32 b < 2 ^ 32 - 1 →
    Completes (.stressHour b f g) s fun k => k = { s.blk with regs := k.regs, free := k.free } ∧
      s.blk.regsKept k (regAddr .AGE_DRIFT b [] :: regAddr .AGE_FIT b [] ::
        (List.range 20).map fun i => regAddr .AGE_HIST b [i]) ∧
      k.rf .AGE_DRIFT 31 0 b = (f - g) * 1000000 / f % 2 ^ 32 ∧
      k.rf .AGE_DRIFT 63 32 b = s.blk.rf .AGE_DRIFT 63 32 b + 1) ∧
  (∀ (s : State) (b f g i : Nat), Ready s b → 0 < g → f ≤ g → i < 20 → s.blk.rf .AGE_DRIFT 63 32 b + 1 = 2 ^ i →
    Completes (.stressHour b f g) s fun k => k = { s.blk with regs := k.regs, free := k.free } ∧
      s.blk.regsKept k [regAddr .AGE_DRIFT b [], regAddr .AGE_FIT b [], regAddr .AGE_HIST b [i]] ∧
      k.reg .AGE_HIST b [i] = mkWord [(63, 1), (0, 0)] ∧
      k.rf .AGE_DRIFT 31 0 b = 0) ∧
  (∀ (s : State) (b i : Nat) (v : Word), Ready s b → s.blk.crosses .managementPort = true → i < 20 →
    Gives (.ageHistWrite b i v) s (((s.blk.applyWrite .AGE_HIST b [i] v).refit b).answerWrite b .mp)) ∧
  (∀ (k : Block) (b : Nat), (k.samples b).length < 2 → k.refit b = k.setReg .AGE_FIT b [] (regReset .AGE_FIT [])) ∧
  (∀ (f : Int × Int × Int) (d : Nat), endOfLife f d < 2 ^ 32) ∧
  (∀ (f : Int × Int × Int) (d : Nat), f.1 ≤ 0 → endOfLife f d = 0xFFFFFFFF) ∧
  (∀ (n lo : Nat) (slope gap : Int), lo ≤ searchHours slope gap n lo ∧ searchHours slope gap n lo < lo + 2 ^ n ∧
    (searchHours slope gap n lo = lo ∨
      (log2Fixed (searchHours slope gap n lo) : Int) * slope ≤ gap * 2 ^ logBits))

/-! ### Trace, congestion and the black box (R526 to R537, R557) -/

/-- TRACE_RECORD, PRB_TCTL_ENABLE, CONGESTION_INTERVAL, CONGESTION_MAP_COMPLETE and TELEMETRY (R528 to R532): records
fill the trace memory from WR on, one in an MCLK, while up to four wait; a map is gathered brick by brick and its bank
switches when all have reported. A command that is not enabled leaves the block as it is (the model's choice, log 6).
Of the model, not of the spec: what counts for BUSY, when an interval ends, and what a disabled trace drops (log 58);
operands that name what the block itself knows are not read (log 67); commands with no idle step between them are of
one FCLK (log 69). -/
def Obligations.TracesAndMapsAreGathered : Prop :=
  (∀ (s : State) (b : Nat) (r : List Byte) (l : List (List Byte)), Ready s b → look [] s.blk.hlth.traces b = r :: l →
    s.blk.hlth.traceBuf = [] → s.blk.hlth.sramAt ≠ s.blk.mclk + 1 → flag (s.blk.reg .PRB_TCTL) 63 = true → flag (s.blk.reg .PRB_TSTAT) 33 = false →
    s.blk.rf .PRB_TSTAT 13 0 + 1 < 12288 →
    Completes (.traceRecord b) s fun k => k = { s.blk with regs := k.regs, hlth := k.hlth } ∧ s.blk.regsKept k [regAddr .PRB_TSTAT 0 []] ∧
      k.hlth = { s.blk.hlth with
        traces := k.hlth.traces, traceMem := k.hlth.traceMem, sramAt := k.hlth.sramAt, traceOld := k.hlth.traceOld } ∧
      look [] k.hlth.traces b = l ∧
      look [] k.hlth.traceMem (s.blk.rf .PRB_TSTAT 13 0) = r ∧
      k.rf .PRB_TSTAT 13 0 = s.blk.rf .PRB_TSTAT 13 0 + 1) ∧
  (∀ (s : State) (b : Nat) (r : List Byte) (l : List (List Byte)), Ready s b → look [] s.blk.hlth.traces b = r :: l →
    s.blk.hlth.traceBuf = [] → s.blk.hlth.sramAt ≠ s.blk.mclk + 1 → flag (s.blk.reg .PRB_TCTL) 63 = true → flag (s.blk.reg .PRB_TCTL) 62 = true →
    flag (s.blk.reg .PRB_TSTAT) 33 = false → s.blk.rf .PRB_TSTAT 13 0 = 12287 →
    Completes (.traceRecord b) s fun k => k = { s.blk with regs := k.regs, hlth := k.hlth } ∧ s.blk.regsKept k [regAddr .PRB_TSTAT 0 []] ∧
      k.hlth = { s.blk.hlth with
        traces := k.hlth.traces, traceMem := k.hlth.traceMem, sramAt := k.hlth.sramAt, traceOld := k.hlth.traceOld } ∧
      look [] k.hlth.traceMem 12287 = r ∧ flag (k.reg .PRB_TSTAT) 33 = true) ∧
  (∀ (s : State) (b : Nat) (r : List Byte) (l : List (List Byte)), Ready s b → look [] s.blk.hlth.traces b = r :: l →
    s.blk.hlth.traceBuf = [] → s.blk.hlth.sramAt ≠ s.blk.mclk + 1 → flag (s.blk.reg .PRB_TCTL) 63 = true → flag (s.blk.reg .PRB_TCTL) 62 = false →
    flag (s.blk.reg .PRB_TSTAT) 33 = false → s.blk.rf .PRB_TSTAT 13 0 = 12287 →
    Completes (.traceRecord b) s fun k => k = { s.blk with regs := k.regs, hlth := k.hlth } ∧ s.blk.regsKept k [regAddr .PRB_TSTAT 0 []] ∧
      k.hlth = { s.blk.hlth with
        traces := k.hlth.traces, traceMem := k.hlth.traceMem, sramAt := k.hlth.sramAt, traceOld := k.hlth.traceOld } ∧
      look [] k.hlth.traceMem 12287 = r ∧ flag (k.reg .PRB_TSTAT) 32 = true ∧
      k.rf .PRB_TSTAT 13 0 = 0) ∧
  (∀ (s : State) (b : Nat) (r : List Byte) (l : List (List Byte)), Ready s b → look [] s.blk.hlth.traces b = r :: l →
    flag (s.blk.reg .PRB_TCTL) 63 = true → s.blk.hlth.sramAt = s.blk.mclk + 1 → s.blk.hlth.traceBuf.length < 4 →
    Completes (.traceRecord b) s fun k => k = { s.blk with hlth.traces := k.hlth.traces, hlth.traceBuf := k.hlth.traceBuf } ∧
      look [] k.hlth.traces b = l ∧ k.hlth.traceBuf = s.blk.hlth.traceBuf ++ [r]) ∧
  (∀ (s : State) (b : Nat) (r : List Byte) (l : List (List Byte)), Ready s b → look [] s.blk.hlth.traces b = r :: l →
    flag (s.blk.reg .PRB_TCTL) 63 = true → s.blk.hlth.traceBuf.length = 4 →
    Completes (.traceRecord b) s fun k =>
      k = ({ s.blk with hlth.traces := k.hlth.traces } : Block).bump .PRB_TSTAT 63 48 0 ∧ look [] k.hlth.traces b = l) ∧
  (∀ (k : Block) (r : List Byte) (l : List (List Byte)) (m : Nat), k.hlth.traceBuf = r :: l → k.mclk = m + 1 →
    k.drainTrace m = ({ k with hlth.traceBuf := l } : Block).traceStore (m + 1) r) ∧
  (∀ (k : Block) (r : List Byte), flag (k.reg .PRB_TSTAT) 33 = false →
    (k.traceStore k.mclk r).traceRead (k.rf .PRB_TSTAT 13 0) = look [] k.hlth.traceMem (k.rf .PRB_TSTAT 13 0)) ∧
  (∀ (s : State) (v : Word), s.blk.held = false →
    s.blk.crosses .managementPort = true → flag v 63 = true → flag (s.blk.reg .PRB_TCTL) 63 = false →
    Completes (.prbTctlEnable v) s fun k => k = (((s.blk.applyWrite .PRB_TCTL 0 [] v).setRf .PRB_TSTAT 13 0 0 [] 0).setRf .PRB_TSTAT 33 32 0 [] 0).answerWrite 0 .mp ∧
      flag (k.reg .PRB_TCTL) 63 = true ∧ k.rf .PRB_TSTAT 13 0 = 0 ∧
      k.rf .PRB_TSTAT 33 32 = 0) ∧
  (∀ (s : State) (b : Nat) (l : List Nat), Ready s b → flag (s.blk.reg .PRB_CMCTL) 63 = true → s.blk.clk.cyc = 0 →
    s.blk.rf .PRB_CMCTL 15 0 ≤ s.blk.hlth.courses →
    Completes (.congestionInterval b l) s fun k =>
      k = { s.blk with
        regs := k.regs, hlth.back := k.hlth.back, hlth.shared := k.hlth.shared, hlth.carried := k.hlth.carried
        hlth.reported := k.hlth.reported } ∧
      s.blk.regsKept k
        [regAddr .PRB_CMAP 0 [s.blk.fillBank, b, 0], regAddr .PRB_CMAP 0 [s.blk.fillBank, b, 1]] ∧
      k.hlth.reported.contains b = true ∧
      (∀ w p, w < 2 → p < 4 →
        let o := b * 8 + 4 * w + p
        fld (k.reg .PRB_CMAP 0 [s.blk.fillBank, b, w]) (16 * p + 15) (16 * p) =
          min 255 (256 * look 0 s.blk.hlth.carried o / max 1 (look 0 s.blk.hlth.shared o)) * 256 +
            min 255 (look 0 s.blk.hlth.back o)) ∧
      (∀ p, p < 8 → look 0 k.hlth.back (b * 8 + p) = 0 ∧ look 0 k.hlth.shared (b * 8 + p) = 0 ∧
        look 0 k.hlth.carried (b * 8 + p) = 0)) ∧
  (∀ (s : State) (b : Nat) (l : List Nat), Ready s b →
    (flag (s.blk.reg .PRB_CMCTL) 63 = false ∨ s.blk.hlth.courses < s.blk.rf .PRB_CMCTL 15 0) →
    Gives (.congestionInterval b l) s s.blk) ∧
  (∀ (k : Block) (b p : Nat) (q : Packet), flag (k.reg .PRB_CMCTL) 63 = true → 2 ≤ q.vc →
    look 0 (k.countCarried b p q).hlth.carried (b * 8 + p) = look 0 k.hlth.carried (b * 8 + p) + pktUnits q) ∧
  (∀ (s : State), s.blk.held = false → (bricks s.env.build).all (fun b => s.blk.hlth.reported.contains b) = true →
    flag (s.blk.reg .PRB_CMCTL) 62 = false → s.blk.rf .PRB_CMSTAT 63 32 < 2 ^ 32 - 1 →
    Completes .congestionMapComplete s fun k => k = { s.blk with regs := k.regs, hlth.reported := [] } ∧ s.blk.regsKept k [regAddr .PRB_CMSTAT 0 []] ∧
      k.rf .PRB_CMSTAT 0 0 = s.blk.fillBank ∧
      k.rf .PRB_CMSTAT 63 32 = s.blk.rf .PRB_CMSTAT 63 32 + 1 ∧ k.hlth.reported = [] ∧ k.out = s.blk.out) ∧
  (∀ (s : State), s.blk.held = false → (bricks s.env.build).all (fun b => s.blk.hlth.reported.contains b) = false →
    Gives .congestionMapComplete s s.blk) ∧
  (∀ (s : State) (b : Nat) (p : Packet) (r : List Packet), Ready s b → s.blk.headGood b 0 (cEp p.dst) p r →
    p.op = opTelemetry → Gives (.telemetry b) s (s.blk.setRx b 0 r))

/-- BLACK_BOX_ENTRY, FREEZE, UNFREEZE and FREEZE_COMPLETE (R533 to R537): entries are written at NEXT in the order of
their arrival; a freeze begins with the entry of its event, and ends with what happened up to it and the FREEZE entry;
a frozen box takes nothing until it is unfrozen. A command that is not enabled leaves the block as it is (the model's
choice, log 6). Of the model, not of the spec: the SOURCE of entries of links and lanes (log 40); the order of the
entries around a freeze (log 59); commands with no idle step between them are of one FCLK (log 69); the event's own
entry is written at once (log 114). -/
def Obligations.BlackBoxRecordsAndFreezes : Prop :=
  (∀ (s : State) (b : Nat) (x : BoxEntry), s.blk.held = false → (brickOk s.env.build b = true ∨ b = 0xFFFF) →
    s.blk.flt.boxWait.find? (fun y => y.source == b) = some x →
    flag (s.blk.reg .BBX_STAT) 63 = false → s.blk.flt.freezing = none → s.blk.rf .BBX_STAT 11 0 < 4095 →
    Completes (.blackBoxEntry b) s fun k => k = { s.blk with regs := k.regs, flt := k.flt, hlth.sramAt := k.hlth.sramAt } ∧ s.blk.regsKept k [regAddr .BBX_STAT 0 []] ∧
      k.flt.boxWait = s.blk.flt.boxWait.erase x ∧
      look none k.flt.box (s.blk.rf .BBX_STAT 11 0) = some x ∧
      k.rf .BBX_STAT 11 0 = s.blk.rf .BBX_STAT 11 0 + 1 ∧
      ∀ i, i ≠ s.blk.rf .BBX_STAT 11 0 → look none k.flt.box i = look none s.blk.flt.box i) ∧
  (∀ (s : State) (b : Nat) (x : BoxEntry), s.blk.held = false → (brickOk s.env.build b = true ∨ b = 0xFFFF) →
    s.blk.flt.boxWait.find? (fun y => y.source == b) = some x →
    flag (s.blk.reg .BBX_STAT) 63 = false → s.blk.flt.freezing = none → s.blk.rf .BBX_STAT 11 0 = 4095 →
    Completes (.blackBoxEntry b) s fun k => k = { s.blk with regs := k.regs, flt := k.flt, hlth.sramAt := k.hlth.sramAt } ∧ s.blk.regsKept k [regAddr .BBX_STAT 0 []] ∧
      look none k.flt.box 4095 = some x ∧ k.rf .BBX_STAT 11 0 = 0 ∧
      flag (k.reg .BBX_STAT) 12 = true) ∧
  (∀ (s : State) (b : Nat) (x : BoxEntry), s.blk.held = false → (brickOk s.env.build b = true ∨ b = 0xFFFF) →
    s.blk.flt.boxWait.find? (fun y => y.source == b) = some x →
    flag (s.blk.reg .BBX_STAT) 63 = true →
    Completes (.blackBoxEntry b) s fun k => k = { s.blk with flt.boxWait := k.flt.boxWait } ∧
      k.flt.box = s.blk.flt.box ∧ k.flt.boxWait = s.blk.flt.boxWait.erase x ∧
      k.regs = s.blk.regs) ∧
  (∀ (s : State) (v : Word), s.blk.held = false →
    s.blk.crosses .managementPort = true → flag v 0 = true → flag v 1 = false →
    Gives (.freeze v) s (((s.blk.applyWrite .BBX_CTL 0 [] v).freezeFor 15).answerWrite 0 .mp)) ∧
  (∀ (s : State) (v : Word), s.blk.held = false →
    s.blk.crosses .managementPort = true → flag v 0 = false → flag v 1 = true →
    Completes (.unfreeze v) s fun k => k = { s.blk with regs := k.regs, out := k.out } ∧
      s.blk.regsKept k [regAddr .BBX_CTL 0 [], regAddr .BBX_STAT 0 [], regAddr .GLB_IMAGE 0 []] ∧
      flag (k.reg .BBX_STAT) 63 = false ∧ k.rf .BBX_STAT 62 59 = 0 ∧
      k.rf .BBX_STAT 47 32 = 0 ∧ k.rf .BBX_STAT 31 24 = 0 ∧ k.flt.box = s.blk.flt.box) ∧
  (∀ (s : State) (g c : Nat), s.blk.held = false → s.blk.flt.freezing = some (g, c) → c < 16 →
    Completes .freezeComplete s fun k => k = { s.blk with regs := k.regs, flt := k.flt, hlth.sramAt := k.hlth.sramAt } ∧ s.blk.regsKept k [regAddr .BBX_STAT 0 []] ∧
      flag (k.reg .BBX_STAT) 63 = true ∧ k.rf .BBX_STAT 62 59 = c ∧
      k.flt.freezing = none ∧ k.flt.boxWait = s.blk.flt.boxWait.filter (fun x => decide (g < x.gtime))) ∧
  (∀ (s : State), s.blk.held = false → s.blk.flt.freezing = none → Gives .freezeComplete s s.blk) ∧
  (∀ (k : Block) (en : BoxEntry) (i : Nat), ownEntry i en = true → flag (k.reg .BBX_STAT) 63 = false →
    k.flt.freezing = none →
    let n := (k.boxPost en).freezeFor i
    n.flt.freezing = some (k.gtime, i) ∧ n.flt.boxWait = k.flt.boxWait ∧
      look none n.flt.box (k.rf .BBX_STAT 11 0) = some { en with gtime := k.gtime })

/-! ### Register access (R550, R557, R560, R578 to R583) -/

/-- REGISTER_WRITE, MGMT and INTERRUPT_RETURN (R550, R557, R560, R583): an address with a register is written and
answered; any other is answered with an error; an access in band is done once and answered as often as it comes. What
the Management Port's register writes are (R560, R580): a write at a register's address is `writeReg` of that
register, and reading back a register without a home of its own gives, field by field, what its access codes make of
the write, with no other effect (R9, R580). Events of an FCLK apply after a write of it (R272, R302, R350, R574). An
access by a Local Port that is not open leaves the block as it is (the model's choice, log 6). Of the model, not of
the spec: a command at an absent element changes nothing (log 7); what a write does to RWS fields and reserved
encodings, and where a Local Port may write (log 60); where the answers of in-band accesses are kept (log 61);
commands with no idle step between them are of one FCLK (log 69); the order of responses, and that a stalled
identifier's later requests are not taken (log 73). -/
def Obligations.RegisterAccess : Prop :=
  (∀ (s : State) (a : Nat) (v : Word) (k : Block), s.blk.held = false →
    s.blk.crosses .managementPort = true → s.blk.busWrite s.env a v = some k →
    warmWrite a v = false → Gives (.registerWrite .mp a v) s (k.answerWrite 0 .mp)) ∧
  (∀ (s : State) (a : Nat) (v : Word), s.blk.held = false →
    s.blk.crosses .managementPort = true → s.blk.busWrite s.env a v = none →
    Completes (.registerWrite .mp a v) s fun k => k = s.blk.send (.mp 0 true) ∧
      k.out = s.blk.out ++ [.mp 0 true] ∧ k.regs = s.blk.regs) ∧
  (∀ (s : State) (rid tag b a : Nat) (v : Word) (r : RegName) (pg : Nat) (ix : List Nat), Ready s b →
    s.blk.lpServes s.env.build b rid = true → a < 0x10000 →
    regAt s.env.build (0x01000000 + 0x10000 * b + a) = some (r, pg, ix) → lpWritable r = true → b < 256 →
    Gives (.registerWrite (.lp rid tag) (0x01000000 + 0x10000 * b + a) v) s
      ((s.blk.writeReg s.env r b ix v).answerWrite b (.lp rid tag))) ∧
  (∀ (s : State) (rid tag b a : Nat) (v : Word) (r : RegName) (pg : Nat) (ix : List Nat), Ready s b →
    s.blk.lpServes s.env.build b rid = true → a < 0x10000 →
    regAt s.env.build (0x01000000 + 0x10000 * b + a) = some (r, pg, ix) → lpWritable r = false → b < 256 →
    look [] s.blk.xfr.lpDue (b * 64 + rid % 64) = [] →
    Completes (.registerWrite (.lp rid tag) (0x01000000 + 0x10000 * b + a) v) s fun k => k = s.blk.badRequest b rid tag ∧
      k.out = s.blk.out ++ [.lp b rid tag stProgramFault []] ∧ k.xfr = s.blk.xfr ∧ k.mq = s.blk.mq) ∧
  (∀ (s : State) (rid tag a : Nat) (v : Word), Ready s (pageBrick a) →
    s.blk.lpServes s.env.build (pageBrick a) rid = true → (a < 0x01000000 ∨ 0x02000000 ≤ a) →
    Gives (.registerWrite (.lp rid tag) a v) s (s.blk.badRequest (pageBrick a) rid tag)) ∧
  (∀ (s : State) (a : Nat) (v : Word), s.blk.held = false → s.blk.crosses .managementPort = false →
    Gives (.registerWrite .mp a v) s s.blk ∧ Gives .timNowRead s s.blk ∧ Gives .fltlogPop s s.blk ∧
      Gives (.warm v) s s.blk) ∧
  (∀ (s : State) (p : Packet) (r : List Packet), s.blk.held = false → s.blk.headGood 0 5 5 p r → p.op = opMgmt →
    p.plen = 16 →
    (look [] s.blk.gpd.seen 5).find? (fun x => x.src == p.src && x.trk == p.tracker) = none →
    (look [] s.blk.gpd.seen 5).length < 64 → Gives .mgmt s ((s.blk.setRx 0 5 r).applyMgmt s.env 0 p)) ∧
  (∀ (s : State) (p : Packet) (r : List Packet) (x : DirSeen), s.blk.held = false → s.blk.headGood 0 5 5 p r →
    p.op = opMgmt → p.plen = 16 →
    (look [] s.blk.gpd.seen 5).find? (fun x => x.src == p.src && x.trk == p.tracker) = some x →
    Gives .mgmt s ((s.blk.setRx 0 5 r).answerMgmt s.env.build 0 p x.answer)) ∧
  (∀ (s : State) (b : Nat) (q : Bool), Ready s b → lpBuilt s.env.build b = true →
    Completes (.interruptReturn b q) s fun k => k = { s.blk with flt.lpi := k.flt.lpi } ∧
      let v := look (false, false, false) s.blk.flt.lpi (b * 2 + b2n q)
      let w := look (false, false, false) k.flt.lpi (b * 2 + b2n q)
      k.regs = s.blk.regs ∧
      (v.1 = v.2.1 → w = v) ∧
      (v.1 ≠ v.2.1 → v.2.2 = false → w.1 = v.1 ∧ w.2.1 = v.1) ∧
      (v.1 ≠ v.2.1 → v.2.2 = true → w.1 = !v.1 ∧ w.2.1 = v.1 ∧ w.2.2 = false)) ∧
  (∀ (s : State) (v : Word), s.blk.held = false → s.blk.crosses .managementPort = true →
    let w (r : RegName) : Block := (s.blk.writeReg s.env r 0 [] v).answerWrite 0 .mp
    Gives (.freeze v) s (w .BBX_CTL) ∧ Gives (.unfreeze v) s (w .BBX_CTL) ∧ Gives (.timCtlSrcWrite v) s (w .TIM_CTL) ∧
      Gives (.timSet v) s (w .TIM_SET) ∧ Gives (.grpAbort v) s (w .GRP_ABORT) ∧ Gives (.routeFlipWrite v) s (w .GLB_ROUTE) ∧
      Gives (.faultDone v) s (w .GLB_FLTCTL) ∧ Gives (.down v) s (w .AGE_VREQ) ∧ Gives (.prbTctlEnable v) s (w .PRB_TCTL) ∧
      Gives (.warm v) s ((s.blk.writeReg s.env .RST_CTL 0 [] v).answerRstCtl v) ∧
      Gives (.enum v) s ((s.blk.writeReg s.env .RST_CTL 0 [] v).answerRstCtl v)) ∧
  (∀ (s : State) (b : Nat) (v : Word), Ready s b → s.blk.crosses .managementPort = true →
    let w (r : RegName) (ix : List Nat) : Block := (s.blk.writeReg s.env r b ix v).answerWrite b .mp
    Gives (.fenceBitsWrite b v) s (w .BRK_RTCTL []) ∧ Gives (.lprst b v) s (w .RST_BRK []) ∧
      Gives (.isolate b v) s (w .RST_BRK []) ∧ Gives (.isolateRelease b v) s (w .RST_BRK []) ∧
      Gives (.computeGate b v) s (w .PWR_BRK []) ∧ Gives (.computeUngate b v) s (w .PWR_BRK []) ∧
      Gives (.routeEntryCommit b v) s (w .NI_RTHI []) ∧ (∀ sl < 64, Gives (.slotWrite b sl v) s (w .RDC_SLOT [sl])) ∧
      (∀ i < 32, Gives (.partitionWrite b i v) s (w .RDC_PART [i])) ∧
      ∀ u < 16, Gives (.restart b u v) s (w .XFR_STAT [u])) ∧
  (∀ (s : State) (p : Nat) (v : Word), s.blk.held = false →
    s.blk.crosses .managementPort = true → p < s.env.build.lanePorts →
    let w : Block := (s.blk.writeReg s.env .LNK_CTL p [] v).answerWrite 0 .mp
    Gives (.linkEnable p v) s w ∧ Gives (.linkDisable p v) s w ∧ Gives (.linkRetrain p v) s w) ∧
  (∀ (s : State) (n : Nat) (v : Word), s.blk.held = false →
    s.blk.crosses .managementPort = true → n < s.env.build.bridgePorts → n < 16 →
    let w : Block := (s.blk.writeReg s.env .D2D_CTL 0 [n] v).answerWrite 0 .mp
    Gives (.bridgeEnable n v) s w ∧ Gives (.bridgeDisable n v) s w ∧ Gives (.bridgeRetrain n v) s w) ∧
  (∀ (s : State) (via : Via) (b i : Nat) (v : Word), Ready s b → s.blk.viaOpen s.env.build b via = false → i < 8 →
    Gives (.counterSet via b i v) s s.blk ∧ Gives (.counterAddWrite via b i v) s s.blk ∧
      Gives (.trkRidxWrite via b i v) s s.blk ∧ Gives (.trkRbaseWrite via b i v) s s.blk ∧
      Gives (.mqChcfgWrite via b i v) s s.blk ∧ Gives (.queueReset via b i v) s s.blk ∧ Gives (.mqGrant via b v) s s.blk ∧
      Gives (.mqPop via b i) s s.blk ∧ Gives (.eventPop via b) s s.blk) ∧
  (∀ (k : Block) (e : Env) (a : Nat) (v : Word) (r : RegName) (pg : Nat) (ix : List Nat),
    programAt e.build a = none → regAt e.build a = some (r, pg, ix) → k.busWrite e a v = some (k.writeReg e r pg ix v)) ∧
  (∀ (k : Block) (e : Env) (a b off : Nat) (v : Word), programAt e.build a = some (b, off) →
    k.busWrite e a v = some (k.windowWrite b off v) ∧ k.busRead e.build a = some (k.windowRead b off, k)) ∧
  (∀ (k : Block) (e : Env) (a : Nat) (v : Word), programAt e.build a = none → regAt e.build a = none →
    k.busWrite e a v = none ∧ k.busRead e.build a = none) ∧
  (∀ (k : Block) (d : Build) (b c : Nat), k.takeRead d .NI_CNTVAL b [c] = (BitVec.ofNat 64 (k.counter b c), k)) ∧
  (∀ (k : Block) (d : Build), (k.takeRead d .TIM_NOW 0 []).2.clk.latched = k.clk.course) ∧
  (∀ (k : Block) (d : Build) (w : Word) (r : List Word), k.flt.log = w :: r →
    (k.takeRead d .GLB_FLTLOG 0 []).1 = w ∧ (k.takeRead d .GLB_FLTLOG 0 []).2.flt.log = r) ∧
  (∀ (k : Block) (e : Env) (r : RegName) (pg : Nat) (ix : List Nat) (v : Word) (f : Field),
    r.plain = true → regAt e.build (regAddr r pg ix) = some (r, pg, ix) → f ∈ regFields r →
    let n := k.writeReg e r pg ix v
    let x := n.takeRead e.build r pg ix
    let old := k.rf r f.hi f.lo pg ix
    let new := fld v f.hi f.lo
    x.2 = n ∧ fld x.1 f.hi f.lo =
      if f.acc = .wo then 0
      else if reservedEnc r f.lo new then old
      else match f.acc with
        | .rw => new
        | .rws => new
        | .rwl => if k.img.locked then old else new
        | .w1c => if new = 2 ^ (f.hi + 1 - f.lo) - 1 then 0 else old
        | .w1m => old &&& ((2 ^ (f.hi + 1 - f.lo) - 1) ^^^ new)
        | _ => old) ∧
  (∀ (k : Block) (r : RegName) (pg : Nat) (ix : List Nat) (e : Word) (f : Word → Word),
    (look ((0 : Nat), (0 : Word), (0 : Word)) k.fresh (regAddr r pg ix)).1 ≠ k.clk.now + 1 →
    ((k.event r pg ix e).writeBeforeEvents r pg ix f).reg r pg ix = eventOn r (f (k.reg r pg ix)) e) ∧
  (∀ (k : Block) (r : RegName) (pg : Nat) (ix : List Nat) (e : Word) (f : Word → Word) (n : Nat),
    n ≠ k.clk.now →
    ((({ k.event r pg ix e with clk.now := n } : Block)).writeBeforeEvents r pg ix f).reg r pg ix =
      f (eventOn r (k.reg r pg ix) e))

/-! ### Counters and waits (R29, R40), flat identifiers (R90) -/

/-- R29 and R40: increments of one counter are all applied, in whatever order they come; a WAIT is satisfied when
(counter minus target) modulo 2^32 is less than 2^31, which within a span of 2^31 is the comparison counter ≥ target,
also when the counter wraps. -/
def Obligations.IncrementsCountAndWaitsCompare : Prop :=
  (∀ (k : Block) (b c m n : Nat),
    ((k.counterAdd b c m).counterAdd b c n).counter b c = (k.counter b c + m + n) % 2 ^ 32 ∧
    ((k.counterAdd b c n).counterAdd b c m).counter b c = (k.counter b c + m + n) % 2 ^ 32) ∧
  (∀ c t : Nat, c < 2 ^ 32 → t < 2 ^ 32 → (waitMet c t = true ↔ ((c : Int) - t) % 2 ^ 32 < 2 ^ 31)) ∧
  (∀ c t : Nat, t ≤ c → c < t + 2 ^ 31 → waitMet (c % 2 ^ 32) (t % 2 ^ 32) = true) ∧
  (∀ c t : Nat, c < t → t ≤ c + 2 ^ 31 → waitMet (c % 2 ^ 32) (t % 2 ^ 32) = false)

/-- R36: the iteration index k of a WAIT is the number of branches taken by the innermost LOOP whose body contains it
(the loop at a with body t to a, inside every other body that contains the WAIT), 0 outside every body; a branch
counts, and leaving the loop starts its count again; the target of WAIT is (v + s × k) modulo 2^32. -/
def Obligations.IterationIndexIsTheInnermostLoops : Prop :=
  (∀ (k : Block) (b u pc : Nat),
    (∀ a t, pc ≤ a → a < progSize u → k.loopTarget b u a = some t → pc < t) → k.iterIndex b u pc = 0) ∧
  (∀ (k : Block) (b u pc a t : Nat), pc ≤ a → a < progSize u → k.loopTarget b u a = some t → t ≤ pc →
    (∀ a' t', pc ≤ a' → a' < progSize u → k.loopTarget b u a' = some t' → t' ≤ pc → t' ≤ t ∧ a ≤ a') →
    k.iterIndex b u pc = (k.stream b u).taken a) ∧
  (∀ (s : State) (b u n t : Nat) (evt : Bool), Ready s b → streamOk u = true →
    s.blk.ctlFetch b u = some (.loop n t, evt) →
    let a := (s.blk.stream b u).pc
    let branches := n = 0 ∨ (s.blk.stream b u).taken a < n
    Completes (.loopBack b u) s fun k =>
      (branches → (k.stream b u).pc = t ∧ (k.stream b u).taken a = (s.blk.stream b u).taken a + 1) ∧
      (¬branches → (k.stream b u).pc = a + 1 ∧ (k.stream b u).taken a = 0) ∧
      ∀ a', a' ≠ a → (k.stream b u).taken a' = (s.blk.stream b u).taken a') ∧
  (∀ (s : State) (b u c st v : Nat) (evt : Bool), Ready s b → streamOk u = true →
    ¬(s.blk.img.st = .quiescing ∧ isReducer u = false) → s.blk.ctlFetch b u = some (.wait c st v, evt) →
    Completes (.wait b u) s fun k => (k.stream b u).wcnt = c ∧
      (k.stream b u).wtarget = (v + st * s.blk.iterIndex b u (s.blk.stream b u).pc) % 2 ^ 32)

/-- R90: the slice of a flat identifier F has ordinal n = (F[7:0] XOR F[15:8] XOR F[23:16]) mod (MESH_X × MESH_Y), and
stands at x = n mod MESH_X and y = n div MESH_X, a brick of the die. -/
def Obligations.FlatIdentifiersNameTheirSlice : Prop :=
  ∀ (d : Build) (f : Nat), 0 < d.meshX → d.meshX ≤ 16 → 0 < d.meshY → d.meshY ≤ 16 →
    let n := (f % 256 ^^^ f / 256 % 256 ^^^ f / 65536 % 256) % (d.meshX * d.meshY)
    brickX (sliceOf d f) = n % d.meshX ∧ brickY (sliceOf d f) = n / d.meshX ∧ brickOk d (sliceOf d f) = true
end

