-- ==== Sys2Proof/Laws/Store.lean ====
section
/-!
SUPPORT. What the sparse store's operations do: a read after a write, and the canonical form.
-/

namespace Sys2Proof.Machine

variable {α : Type}

@[simp] theorem look_nil (d : α) (k : Nat) : look d [] k = d := rfl

theorem look_erase_same (d : α) (m : Store α) (k : Nat) : look d (erase m k) k = d := by
  induction m with
  | nil => rfl
  | cons e r ih =>
    obtain ⟨j, v⟩ := e
    by_cases h : j = k <;> simp [erase, look, h, ih]

theorem look_erase_other (d : α) (m : Store α) {k j : Nat} (h : j ≠ k) : look d (erase m k) j = look d m j := by
  induction m with
  | nil => rfl
  | cons e r ih =>
    obtain ⟨i, v⟩ := e
    by_cases hi : i = k
    · subst hi; simp [erase, look, ih, Ne.symm h]
    · by_cases hj : i = j
      · subst hj; simp [erase, look, hi]
      · simp [erase, look, hi, hj, ih]

theorem look_insert_same (d : α) (m : Store α) (k : Nat) (v : α) : look d (insert m k v) k = v := by
  induction m with
  | nil => simp [insert, look]
  | cons e r ih =>
    obtain ⟨i, w⟩ := e
    by_cases hi : i = k
    · simp [insert, look, hi]
    · by_cases hk : k < i <;> simp [insert, look, hi, hk, ih]

theorem look_insert_other (d : α) (m : Store α) {k j : Nat} (v : α) (h : j ≠ k) :
    look d (insert m k v) j = look d m j := by
  induction m with
  | nil => simp [insert, look, Ne.symm h]
  | cons e r ih =>
    obtain ⟨i, w⟩ := e
    by_cases hi : i = k
    · subst hi; simp [insert, look, Ne.symm h]
    · by_cases hk : k < i
      · simp [insert, look, hi, hk, Ne.symm h]
      · by_cases hj : i = j
        · subst hj; simp [insert, look, hi, hk]
        · simp [insert, look, hi, hk, hj, ih]

variable [DecidableEq α]

/-- A read after a write to the same key gives the value written. -/
@[simp] theorem look_put_same (d : α) (m : Store α) (k : Nat) (v : α) : look d (put d m k v) k = v := by
  by_cases h : v = d
  · subst h; simp [put, look_erase_same]
  · simp [put, h, look_insert_same]

/-- A write leaves every other key alone, whatever the two defaults. -/
theorem look_put_other (d d' : α) (m : Store α) {k j : Nat} (v : α) (h : j ≠ k) :
    look d (put d' m k v) j = look d m j := by
  by_cases hv : v = d'
  · simp [put, hv, look_erase_other d m h]
  · simp [put, hv, look_insert_other d m v h]

/-- A read after a write, in one equation. -/
theorem look_put (d : α) (m : Store α) (k j : Nat) (v : α) :
    look d (put d m k v) j = if j = k then v else look d m j := by
  by_cases h : j = k
  · subst h; simp
  · simp [h, look_put_other d d m v h]

@[simp] theorem look_modify_same (d : α) (m : Store α) (k : Nat) (f : α → α) :
    look d (modify d m k f) k = f (look d m k) := by simp [modify]

omit [DecidableEq α] in
theorem keysRise_cons (j : Nat) (v : α) (r : Store α) :
    keysRise ((j, v) :: r) = true ↔ (∀ e ∈ r, j < e.1) ∧ keysRise r = true := by
  induction r generalizing j v with
  | nil => simp [keysRise]
  | cons e r ih =>
    obtain ⟨i, w⟩ := e
    constructor
    · intro h
      simp only [keysRise, Bool.and_eq_true, decide_eq_true_eq] at h
      refine ⟨?_, h.2⟩
      intro e he
      rcases List.mem_cons.1 he with rfl | he
      · exact h.1
      · exact Nat.lt_trans h.1 (((ih i w).1 h.2).1 e he)
    · rintro ⟨h1, h2⟩
      simp only [keysRise, Bool.and_eq_true, decide_eq_true_eq]
      exact ⟨h1 (i, w) (List.mem_cons_self ..), h2⟩

omit [DecidableEq α] in
theorem mem_erase (m : Store α) (k : Nat) (e : Nat × α) : e ∈ erase m k ↔ e ∈ m ∧ e.1 ≠ k := by
  induction m with
  | nil => simp [erase]
  | cons a r ih =>
    obtain ⟨j, v⟩ := a
    by_cases h : j = k
    · simp only [erase, h, if_true, ih, List.mem_cons]
      constructor
      · rintro ⟨h1, h2⟩; exact ⟨.inr h1, h2⟩
      · rintro ⟨rfl | h1, h2⟩
        · exact absurd rfl h2
        · exact ⟨h1, h2⟩
    · simp only [erase, h, if_false, ih, List.mem_cons]
      constructor
      · rintro (rfl | ⟨h1, h2⟩)
        · exact ⟨.inl rfl, h⟩
        · exact ⟨.inr h1, h2⟩
      · rintro ⟨rfl | h1, h2⟩
        · exact .inl rfl
        · exact .inr ⟨h1, h2⟩

omit [DecidableEq α] in
theorem mem_insert_sub (m : Store α) (k : Nat) (v : α) (e : Nat × α) (h : e ∈ insert m k v) : e = (k, v) ∨ e ∈ m := by
  induction m with
  | nil => simpa [insert] using h
  | cons a r ih =>
    obtain ⟨j, w⟩ := a
    by_cases hj : j = k
    · simp only [insert, hj, if_true, List.mem_cons] at h
      rcases h with h | h
      · exact .inl h
      · exact .inr (List.mem_cons_of_mem _ h)
    · by_cases hk : k < j
      · simp only [insert, hj, hk, if_true, if_false, List.mem_cons] at h
        rcases h with h | h
        · exact .inl h
        · exact .inr (List.mem_cons.2 h)
      · simp only [insert, hj, hk, if_false, List.mem_cons] at h
        rcases h with h | h
        · exact .inr (List.mem_cons.2 (.inl h))
        · rcases ih h with h | h
          · exact .inl h
          · exact .inr (List.mem_cons_of_mem _ h)

omit [DecidableEq α] in
theorem keysRise_erase (m : Store α) (k : Nat) (h : keysRise m = true) : keysRise (erase m k) = true := by
  induction m with
  | nil => rfl
  | cons a r ih =>
    obtain ⟨j, v⟩ := a
    have hr := (keysRise_cons j v r).1 h
    by_cases hj : j = k
    · simpa [erase, hj] using ih hr.2
    · simp only [erase, hj, if_false]
      exact (keysRise_cons j v _).2 ⟨fun e he => hr.1 e ((mem_erase r k e).1 he).1, ih hr.2⟩

omit [DecidableEq α] in
theorem keysRise_insert (m : Store α) (k : Nat) (v : α) (h : keysRise m = true) : keysRise (insert m k v) = true := by
  induction m with
  | nil => rfl
  | cons a r ih =>
    obtain ⟨j, w⟩ := a
    have hr := (keysRise_cons j w r).1 h
    by_cases hj : j = k
    · subst hj
      simp only [insert, if_true]
      exact (keysRise_cons j v r).2 hr
    · by_cases hk : k < j
      · simp only [insert, hj, hk, if_true, if_false]
        refine (keysRise_cons k v _).2 ⟨?_, h⟩
        intro e he
        rcases List.mem_cons.1 he with rfl | he
        · exact hk
        · exact Nat.lt_trans hk (hr.1 e he)
      · simp only [insert, hj, hk, if_false]
        refine (keysRise_cons j w _).2 ⟨?_, ih hr.2⟩
        intro e he
        rcases mem_insert_sub r k v e he with rfl | he
        · omega
        · exact hr.1 e he

/-- A write keeps the canonical form. -/
theorem canonical_put (d : α) (m : Store α) (k : Nat) (v : α) (h : Canonical d m) : Canonical d (put d m k v) := by
  by_cases hv : v = d
  · rw [put, if_pos hv]
    exact ⟨keysRise_erase m k h.1, fun e he => h.2 e ((mem_erase m k e).1 he).1⟩
  · rw [put, if_neg hv]
    refine ⟨keysRise_insert m k v h.1, fun e he => ?_⟩
    rcases mem_insert_sub m k v e he with rfl | he
    · exact hv
    · exact h.2 e he

end Sys2Proof.Machine
end

