-- ==== Sys2Proof/Laws/Bits.lean ====
section
/-!
SUPPORT. Fields of words: a field reads what was written to it, and other fields stand.
-/

namespace Sys2Proof.Machine

/-- A number about a field: what lies above it, the field, what lies below it. -/
theorem split_at_field (n lo m : Nat) :
    n = (n / 2 ^ (lo + m)) * 2 ^ (lo + m) + ((n / 2 ^ lo) % 2 ^ m) * 2 ^ lo + n % 2 ^ lo := by
  have h1 : n / 2 ^ lo / 2 ^ m = n / 2 ^ (lo + m) := by rw [Nat.div_div_eq_div_mul, ← Nat.pow_add]
  have h2 := Nat.div_add_mod n (2 ^ lo)
  have h3 := Nat.div_add_mod (n / 2 ^ lo) (2 ^ m)
  rw [h1] at h3
  calc n = 2 ^ lo * (n / 2 ^ lo) + n % 2 ^ lo := h2.symm
    _ = 2 ^ lo * (2 ^ m * (n / 2 ^ (lo + m)) + n / 2 ^ lo % 2 ^ m) + n % 2 ^ lo := by rw [h3]
    _ = _ := by rw [Nat.pow_add]; grind

theorem setBits_eq (n hi lo v : Nat) (h : lo ≤ hi + 1) :
    setBits n hi lo v = (n / 2 ^ (hi + 1)) * 2 ^ (hi + 1) + (v % 2 ^ (hi + 1 - lo)) * 2 ^ lo + n % 2 ^ lo := by
  have e := split_at_field n lo (hi + 1 - lo)
  rw [show lo + (hi + 1 - lo) = hi + 1 by omega] at e
  simp only [setBits, bits, Nat.shiftLeft_eq, Nat.shiftRight_eq_div_pow]
  generalize n / 2 ^ (hi + 1) * 2 ^ (hi + 1) = A at *
  generalize n / 2 ^ lo % 2 ^ (hi + 1 - lo) * 2 ^ lo = B at *
  omega

/-- The field just written. -/
theorem bits_setBits_same (n hi lo v : Nat) (h : lo ≤ hi + 1) :
    bits (setBits n hi lo v) hi lo = v % 2 ^ (hi + 1 - lo) := by
  rw [setBits_eq n hi lo v h, bits, Nat.shiftRight_eq_div_pow]
  have hp : 2 ^ (hi + 1) = 2 ^ lo * 2 ^ (hi + 1 - lo) := by rw [← Nat.pow_add]; congr 1; omega
  have hl : n % 2 ^ lo < 2 ^ lo := Nat.mod_lt _ (Nat.two_pow_pos lo)
  rw [hp, show n / (2 ^ lo * 2 ^ (hi + 1 - lo)) * (2 ^ lo * 2 ^ (hi + 1 - lo)) + v % 2 ^ (hi + 1 - lo) * 2 ^ lo + n % 2 ^ lo
      = n % 2 ^ lo + 2 ^ lo * (n / (2 ^ lo * 2 ^ (hi + 1 - lo)) * 2 ^ (hi + 1 - lo) + v % 2 ^ (hi + 1 - lo)) by grind,
    Nat.add_mul_div_left _ _ (Nat.two_pow_pos lo), Nat.div_eq_of_lt hl]
  simp [Nat.add_mod]

theorem setBits_lt (n hi lo v w : Nat) (h : lo ≤ hi + 1) (hw : hi < w) (hn : n < 2 ^ w) : setBits n hi lo v < 2 ^ w := by
  rw [setBits_eq n hi lo v h]
  have hp : 2 ^ (hi + 1) = 2 ^ lo * 2 ^ (hi + 1 - lo) := by rw [← Nat.pow_add]; congr 1; omega
  have hl : n % 2 ^ lo < 2 ^ lo := Nat.mod_lt _ (Nat.two_pow_pos lo)
  have hv : v % 2 ^ (hi + 1 - lo) < 2 ^ (hi + 1 - lo) := Nat.mod_lt _ (Nat.two_pow_pos _)
  have hw2 : 2 ^ w = 2 ^ (hi + 1) * 2 ^ (w - (hi + 1)) := by rw [← Nat.pow_add]; congr 1; omega
  have hq : n / 2 ^ (hi + 1) < 2 ^ (w - (hi + 1)) := by
    rw [Nat.div_lt_iff_lt_mul (Nat.two_pow_pos _), Nat.mul_comm, ← hw2]; exact hn
  have h1 : v % 2 ^ (hi + 1 - lo) * 2 ^ lo + n % 2 ^ lo < 2 ^ (hi + 1) := by
    have : (v % 2 ^ (hi + 1 - lo) + 1) * 2 ^ lo ≤ 2 ^ (hi + 1 - lo) * 2 ^ lo := Nat.mul_le_mul_right _ hv
    rw [hp, Nat.mul_comm (2 ^ lo)]
    rw [Nat.add_mul] at this
    omega
  have h2 : (n / 2 ^ (hi + 1) + 1) * 2 ^ (hi + 1) ≤ 2 ^ (w - (hi + 1)) * 2 ^ (hi + 1) := Nat.mul_le_mul_right _ hq
  rw [Nat.add_mul] at h2
  rw [hw2, Nat.mul_comm (2 ^ (hi + 1)) (2 ^ (w - (hi + 1)))]
  omega

/-- A field below the one written stands. -/
theorem bits_setBits_below (n hi lo v i j : Nat) (h : lo ≤ hi + 1) (hi' : i < lo) :
    bits (setBits n hi lo v) i j = bits n i j := by
  rw [setBits_eq n hi lo v h]
  by_cases hj : j ≤ i
  · simp only [bits, Nat.shiftRight_eq_div_pow]
    have hp : 2 ^ (hi + 1) = 2 ^ lo * 2 ^ (hi + 1 - lo) := by rw [← Nat.pow_add]; congr 1; omega
    have hq : 2 ^ lo = 2 ^ j * 2 ^ (i + 1 - j) * 2 ^ (lo - (i + 1)) := by
      rw [← Nat.pow_add, ← Nat.pow_add]; congr 1; omega
    have key : ∀ x : Nat, (x / 2 ^ j) % 2 ^ (i + 1 - j) = (x % 2 ^ (i + 1)) / 2 ^ j := by
      intro x
      rw [show i + 1 = j + (i + 1 - j) by omega, Nat.pow_add, Nat.mod_mul_right_div_self]
      simp
    rw [key, key]
    congr 1
    have hd : 2 ^ (i + 1) ∣ 2 ^ lo := Nat.pow_dvd_pow 2 (by omega)
    have hd2 : 2 ^ (i + 1) ∣ 2 ^ (hi + 1) := Nat.pow_dvd_pow 2 (by omega)
    rw [Nat.add_mod, Nat.mod_mod_of_dvd _ hd,
      Nat.mod_eq_zero_of_dvd (Nat.dvd_add (Nat.dvd_mul_left_of_dvd hd2 _) (Nat.dvd_mul_left_of_dvd hd _))]
    simp
  · simp [bits, show i + 1 - j = 0 by omega, Nat.mod_one]

/-- A field above the one written stands. -/
theorem bits_setBits_above (n hi lo v i j : Nat) (h : lo ≤ hi + 1) (hj : hi < j) :
    bits (setBits n hi lo v) i j = bits n i j := by
  have : setBits n hi lo v / 2 ^ (hi + 1) = n / 2 ^ (hi + 1) := by
    rw [setBits_eq n hi lo v h]
    have hp : 2 ^ (hi + 1) = 2 ^ lo * 2 ^ (hi + 1 - lo) := by rw [← Nat.pow_add]; congr 1; omega
    have hl : n % 2 ^ lo < 2 ^ lo := Nat.mod_lt _ (Nat.two_pow_pos lo)
    have hv : v % 2 ^ (hi + 1 - lo) < 2 ^ (hi + 1 - lo) := Nat.mod_lt _ (Nat.two_pow_pos _)
    have h1 : v % 2 ^ (hi + 1 - lo) * 2 ^ lo + n % 2 ^ lo < 2 ^ (hi + 1) := by
      have : (v % 2 ^ (hi + 1 - lo) + 1) * 2 ^ lo ≤ 2 ^ (hi + 1 - lo) * 2 ^ lo := Nat.mul_le_mul_right _ hv
      rw [hp, Nat.mul_comm (2 ^ lo)]
      rw [Nat.add_mul] at this
      omega
    rw [Nat.add_assoc, Nat.mul_comm, Nat.mul_add_div (Nat.two_pow_pos _), Nat.div_eq_of_lt h1, Nat.add_zero]
  simp only [bits, Nat.shiftRight_eq_div_pow]
  have e : ∀ x : Nat, x / 2 ^ j = x / 2 ^ (hi + 1) / 2 ^ (j - (hi + 1)) := by
    intro x; rw [Nat.div_div_eq_div_mul, ← Nat.pow_add]; congr 2; omega
  rw [e, e n, this]

/-! ### Words -/

theorem withFld_toNat (w : Word) (hi lo v : Nat) (h : lo ≤ hi + 1) (hh : hi < 64) :
    (withFld w hi lo v).toNat = setBits w.toNat hi lo v := by
  rw [withFld, BitVec.toNat_ofNat, Nat.mod_eq_of_lt (setBits_lt _ _ _ _ 64 h hh w.isLt)]

/-- A field of a word reads what was written to it. -/
theorem fld_withFld_same (w : Word) (hi lo v : Nat) (h : lo ≤ hi + 1) (hh : hi < 64) :
    fld (withFld w hi lo v) hi lo = v % 2 ^ (hi + 1 - lo) := by
  rw [fld, withFld_toNat w hi lo v h hh, bits_setBits_same _ _ _ _ h]

/-- The other fields of the word stand. -/
theorem fld_withFld_other (w : Word) (hi lo v i j : Nat) (h : lo ≤ hi + 1) (hh : hi < 64) (hd : i < lo ∨ hi < j) :
    fld (withFld w hi lo v) i j = fld w i j := by
  rw [fld, fld, withFld_toNat w hi lo v h hh]
  rcases hd with hd | hd
  · exact bits_setBits_below _ _ _ _ _ _ h hd
  · exact bits_setBits_above _ _ _ _ _ _ h hd

/-- A bit of a word as a field of one bit. -/
theorem flag_eq_fld (w : Word) (i : Nat) : flag w i = decide (fld w i i = 1) := by
  simp [flag, fld, bits, Nat.testBit, bne]

@[simp] theorem Block.reg_setReg (k : Block) (r : RegName) (pg : Nat) (ix : List Nat) (w : Word) :
    (k.setReg r pg ix w).reg r pg ix = w := by simp [Block.reg, Block.setReg]

/-- A write to a register leaves the registers at other addresses alone. -/
theorem Block.reg_setReg_other (k : Block) {r r' : RegName} {pg pg' : Nat} {ix ix' : List Nat} (w : Word)
    (h : regAddr r' pg' ix' ≠ regAddr r pg ix) : (k.setReg r pg ix w).reg r' pg' ix' = k.reg r' pg' ix' := by
  simp [Block.reg, Block.setReg, look_put_other _ _ _ _ h]

/-- A field of a register reads what was written to it. -/
theorem Block.rf_setRf_same (k : Block) (r : RegName) (hi lo pg : Nat) (ix : List Nat) (v : Nat) (h : lo ≤ hi + 1)
    (hh : hi < 64) : (k.setRf r hi lo pg ix v).rf r hi lo pg ix = v % 2 ^ (hi + 1 - lo) := by
  rw [Block.rf, Block.setRf, Block.reg_setReg, fld_withFld_same _ _ _ _ h hh]

/-- The other fields of the register stand. -/
theorem Block.rf_setRf_other (k : Block) (r : RegName) (hi lo pg : Nat) (ix : List Nat) (v i j : Nat)
    (h : lo ≤ hi + 1) (hh : hi < 64) (hd : i < lo ∨ hi < j) :
    (k.setRf r hi lo pg ix v).rf r i j pg ix = k.rf r i j pg ix := by
  rw [Block.rf, Block.setRf, Block.reg_setReg, fld_withFld_other _ _ _ _ _ _ h hh hd, Block.rf]

/-- Registers at other addresses stand. -/
theorem Block.reg_setRf_other (k : Block) {r r' : RegName} (hi lo pg : Nat) (ix : List Nat) (v : Nat) {pg' : Nat}
    {ix' : List Nat} (h : regAddr r' pg' ix' ≠ regAddr r pg ix) :
    (k.setRf r hi lo pg ix v).reg r' pg' ix' = k.reg r' pg' ix' := by
  rw [Block.setRf, Block.reg_setReg_other _ _ h]

end Sys2Proof.Machine
end

