-- ==== Sys2Proof/Laws/Memory.lean ====
section
/-!
SUPPORT. Cluster memory: reads after writes, and that every memory operation keeps the canonical form.
-/

namespace Sys2Proof.Machine

theorem Memory.wf_iff (m : List Host.Cell) : Memory.wf m = true ↔ Canonical (0 : Byte) m := by
  simp [Memory.wf, Canonical]

@[simp] theorem memByte_put_same (m : List Host.Cell) (a : Nat) (v : Byte) : memByte (put 0 m a v) a = v := by
  simp [memByte]

theorem memByte_put_other (m : List Host.Cell) {a c : Nat} (v : Byte) (h : c ≠ a) :
    memByte (put 0 m a v) c = memByte m c := by simp [memByte, look_put_other _ _ _ _ h]

/-- Writing a byte keeps the form. -/
theorem Memory.wf_put (m : List Host.Cell) (a : Nat) (v : Byte) (h : Memory.wf m = true) :
    Memory.wf (put 0 m a v) = true := by
  rw [Memory.wf_iff] at *
  exact canonical_put 0 m a v h

/-- Writing a run of bytes keeps the form. -/
theorem Memory.wf_memWrite (b : Nat) (l : List Byte) (m : List Host.Cell) (a : Nat) (h : Memory.wf m = true) :
    Memory.wf (memWrite m b a l) = true := by
  induction l generalizing m a with
  | nil => exact h
  | cons v r ih => exact ih _ _ (Memory.wf_put _ _ _ h)

/-- Writing the runs of a request keeps the form. -/
theorem Memory.wf_writeRuns (b : Nat) (l : List (Nat × List Byte)) (m : List Host.Cell) (h : Memory.wf m = true) :
    Memory.wf (writeRuns m b l) = true := by
  induction l generalizing m with
  | nil => exact h
  | cons x r ih => exact ih _ (Memory.wf_memWrite _ _ _ _ h)

/-- A write of a run changes no byte at a key that is not one of its bytes. -/
theorem memByte_memWrite_other (b : Nat) (l : List Byte) (m : List Host.Cell) (a key : Nat)
    (h : ∀ i < l.length, key ≠ memKey b (a + i)) : memByte (memWrite m b a l) key = memByte m key := by
  induction l generalizing m a with
  | nil => rfl
  | cons v r ih =>
    have h0 := h 0 (by simp)
    rw [memWrite, ih]
    · exact memByte_put_other _ _ h0
    · intro i hi
      have := h (i + 1) (by simp; omega)
      simpa [Nat.add_comm, Nat.add_left_comm, Nat.add_assoc] using this

end Sys2Proof.Machine
end

