-- ==== Sys2Proof/Laws/State.lean ====
section
/-!
SUPPORT. For each named update of the block: the groups of state it leaves alone, and in its own group the fields it
leaves alone, each true by unfolding.
-/

namespace Sys2Proof.Machine

/-! ### Block.setReg -/

@[simp] theorem Block.setReg_clk (k : Block) (r : RegName) (pg : Nat) (ix : List Nat) (w : Word) :
    (k.setReg r pg ix w).clk = k.clk := rfl
@[simp] theorem Block.setReg_prog (k : Block) (r : RegName) (pg : Nat) (ix : List Nat) (w : Word) :
    (k.setReg r pg ix w).prog = k.prog := rfl
@[simp] theorem Block.setReg_img (k : Block) (r : RegName) (pg : Nat) (ix : List Nat) (w : Word) :
    (k.setReg r pg ix w).img = k.img := rfl
@[simp] theorem Block.setReg_net (k : Block) (r : RegName) (pg : Nat) (ix : List Nat) (w : Word) :
    (k.setReg r pg ix w).net = k.net := rfl
@[simp] theorem Block.setReg_xfr (k : Block) (r : RegName) (pg : Nat) (ix : List Nat) (w : Word) :
    (k.setReg r pg ix w).xfr = k.xfr := rfl
@[simp] theorem Block.setReg_rdc (k : Block) (r : RegName) (pg : Nat) (ix : List Nat) (w : Word) :
    (k.setReg r pg ix w).rdc = k.rdc := rfl
@[simp] theorem Block.setReg_flt (k : Block) (r : RegName) (pg : Nat) (ix : List Nat) (w : Word) :
    (k.setReg r pg ix w).flt = k.flt := rfl
@[simp] theorem Block.setReg_mq (k : Block) (r : RegName) (pg : Nat) (ix : List Nat) (w : Word) :
    (k.setReg r pg ix w).mq = k.mq := rfl
@[simp] theorem Block.setReg_spc (k : Block) (r : RegName) (pg : Nat) (ix : List Nat) (w : Word) :
    (k.setReg r pg ix w).spc = k.spc := rfl
@[simp] theorem Block.setReg_gpd (k : Block) (r : RegName) (pg : Nat) (ix : List Nat) (w : Word) :
    (k.setReg r pg ix w).gpd = k.gpd := rfl
@[simp] theorem Block.setReg_hlth (k : Block) (r : RegName) (pg : Nat) (ix : List Nat) (w : Word) :
    (k.setReg r pg ix w).hlth = k.hlth := rfl
@[simp] theorem Block.setReg_lnk (k : Block) (r : RegName) (pg : Nat) (ix : List Nat) (w : Word) :
    (k.setReg r pg ix w).lnk = k.lnk := rfl
@[simp] theorem Block.setReg_rst (k : Block) (r : RegName) (pg : Nat) (ix : List Nat) (w : Word) :
    (k.setReg r pg ix w).rst = k.rst := rfl
@[simp] theorem Block.setReg_fresh (k : Block) (r : RegName) (pg : Nat) (ix : List Nat) (w : Word) :
    (k.setReg r pg ix w).fresh = k.fresh := rfl
@[simp] theorem Block.setReg_late (k : Block) (r : RegName) (pg : Nat) (ix : List Nat) (w : Word) :
    (k.setReg r pg ix w).late = k.late := rfl
@[simp] theorem Block.setReg_out (k : Block) (r : RegName) (pg : Nat) (ix : List Nat) (w : Word) :
    (k.setReg r pg ix w).out = k.out := rfl
@[simp] theorem Block.setReg_free (k : Block) (r : RegName) (pg : Nat) (ix : List Nat) (w : Word) :
    (k.setReg r pg ix w).free = k.free := rfl

/-! ### Block.setRf -/

@[simp] theorem Block.setRf_clk (k : Block) (r : RegName) (hi lo pg : Nat) (ix : List Nat) (v : Nat) :
    (k.setRf r hi lo pg ix v).clk = k.clk := rfl
@[simp] theorem Block.setRf_prog (k : Block) (r : RegName) (hi lo pg : Nat) (ix : List Nat) (v : Nat) :
    (k.setRf r hi lo pg ix v).prog = k.prog := rfl
@[simp] theorem Block.setRf_img (k : Block) (r : RegName) (hi lo pg : Nat) (ix : List Nat) (v : Nat) :
    (k.setRf r hi lo pg ix v).img = k.img := rfl
@[simp] theorem Block.setRf_net (k : Block) (r : RegName) (hi lo pg : Nat) (ix : List Nat) (v : Nat) :
    (k.setRf r hi lo pg ix v).net = k.net := rfl
@[simp] theorem Block.setRf_xfr (k : Block) (r : RegName) (hi lo pg : Nat) (ix : List Nat) (v : Nat) :
    (k.setRf r hi lo pg ix v).xfr = k.xfr := rfl
@[simp] theorem Block.setRf_rdc (k : Block) (r : RegName) (hi lo pg : Nat) (ix : List Nat) (v : Nat) :
    (k.setRf r hi lo pg ix v).rdc = k.rdc := rfl
@[simp] theorem Block.setRf_flt (k : Block) (r : RegName) (hi lo pg : Nat) (ix : List Nat) (v : Nat) :
    (k.setRf r hi lo pg ix v).flt = k.flt := rfl
@[simp] theorem Block.setRf_mq (k : Block) (r : RegName) (hi lo pg : Nat) (ix : List Nat) (v : Nat) :
    (k.setRf r hi lo pg ix v).mq = k.mq := rfl
@[simp] theorem Block.setRf_spc (k : Block) (r : RegName) (hi lo pg : Nat) (ix : List Nat) (v : Nat) :
    (k.setRf r hi lo pg ix v).spc = k.spc := rfl
@[simp] theorem Block.setRf_gpd (k : Block) (r : RegName) (hi lo pg : Nat) (ix : List Nat) (v : Nat) :
    (k.setRf r hi lo pg ix v).gpd = k.gpd := rfl
@[simp] theorem Block.setRf_hlth (k : Block) (r : RegName) (hi lo pg : Nat) (ix : List Nat) (v : Nat) :
    (k.setRf r hi lo pg ix v).hlth = k.hlth := rfl
@[simp] theorem Block.setRf_lnk (k : Block) (r : RegName) (hi lo pg : Nat) (ix : List Nat) (v : Nat) :
    (k.setRf r hi lo pg ix v).lnk = k.lnk := rfl
@[simp] theorem Block.setRf_rst (k : Block) (r : RegName) (hi lo pg : Nat) (ix : List Nat) (v : Nat) :
    (k.setRf r hi lo pg ix v).rst = k.rst := rfl
@[simp] theorem Block.setRf_fresh (k : Block) (r : RegName) (hi lo pg : Nat) (ix : List Nat) (v : Nat) :
    (k.setRf r hi lo pg ix v).fresh = k.fresh := rfl
@[simp] theorem Block.setRf_late (k : Block) (r : RegName) (hi lo pg : Nat) (ix : List Nat) (v : Nat) :
    (k.setRf r hi lo pg ix v).late = k.late := rfl
@[simp] theorem Block.setRf_out (k : Block) (r : RegName) (hi lo pg : Nat) (ix : List Nat) (v : Nat) :
    (k.setRf r hi lo pg ix v).out = k.out := rfl
@[simp] theorem Block.setRf_free (k : Block) (r : RegName) (hi lo pg : Nat) (ix : List Nat) (v : Nat) :
    (k.setRf r hi lo pg ix v).free = k.free := rfl

/-! ### Block.bump -/

@[simp] theorem Block.bump_clk (k : Block) (r : RegName) (hi lo pg : Nat) (ix : List Nat) (n : Nat) :
    (k.bump r hi lo pg ix n).clk = k.clk := rfl
@[simp] theorem Block.bump_prog (k : Block) (r : RegName) (hi lo pg : Nat) (ix : List Nat) (n : Nat) :
    (k.bump r hi lo pg ix n).prog = k.prog := rfl
@[simp] theorem Block.bump_img (k : Block) (r : RegName) (hi lo pg : Nat) (ix : List Nat) (n : Nat) :
    (k.bump r hi lo pg ix n).img = k.img := rfl
@[simp] theorem Block.bump_net (k : Block) (r : RegName) (hi lo pg : Nat) (ix : List Nat) (n : Nat) :
    (k.bump r hi lo pg ix n).net = k.net := rfl
@[simp] theorem Block.bump_xfr (k : Block) (r : RegName) (hi lo pg : Nat) (ix : List Nat) (n : Nat) :
    (k.bump r hi lo pg ix n).xfr = k.xfr := rfl
@[simp] theorem Block.bump_rdc (k : Block) (r : RegName) (hi lo pg : Nat) (ix : List Nat) (n : Nat) :
    (k.bump r hi lo pg ix n).rdc = k.rdc := rfl
@[simp] theorem Block.bump_flt (k : Block) (r : RegName) (hi lo pg : Nat) (ix : List Nat) (n : Nat) :
    (k.bump r hi lo pg ix n).flt = k.flt := rfl
@[simp] theorem Block.bump_mq (k : Block) (r : RegName) (hi lo pg : Nat) (ix : List Nat) (n : Nat) :
    (k.bump r hi lo pg ix n).mq = k.mq := rfl
@[simp] theorem Block.bump_spc (k : Block) (r : RegName) (hi lo pg : Nat) (ix : List Nat) (n : Nat) :
    (k.bump r hi lo pg ix n).spc = k.spc := rfl
@[simp] theorem Block.bump_gpd (k : Block) (r : RegName) (hi lo pg : Nat) (ix : List Nat) (n : Nat) :
    (k.bump r hi lo pg ix n).gpd = k.gpd := rfl
@[simp] theorem Block.bump_hlth (k : Block) (r : RegName) (hi lo pg : Nat) (ix : List Nat) (n : Nat) :
    (k.bump r hi lo pg ix n).hlth = k.hlth := rfl
@[simp] theorem Block.bump_lnk (k : Block) (r : RegName) (hi lo pg : Nat) (ix : List Nat) (n : Nat) :
    (k.bump r hi lo pg ix n).lnk = k.lnk := rfl
@[simp] theorem Block.bump_rst (k : Block) (r : RegName) (hi lo pg : Nat) (ix : List Nat) (n : Nat) :
    (k.bump r hi lo pg ix n).rst = k.rst := rfl
@[simp] theorem Block.bump_fresh (k : Block) (r : RegName) (hi lo pg : Nat) (ix : List Nat) (n : Nat) :
    (k.bump r hi lo pg ix n).fresh = k.fresh := rfl
@[simp] theorem Block.bump_late (k : Block) (r : RegName) (hi lo pg : Nat) (ix : List Nat) (n : Nat) :
    (k.bump r hi lo pg ix n).late = k.late := rfl
@[simp] theorem Block.bump_out (k : Block) (r : RegName) (hi lo pg : Nat) (ix : List Nat) (n : Nat) :
    (k.bump r hi lo pg ix n).out = k.out := rfl
@[simp] theorem Block.bump_free (k : Block) (r : RegName) (hi lo pg : Nat) (ix : List Nat) (n : Nat) :
    (k.bump r hi lo pg ix n).free = k.free := rfl

/-! ### Block.setBit -/

@[simp] theorem Block.setBit_clk (k : Block) (r : RegName) (i pg : Nat) (ix : List Nat) :
    (k.setBit r i pg ix).clk = k.clk := rfl
@[simp] theorem Block.setBit_prog (k : Block) (r : RegName) (i pg : Nat) (ix : List Nat) :
    (k.setBit r i pg ix).prog = k.prog := rfl
@[simp] theorem Block.setBit_img (k : Block) (r : RegName) (i pg : Nat) (ix : List Nat) :
    (k.setBit r i pg ix).img = k.img := rfl
@[simp] theorem Block.setBit_net (k : Block) (r : RegName) (i pg : Nat) (ix : List Nat) :
    (k.setBit r i pg ix).net = k.net := rfl
@[simp] theorem Block.setBit_xfr (k : Block) (r : RegName) (i pg : Nat) (ix : List Nat) :
    (k.setBit r i pg ix).xfr = k.xfr := rfl
@[simp] theorem Block.setBit_rdc (k : Block) (r : RegName) (i pg : Nat) (ix : List Nat) :
    (k.setBit r i pg ix).rdc = k.rdc := rfl
@[simp] theorem Block.setBit_flt (k : Block) (r : RegName) (i pg : Nat) (ix : List Nat) :
    (k.setBit r i pg ix).flt = k.flt := rfl
@[simp] theorem Block.setBit_mq (k : Block) (r : RegName) (i pg : Nat) (ix : List Nat) :
    (k.setBit r i pg ix).mq = k.mq := rfl
@[simp] theorem Block.setBit_spc (k : Block) (r : RegName) (i pg : Nat) (ix : List Nat) :
    (k.setBit r i pg ix).spc = k.spc := rfl
@[simp] theorem Block.setBit_gpd (k : Block) (r : RegName) (i pg : Nat) (ix : List Nat) :
    (k.setBit r i pg ix).gpd = k.gpd := rfl
@[simp] theorem Block.setBit_hlth (k : Block) (r : RegName) (i pg : Nat) (ix : List Nat) :
    (k.setBit r i pg ix).hlth = k.hlth := rfl
@[simp] theorem Block.setBit_lnk (k : Block) (r : RegName) (i pg : Nat) (ix : List Nat) :
    (k.setBit r i pg ix).lnk = k.lnk := rfl
@[simp] theorem Block.setBit_rst (k : Block) (r : RegName) (i pg : Nat) (ix : List Nat) :
    (k.setBit r i pg ix).rst = k.rst := rfl
@[simp] theorem Block.setBit_fresh (k : Block) (r : RegName) (i pg : Nat) (ix : List Nat) :
    (k.setBit r i pg ix).fresh = k.fresh := rfl
@[simp] theorem Block.setBit_late (k : Block) (r : RegName) (i pg : Nat) (ix : List Nat) :
    (k.setBit r i pg ix).late = k.late := rfl
@[simp] theorem Block.setBit_out (k : Block) (r : RegName) (i pg : Nat) (ix : List Nat) :
    (k.setBit r i pg ix).out = k.out := rfl
@[simp] theorem Block.setBit_free (k : Block) (r : RegName) (i pg : Nat) (ix : List Nat) :
    (k.setBit r i pg ix).free = k.free := rfl

/-! ### Block.setStream -/

@[simp] theorem Block.setStream_regs (k : Block) (b u : Nat) (v : Stream) :
    (k.setStream b u v).regs = k.regs := rfl
@[simp] theorem Block.setStream_clk (k : Block) (b u : Nat) (v : Stream) :
    (k.setStream b u v).clk = k.clk := rfl
@[simp] theorem Block.setStream_img (k : Block) (b u : Nat) (v : Stream) :
    (k.setStream b u v).img = k.img := rfl
@[simp] theorem Block.setStream_net (k : Block) (b u : Nat) (v : Stream) :
    (k.setStream b u v).net = k.net := rfl
@[simp] theorem Block.setStream_xfr (k : Block) (b u : Nat) (v : Stream) :
    (k.setStream b u v).xfr = k.xfr := rfl
@[simp] theorem Block.setStream_rdc (k : Block) (b u : Nat) (v : Stream) :
    (k.setStream b u v).rdc = k.rdc := rfl
@[simp] theorem Block.setStream_flt (k : Block) (b u : Nat) (v : Stream) :
    (k.setStream b u v).flt = k.flt := rfl
@[simp] theorem Block.setStream_mq (k : Block) (b u : Nat) (v : Stream) :
    (k.setStream b u v).mq = k.mq := rfl
@[simp] theorem Block.setStream_spc (k : Block) (b u : Nat) (v : Stream) :
    (k.setStream b u v).spc = k.spc := rfl
@[simp] theorem Block.setStream_gpd (k : Block) (b u : Nat) (v : Stream) :
    (k.setStream b u v).gpd = k.gpd := rfl
@[simp] theorem Block.setStream_hlth (k : Block) (b u : Nat) (v : Stream) :
    (k.setStream b u v).hlth = k.hlth := rfl
@[simp] theorem Block.setStream_lnk (k : Block) (b u : Nat) (v : Stream) :
    (k.setStream b u v).lnk = k.lnk := rfl
@[simp] theorem Block.setStream_rst (k : Block) (b u : Nat) (v : Stream) :
    (k.setStream b u v).rst = k.rst := rfl
@[simp] theorem Block.setStream_fresh (k : Block) (b u : Nat) (v : Stream) :
    (k.setStream b u v).fresh = k.fresh := rfl
@[simp] theorem Block.setStream_late (k : Block) (b u : Nat) (v : Stream) :
    (k.setStream b u v).late = k.late := rfl
@[simp] theorem Block.setStream_out (k : Block) (b u : Nat) (v : Stream) :
    (k.setStream b u v).out = k.out := rfl
@[simp] theorem Block.setStream_free (k : Block) (b u : Nat) (v : Stream) :
    (k.setStream b u v).free = k.free := rfl
@[simp] theorem Block.setStream_prog_counters (k : Block) (b u : Nat) (v : Stream) :
    (k.setStream b u v).prog.counters = k.prog.counters := rfl
@[simp] theorem Block.setStream_prog_ticks (k : Block) (b u : Nat) (v : Stream) :
    (k.setStream b u v).prog.ticks = k.prog.ticks := rfl
@[simp] theorem Block.setStream_prog_xferMem (k : Block) (b u : Nat) (v : Stream) :
    (k.setStream b u v).prog.xferMem = k.prog.xferMem := rfl
@[simp] theorem Block.setStream_prog_xferOld (k : Block) (b u : Nat) (v : Stream) :
    (k.setStream b u v).prog.xferOld = k.prog.xferOld := rfl
@[simp] theorem Block.setStream_prog_rdcMem (k : Block) (b u : Nat) (v : Stream) :
    (k.setStream b u v).prog.rdcMem = k.prog.rdcMem := rfl
@[simp] theorem Block.setStream_prog_entries (k : Block) (b u : Nat) (v : Stream) :
    (k.setStream b u v).prog.entries = k.prog.entries := rfl
@[simp] theorem Block.setStream_prog_openRange (k : Block) (b u : Nat) (v : Stream) :
    (k.setStream b u v).prog.openRange = k.prog.openRange := rfl
@[simp] theorem Block.setStream_prog_memFaults (k : Block) (b u : Nat) (v : Stream) :
    (k.setStream b u v).prog.memFaults = k.prog.memFaults := rfl

/-! ### Block.mapStream -/

@[simp] theorem Block.mapStream_regs (k : Block) (b u : Nat) (f : Stream → Stream) :
    (k.mapStream b u f).regs = k.regs := rfl
@[simp] theorem Block.mapStream_clk (k : Block) (b u : Nat) (f : Stream → Stream) :
    (k.mapStream b u f).clk = k.clk := rfl
@[simp] theorem Block.mapStream_img (k : Block) (b u : Nat) (f : Stream → Stream) :
    (k.mapStream b u f).img = k.img := rfl
@[simp] theorem Block.mapStream_net (k : Block) (b u : Nat) (f : Stream → Stream) :
    (k.mapStream b u f).net = k.net := rfl
@[simp] theorem Block.mapStream_xfr (k : Block) (b u : Nat) (f : Stream → Stream) :
    (k.mapStream b u f).xfr = k.xfr := rfl
@[simp] theorem Block.mapStream_rdc (k : Block) (b u : Nat) (f : Stream → Stream) :
    (k.mapStream b u f).rdc = k.rdc := rfl
@[simp] theorem Block.mapStream_flt (k : Block) (b u : Nat) (f : Stream → Stream) :
    (k.mapStream b u f).flt = k.flt := rfl
@[simp] theorem Block.mapStream_mq (k : Block) (b u : Nat) (f : Stream → Stream) :
    (k.mapStream b u f).mq = k.mq := rfl
@[simp] theorem Block.mapStream_spc (k : Block) (b u : Nat) (f : Stream → Stream) :
    (k.mapStream b u f).spc = k.spc := rfl
@[simp] theorem Block.mapStream_gpd (k : Block) (b u : Nat) (f : Stream → Stream) :
    (k.mapStream b u f).gpd = k.gpd := rfl
@[simp] theorem Block.mapStream_hlth (k : Block) (b u : Nat) (f : Stream → Stream) :
    (k.mapStream b u f).hlth = k.hlth := rfl
@[simp] theorem Block.mapStream_lnk (k : Block) (b u : Nat) (f : Stream → Stream) :
    (k.mapStream b u f).lnk = k.lnk := rfl
@[simp] theorem Block.mapStream_rst (k : Block) (b u : Nat) (f : Stream → Stream) :
    (k.mapStream b u f).rst = k.rst := rfl
@[simp] theorem Block.mapStream_fresh (k : Block) (b u : Nat) (f : Stream → Stream) :
    (k.mapStream b u f).fresh = k.fresh := rfl
@[simp] theorem Block.mapStream_late (k : Block) (b u : Nat) (f : Stream → Stream) :
    (k.mapStream b u f).late = k.late := rfl
@[simp] theorem Block.mapStream_out (k : Block) (b u : Nat) (f : Stream → Stream) :
    (k.mapStream b u f).out = k.out := rfl
@[simp] theorem Block.mapStream_free (k : Block) (b u : Nat) (f : Stream → Stream) :
    (k.mapStream b u f).free = k.free := rfl
@[simp] theorem Block.mapStream_prog_counters (k : Block) (b u : Nat) (f : Stream → Stream) :
    (k.mapStream b u f).prog.counters = k.prog.counters := rfl
@[simp] theorem Block.mapStream_prog_ticks (k : Block) (b u : Nat) (f : Stream → Stream) :
    (k.mapStream b u f).prog.ticks = k.prog.ticks := rfl
@[simp] theorem Block.mapStream_prog_xferMem (k : Block) (b u : Nat) (f : Stream → Stream) :
    (k.mapStream b u f).prog.xferMem = k.prog.xferMem := rfl
@[simp] theorem Block.mapStream_prog_xferOld (k : Block) (b u : Nat) (f : Stream → Stream) :
    (k.mapStream b u f).prog.xferOld = k.prog.xferOld := rfl
@[simp] theorem Block.mapStream_prog_rdcMem (k : Block) (b u : Nat) (f : Stream → Stream) :
    (k.mapStream b u f).prog.rdcMem = k.prog.rdcMem := rfl
@[simp] theorem Block.mapStream_prog_entries (k : Block) (b u : Nat) (f : Stream → Stream) :
    (k.mapStream b u f).prog.entries = k.prog.entries := rfl
@[simp] theorem Block.mapStream_prog_openRange (k : Block) (b u : Nat) (f : Stream → Stream) :
    (k.mapStream b u f).prog.openRange = k.prog.openRange := rfl
@[simp] theorem Block.mapStream_prog_memFaults (k : Block) (b u : Nat) (f : Stream → Stream) :
    (k.mapStream b u f).prog.memFaults = k.prog.memFaults := rfl

/-! ### Block.putCounter -/

@[simp] theorem Block.putCounter_regs (k : Block) (b c v : Nat) (x : CountTick) :
    (k.putCounter b c v x).regs = k.regs := rfl
@[simp] theorem Block.putCounter_clk (k : Block) (b c v : Nat) (x : CountTick) :
    (k.putCounter b c v x).clk = k.clk := rfl
@[simp] theorem Block.putCounter_img (k : Block) (b c v : Nat) (x : CountTick) :
    (k.putCounter b c v x).img = k.img := rfl
@[simp] theorem Block.putCounter_net (k : Block) (b c v : Nat) (x : CountTick) :
    (k.putCounter b c v x).net = k.net := rfl
@[simp] theorem Block.putCounter_xfr (k : Block) (b c v : Nat) (x : CountTick) :
    (k.putCounter b c v x).xfr = k.xfr := rfl
@[simp] theorem Block.putCounter_rdc (k : Block) (b c v : Nat) (x : CountTick) :
    (k.putCounter b c v x).rdc = k.rdc := rfl
@[simp] theorem Block.putCounter_flt (k : Block) (b c v : Nat) (x : CountTick) :
    (k.putCounter b c v x).flt = k.flt := rfl
@[simp] theorem Block.putCounter_mq (k : Block) (b c v : Nat) (x : CountTick) :
    (k.putCounter b c v x).mq = k.mq := rfl
@[simp] theorem Block.putCounter_spc (k : Block) (b c v : Nat) (x : CountTick) :
    (k.putCounter b c v x).spc = k.spc := rfl
@[simp] theorem Block.putCounter_gpd (k : Block) (b c v : Nat) (x : CountTick) :
    (k.putCounter b c v x).gpd = k.gpd := rfl
@[simp] theorem Block.putCounter_hlth (k : Block) (b c v : Nat) (x : CountTick) :
    (k.putCounter b c v x).hlth = k.hlth := rfl
@[simp] theorem Block.putCounter_lnk (k : Block) (b c v : Nat) (x : CountTick) :
    (k.putCounter b c v x).lnk = k.lnk := rfl
@[simp] theorem Block.putCounter_rst (k : Block) (b c v : Nat) (x : CountTick) :
    (k.putCounter b c v x).rst = k.rst := rfl
@[simp] theorem Block.putCounter_fresh (k : Block) (b c v : Nat) (x : CountTick) :
    (k.putCounter b c v x).fresh = k.fresh := rfl
@[simp] theorem Block.putCounter_late (k : Block) (b c v : Nat) (x : CountTick) :
    (k.putCounter b c v x).late = k.late := rfl
@[simp] theorem Block.putCounter_out (k : Block) (b c v : Nat) (x : CountTick) :
    (k.putCounter b c v x).out = k.out := rfl
@[simp] theorem Block.putCounter_free (k : Block) (b c v : Nat) (x : CountTick) :
    (k.putCounter b c v x).free = k.free := rfl
@[simp] theorem Block.putCounter_prog_streams (k : Block) (b c v : Nat) (x : CountTick) :
    (k.putCounter b c v x).prog.streams = k.prog.streams := rfl
@[simp] theorem Block.putCounter_prog_xferMem (k : Block) (b c v : Nat) (x : CountTick) :
    (k.putCounter b c v x).prog.xferMem = k.prog.xferMem := rfl
@[simp] theorem Block.putCounter_prog_xferOld (k : Block) (b c v : Nat) (x : CountTick) :
    (k.putCounter b c v x).prog.xferOld = k.prog.xferOld := rfl
@[simp] theorem Block.putCounter_prog_rdcMem (k : Block) (b c v : Nat) (x : CountTick) :
    (k.putCounter b c v x).prog.rdcMem = k.prog.rdcMem := rfl
@[simp] theorem Block.putCounter_prog_entries (k : Block) (b c v : Nat) (x : CountTick) :
    (k.putCounter b c v x).prog.entries = k.prog.entries := rfl
@[simp] theorem Block.putCounter_prog_openRange (k : Block) (b c v : Nat) (x : CountTick) :
    (k.putCounter b c v x).prog.openRange = k.prog.openRange := rfl
@[simp] theorem Block.putCounter_prog_memFaults (k : Block) (b c v : Nat) (x : CountTick) :
    (k.putCounter b c v x).prog.memFaults = k.prog.memFaults := rfl

/-! ### Block.counterAdd -/

@[simp] theorem Block.counterAdd_regs (k : Block) (b c n : Nat) :
    (k.counterAdd b c n).regs = k.regs := rfl
@[simp] theorem Block.counterAdd_clk (k : Block) (b c n : Nat) :
    (k.counterAdd b c n).clk = k.clk := rfl
@[simp] theorem Block.counterAdd_img (k : Block) (b c n : Nat) :
    (k.counterAdd b c n).img = k.img := rfl
@[simp] theorem Block.counterAdd_net (k : Block) (b c n : Nat) :
    (k.counterAdd b c n).net = k.net := rfl
@[simp] theorem Block.counterAdd_xfr (k : Block) (b c n : Nat) :
    (k.counterAdd b c n).xfr = k.xfr := rfl
@[simp] theorem Block.counterAdd_rdc (k : Block) (b c n : Nat) :
    (k.counterAdd b c n).rdc = k.rdc := rfl
@[simp] theorem Block.counterAdd_flt (k : Block) (b c n : Nat) :
    (k.counterAdd b c n).flt = k.flt := rfl
@[simp] theorem Block.counterAdd_mq (k : Block) (b c n : Nat) :
    (k.counterAdd b c n).mq = k.mq := rfl
@[simp] theorem Block.counterAdd_spc (k : Block) (b c n : Nat) :
    (k.counterAdd b c n).spc = k.spc := rfl
@[simp] theorem Block.counterAdd_gpd (k : Block) (b c n : Nat) :
    (k.counterAdd b c n).gpd = k.gpd := rfl
@[simp] theorem Block.counterAdd_hlth (k : Block) (b c n : Nat) :
    (k.counterAdd b c n).hlth = k.hlth := rfl
@[simp] theorem Block.counterAdd_lnk (k : Block) (b c n : Nat) :
    (k.counterAdd b c n).lnk = k.lnk := rfl
@[simp] theorem Block.counterAdd_rst (k : Block) (b c n : Nat) :
    (k.counterAdd b c n).rst = k.rst := rfl
@[simp] theorem Block.counterAdd_fresh (k : Block) (b c n : Nat) :
    (k.counterAdd b c n).fresh = k.fresh := rfl
@[simp] theorem Block.counterAdd_late (k : Block) (b c n : Nat) :
    (k.counterAdd b c n).late = k.late := rfl
@[simp] theorem Block.counterAdd_out (k : Block) (b c n : Nat) :
    (k.counterAdd b c n).out = k.out := rfl
@[simp] theorem Block.counterAdd_free (k : Block) (b c n : Nat) :
    (k.counterAdd b c n).free = k.free := rfl
@[simp] theorem Block.counterAdd_prog_streams (k : Block) (b c n : Nat) :
    (k.counterAdd b c n).prog.streams = k.prog.streams := rfl
@[simp] theorem Block.counterAdd_prog_xferMem (k : Block) (b c n : Nat) :
    (k.counterAdd b c n).prog.xferMem = k.prog.xferMem := rfl
@[simp] theorem Block.counterAdd_prog_xferOld (k : Block) (b c n : Nat) :
    (k.counterAdd b c n).prog.xferOld = k.prog.xferOld := rfl
@[simp] theorem Block.counterAdd_prog_rdcMem (k : Block) (b c n : Nat) :
    (k.counterAdd b c n).prog.rdcMem = k.prog.rdcMem := rfl
@[simp] theorem Block.counterAdd_prog_entries (k : Block) (b c n : Nat) :
    (k.counterAdd b c n).prog.entries = k.prog.entries := rfl
@[simp] theorem Block.counterAdd_prog_openRange (k : Block) (b c n : Nat) :
    (k.counterAdd b c n).prog.openRange = k.prog.openRange := rfl
@[simp] theorem Block.counterAdd_prog_memFaults (k : Block) (b c n : Nat) :
    (k.counterAdd b c n).prog.memFaults = k.prog.memFaults := rfl

/-! ### Block.counterSet -/

@[simp] theorem Block.counterSet_regs (k : Block) (b c rank v : Nat) :
    (k.counterSet b c rank v).regs = k.regs := by
  unfold Block.counterSet
  dsimp only
  split <;> rfl
@[simp] theorem Block.counterSet_clk (k : Block) (b c rank v : Nat) :
    (k.counterSet b c rank v).clk = k.clk := by
  unfold Block.counterSet
  dsimp only
  split <;> rfl
@[simp] theorem Block.counterSet_img (k : Block) (b c rank v : Nat) :
    (k.counterSet b c rank v).img = k.img := by
  unfold Block.counterSet
  dsimp only
  split <;> rfl
@[simp] theorem Block.counterSet_net (k : Block) (b c rank v : Nat) :
    (k.counterSet b c rank v).net = k.net := by
  unfold Block.counterSet
  dsimp only
  split <;> rfl
@[simp] theorem Block.counterSet_xfr (k : Block) (b c rank v : Nat) :
    (k.counterSet b c rank v).xfr = k.xfr := by
  unfold Block.counterSet
  dsimp only
  split <;> rfl
@[simp] theorem Block.counterSet_rdc (k : Block) (b c rank v : Nat) :
    (k.counterSet b c rank v).rdc = k.rdc := by
  unfold Block.counterSet
  dsimp only
  split <;> rfl
@[simp] theorem Block.counterSet_flt (k : Block) (b c rank v : Nat) :
    (k.counterSet b c rank v).flt = k.flt := by
  unfold Block.counterSet
  dsimp only
  split <;> rfl
@[simp] theorem Block.counterSet_mq (k : Block) (b c rank v : Nat) :
    (k.counterSet b c rank v).mq = k.mq := by
  unfold Block.counterSet
  dsimp only
  split <;> rfl
@[simp] theorem Block.counterSet_spc (k : Block) (b c rank v : Nat) :
    (k.counterSet b c rank v).spc = k.spc := by
  unfold Block.counterSet
  dsimp only
  split <;> rfl
@[simp] theorem Block.counterSet_gpd (k : Block) (b c rank v : Nat) :
    (k.counterSet b c rank v).gpd = k.gpd := by
  unfold Block.counterSet
  dsimp only
  split <;> rfl
@[simp] theorem Block.counterSet_hlth (k : Block) (b c rank v : Nat) :
    (k.counterSet b c rank v).hlth = k.hlth := by
  unfold Block.counterSet
  dsimp only
  split <;> rfl
@[simp] theorem Block.counterSet_lnk (k : Block) (b c rank v : Nat) :
    (k.counterSet b c rank v).lnk = k.lnk := by
  unfold Block.counterSet
  dsimp only
  split <;> rfl
@[simp] theorem Block.counterSet_rst (k : Block) (b c rank v : Nat) :
    (k.counterSet b c rank v).rst = k.rst := by
  unfold Block.counterSet
  dsimp only
  split <;> rfl
@[simp] theorem Block.counterSet_fresh (k : Block) (b c rank v : Nat) :
    (k.counterSet b c rank v).fresh = k.fresh := by
  unfold Block.counterSet
  dsimp only
  split <;> rfl
@[simp] theorem Block.counterSet_late (k : Block) (b c rank v : Nat) :
    (k.counterSet b c rank v).late = k.late := by
  unfold Block.counterSet
  dsimp only
  split <;> rfl
@[simp] theorem Block.counterSet_out (k : Block) (b c rank v : Nat) :
    (k.counterSet b c rank v).out = k.out := by
  unfold Block.counterSet
  dsimp only
  split <;> rfl
@[simp] theorem Block.counterSet_free (k : Block) (b c rank v : Nat) :
    (k.counterSet b c rank v).free = k.free := by
  unfold Block.counterSet
  dsimp only
  split <;> rfl
@[simp] theorem Block.counterSet_prog_streams (k : Block) (b c rank v : Nat) :
    (k.counterSet b c rank v).prog.streams = k.prog.streams := by
  unfold Block.counterSet
  dsimp only
  split <;> rfl
@[simp] theorem Block.counterSet_prog_xferMem (k : Block) (b c rank v : Nat) :
    (k.counterSet b c rank v).prog.xferMem = k.prog.xferMem := by
  unfold Block.counterSet
  dsimp only
  split <;> rfl
@[simp] theorem Block.counterSet_prog_xferOld (k : Block) (b c rank v : Nat) :
    (k.counterSet b c rank v).prog.xferOld = k.prog.xferOld := by
  unfold Block.counterSet
  dsimp only
  split <;> rfl
@[simp] theorem Block.counterSet_prog_rdcMem (k : Block) (b c rank v : Nat) :
    (k.counterSet b c rank v).prog.rdcMem = k.prog.rdcMem := by
  unfold Block.counterSet
  dsimp only
  split <;> rfl
@[simp] theorem Block.counterSet_prog_entries (k : Block) (b c rank v : Nat) :
    (k.counterSet b c rank v).prog.entries = k.prog.entries := by
  unfold Block.counterSet
  dsimp only
  split <;> rfl
@[simp] theorem Block.counterSet_prog_openRange (k : Block) (b c rank v : Nat) :
    (k.counterSet b c rank v).prog.openRange = k.prog.openRange := by
  unfold Block.counterSet
  dsimp only
  split <;> rfl
@[simp] theorem Block.counterSet_prog_memFaults (k : Block) (b c rank v : Nat) :
    (k.counterSet b c rank v).prog.memFaults = k.prog.memFaults := by
  unfold Block.counterSet
  dsimp only
  split <;> rfl

/-! ### Block.setTracker -/

@[simp] theorem Block.setTracker_regs (k : Block) (b t : Nat) (v : Tracker) :
    (k.setTracker b t v).regs = k.regs := rfl
@[simp] theorem Block.setTracker_clk (k : Block) (b t : Nat) (v : Tracker) :
    (k.setTracker b t v).clk = k.clk := rfl
@[simp] theorem Block.setTracker_prog (k : Block) (b t : Nat) (v : Tracker) :
    (k.setTracker b t v).prog = k.prog := rfl
@[simp] theorem Block.setTracker_img (k : Block) (b t : Nat) (v : Tracker) :
    (k.setTracker b t v).img = k.img := rfl
@[simp] theorem Block.setTracker_net (k : Block) (b t : Nat) (v : Tracker) :
    (k.setTracker b t v).net = k.net := rfl
@[simp] theorem Block.setTracker_rdc (k : Block) (b t : Nat) (v : Tracker) :
    (k.setTracker b t v).rdc = k.rdc := rfl
@[simp] theorem Block.setTracker_flt (k : Block) (b t : Nat) (v : Tracker) :
    (k.setTracker b t v).flt = k.flt := rfl
@[simp] theorem Block.setTracker_mq (k : Block) (b t : Nat) (v : Tracker) :
    (k.setTracker b t v).mq = k.mq := rfl
@[simp] theorem Block.setTracker_spc (k : Block) (b t : Nat) (v : Tracker) :
    (k.setTracker b t v).spc = k.spc := rfl
@[simp] theorem Block.setTracker_gpd (k : Block) (b t : Nat) (v : Tracker) :
    (k.setTracker b t v).gpd = k.gpd := rfl
@[simp] theorem Block.setTracker_hlth (k : Block) (b t : Nat) (v : Tracker) :
    (k.setTracker b t v).hlth = k.hlth := rfl
@[simp] theorem Block.setTracker_lnk (k : Block) (b t : Nat) (v : Tracker) :
    (k.setTracker b t v).lnk = k.lnk := rfl
@[simp] theorem Block.setTracker_rst (k : Block) (b t : Nat) (v : Tracker) :
    (k.setTracker b t v).rst = k.rst := rfl
@[simp] theorem Block.setTracker_fresh (k : Block) (b t : Nat) (v : Tracker) :
    (k.setTracker b t v).fresh = k.fresh := rfl
@[simp] theorem Block.setTracker_late (k : Block) (b t : Nat) (v : Tracker) :
    (k.setTracker b t v).late = k.late := rfl
@[simp] theorem Block.setTracker_out (k : Block) (b t : Nat) (v : Tracker) :
    (k.setTracker b t v).out = k.out := rfl
@[simp] theorem Block.setTracker_free (k : Block) (b t : Nat) (v : Tracker) :
    (k.setTracker b t v).free = k.free := rfl
@[simp] theorem Block.setTracker_xfr_ring (k : Block) (b t : Nat) (v : Tracker) :
    (k.setTracker b t v).xfr.ring = k.xfr.ring := rfl
@[simp] theorem Block.setTracker_xfr_lpm (k : Block) (b t : Nat) (v : Tracker) :
    (k.setTracker b t v).xfr.lpm = k.xfr.lpm := rfl
@[simp] theorem Block.setTracker_xfr_lpmWait (k : Block) (b t : Nat) (v : Tracker) :
    (k.setTracker b t v).xfr.lpmWait = k.xfr.lpmWait := rfl
@[simp] theorem Block.setTracker_xfr_order (k : Block) (b t : Nat) (v : Tracker) :
    (k.setTracker b t v).xfr.order = k.xfr.order := rfl
@[simp] theorem Block.setTracker_xfr_history (k : Block) (b t : Nat) (v : Tracker) :
    (k.setTracker b t v).xfr.history = k.xfr.history := rfl
@[simp] theorem Block.setTracker_xfr_lpHeld (k : Block) (b t : Nat) (v : Tracker) :
    (k.setTracker b t v).xfr.lpHeld = k.xfr.lpHeld := rfl
@[simp] theorem Block.setTracker_xfr_lpFail (k : Block) (b t : Nat) (v : Tracker) :
    (k.setTracker b t v).xfr.lpFail = k.xfr.lpFail := rfl
@[simp] theorem Block.setTracker_xfr_fenceReads (k : Block) (b t : Nat) (v : Tracker) :
    (k.setTracker b t v).xfr.fenceReads = k.xfr.fenceReads := rfl
@[simp] theorem Block.setTracker_xfr_lpDue (k : Block) (b t : Nat) (v : Tracker) :
    (k.setTracker b t v).xfr.lpDue = k.xfr.lpDue := rfl
@[simp] theorem Block.setTracker_xfr_requests (k : Block) (b t : Nat) (v : Tracker) :
    (k.setTracker b t v).xfr.requests = k.xfr.requests := rfl
@[simp] theorem Block.setTracker_xfr_starts (k : Block) (b t : Nat) (v : Tracker) :
    (k.setTracker b t v).xfr.starts = k.xfr.starts := rfl

/-! ### Block.mapTracker -/

@[simp] theorem Block.mapTracker_regs (k : Block) (b t : Nat) (f : Tracker → Tracker) :
    (k.mapTracker b t f).regs = k.regs := rfl
@[simp] theorem Block.mapTracker_clk (k : Block) (b t : Nat) (f : Tracker → Tracker) :
    (k.mapTracker b t f).clk = k.clk := rfl
@[simp] theorem Block.mapTracker_prog (k : Block) (b t : Nat) (f : Tracker → Tracker) :
    (k.mapTracker b t f).prog = k.prog := rfl
@[simp] theorem Block.mapTracker_img (k : Block) (b t : Nat) (f : Tracker → Tracker) :
    (k.mapTracker b t f).img = k.img := rfl
@[simp] theorem Block.mapTracker_net (k : Block) (b t : Nat) (f : Tracker → Tracker) :
    (k.mapTracker b t f).net = k.net := rfl
@[simp] theorem Block.mapTracker_rdc (k : Block) (b t : Nat) (f : Tracker → Tracker) :
    (k.mapTracker b t f).rdc = k.rdc := rfl
@[simp] theorem Block.mapTracker_flt (k : Block) (b t : Nat) (f : Tracker → Tracker) :
    (k.mapTracker b t f).flt = k.flt := rfl
@[simp] theorem Block.mapTracker_mq (k : Block) (b t : Nat) (f : Tracker → Tracker) :
    (k.mapTracker b t f).mq = k.mq := rfl
@[simp] theorem Block.mapTracker_spc (k : Block) (b t : Nat) (f : Tracker → Tracker) :
    (k.mapTracker b t f).spc = k.spc := rfl
@[simp] theorem Block.mapTracker_gpd (k : Block) (b t : Nat) (f : Tracker → Tracker) :
    (k.mapTracker b t f).gpd = k.gpd := rfl
@[simp] theorem Block.mapTracker_hlth (k : Block) (b t : Nat) (f : Tracker → Tracker) :
    (k.mapTracker b t f).hlth = k.hlth := rfl
@[simp] theorem Block.mapTracker_lnk (k : Block) (b t : Nat) (f : Tracker → Tracker) :
    (k.mapTracker b t f).lnk = k.lnk := rfl
@[simp] theorem Block.mapTracker_rst (k : Block) (b t : Nat) (f : Tracker → Tracker) :
    (k.mapTracker b t f).rst = k.rst := rfl
@[simp] theorem Block.mapTracker_fresh (k : Block) (b t : Nat) (f : Tracker → Tracker) :
    (k.mapTracker b t f).fresh = k.fresh := rfl
@[simp] theorem Block.mapTracker_late (k : Block) (b t : Nat) (f : Tracker → Tracker) :
    (k.mapTracker b t f).late = k.late := rfl
@[simp] theorem Block.mapTracker_out (k : Block) (b t : Nat) (f : Tracker → Tracker) :
    (k.mapTracker b t f).out = k.out := rfl
@[simp] theorem Block.mapTracker_free (k : Block) (b t : Nat) (f : Tracker → Tracker) :
    (k.mapTracker b t f).free = k.free := rfl
@[simp] theorem Block.mapTracker_xfr_ring (k : Block) (b t : Nat) (f : Tracker → Tracker) :
    (k.mapTracker b t f).xfr.ring = k.xfr.ring := rfl
@[simp] theorem Block.mapTracker_xfr_lpm (k : Block) (b t : Nat) (f : Tracker → Tracker) :
    (k.mapTracker b t f).xfr.lpm = k.xfr.lpm := rfl
@[simp] theorem Block.mapTracker_xfr_lpmWait (k : Block) (b t : Nat) (f : Tracker → Tracker) :
    (k.mapTracker b t f).xfr.lpmWait = k.xfr.lpmWait := rfl
@[simp] theorem Block.mapTracker_xfr_order (k : Block) (b t : Nat) (f : Tracker → Tracker) :
    (k.mapTracker b t f).xfr.order = k.xfr.order := rfl
@[simp] theorem Block.mapTracker_xfr_history (k : Block) (b t : Nat) (f : Tracker → Tracker) :
    (k.mapTracker b t f).xfr.history = k.xfr.history := rfl
@[simp] theorem Block.mapTracker_xfr_lpHeld (k : Block) (b t : Nat) (f : Tracker → Tracker) :
    (k.mapTracker b t f).xfr.lpHeld = k.xfr.lpHeld := rfl
@[simp] theorem Block.mapTracker_xfr_lpFail (k : Block) (b t : Nat) (f : Tracker → Tracker) :
    (k.mapTracker b t f).xfr.lpFail = k.xfr.lpFail := rfl
@[simp] theorem Block.mapTracker_xfr_fenceReads (k : Block) (b t : Nat) (f : Tracker → Tracker) :
    (k.mapTracker b t f).xfr.fenceReads = k.xfr.fenceReads := rfl
@[simp] theorem Block.mapTracker_xfr_lpDue (k : Block) (b t : Nat) (f : Tracker → Tracker) :
    (k.mapTracker b t f).xfr.lpDue = k.xfr.lpDue := rfl
@[simp] theorem Block.mapTracker_xfr_requests (k : Block) (b t : Nat) (f : Tracker → Tracker) :
    (k.mapTracker b t f).xfr.requests = k.xfr.requests := rfl
@[simp] theorem Block.mapTracker_xfr_starts (k : Block) (b t : Nat) (f : Tracker → Tracker) :
    (k.mapTracker b t f).xfr.starts = k.xfr.starts := rfl

/-! ### Block.setRing -/

@[simp] theorem Block.setRing_regs (k : Block) (b r : Nat) (v : Ring) :
    (k.setRing b r v).regs = k.regs := rfl
@[simp] theorem Block.setRing_clk (k : Block) (b r : Nat) (v : Ring) :
    (k.setRing b r v).clk = k.clk := rfl
@[simp] theorem Block.setRing_prog (k : Block) (b r : Nat) (v : Ring) :
    (k.setRing b r v).prog = k.prog := rfl
@[simp] theorem Block.setRing_img (k : Block) (b r : Nat) (v : Ring) :
    (k.setRing b r v).img = k.img := rfl
@[simp] theorem Block.setRing_net (k : Block) (b r : Nat) (v : Ring) :
    (k.setRing b r v).net = k.net := rfl
@[simp] theorem Block.setRing_rdc (k : Block) (b r : Nat) (v : Ring) :
    (k.setRing b r v).rdc = k.rdc := rfl
@[simp] theorem Block.setRing_flt (k : Block) (b r : Nat) (v : Ring) :
    (k.setRing b r v).flt = k.flt := rfl
@[simp] theorem Block.setRing_mq (k : Block) (b r : Nat) (v : Ring) :
    (k.setRing b r v).mq = k.mq := rfl
@[simp] theorem Block.setRing_spc (k : Block) (b r : Nat) (v : Ring) :
    (k.setRing b r v).spc = k.spc := rfl
@[simp] theorem Block.setRing_gpd (k : Block) (b r : Nat) (v : Ring) :
    (k.setRing b r v).gpd = k.gpd := rfl
@[simp] theorem Block.setRing_hlth (k : Block) (b r : Nat) (v : Ring) :
    (k.setRing b r v).hlth = k.hlth := rfl
@[simp] theorem Block.setRing_lnk (k : Block) (b r : Nat) (v : Ring) :
    (k.setRing b r v).lnk = k.lnk := rfl
@[simp] theorem Block.setRing_rst (k : Block) (b r : Nat) (v : Ring) :
    (k.setRing b r v).rst = k.rst := rfl
@[simp] theorem Block.setRing_fresh (k : Block) (b r : Nat) (v : Ring) :
    (k.setRing b r v).fresh = k.fresh := rfl
@[simp] theorem Block.setRing_late (k : Block) (b r : Nat) (v : Ring) :
    (k.setRing b r v).late = k.late := rfl
@[simp] theorem Block.setRing_out (k : Block) (b r : Nat) (v : Ring) :
    (k.setRing b r v).out = k.out := rfl
@[simp] theorem Block.setRing_free (k : Block) (b r : Nat) (v : Ring) :
    (k.setRing b r v).free = k.free := rfl
@[simp] theorem Block.setRing_xfr_trk (k : Block) (b r : Nat) (v : Ring) :
    (k.setRing b r v).xfr.trk = k.xfr.trk := rfl
@[simp] theorem Block.setRing_xfr_lpm (k : Block) (b r : Nat) (v : Ring) :
    (k.setRing b r v).xfr.lpm = k.xfr.lpm := rfl
@[simp] theorem Block.setRing_xfr_lpmWait (k : Block) (b r : Nat) (v : Ring) :
    (k.setRing b r v).xfr.lpmWait = k.xfr.lpmWait := rfl
@[simp] theorem Block.setRing_xfr_order (k : Block) (b r : Nat) (v : Ring) :
    (k.setRing b r v).xfr.order = k.xfr.order := rfl
@[simp] theorem Block.setRing_xfr_history (k : Block) (b r : Nat) (v : Ring) :
    (k.setRing b r v).xfr.history = k.xfr.history := rfl
@[simp] theorem Block.setRing_xfr_lpHeld (k : Block) (b r : Nat) (v : Ring) :
    (k.setRing b r v).xfr.lpHeld = k.xfr.lpHeld := rfl
@[simp] theorem Block.setRing_xfr_lpFail (k : Block) (b r : Nat) (v : Ring) :
    (k.setRing b r v).xfr.lpFail = k.xfr.lpFail := rfl
@[simp] theorem Block.setRing_xfr_fenceReads (k : Block) (b r : Nat) (v : Ring) :
    (k.setRing b r v).xfr.fenceReads = k.xfr.fenceReads := rfl
@[simp] theorem Block.setRing_xfr_lpDue (k : Block) (b r : Nat) (v : Ring) :
    (k.setRing b r v).xfr.lpDue = k.xfr.lpDue := rfl
@[simp] theorem Block.setRing_xfr_requests (k : Block) (b r : Nat) (v : Ring) :
    (k.setRing b r v).xfr.requests = k.xfr.requests := rfl
@[simp] theorem Block.setRing_xfr_starts (k : Block) (b r : Nat) (v : Ring) :
    (k.setRing b r v).xfr.starts = k.xfr.starts := rfl

/-! ### Block.setRx -/

@[simp] theorem Block.setRx_regs (k : Block) (b c : Nat) (q : List Packet) :
    (k.setRx b c q).regs = k.regs := rfl
@[simp] theorem Block.setRx_clk (k : Block) (b c : Nat) (q : List Packet) :
    (k.setRx b c q).clk = k.clk := rfl
@[simp] theorem Block.setRx_prog (k : Block) (b c : Nat) (q : List Packet) :
    (k.setRx b c q).prog = k.prog := rfl
@[simp] theorem Block.setRx_img (k : Block) (b c : Nat) (q : List Packet) :
    (k.setRx b c q).img = k.img := rfl
@[simp] theorem Block.setRx_xfr (k : Block) (b c : Nat) (q : List Packet) :
    (k.setRx b c q).xfr = k.xfr := rfl
@[simp] theorem Block.setRx_rdc (k : Block) (b c : Nat) (q : List Packet) :
    (k.setRx b c q).rdc = k.rdc := rfl
@[simp] theorem Block.setRx_flt (k : Block) (b c : Nat) (q : List Packet) :
    (k.setRx b c q).flt = k.flt := rfl
@[simp] theorem Block.setRx_mq (k : Block) (b c : Nat) (q : List Packet) :
    (k.setRx b c q).mq = k.mq := rfl
@[simp] theorem Block.setRx_spc (k : Block) (b c : Nat) (q : List Packet) :
    (k.setRx b c q).spc = k.spc := rfl
@[simp] theorem Block.setRx_gpd (k : Block) (b c : Nat) (q : List Packet) :
    (k.setRx b c q).gpd = k.gpd := rfl
@[simp] theorem Block.setRx_hlth (k : Block) (b c : Nat) (q : List Packet) :
    (k.setRx b c q).hlth = k.hlth := rfl
@[simp] theorem Block.setRx_lnk (k : Block) (b c : Nat) (q : List Packet) :
    (k.setRx b c q).lnk = k.lnk := rfl
@[simp] theorem Block.setRx_rst (k : Block) (b c : Nat) (q : List Packet) :
    (k.setRx b c q).rst = k.rst := rfl
@[simp] theorem Block.setRx_fresh (k : Block) (b c : Nat) (q : List Packet) :
    (k.setRx b c q).fresh = k.fresh := rfl
@[simp] theorem Block.setRx_late (k : Block) (b c : Nat) (q : List Packet) :
    (k.setRx b c q).late = k.late := rfl
@[simp] theorem Block.setRx_out (k : Block) (b c : Nat) (q : List Packet) :
    (k.setRx b c q).out = k.out := rfl
@[simp] theorem Block.setRx_free (k : Block) (b c : Nat) (q : List Packet) :
    (k.setRx b c q).free = k.free := rfl
@[simp] theorem Block.setRx_net_chain (k : Block) (b c : Nat) (q : List Packet) :
    (k.setRx b c q).net.chain = k.net.chain := rfl
@[simp] theorem Block.setRx_net_stage (k : Block) (b c : Nat) (q : List Packet) :
    (k.setRx b c q).net.stage = k.net.stage := rfl
@[simp] theorem Block.setRx_net_credit (k : Block) (b c : Nat) (q : List Packet) :
    (k.setRx b c q).net.credit = k.net.credit := rfl
@[simp] theorem Block.setRx_net_courseProg (k : Block) (b c : Nat) (q : List Packet) :
    (k.setRx b c q).net.courseProg = k.net.courseProg := rfl
@[simp] theorem Block.setRx_net_bank (k : Block) (b c : Nat) (q : List Packet) :
    (k.setRx b c q).net.bank = k.net.bank := rfl
@[simp] theorem Block.setRx_net_seq (k : Block) (b c : Nat) (q : List Packet) :
    (k.setRx b c q).net.seq = k.net.seq := rfl
@[simp] theorem Block.setRx_net_vtime (k : Block) (b c : Nat) (q : List Packet) :
    (k.setRx b c q).net.vtime = k.net.vtime := rfl
@[simp] theorem Block.setRx_net_ftag (k : Block) (b c : Nat) (q : List Packet) :
    (k.setRx b c q).net.ftag = k.net.ftag := rfl
@[simp] theorem Block.setRx_net_rrobin (k : Block) (b c : Nat) (q : List Packet) :
    (k.setRx b c q).net.rrobin = k.net.rrobin := rfl
@[simp] theorem Block.setRx_net_headStart (k : Block) (b c : Nat) (q : List Packet) :
    (k.setRx b c q).net.headStart = k.net.headStart := rfl
@[simp] theorem Block.setRx_net_subStart (k : Block) (b c : Nat) (q : List Packet) :
    (k.setRx b c q).net.subStart = k.net.subStart := rfl
@[simp] theorem Block.setRx_net_busy (k : Block) (b c : Nat) (q : List Packet) :
    (k.setRx b c q).net.busy = k.net.busy := rfl
@[simp] theorem Block.setRx_net_subVtime (k : Block) (b c : Nat) (q : List Packet) :
    (k.setRx b c q).net.subVtime = k.net.subVtime := rfl
@[simp] theorem Block.setRx_net_subTag (k : Block) (b c : Nat) (q : List Packet) :
    (k.setRx b c q).net.subTag = k.net.subTag := rfl
@[simp] theorem Block.setRx_net_offered (k : Block) (b c : Nat) (q : List Packet) :
    (k.setRx b c q).net.offered = k.net.offered := rfl
@[simp] theorem Block.setRx_net_tokens (k : Block) (b c : Nat) (q : List Packet) :
    (k.setRx b c q).net.tokens = k.net.tokens := rfl
@[simp] theorem Block.setRx_net_shaped (k : Block) (b c : Nat) (q : List Packet) :
    (k.setRx b c q).net.shaped = k.net.shaped := rfl
@[simp] theorem Block.setRx_net_hold (k : Block) (b c : Nat) (q : List Packet) :
    (k.setRx b c q).net.hold = k.net.hold := rfl
@[simp] theorem Block.setRx_net_routeOld (k : Block) (b c : Nat) (q : List Packet) :
    (k.setRx b c q).net.routeOld = k.net.routeOld := rfl
@[simp] theorem Block.setRx_net_pktClear (k : Block) (b c : Nat) (q : List Packet) :
    (k.setRx b c q).net.pktClear = k.net.pktClear := rfl
@[simp] theorem Block.setRx_net_sprayLast (k : Block) (b c : Nat) (q : List Packet) :
    (k.setRx b c q).net.sprayLast = k.net.sprayLast := rfl
@[simp] theorem Block.setRx_net_sprayS (k : Block) (b c : Nat) (q : List Packet) :
    (k.setRx b c q).net.sprayS = k.net.sprayS := rfl
@[simp] theorem Block.setRx_net_backlog (k : Block) (b c : Nat) (q : List Packet) :
    (k.setRx b c q).net.backlog = k.net.backlog := rfl
@[simp] theorem Block.setRx_net_noticeCache (k : Block) (b c : Nat) (q : List Packet) :
    (k.setRx b c q).net.noticeCache = k.net.noticeCache := rfl
@[simp] theorem Block.setRx_net_linkFaults (k : Block) (b c : Nat) (q : List Packet) :
    (k.setRx b c q).net.linkFaults = k.net.linkFaults := rfl
@[simp] theorem Block.setRx_net_injStop (k : Block) (b c : Nat) (q : List Packet) :
    (k.setRx b c q).net.injStop = k.net.injStop := rfl
@[simp] theorem Block.setRx_net_target (k : Block) (b c : Nat) (q : List Packet) :
    (k.setRx b c q).net.target = k.net.target := rfl
@[simp] theorem Block.setRx_net_routeMem (k : Block) (b c : Nat) (q : List Packet) :
    (k.setRx b c q).net.routeMem = k.net.routeMem := rfl
@[simp] theorem Block.setRx_net_pkgTable (k : Block) (b c : Nat) (q : List Packet) :
    (k.setRx b c q).net.pkgTable = k.net.pkgTable := rfl
@[simp] theorem Block.setRx_net_sysTable (k : Block) (b c : Nat) (q : List Packet) :
    (k.setRx b c q).net.sysTable = k.net.sysTable := rfl
@[simp] theorem Block.setRx_net_epoch (k : Block) (b c : Nat) (q : List Packet) :
    (k.setRx b c q).net.epoch = k.net.epoch := rfl
@[simp] theorem Block.setRx_net_flipPending (k : Block) (b c : Nat) (q : List Packet) :
    (k.setRx b c q).net.flipPending = k.net.flipPending := rfl
@[simp] theorem Block.setRx_net_holdLeft (k : Block) (b c : Nat) (q : List Packet) :
    (k.setRx b c q).net.holdLeft = k.net.holdLeft := rfl

/-! ### Block.stageAt -/

@[simp] theorem Block.stageAt_regs (k : Block) (b pt : Nat) (x : Staged) :
    (k.stageAt b pt x).regs = k.regs := rfl
@[simp] theorem Block.stageAt_clk (k : Block) (b pt : Nat) (x : Staged) :
    (k.stageAt b pt x).clk = k.clk := rfl
@[simp] theorem Block.stageAt_prog (k : Block) (b pt : Nat) (x : Staged) :
    (k.stageAt b pt x).prog = k.prog := rfl
@[simp] theorem Block.stageAt_img (k : Block) (b pt : Nat) (x : Staged) :
    (k.stageAt b pt x).img = k.img := rfl
@[simp] theorem Block.stageAt_xfr (k : Block) (b pt : Nat) (x : Staged) :
    (k.stageAt b pt x).xfr = k.xfr := rfl
@[simp] theorem Block.stageAt_rdc (k : Block) (b pt : Nat) (x : Staged) :
    (k.stageAt b pt x).rdc = k.rdc := rfl
@[simp] theorem Block.stageAt_flt (k : Block) (b pt : Nat) (x : Staged) :
    (k.stageAt b pt x).flt = k.flt := rfl
@[simp] theorem Block.stageAt_mq (k : Block) (b pt : Nat) (x : Staged) :
    (k.stageAt b pt x).mq = k.mq := rfl
@[simp] theorem Block.stageAt_spc (k : Block) (b pt : Nat) (x : Staged) :
    (k.stageAt b pt x).spc = k.spc := rfl
@[simp] theorem Block.stageAt_gpd (k : Block) (b pt : Nat) (x : Staged) :
    (k.stageAt b pt x).gpd = k.gpd := rfl
@[simp] theorem Block.stageAt_hlth (k : Block) (b pt : Nat) (x : Staged) :
    (k.stageAt b pt x).hlth = k.hlth := rfl
@[simp] theorem Block.stageAt_lnk (k : Block) (b pt : Nat) (x : Staged) :
    (k.stageAt b pt x).lnk = k.lnk := rfl
@[simp] theorem Block.stageAt_rst (k : Block) (b pt : Nat) (x : Staged) :
    (k.stageAt b pt x).rst = k.rst := rfl
@[simp] theorem Block.stageAt_fresh (k : Block) (b pt : Nat) (x : Staged) :
    (k.stageAt b pt x).fresh = k.fresh := rfl
@[simp] theorem Block.stageAt_late (k : Block) (b pt : Nat) (x : Staged) :
    (k.stageAt b pt x).late = k.late := rfl
@[simp] theorem Block.stageAt_out (k : Block) (b pt : Nat) (x : Staged) :
    (k.stageAt b pt x).out = k.out := rfl
@[simp] theorem Block.stageAt_free (k : Block) (b pt : Nat) (x : Staged) :
    (k.stageAt b pt x).free = k.free := rfl
@[simp] theorem Block.stageAt_net_chain (k : Block) (b pt : Nat) (x : Staged) :
    (k.stageAt b pt x).net.chain = k.net.chain := rfl
@[simp] theorem Block.stageAt_net_rx (k : Block) (b pt : Nat) (x : Staged) :
    (k.stageAt b pt x).net.rx = k.net.rx := rfl
@[simp] theorem Block.stageAt_net_credit (k : Block) (b pt : Nat) (x : Staged) :
    (k.stageAt b pt x).net.credit = k.net.credit := rfl
@[simp] theorem Block.stageAt_net_courseProg (k : Block) (b pt : Nat) (x : Staged) :
    (k.stageAt b pt x).net.courseProg = k.net.courseProg := rfl
@[simp] theorem Block.stageAt_net_bank (k : Block) (b pt : Nat) (x : Staged) :
    (k.stageAt b pt x).net.bank = k.net.bank := rfl
@[simp] theorem Block.stageAt_net_seq (k : Block) (b pt : Nat) (x : Staged) :
    (k.stageAt b pt x).net.seq = k.net.seq := rfl
@[simp] theorem Block.stageAt_net_vtime (k : Block) (b pt : Nat) (x : Staged) :
    (k.stageAt b pt x).net.vtime = k.net.vtime := rfl
@[simp] theorem Block.stageAt_net_ftag (k : Block) (b pt : Nat) (x : Staged) :
    (k.stageAt b pt x).net.ftag = k.net.ftag := rfl
@[simp] theorem Block.stageAt_net_rrobin (k : Block) (b pt : Nat) (x : Staged) :
    (k.stageAt b pt x).net.rrobin = k.net.rrobin := rfl
@[simp] theorem Block.stageAt_net_headStart (k : Block) (b pt : Nat) (x : Staged) :
    (k.stageAt b pt x).net.headStart = k.net.headStart := rfl
@[simp] theorem Block.stageAt_net_subStart (k : Block) (b pt : Nat) (x : Staged) :
    (k.stageAt b pt x).net.subStart = k.net.subStart := rfl
@[simp] theorem Block.stageAt_net_busy (k : Block) (b pt : Nat) (x : Staged) :
    (k.stageAt b pt x).net.busy = k.net.busy := rfl
@[simp] theorem Block.stageAt_net_subVtime (k : Block) (b pt : Nat) (x : Staged) :
    (k.stageAt b pt x).net.subVtime = k.net.subVtime := rfl
@[simp] theorem Block.stageAt_net_subTag (k : Block) (b pt : Nat) (x : Staged) :
    (k.stageAt b pt x).net.subTag = k.net.subTag := rfl
@[simp] theorem Block.stageAt_net_offered (k : Block) (b pt : Nat) (x : Staged) :
    (k.stageAt b pt x).net.offered = k.net.offered := rfl
@[simp] theorem Block.stageAt_net_tokens (k : Block) (b pt : Nat) (x : Staged) :
    (k.stageAt b pt x).net.tokens = k.net.tokens := rfl
@[simp] theorem Block.stageAt_net_shaped (k : Block) (b pt : Nat) (x : Staged) :
    (k.stageAt b pt x).net.shaped = k.net.shaped := rfl
@[simp] theorem Block.stageAt_net_hold (k : Block) (b pt : Nat) (x : Staged) :
    (k.stageAt b pt x).net.hold = k.net.hold := rfl
@[simp] theorem Block.stageAt_net_routeOld (k : Block) (b pt : Nat) (x : Staged) :
    (k.stageAt b pt x).net.routeOld = k.net.routeOld := rfl
@[simp] theorem Block.stageAt_net_pktClear (k : Block) (b pt : Nat) (x : Staged) :
    (k.stageAt b pt x).net.pktClear = k.net.pktClear := rfl
@[simp] theorem Block.stageAt_net_sprayLast (k : Block) (b pt : Nat) (x : Staged) :
    (k.stageAt b pt x).net.sprayLast = k.net.sprayLast := rfl
@[simp] theorem Block.stageAt_net_sprayS (k : Block) (b pt : Nat) (x : Staged) :
    (k.stageAt b pt x).net.sprayS = k.net.sprayS := rfl
@[simp] theorem Block.stageAt_net_backlog (k : Block) (b pt : Nat) (x : Staged) :
    (k.stageAt b pt x).net.backlog = k.net.backlog := rfl
@[simp] theorem Block.stageAt_net_noticeCache (k : Block) (b pt : Nat) (x : Staged) :
    (k.stageAt b pt x).net.noticeCache = k.net.noticeCache := rfl
@[simp] theorem Block.stageAt_net_linkFaults (k : Block) (b pt : Nat) (x : Staged) :
    (k.stageAt b pt x).net.linkFaults = k.net.linkFaults := rfl
@[simp] theorem Block.stageAt_net_injStop (k : Block) (b pt : Nat) (x : Staged) :
    (k.stageAt b pt x).net.injStop = k.net.injStop := rfl
@[simp] theorem Block.stageAt_net_target (k : Block) (b pt : Nat) (x : Staged) :
    (k.stageAt b pt x).net.target = k.net.target := rfl
@[simp] theorem Block.stageAt_net_routeMem (k : Block) (b pt : Nat) (x : Staged) :
    (k.stageAt b pt x).net.routeMem = k.net.routeMem := rfl
@[simp] theorem Block.stageAt_net_pkgTable (k : Block) (b pt : Nat) (x : Staged) :
    (k.stageAt b pt x).net.pkgTable = k.net.pkgTable := rfl
@[simp] theorem Block.stageAt_net_sysTable (k : Block) (b pt : Nat) (x : Staged) :
    (k.stageAt b pt x).net.sysTable = k.net.sysTable := rfl
@[simp] theorem Block.stageAt_net_epoch (k : Block) (b pt : Nat) (x : Staged) :
    (k.stageAt b pt x).net.epoch = k.net.epoch := rfl
@[simp] theorem Block.stageAt_net_flipPending (k : Block) (b pt : Nat) (x : Staged) :
    (k.stageAt b pt x).net.flipPending = k.net.flipPending := rfl
@[simp] theorem Block.stageAt_net_holdLeft (k : Block) (b pt : Nat) (x : Staged) :
    (k.stageAt b pt x).net.holdLeft = k.net.holdLeft := rfl

/-! ### Block.setChain -/

@[simp] theorem Block.setChain_regs (k : Block) (b p : Nat) (c : List Chained) :
    (k.setChain b p c).regs = k.regs := rfl
@[simp] theorem Block.setChain_clk (k : Block) (b p : Nat) (c : List Chained) :
    (k.setChain b p c).clk = k.clk := rfl
@[simp] theorem Block.setChain_prog (k : Block) (b p : Nat) (c : List Chained) :
    (k.setChain b p c).prog = k.prog := rfl
@[simp] theorem Block.setChain_img (k : Block) (b p : Nat) (c : List Chained) :
    (k.setChain b p c).img = k.img := rfl
@[simp] theorem Block.setChain_xfr (k : Block) (b p : Nat) (c : List Chained) :
    (k.setChain b p c).xfr = k.xfr := rfl
@[simp] theorem Block.setChain_rdc (k : Block) (b p : Nat) (c : List Chained) :
    (k.setChain b p c).rdc = k.rdc := rfl
@[simp] theorem Block.setChain_flt (k : Block) (b p : Nat) (c : List Chained) :
    (k.setChain b p c).flt = k.flt := rfl
@[simp] theorem Block.setChain_mq (k : Block) (b p : Nat) (c : List Chained) :
    (k.setChain b p c).mq = k.mq := rfl
@[simp] theorem Block.setChain_spc (k : Block) (b p : Nat) (c : List Chained) :
    (k.setChain b p c).spc = k.spc := rfl
@[simp] theorem Block.setChain_gpd (k : Block) (b p : Nat) (c : List Chained) :
    (k.setChain b p c).gpd = k.gpd := rfl
@[simp] theorem Block.setChain_hlth (k : Block) (b p : Nat) (c : List Chained) :
    (k.setChain b p c).hlth = k.hlth := rfl
@[simp] theorem Block.setChain_lnk (k : Block) (b p : Nat) (c : List Chained) :
    (k.setChain b p c).lnk = k.lnk := rfl
@[simp] theorem Block.setChain_rst (k : Block) (b p : Nat) (c : List Chained) :
    (k.setChain b p c).rst = k.rst := rfl
@[simp] theorem Block.setChain_fresh (k : Block) (b p : Nat) (c : List Chained) :
    (k.setChain b p c).fresh = k.fresh := rfl
@[simp] theorem Block.setChain_late (k : Block) (b p : Nat) (c : List Chained) :
    (k.setChain b p c).late = k.late := rfl
@[simp] theorem Block.setChain_out (k : Block) (b p : Nat) (c : List Chained) :
    (k.setChain b p c).out = k.out := rfl
@[simp] theorem Block.setChain_free (k : Block) (b p : Nat) (c : List Chained) :
    (k.setChain b p c).free = k.free := rfl
@[simp] theorem Block.setChain_net_stage (k : Block) (b p : Nat) (c : List Chained) :
    (k.setChain b p c).net.stage = k.net.stage := rfl
@[simp] theorem Block.setChain_net_rx (k : Block) (b p : Nat) (c : List Chained) :
    (k.setChain b p c).net.rx = k.net.rx := rfl
@[simp] theorem Block.setChain_net_credit (k : Block) (b p : Nat) (c : List Chained) :
    (k.setChain b p c).net.credit = k.net.credit := rfl
@[simp] theorem Block.setChain_net_courseProg (k : Block) (b p : Nat) (c : List Chained) :
    (k.setChain b p c).net.courseProg = k.net.courseProg := rfl
@[simp] theorem Block.setChain_net_bank (k : Block) (b p : Nat) (c : List Chained) :
    (k.setChain b p c).net.bank = k.net.bank := rfl
@[simp] theorem Block.setChain_net_seq (k : Block) (b p : Nat) (c : List Chained) :
    (k.setChain b p c).net.seq = k.net.seq := rfl
@[simp] theorem Block.setChain_net_vtime (k : Block) (b p : Nat) (c : List Chained) :
    (k.setChain b p c).net.vtime = k.net.vtime := rfl
@[simp] theorem Block.setChain_net_ftag (k : Block) (b p : Nat) (c : List Chained) :
    (k.setChain b p c).net.ftag = k.net.ftag := rfl
@[simp] theorem Block.setChain_net_rrobin (k : Block) (b p : Nat) (c : List Chained) :
    (k.setChain b p c).net.rrobin = k.net.rrobin := rfl
@[simp] theorem Block.setChain_net_headStart (k : Block) (b p : Nat) (c : List Chained) :
    (k.setChain b p c).net.headStart = k.net.headStart := rfl
@[simp] theorem Block.setChain_net_subStart (k : Block) (b p : Nat) (c : List Chained) :
    (k.setChain b p c).net.subStart = k.net.subStart := rfl
@[simp] theorem Block.setChain_net_busy (k : Block) (b p : Nat) (c : List Chained) :
    (k.setChain b p c).net.busy = k.net.busy := rfl
@[simp] theorem Block.setChain_net_subVtime (k : Block) (b p : Nat) (c : List Chained) :
    (k.setChain b p c).net.subVtime = k.net.subVtime := rfl
@[simp] theorem Block.setChain_net_subTag (k : Block) (b p : Nat) (c : List Chained) :
    (k.setChain b p c).net.subTag = k.net.subTag := rfl
@[simp] theorem Block.setChain_net_offered (k : Block) (b p : Nat) (c : List Chained) :
    (k.setChain b p c).net.offered = k.net.offered := rfl
@[simp] theorem Block.setChain_net_tokens (k : Block) (b p : Nat) (c : List Chained) :
    (k.setChain b p c).net.tokens = k.net.tokens := rfl
@[simp] theorem Block.setChain_net_shaped (k : Block) (b p : Nat) (c : List Chained) :
    (k.setChain b p c).net.shaped = k.net.shaped := rfl
@[simp] theorem Block.setChain_net_hold (k : Block) (b p : Nat) (c : List Chained) :
    (k.setChain b p c).net.hold = k.net.hold := rfl
@[simp] theorem Block.setChain_net_routeOld (k : Block) (b p : Nat) (c : List Chained) :
    (k.setChain b p c).net.routeOld = k.net.routeOld := rfl
@[simp] theorem Block.setChain_net_pktClear (k : Block) (b p : Nat) (c : List Chained) :
    (k.setChain b p c).net.pktClear = k.net.pktClear := rfl
@[simp] theorem Block.setChain_net_sprayLast (k : Block) (b p : Nat) (c : List Chained) :
    (k.setChain b p c).net.sprayLast = k.net.sprayLast := rfl
@[simp] theorem Block.setChain_net_sprayS (k : Block) (b p : Nat) (c : List Chained) :
    (k.setChain b p c).net.sprayS = k.net.sprayS := rfl
@[simp] theorem Block.setChain_net_backlog (k : Block) (b p : Nat) (c : List Chained) :
    (k.setChain b p c).net.backlog = k.net.backlog := rfl
@[simp] theorem Block.setChain_net_noticeCache (k : Block) (b p : Nat) (c : List Chained) :
    (k.setChain b p c).net.noticeCache = k.net.noticeCache := rfl
@[simp] theorem Block.setChain_net_linkFaults (k : Block) (b p : Nat) (c : List Chained) :
    (k.setChain b p c).net.linkFaults = k.net.linkFaults := rfl
@[simp] theorem Block.setChain_net_injStop (k : Block) (b p : Nat) (c : List Chained) :
    (k.setChain b p c).net.injStop = k.net.injStop := rfl
@[simp] theorem Block.setChain_net_target (k : Block) (b p : Nat) (c : List Chained) :
    (k.setChain b p c).net.target = k.net.target := rfl
@[simp] theorem Block.setChain_net_routeMem (k : Block) (b p : Nat) (c : List Chained) :
    (k.setChain b p c).net.routeMem = k.net.routeMem := rfl
@[simp] theorem Block.setChain_net_pkgTable (k : Block) (b p : Nat) (c : List Chained) :
    (k.setChain b p c).net.pkgTable = k.net.pkgTable := rfl
@[simp] theorem Block.setChain_net_sysTable (k : Block) (b p : Nat) (c : List Chained) :
    (k.setChain b p c).net.sysTable = k.net.sysTable := rfl
@[simp] theorem Block.setChain_net_epoch (k : Block) (b p : Nat) (c : List Chained) :
    (k.setChain b p c).net.epoch = k.net.epoch := rfl
@[simp] theorem Block.setChain_net_flipPending (k : Block) (b p : Nat) (c : List Chained) :
    (k.setChain b p c).net.flipPending = k.net.flipPending := rfl
@[simp] theorem Block.setChain_net_holdLeft (k : Block) (b p : Nat) (c : List Chained) :
    (k.setChain b p c).net.holdLeft = k.net.holdLeft := rfl

/-! ### Block.setCredits -/

@[simp] theorem Block.setCredits_regs (k : Block) (b p n : Nat) :
    (k.setCredits b p n).regs = k.regs := rfl
@[simp] theorem Block.setCredits_clk (k : Block) (b p n : Nat) :
    (k.setCredits b p n).clk = k.clk := rfl
@[simp] theorem Block.setCredits_prog (k : Block) (b p n : Nat) :
    (k.setCredits b p n).prog = k.prog := rfl
@[simp] theorem Block.setCredits_img (k : Block) (b p n : Nat) :
    (k.setCredits b p n).img = k.img := rfl
@[simp] theorem Block.setCredits_xfr (k : Block) (b p n : Nat) :
    (k.setCredits b p n).xfr = k.xfr := rfl
@[simp] theorem Block.setCredits_rdc (k : Block) (b p n : Nat) :
    (k.setCredits b p n).rdc = k.rdc := rfl
@[simp] theorem Block.setCredits_flt (k : Block) (b p n : Nat) :
    (k.setCredits b p n).flt = k.flt := rfl
@[simp] theorem Block.setCredits_mq (k : Block) (b p n : Nat) :
    (k.setCredits b p n).mq = k.mq := rfl
@[simp] theorem Block.setCredits_spc (k : Block) (b p n : Nat) :
    (k.setCredits b p n).spc = k.spc := rfl
@[simp] theorem Block.setCredits_gpd (k : Block) (b p n : Nat) :
    (k.setCredits b p n).gpd = k.gpd := rfl
@[simp] theorem Block.setCredits_hlth (k : Block) (b p n : Nat) :
    (k.setCredits b p n).hlth = k.hlth := rfl
@[simp] theorem Block.setCredits_lnk (k : Block) (b p n : Nat) :
    (k.setCredits b p n).lnk = k.lnk := rfl
@[simp] theorem Block.setCredits_rst (k : Block) (b p n : Nat) :
    (k.setCredits b p n).rst = k.rst := rfl
@[simp] theorem Block.setCredits_fresh (k : Block) (b p n : Nat) :
    (k.setCredits b p n).fresh = k.fresh := rfl
@[simp] theorem Block.setCredits_late (k : Block) (b p n : Nat) :
    (k.setCredits b p n).late = k.late := rfl
@[simp] theorem Block.setCredits_out (k : Block) (b p n : Nat) :
    (k.setCredits b p n).out = k.out := rfl
@[simp] theorem Block.setCredits_free (k : Block) (b p n : Nat) :
    (k.setCredits b p n).free = k.free := rfl
@[simp] theorem Block.setCredits_net_chain (k : Block) (b p n : Nat) :
    (k.setCredits b p n).net.chain = k.net.chain := rfl
@[simp] theorem Block.setCredits_net_stage (k : Block) (b p n : Nat) :
    (k.setCredits b p n).net.stage = k.net.stage := rfl
@[simp] theorem Block.setCredits_net_rx (k : Block) (b p n : Nat) :
    (k.setCredits b p n).net.rx = k.net.rx := rfl
@[simp] theorem Block.setCredits_net_courseProg (k : Block) (b p n : Nat) :
    (k.setCredits b p n).net.courseProg = k.net.courseProg := rfl
@[simp] theorem Block.setCredits_net_bank (k : Block) (b p n : Nat) :
    (k.setCredits b p n).net.bank = k.net.bank := rfl
@[simp] theorem Block.setCredits_net_seq (k : Block) (b p n : Nat) :
    (k.setCredits b p n).net.seq = k.net.seq := rfl
@[simp] theorem Block.setCredits_net_vtime (k : Block) (b p n : Nat) :
    (k.setCredits b p n).net.vtime = k.net.vtime := rfl
@[simp] theorem Block.setCredits_net_ftag (k : Block) (b p n : Nat) :
    (k.setCredits b p n).net.ftag = k.net.ftag := rfl
@[simp] theorem Block.setCredits_net_rrobin (k : Block) (b p n : Nat) :
    (k.setCredits b p n).net.rrobin = k.net.rrobin := rfl
@[simp] theorem Block.setCredits_net_headStart (k : Block) (b p n : Nat) :
    (k.setCredits b p n).net.headStart = k.net.headStart := rfl
@[simp] theorem Block.setCredits_net_subStart (k : Block) (b p n : Nat) :
    (k.setCredits b p n).net.subStart = k.net.subStart := rfl
@[simp] theorem Block.setCredits_net_busy (k : Block) (b p n : Nat) :
    (k.setCredits b p n).net.busy = k.net.busy := rfl
@[simp] theorem Block.setCredits_net_subVtime (k : Block) (b p n : Nat) :
    (k.setCredits b p n).net.subVtime = k.net.subVtime := rfl
@[simp] theorem Block.setCredits_net_subTag (k : Block) (b p n : Nat) :
    (k.setCredits b p n).net.subTag = k.net.subTag := rfl
@[simp] theorem Block.setCredits_net_offered (k : Block) (b p n : Nat) :
    (k.setCredits b p n).net.offered = k.net.offered := rfl
@[simp] theorem Block.setCredits_net_tokens (k : Block) (b p n : Nat) :
    (k.setCredits b p n).net.tokens = k.net.tokens := rfl
@[simp] theorem Block.setCredits_net_shaped (k : Block) (b p n : Nat) :
    (k.setCredits b p n).net.shaped = k.net.shaped := rfl
@[simp] theorem Block.setCredits_net_hold (k : Block) (b p n : Nat) :
    (k.setCredits b p n).net.hold = k.net.hold := rfl
@[simp] theorem Block.setCredits_net_routeOld (k : Block) (b p n : Nat) :
    (k.setCredits b p n).net.routeOld = k.net.routeOld := rfl
@[simp] theorem Block.setCredits_net_pktClear (k : Block) (b p n : Nat) :
    (k.setCredits b p n).net.pktClear = k.net.pktClear := rfl
@[simp] theorem Block.setCredits_net_sprayLast (k : Block) (b p n : Nat) :
    (k.setCredits b p n).net.sprayLast = k.net.sprayLast := rfl
@[simp] theorem Block.setCredits_net_sprayS (k : Block) (b p n : Nat) :
    (k.setCredits b p n).net.sprayS = k.net.sprayS := rfl
@[simp] theorem Block.setCredits_net_backlog (k : Block) (b p n : Nat) :
    (k.setCredits b p n).net.backlog = k.net.backlog := rfl
@[simp] theorem Block.setCredits_net_noticeCache (k : Block) (b p n : Nat) :
    (k.setCredits b p n).net.noticeCache = k.net.noticeCache := rfl
@[simp] theorem Block.setCredits_net_linkFaults (k : Block) (b p n : Nat) :
    (k.setCredits b p n).net.linkFaults = k.net.linkFaults := rfl
@[simp] theorem Block.setCredits_net_injStop (k : Block) (b p n : Nat) :
    (k.setCredits b p n).net.injStop = k.net.injStop := rfl
@[simp] theorem Block.setCredits_net_target (k : Block) (b p n : Nat) :
    (k.setCredits b p n).net.target = k.net.target := rfl
@[simp] theorem Block.setCredits_net_routeMem (k : Block) (b p n : Nat) :
    (k.setCredits b p n).net.routeMem = k.net.routeMem := rfl
@[simp] theorem Block.setCredits_net_pkgTable (k : Block) (b p n : Nat) :
    (k.setCredits b p n).net.pkgTable = k.net.pkgTable := rfl
@[simp] theorem Block.setCredits_net_sysTable (k : Block) (b p n : Nat) :
    (k.setCredits b p n).net.sysTable = k.net.sysTable := rfl
@[simp] theorem Block.setCredits_net_epoch (k : Block) (b p n : Nat) :
    (k.setCredits b p n).net.epoch = k.net.epoch := rfl
@[simp] theorem Block.setCredits_net_flipPending (k : Block) (b p n : Nat) :
    (k.setCredits b p n).net.flipPending = k.net.flipPending := rfl
@[simp] theorem Block.setCredits_net_holdLeft (k : Block) (b p n : Nat) :
    (k.setCredits b p n).net.holdLeft = k.net.holdLeft := rfl

/-! ### Block.setStaged -/

@[simp] theorem Block.setStaged_regs (k : Block) (b inp : Nat) (l : List Staged) :
    (k.setStaged b inp l).regs = k.regs := rfl
@[simp] theorem Block.setStaged_clk (k : Block) (b inp : Nat) (l : List Staged) :
    (k.setStaged b inp l).clk = k.clk := rfl
@[simp] theorem Block.setStaged_prog (k : Block) (b inp : Nat) (l : List Staged) :
    (k.setStaged b inp l).prog = k.prog := rfl
@[simp] theorem Block.setStaged_img (k : Block) (b inp : Nat) (l : List Staged) :
    (k.setStaged b inp l).img = k.img := rfl
@[simp] theorem Block.setStaged_xfr (k : Block) (b inp : Nat) (l : List Staged) :
    (k.setStaged b inp l).xfr = k.xfr := rfl
@[simp] theorem Block.setStaged_rdc (k : Block) (b inp : Nat) (l : List Staged) :
    (k.setStaged b inp l).rdc = k.rdc := rfl
@[simp] theorem Block.setStaged_flt (k : Block) (b inp : Nat) (l : List Staged) :
    (k.setStaged b inp l).flt = k.flt := rfl
@[simp] theorem Block.setStaged_mq (k : Block) (b inp : Nat) (l : List Staged) :
    (k.setStaged b inp l).mq = k.mq := rfl
@[simp] theorem Block.setStaged_spc (k : Block) (b inp : Nat) (l : List Staged) :
    (k.setStaged b inp l).spc = k.spc := rfl
@[simp] theorem Block.setStaged_gpd (k : Block) (b inp : Nat) (l : List Staged) :
    (k.setStaged b inp l).gpd = k.gpd := rfl
@[simp] theorem Block.setStaged_hlth (k : Block) (b inp : Nat) (l : List Staged) :
    (k.setStaged b inp l).hlth = k.hlth := rfl
@[simp] theorem Block.setStaged_lnk (k : Block) (b inp : Nat) (l : List Staged) :
    (k.setStaged b inp l).lnk = k.lnk := rfl
@[simp] theorem Block.setStaged_rst (k : Block) (b inp : Nat) (l : List Staged) :
    (k.setStaged b inp l).rst = k.rst := rfl
@[simp] theorem Block.setStaged_fresh (k : Block) (b inp : Nat) (l : List Staged) :
    (k.setStaged b inp l).fresh = k.fresh := rfl
@[simp] theorem Block.setStaged_late (k : Block) (b inp : Nat) (l : List Staged) :
    (k.setStaged b inp l).late = k.late := rfl
@[simp] theorem Block.setStaged_out (k : Block) (b inp : Nat) (l : List Staged) :
    (k.setStaged b inp l).out = k.out := rfl
@[simp] theorem Block.setStaged_free (k : Block) (b inp : Nat) (l : List Staged) :
    (k.setStaged b inp l).free = k.free := rfl
@[simp] theorem Block.setStaged_net_chain (k : Block) (b inp : Nat) (l : List Staged) :
    (k.setStaged b inp l).net.chain = k.net.chain := rfl
@[simp] theorem Block.setStaged_net_rx (k : Block) (b inp : Nat) (l : List Staged) :
    (k.setStaged b inp l).net.rx = k.net.rx := rfl
@[simp] theorem Block.setStaged_net_credit (k : Block) (b inp : Nat) (l : List Staged) :
    (k.setStaged b inp l).net.credit = k.net.credit := rfl
@[simp] theorem Block.setStaged_net_courseProg (k : Block) (b inp : Nat) (l : List Staged) :
    (k.setStaged b inp l).net.courseProg = k.net.courseProg := rfl
@[simp] theorem Block.setStaged_net_bank (k : Block) (b inp : Nat) (l : List Staged) :
    (k.setStaged b inp l).net.bank = k.net.bank := rfl
@[simp] theorem Block.setStaged_net_seq (k : Block) (b inp : Nat) (l : List Staged) :
    (k.setStaged b inp l).net.seq = k.net.seq := rfl
@[simp] theorem Block.setStaged_net_vtime (k : Block) (b inp : Nat) (l : List Staged) :
    (k.setStaged b inp l).net.vtime = k.net.vtime := rfl
@[simp] theorem Block.setStaged_net_ftag (k : Block) (b inp : Nat) (l : List Staged) :
    (k.setStaged b inp l).net.ftag = k.net.ftag := rfl
@[simp] theorem Block.setStaged_net_rrobin (k : Block) (b inp : Nat) (l : List Staged) :
    (k.setStaged b inp l).net.rrobin = k.net.rrobin := rfl
@[simp] theorem Block.setStaged_net_headStart (k : Block) (b inp : Nat) (l : List Staged) :
    (k.setStaged b inp l).net.headStart = k.net.headStart := rfl
@[simp] theorem Block.setStaged_net_subStart (k : Block) (b inp : Nat) (l : List Staged) :
    (k.setStaged b inp l).net.subStart = k.net.subStart := rfl
@[simp] theorem Block.setStaged_net_busy (k : Block) (b inp : Nat) (l : List Staged) :
    (k.setStaged b inp l).net.busy = k.net.busy := rfl
@[simp] theorem Block.setStaged_net_subVtime (k : Block) (b inp : Nat) (l : List Staged) :
    (k.setStaged b inp l).net.subVtime = k.net.subVtime := rfl
@[simp] theorem Block.setStaged_net_subTag (k : Block) (b inp : Nat) (l : List Staged) :
    (k.setStaged b inp l).net.subTag = k.net.subTag := rfl
@[simp] theorem Block.setStaged_net_offered (k : Block) (b inp : Nat) (l : List Staged) :
    (k.setStaged b inp l).net.offered = k.net.offered := rfl
@[simp] theorem Block.setStaged_net_tokens (k : Block) (b inp : Nat) (l : List Staged) :
    (k.setStaged b inp l).net.tokens = k.net.tokens := rfl
@[simp] theorem Block.setStaged_net_shaped (k : Block) (b inp : Nat) (l : List Staged) :
    (k.setStaged b inp l).net.shaped = k.net.shaped := rfl
@[simp] theorem Block.setStaged_net_hold (k : Block) (b inp : Nat) (l : List Staged) :
    (k.setStaged b inp l).net.hold = k.net.hold := rfl
@[simp] theorem Block.setStaged_net_routeOld (k : Block) (b inp : Nat) (l : List Staged) :
    (k.setStaged b inp l).net.routeOld = k.net.routeOld := rfl
@[simp] theorem Block.setStaged_net_pktClear (k : Block) (b inp : Nat) (l : List Staged) :
    (k.setStaged b inp l).net.pktClear = k.net.pktClear := rfl
@[simp] theorem Block.setStaged_net_sprayLast (k : Block) (b inp : Nat) (l : List Staged) :
    (k.setStaged b inp l).net.sprayLast = k.net.sprayLast := rfl
@[simp] theorem Block.setStaged_net_sprayS (k : Block) (b inp : Nat) (l : List Staged) :
    (k.setStaged b inp l).net.sprayS = k.net.sprayS := rfl
@[simp] theorem Block.setStaged_net_backlog (k : Block) (b inp : Nat) (l : List Staged) :
    (k.setStaged b inp l).net.backlog = k.net.backlog := rfl
@[simp] theorem Block.setStaged_net_noticeCache (k : Block) (b inp : Nat) (l : List Staged) :
    (k.setStaged b inp l).net.noticeCache = k.net.noticeCache := rfl
@[simp] theorem Block.setStaged_net_linkFaults (k : Block) (b inp : Nat) (l : List Staged) :
    (k.setStaged b inp l).net.linkFaults = k.net.linkFaults := rfl
@[simp] theorem Block.setStaged_net_injStop (k : Block) (b inp : Nat) (l : List Staged) :
    (k.setStaged b inp l).net.injStop = k.net.injStop := rfl
@[simp] theorem Block.setStaged_net_target (k : Block) (b inp : Nat) (l : List Staged) :
    (k.setStaged b inp l).net.target = k.net.target := rfl
@[simp] theorem Block.setStaged_net_routeMem (k : Block) (b inp : Nat) (l : List Staged) :
    (k.setStaged b inp l).net.routeMem = k.net.routeMem := rfl
@[simp] theorem Block.setStaged_net_pkgTable (k : Block) (b inp : Nat) (l : List Staged) :
    (k.setStaged b inp l).net.pkgTable = k.net.pkgTable := rfl
@[simp] theorem Block.setStaged_net_sysTable (k : Block) (b inp : Nat) (l : List Staged) :
    (k.setStaged b inp l).net.sysTable = k.net.sysTable := rfl
@[simp] theorem Block.setStaged_net_epoch (k : Block) (b inp : Nat) (l : List Staged) :
    (k.setStaged b inp l).net.epoch = k.net.epoch := rfl
@[simp] theorem Block.setStaged_net_flipPending (k : Block) (b inp : Nat) (l : List Staged) :
    (k.setStaged b inp l).net.flipPending = k.net.flipPending := rfl
@[simp] theorem Block.setStaged_net_holdLeft (k : Block) (b inp : Nat) (l : List Staged) :
    (k.setStaged b inp l).net.holdLeft = k.net.holdLeft := rfl

/-! ### Block.setSeq -/

@[simp] theorem Block.setSeq_regs (k : Block) (b p : Nat) (v : Sequencer) :
    (k.setSeq b p v).regs = k.regs := rfl
@[simp] theorem Block.setSeq_clk (k : Block) (b p : Nat) (v : Sequencer) :
    (k.setSeq b p v).clk = k.clk := rfl
@[simp] theorem Block.setSeq_prog (k : Block) (b p : Nat) (v : Sequencer) :
    (k.setSeq b p v).prog = k.prog := rfl
@[simp] theorem Block.setSeq_img (k : Block) (b p : Nat) (v : Sequencer) :
    (k.setSeq b p v).img = k.img := rfl
@[simp] theorem Block.setSeq_xfr (k : Block) (b p : Nat) (v : Sequencer) :
    (k.setSeq b p v).xfr = k.xfr := rfl
@[simp] theorem Block.setSeq_rdc (k : Block) (b p : Nat) (v : Sequencer) :
    (k.setSeq b p v).rdc = k.rdc := rfl
@[simp] theorem Block.setSeq_flt (k : Block) (b p : Nat) (v : Sequencer) :
    (k.setSeq b p v).flt = k.flt := rfl
@[simp] theorem Block.setSeq_mq (k : Block) (b p : Nat) (v : Sequencer) :
    (k.setSeq b p v).mq = k.mq := rfl
@[simp] theorem Block.setSeq_spc (k : Block) (b p : Nat) (v : Sequencer) :
    (k.setSeq b p v).spc = k.spc := rfl
@[simp] theorem Block.setSeq_gpd (k : Block) (b p : Nat) (v : Sequencer) :
    (k.setSeq b p v).gpd = k.gpd := rfl
@[simp] theorem Block.setSeq_hlth (k : Block) (b p : Nat) (v : Sequencer) :
    (k.setSeq b p v).hlth = k.hlth := rfl
@[simp] theorem Block.setSeq_lnk (k : Block) (b p : Nat) (v : Sequencer) :
    (k.setSeq b p v).lnk = k.lnk := rfl
@[simp] theorem Block.setSeq_rst (k : Block) (b p : Nat) (v : Sequencer) :
    (k.setSeq b p v).rst = k.rst := rfl
@[simp] theorem Block.setSeq_fresh (k : Block) (b p : Nat) (v : Sequencer) :
    (k.setSeq b p v).fresh = k.fresh := rfl
@[simp] theorem Block.setSeq_late (k : Block) (b p : Nat) (v : Sequencer) :
    (k.setSeq b p v).late = k.late := rfl
@[simp] theorem Block.setSeq_out (k : Block) (b p : Nat) (v : Sequencer) :
    (k.setSeq b p v).out = k.out := rfl
@[simp] theorem Block.setSeq_free (k : Block) (b p : Nat) (v : Sequencer) :
    (k.setSeq b p v).free = k.free := rfl
@[simp] theorem Block.setSeq_net_chain (k : Block) (b p : Nat) (v : Sequencer) :
    (k.setSeq b p v).net.chain = k.net.chain := rfl
@[simp] theorem Block.setSeq_net_stage (k : Block) (b p : Nat) (v : Sequencer) :
    (k.setSeq b p v).net.stage = k.net.stage := rfl
@[simp] theorem Block.setSeq_net_rx (k : Block) (b p : Nat) (v : Sequencer) :
    (k.setSeq b p v).net.rx = k.net.rx := rfl
@[simp] theorem Block.setSeq_net_credit (k : Block) (b p : Nat) (v : Sequencer) :
    (k.setSeq b p v).net.credit = k.net.credit := rfl
@[simp] theorem Block.setSeq_net_courseProg (k : Block) (b p : Nat) (v : Sequencer) :
    (k.setSeq b p v).net.courseProg = k.net.courseProg := rfl
@[simp] theorem Block.setSeq_net_bank (k : Block) (b p : Nat) (v : Sequencer) :
    (k.setSeq b p v).net.bank = k.net.bank := rfl
@[simp] theorem Block.setSeq_net_vtime (k : Block) (b p : Nat) (v : Sequencer) :
    (k.setSeq b p v).net.vtime = k.net.vtime := rfl
@[simp] theorem Block.setSeq_net_ftag (k : Block) (b p : Nat) (v : Sequencer) :
    (k.setSeq b p v).net.ftag = k.net.ftag := rfl
@[simp] theorem Block.setSeq_net_rrobin (k : Block) (b p : Nat) (v : Sequencer) :
    (k.setSeq b p v).net.rrobin = k.net.rrobin := rfl
@[simp] theorem Block.setSeq_net_headStart (k : Block) (b p : Nat) (v : Sequencer) :
    (k.setSeq b p v).net.headStart = k.net.headStart := rfl
@[simp] theorem Block.setSeq_net_subStart (k : Block) (b p : Nat) (v : Sequencer) :
    (k.setSeq b p v).net.subStart = k.net.subStart := rfl
@[simp] theorem Block.setSeq_net_busy (k : Block) (b p : Nat) (v : Sequencer) :
    (k.setSeq b p v).net.busy = k.net.busy := rfl
@[simp] theorem Block.setSeq_net_subVtime (k : Block) (b p : Nat) (v : Sequencer) :
    (k.setSeq b p v).net.subVtime = k.net.subVtime := rfl
@[simp] theorem Block.setSeq_net_subTag (k : Block) (b p : Nat) (v : Sequencer) :
    (k.setSeq b p v).net.subTag = k.net.subTag := rfl
@[simp] theorem Block.setSeq_net_offered (k : Block) (b p : Nat) (v : Sequencer) :
    (k.setSeq b p v).net.offered = k.net.offered := rfl
@[simp] theorem Block.setSeq_net_tokens (k : Block) (b p : Nat) (v : Sequencer) :
    (k.setSeq b p v).net.tokens = k.net.tokens := rfl
@[simp] theorem Block.setSeq_net_shaped (k : Block) (b p : Nat) (v : Sequencer) :
    (k.setSeq b p v).net.shaped = k.net.shaped := rfl
@[simp] theorem Block.setSeq_net_hold (k : Block) (b p : Nat) (v : Sequencer) :
    (k.setSeq b p v).net.hold = k.net.hold := rfl
@[simp] theorem Block.setSeq_net_routeOld (k : Block) (b p : Nat) (v : Sequencer) :
    (k.setSeq b p v).net.routeOld = k.net.routeOld := rfl
@[simp] theorem Block.setSeq_net_pktClear (k : Block) (b p : Nat) (v : Sequencer) :
    (k.setSeq b p v).net.pktClear = k.net.pktClear := rfl
@[simp] theorem Block.setSeq_net_sprayLast (k : Block) (b p : Nat) (v : Sequencer) :
    (k.setSeq b p v).net.sprayLast = k.net.sprayLast := rfl
@[simp] theorem Block.setSeq_net_sprayS (k : Block) (b p : Nat) (v : Sequencer) :
    (k.setSeq b p v).net.sprayS = k.net.sprayS := rfl
@[simp] theorem Block.setSeq_net_backlog (k : Block) (b p : Nat) (v : Sequencer) :
    (k.setSeq b p v).net.backlog = k.net.backlog := rfl
@[simp] theorem Block.setSeq_net_noticeCache (k : Block) (b p : Nat) (v : Sequencer) :
    (k.setSeq b p v).net.noticeCache = k.net.noticeCache := rfl
@[simp] theorem Block.setSeq_net_linkFaults (k : Block) (b p : Nat) (v : Sequencer) :
    (k.setSeq b p v).net.linkFaults = k.net.linkFaults := rfl
@[simp] theorem Block.setSeq_net_injStop (k : Block) (b p : Nat) (v : Sequencer) :
    (k.setSeq b p v).net.injStop = k.net.injStop := rfl
@[simp] theorem Block.setSeq_net_target (k : Block) (b p : Nat) (v : Sequencer) :
    (k.setSeq b p v).net.target = k.net.target := rfl
@[simp] theorem Block.setSeq_net_routeMem (k : Block) (b p : Nat) (v : Sequencer) :
    (k.setSeq b p v).net.routeMem = k.net.routeMem := rfl
@[simp] theorem Block.setSeq_net_pkgTable (k : Block) (b p : Nat) (v : Sequencer) :
    (k.setSeq b p v).net.pkgTable = k.net.pkgTable := rfl
@[simp] theorem Block.setSeq_net_sysTable (k : Block) (b p : Nat) (v : Sequencer) :
    (k.setSeq b p v).net.sysTable = k.net.sysTable := rfl
@[simp] theorem Block.setSeq_net_epoch (k : Block) (b p : Nat) (v : Sequencer) :
    (k.setSeq b p v).net.epoch = k.net.epoch := rfl
@[simp] theorem Block.setSeq_net_flipPending (k : Block) (b p : Nat) (v : Sequencer) :
    (k.setSeq b p v).net.flipPending = k.net.flipPending := rfl
@[simp] theorem Block.setSeq_net_holdLeft (k : Block) (b p : Nat) (v : Sequencer) :
    (k.setSeq b p v).net.holdLeft = k.net.holdLeft := rfl

/-! ### Block.setSlot -/

@[simp] theorem Block.setSlot_regs (k : Block) (b s : Nat) (v : Slot) :
    (k.setSlot b s v).regs = k.regs := rfl
@[simp] theorem Block.setSlot_clk (k : Block) (b s : Nat) (v : Slot) :
    (k.setSlot b s v).clk = k.clk := rfl
@[simp] theorem Block.setSlot_prog (k : Block) (b s : Nat) (v : Slot) :
    (k.setSlot b s v).prog = k.prog := rfl
@[simp] theorem Block.setSlot_img (k : Block) (b s : Nat) (v : Slot) :
    (k.setSlot b s v).img = k.img := rfl
@[simp] theorem Block.setSlot_net (k : Block) (b s : Nat) (v : Slot) :
    (k.setSlot b s v).net = k.net := rfl
@[simp] theorem Block.setSlot_xfr (k : Block) (b s : Nat) (v : Slot) :
    (k.setSlot b s v).xfr = k.xfr := rfl
@[simp] theorem Block.setSlot_flt (k : Block) (b s : Nat) (v : Slot) :
    (k.setSlot b s v).flt = k.flt := rfl
@[simp] theorem Block.setSlot_mq (k : Block) (b s : Nat) (v : Slot) :
    (k.setSlot b s v).mq = k.mq := rfl
@[simp] theorem Block.setSlot_spc (k : Block) (b s : Nat) (v : Slot) :
    (k.setSlot b s v).spc = k.spc := rfl
@[simp] theorem Block.setSlot_gpd (k : Block) (b s : Nat) (v : Slot) :
    (k.setSlot b s v).gpd = k.gpd := rfl
@[simp] theorem Block.setSlot_hlth (k : Block) (b s : Nat) (v : Slot) :
    (k.setSlot b s v).hlth = k.hlth := rfl
@[simp] theorem Block.setSlot_lnk (k : Block) (b s : Nat) (v : Slot) :
    (k.setSlot b s v).lnk = k.lnk := rfl
@[simp] theorem Block.setSlot_rst (k : Block) (b s : Nat) (v : Slot) :
    (k.setSlot b s v).rst = k.rst := rfl
@[simp] theorem Block.setSlot_fresh (k : Block) (b s : Nat) (v : Slot) :
    (k.setSlot b s v).fresh = k.fresh := rfl
@[simp] theorem Block.setSlot_late (k : Block) (b s : Nat) (v : Slot) :
    (k.setSlot b s v).late = k.late := rfl
@[simp] theorem Block.setSlot_out (k : Block) (b s : Nat) (v : Slot) :
    (k.setSlot b s v).out = k.out := rfl
@[simp] theorem Block.setSlot_free (k : Block) (b s : Nat) (v : Slot) :
    (k.setSlot b s v).free = k.free := rfl
@[simp] theorem Block.setSlot_rdc_dtab (k : Block) (b s : Nat) (v : Slot) :
    (k.setSlot b s v).rdc.dtab = k.rdc.dtab := rfl
@[simp] theorem Block.setSlot_rdc_desc (k : Block) (b s : Nat) (v : Slot) :
    (k.setSlot b s v).rdc.desc = k.rdc.desc := rfl
@[simp] theorem Block.setSlot_rdc_tree (k : Block) (b s : Nat) (v : Slot) :
    (k.setSlot b s v).rdc.tree = k.rdc.tree := rfl
@[simp] theorem Block.setSlot_rdc_treeOld (k : Block) (b s : Nat) (v : Slot) :
    (k.setSlot b s v).rdc.treeOld = k.rdc.treeOld := rfl
@[simp] theorem Block.setSlot_rdc_slotOld (k : Block) (b s : Nat) (v : Slot) :
    (k.setSlot b s v).rdc.slotOld = k.rdc.slotOld := rfl

/-! ### Block.mapSlot -/

@[simp] theorem Block.mapSlot_regs (k : Block) (b s : Nat) (f : Slot → Slot) :
    (k.mapSlot b s f).regs = k.regs := rfl
@[simp] theorem Block.mapSlot_clk (k : Block) (b s : Nat) (f : Slot → Slot) :
    (k.mapSlot b s f).clk = k.clk := rfl
@[simp] theorem Block.mapSlot_prog (k : Block) (b s : Nat) (f : Slot → Slot) :
    (k.mapSlot b s f).prog = k.prog := rfl
@[simp] theorem Block.mapSlot_img (k : Block) (b s : Nat) (f : Slot → Slot) :
    (k.mapSlot b s f).img = k.img := rfl
@[simp] theorem Block.mapSlot_net (k : Block) (b s : Nat) (f : Slot → Slot) :
    (k.mapSlot b s f).net = k.net := rfl
@[simp] theorem Block.mapSlot_xfr (k : Block) (b s : Nat) (f : Slot → Slot) :
    (k.mapSlot b s f).xfr = k.xfr := rfl
@[simp] theorem Block.mapSlot_flt (k : Block) (b s : Nat) (f : Slot → Slot) :
    (k.mapSlot b s f).flt = k.flt := rfl
@[simp] theorem Block.mapSlot_mq (k : Block) (b s : Nat) (f : Slot → Slot) :
    (k.mapSlot b s f).mq = k.mq := rfl
@[simp] theorem Block.mapSlot_spc (k : Block) (b s : Nat) (f : Slot → Slot) :
    (k.mapSlot b s f).spc = k.spc := rfl
@[simp] theorem Block.mapSlot_gpd (k : Block) (b s : Nat) (f : Slot → Slot) :
    (k.mapSlot b s f).gpd = k.gpd := rfl
@[simp] theorem Block.mapSlot_hlth (k : Block) (b s : Nat) (f : Slot → Slot) :
    (k.mapSlot b s f).hlth = k.hlth := rfl
@[simp] theorem Block.mapSlot_lnk (k : Block) (b s : Nat) (f : Slot → Slot) :
    (k.mapSlot b s f).lnk = k.lnk := rfl
@[simp] theorem Block.mapSlot_rst (k : Block) (b s : Nat) (f : Slot → Slot) :
    (k.mapSlot b s f).rst = k.rst := rfl
@[simp] theorem Block.mapSlot_fresh (k : Block) (b s : Nat) (f : Slot → Slot) :
    (k.mapSlot b s f).fresh = k.fresh := rfl
@[simp] theorem Block.mapSlot_late (k : Block) (b s : Nat) (f : Slot → Slot) :
    (k.mapSlot b s f).late = k.late := rfl
@[simp] theorem Block.mapSlot_out (k : Block) (b s : Nat) (f : Slot → Slot) :
    (k.mapSlot b s f).out = k.out := rfl
@[simp] theorem Block.mapSlot_free (k : Block) (b s : Nat) (f : Slot → Slot) :
    (k.mapSlot b s f).free = k.free := rfl
@[simp] theorem Block.mapSlot_rdc_dtab (k : Block) (b s : Nat) (f : Slot → Slot) :
    (k.mapSlot b s f).rdc.dtab = k.rdc.dtab := rfl
@[simp] theorem Block.mapSlot_rdc_desc (k : Block) (b s : Nat) (f : Slot → Slot) :
    (k.mapSlot b s f).rdc.desc = k.rdc.desc := rfl
@[simp] theorem Block.mapSlot_rdc_tree (k : Block) (b s : Nat) (f : Slot → Slot) :
    (k.mapSlot b s f).rdc.tree = k.rdc.tree := rfl
@[simp] theorem Block.mapSlot_rdc_treeOld (k : Block) (b s : Nat) (f : Slot → Slot) :
    (k.mapSlot b s f).rdc.treeOld = k.rdc.treeOld := rfl
@[simp] theorem Block.mapSlot_rdc_slotOld (k : Block) (b s : Nat) (f : Slot → Slot) :
    (k.mapSlot b s f).rdc.slotOld = k.rdc.slotOld := rfl

/-! ### Block.setQueue -/

@[simp] theorem Block.setQueue_regs (k : Block) (b q : Nat) (v : RxQueue) :
    (k.setQueue b q v).regs = k.regs := rfl
@[simp] theorem Block.setQueue_clk (k : Block) (b q : Nat) (v : RxQueue) :
    (k.setQueue b q v).clk = k.clk := rfl
@[simp] theorem Block.setQueue_prog (k : Block) (b q : Nat) (v : RxQueue) :
    (k.setQueue b q v).prog = k.prog := rfl
@[simp] theorem Block.setQueue_img (k : Block) (b q : Nat) (v : RxQueue) :
    (k.setQueue b q v).img = k.img := rfl
@[simp] theorem Block.setQueue_net (k : Block) (b q : Nat) (v : RxQueue) :
    (k.setQueue b q v).net = k.net := rfl
@[simp] theorem Block.setQueue_xfr (k : Block) (b q : Nat) (v : RxQueue) :
    (k.setQueue b q v).xfr = k.xfr := rfl
@[simp] theorem Block.setQueue_rdc (k : Block) (b q : Nat) (v : RxQueue) :
    (k.setQueue b q v).rdc = k.rdc := rfl
@[simp] theorem Block.setQueue_flt (k : Block) (b q : Nat) (v : RxQueue) :
    (k.setQueue b q v).flt = k.flt := rfl
@[simp] theorem Block.setQueue_spc (k : Block) (b q : Nat) (v : RxQueue) :
    (k.setQueue b q v).spc = k.spc := rfl
@[simp] theorem Block.setQueue_gpd (k : Block) (b q : Nat) (v : RxQueue) :
    (k.setQueue b q v).gpd = k.gpd := rfl
@[simp] theorem Block.setQueue_hlth (k : Block) (b q : Nat) (v : RxQueue) :
    (k.setQueue b q v).hlth = k.hlth := rfl
@[simp] theorem Block.setQueue_lnk (k : Block) (b q : Nat) (v : RxQueue) :
    (k.setQueue b q v).lnk = k.lnk := rfl
@[simp] theorem Block.setQueue_rst (k : Block) (b q : Nat) (v : RxQueue) :
    (k.setQueue b q v).rst = k.rst := rfl
@[simp] theorem Block.setQueue_fresh (k : Block) (b q : Nat) (v : RxQueue) :
    (k.setQueue b q v).fresh = k.fresh := rfl
@[simp] theorem Block.setQueue_late (k : Block) (b q : Nat) (v : RxQueue) :
    (k.setQueue b q v).late = k.late := rfl
@[simp] theorem Block.setQueue_out (k : Block) (b q : Nat) (v : RxQueue) :
    (k.setQueue b q v).out = k.out := rfl
@[simp] theorem Block.setQueue_free (k : Block) (b q : Nat) (v : RxQueue) :
    (k.setQueue b q v).free = k.free := rfl
@[simp] theorem Block.setQueue_mq_popped (k : Block) (b q : Nat) (v : RxQueue) :
    (k.setQueue b q v).mq.popped = k.mq.popped := rfl
@[simp] theorem Block.setQueue_mq_chan (k : Block) (b q : Nat) (v : RxQueue) :
    (k.setQueue b q v).mq.chan = k.mq.chan := rfl
@[simp] theorem Block.setQueue_mq_waits (k : Block) (b q : Nat) (v : RxQueue) :
    (k.setQueue b q v).mq.waits = k.mq.waits := rfl

/-! ### Block.setChan -/

@[simp] theorem Block.setChan_regs (k : Block) (b c : Nat) (v : Channel) :
    (k.setChan b c v).regs = k.regs := rfl
@[simp] theorem Block.setChan_clk (k : Block) (b c : Nat) (v : Channel) :
    (k.setChan b c v).clk = k.clk := rfl
@[simp] theorem Block.setChan_prog (k : Block) (b c : Nat) (v : Channel) :
    (k.setChan b c v).prog = k.prog := rfl
@[simp] theorem Block.setChan_img (k : Block) (b c : Nat) (v : Channel) :
    (k.setChan b c v).img = k.img := rfl
@[simp] theorem Block.setChan_net (k : Block) (b c : Nat) (v : Channel) :
    (k.setChan b c v).net = k.net := rfl
@[simp] theorem Block.setChan_xfr (k : Block) (b c : Nat) (v : Channel) :
    (k.setChan b c v).xfr = k.xfr := rfl
@[simp] theorem Block.setChan_rdc (k : Block) (b c : Nat) (v : Channel) :
    (k.setChan b c v).rdc = k.rdc := rfl
@[simp] theorem Block.setChan_flt (k : Block) (b c : Nat) (v : Channel) :
    (k.setChan b c v).flt = k.flt := rfl
@[simp] theorem Block.setChan_spc (k : Block) (b c : Nat) (v : Channel) :
    (k.setChan b c v).spc = k.spc := rfl
@[simp] theorem Block.setChan_gpd (k : Block) (b c : Nat) (v : Channel) :
    (k.setChan b c v).gpd = k.gpd := rfl
@[simp] theorem Block.setChan_hlth (k : Block) (b c : Nat) (v : Channel) :
    (k.setChan b c v).hlth = k.hlth := rfl
@[simp] theorem Block.setChan_lnk (k : Block) (b c : Nat) (v : Channel) :
    (k.setChan b c v).lnk = k.lnk := rfl
@[simp] theorem Block.setChan_rst (k : Block) (b c : Nat) (v : Channel) :
    (k.setChan b c v).rst = k.rst := rfl
@[simp] theorem Block.setChan_fresh (k : Block) (b c : Nat) (v : Channel) :
    (k.setChan b c v).fresh = k.fresh := rfl
@[simp] theorem Block.setChan_late (k : Block) (b c : Nat) (v : Channel) :
    (k.setChan b c v).late = k.late := rfl
@[simp] theorem Block.setChan_out (k : Block) (b c : Nat) (v : Channel) :
    (k.setChan b c v).out = k.out := rfl
@[simp] theorem Block.setChan_free (k : Block) (b c : Nat) (v : Channel) :
    (k.setChan b c v).free = k.free := rfl
@[simp] theorem Block.setChan_mq_queue (k : Block) (b c : Nat) (v : Channel) :
    (k.setChan b c v).mq.queue = k.mq.queue := rfl
@[simp] theorem Block.setChan_mq_popped (k : Block) (b c : Nat) (v : Channel) :
    (k.setChan b c v).mq.popped = k.mq.popped := rfl
@[simp] theorem Block.setChan_mq_waits (k : Block) (b c : Nat) (v : Channel) :
    (k.setChan b c v).mq.waits = k.mq.waits := rfl

/-! ### Block.setWaits -/

@[simp] theorem Block.setWaits_regs (k : Block) (b : Nat) (l : List WaitSend) :
    (k.setWaits b l).regs = k.regs := rfl
@[simp] theorem Block.setWaits_clk (k : Block) (b : Nat) (l : List WaitSend) :
    (k.setWaits b l).clk = k.clk := rfl
@[simp] theorem Block.setWaits_prog (k : Block) (b : Nat) (l : List WaitSend) :
    (k.setWaits b l).prog = k.prog := rfl
@[simp] theorem Block.setWaits_img (k : Block) (b : Nat) (l : List WaitSend) :
    (k.setWaits b l).img = k.img := rfl
@[simp] theorem Block.setWaits_net (k : Block) (b : Nat) (l : List WaitSend) :
    (k.setWaits b l).net = k.net := rfl
@[simp] theorem Block.setWaits_xfr (k : Block) (b : Nat) (l : List WaitSend) :
    (k.setWaits b l).xfr = k.xfr := rfl
@[simp] theorem Block.setWaits_rdc (k : Block) (b : Nat) (l : List WaitSend) :
    (k.setWaits b l).rdc = k.rdc := rfl
@[simp] theorem Block.setWaits_flt (k : Block) (b : Nat) (l : List WaitSend) :
    (k.setWaits b l).flt = k.flt := rfl
@[simp] theorem Block.setWaits_spc (k : Block) (b : Nat) (l : List WaitSend) :
    (k.setWaits b l).spc = k.spc := rfl
@[simp] theorem Block.setWaits_gpd (k : Block) (b : Nat) (l : List WaitSend) :
    (k.setWaits b l).gpd = k.gpd := rfl
@[simp] theorem Block.setWaits_hlth (k : Block) (b : Nat) (l : List WaitSend) :
    (k.setWaits b l).hlth = k.hlth := rfl
@[simp] theorem Block.setWaits_lnk (k : Block) (b : Nat) (l : List WaitSend) :
    (k.setWaits b l).lnk = k.lnk := rfl
@[simp] theorem Block.setWaits_rst (k : Block) (b : Nat) (l : List WaitSend) :
    (k.setWaits b l).rst = k.rst := rfl
@[simp] theorem Block.setWaits_fresh (k : Block) (b : Nat) (l : List WaitSend) :
    (k.setWaits b l).fresh = k.fresh := rfl
@[simp] theorem Block.setWaits_late (k : Block) (b : Nat) (l : List WaitSend) :
    (k.setWaits b l).late = k.late := rfl
@[simp] theorem Block.setWaits_out (k : Block) (b : Nat) (l : List WaitSend) :
    (k.setWaits b l).out = k.out := rfl
@[simp] theorem Block.setWaits_free (k : Block) (b : Nat) (l : List WaitSend) :
    (k.setWaits b l).free = k.free := rfl
@[simp] theorem Block.setWaits_mq_queue (k : Block) (b : Nat) (l : List WaitSend) :
    (k.setWaits b l).mq.queue = k.mq.queue := rfl
@[simp] theorem Block.setWaits_mq_popped (k : Block) (b : Nat) (l : List WaitSend) :
    (k.setWaits b l).mq.popped = k.mq.popped := rfl
@[simp] theorem Block.setWaits_mq_chan (k : Block) (b : Nat) (l : List WaitSend) :
    (k.setWaits b l).mq.chan = k.mq.chan := rfl

/-! ### Block.setJob -/

@[simp] theorem Block.setJob_regs (k : Block) (b t : Nat) (j : GatherJob) :
    (k.setJob b t j).regs = k.regs := rfl
@[simp] theorem Block.setJob_clk (k : Block) (b t : Nat) (j : GatherJob) :
    (k.setJob b t j).clk = k.clk := rfl
@[simp] theorem Block.setJob_prog (k : Block) (b t : Nat) (j : GatherJob) :
    (k.setJob b t j).prog = k.prog := rfl
@[simp] theorem Block.setJob_img (k : Block) (b t : Nat) (j : GatherJob) :
    (k.setJob b t j).img = k.img := rfl
@[simp] theorem Block.setJob_net (k : Block) (b t : Nat) (j : GatherJob) :
    (k.setJob b t j).net = k.net := rfl
@[simp] theorem Block.setJob_xfr (k : Block) (b t : Nat) (j : GatherJob) :
    (k.setJob b t j).xfr = k.xfr := rfl
@[simp] theorem Block.setJob_rdc (k : Block) (b t : Nat) (j : GatherJob) :
    (k.setJob b t j).rdc = k.rdc := rfl
@[simp] theorem Block.setJob_flt (k : Block) (b t : Nat) (j : GatherJob) :
    (k.setJob b t j).flt = k.flt := rfl
@[simp] theorem Block.setJob_mq (k : Block) (b t : Nat) (j : GatherJob) :
    (k.setJob b t j).mq = k.mq := rfl
@[simp] theorem Block.setJob_gpd (k : Block) (b t : Nat) (j : GatherJob) :
    (k.setJob b t j).gpd = k.gpd := rfl
@[simp] theorem Block.setJob_hlth (k : Block) (b t : Nat) (j : GatherJob) :
    (k.setJob b t j).hlth = k.hlth := rfl
@[simp] theorem Block.setJob_lnk (k : Block) (b t : Nat) (j : GatherJob) :
    (k.setJob b t j).lnk = k.lnk := rfl
@[simp] theorem Block.setJob_rst (k : Block) (b t : Nat) (j : GatherJob) :
    (k.setJob b t j).rst = k.rst := rfl
@[simp] theorem Block.setJob_fresh (k : Block) (b t : Nat) (j : GatherJob) :
    (k.setJob b t j).fresh = k.fresh := rfl
@[simp] theorem Block.setJob_late (k : Block) (b t : Nat) (j : GatherJob) :
    (k.setJob b t j).late = k.late := rfl
@[simp] theorem Block.setJob_out (k : Block) (b t : Nat) (j : GatherJob) :
    (k.setJob b t j).out = k.out := rfl
@[simp] theorem Block.setJob_free (k : Block) (b t : Nat) (j : GatherJob) :
    (k.setJob b t j).free = k.free := rfl
@[simp] theorem Block.setJob_spc_compress (k : Block) (b t : Nat) (j : GatherJob) :
    (k.setJob b t j).spc.compress = k.spc.compress := rfl
@[simp] theorem Block.setJob_spc_gathers (k : Block) (b t : Nat) (j : GatherJob) :
    (k.setJob b t j).spc.gathers = k.spc.gathers := rfl

/-! ### Block.setGpd -/

@[simp] theorem Block.setGpd_regs (k : Block) (b i : Nat) (v : GpdEntry) :
    (k.setGpd b i v).regs = k.regs := rfl
@[simp] theorem Block.setGpd_clk (k : Block) (b i : Nat) (v : GpdEntry) :
    (k.setGpd b i v).clk = k.clk := rfl
@[simp] theorem Block.setGpd_prog (k : Block) (b i : Nat) (v : GpdEntry) :
    (k.setGpd b i v).prog = k.prog := rfl
@[simp] theorem Block.setGpd_img (k : Block) (b i : Nat) (v : GpdEntry) :
    (k.setGpd b i v).img = k.img := rfl
@[simp] theorem Block.setGpd_net (k : Block) (b i : Nat) (v : GpdEntry) :
    (k.setGpd b i v).net = k.net := rfl
@[simp] theorem Block.setGpd_xfr (k : Block) (b i : Nat) (v : GpdEntry) :
    (k.setGpd b i v).xfr = k.xfr := rfl
@[simp] theorem Block.setGpd_rdc (k : Block) (b i : Nat) (v : GpdEntry) :
    (k.setGpd b i v).rdc = k.rdc := rfl
@[simp] theorem Block.setGpd_flt (k : Block) (b i : Nat) (v : GpdEntry) :
    (k.setGpd b i v).flt = k.flt := rfl
@[simp] theorem Block.setGpd_mq (k : Block) (b i : Nat) (v : GpdEntry) :
    (k.setGpd b i v).mq = k.mq := rfl
@[simp] theorem Block.setGpd_spc (k : Block) (b i : Nat) (v : GpdEntry) :
    (k.setGpd b i v).spc = k.spc := rfl
@[simp] theorem Block.setGpd_hlth (k : Block) (b i : Nat) (v : GpdEntry) :
    (k.setGpd b i v).hlth = k.hlth := rfl
@[simp] theorem Block.setGpd_lnk (k : Block) (b i : Nat) (v : GpdEntry) :
    (k.setGpd b i v).lnk = k.lnk := rfl
@[simp] theorem Block.setGpd_rst (k : Block) (b i : Nat) (v : GpdEntry) :
    (k.setGpd b i v).rst = k.rst := rfl
@[simp] theorem Block.setGpd_fresh (k : Block) (b i : Nat) (v : GpdEntry) :
    (k.setGpd b i v).fresh = k.fresh := rfl
@[simp] theorem Block.setGpd_late (k : Block) (b i : Nat) (v : GpdEntry) :
    (k.setGpd b i v).late = k.late := rfl
@[simp] theorem Block.setGpd_out (k : Block) (b i : Nat) (v : GpdEntry) :
    (k.setGpd b i v).out = k.out := rfl
@[simp] theorem Block.setGpd_free (k : Block) (b i : Nat) (v : GpdEntry) :
    (k.setGpd b i v).free = k.free := rfl
@[simp] theorem Block.setGpd_gpd_entryOld (k : Block) (b i : Nat) (v : GpdEntry) :
    (k.setGpd b i v).gpd.entryOld = k.gpd.entryOld := rfl
@[simp] theorem Block.setGpd_gpd_endOld (k : Block) (b i : Nat) (v : GpdEntry) :
    (k.setGpd b i v).gpd.endOld = k.gpd.endOld := rfl
@[simp] theorem Block.setGpd_gpd_frameOld (k : Block) (b i : Nat) (v : GpdEntry) :
    (k.setGpd b i v).gpd.frameOld = k.gpd.frameOld := rfl
@[simp] theorem Block.setGpd_gpd_staged (k : Block) (b i : Nat) (v : GpdEntry) :
    (k.setGpd b i v).gpd.staged = k.gpd.staged := rfl
@[simp] theorem Block.setGpd_gpd_seen (k : Block) (b i : Nat) (v : GpdEntry) :
    (k.setGpd b i v).gpd.seen = k.gpd.seen := rfl
@[simp] theorem Block.setGpd_gpd_refreshed (k : Block) (b i : Nat) (v : GpdEntry) :
    (k.setGpd b i v).gpd.refreshed = k.gpd.refreshed := rfl
@[simp] theorem Block.setGpd_gpd_coord (k : Block) (b i : Nat) (v : GpdEntry) :
    (k.setGpd b i v).gpd.coord = k.gpd.coord := rfl
@[simp] theorem Block.setGpd_gpd_recs (k : Block) (b i : Nat) (v : GpdEntry) :
    (k.setGpd b i v).gpd.recs = k.gpd.recs := rfl
@[simp] theorem Block.setGpd_gpd_steerLast (k : Block) (b i : Nat) (v : GpdEntry) :
    (k.setGpd b i v).gpd.steerLast = k.gpd.steerLast := rfl
@[simp] theorem Block.setGpd_gpd_steered (k : Block) (b i : Nat) (v : GpdEntry) :
    (k.setGpd b i v).gpd.steered = k.gpd.steered := rfl
@[simp] theorem Block.setGpd_gpd_occ (k : Block) (b i : Nat) (v : GpdEntry) :
    (k.setGpd b i v).gpd.occ = k.gpd.occ := rfl
@[simp] theorem Block.setGpd_gpd_active (k : Block) (b i : Nat) (v : GpdEntry) :
    (k.setGpd b i v).gpd.active = k.gpd.active := rfl
@[simp] theorem Block.setGpd_gpd_lastGrant (k : Block) (b i : Nat) (v : GpdEntry) :
    (k.setGpd b i v).gpd.lastGrant = k.gpd.lastGrant := rfl
@[simp] theorem Block.setGpd_gpd_log (k : Block) (b i : Nat) (v : GpdEntry) :
    (k.setGpd b i v).gpd.log = k.gpd.log := rfl
@[simp] theorem Block.setGpd_gpd_asks (k : Block) (b i : Nat) (v : GpdEntry) :
    (k.setGpd b i v).gpd.asks = k.gpd.asks := rfl

/-! ### Block.setRec -/

@[simp] theorem Block.setRec_regs (k : Block) (b r : Nat) (v : MoveRec) :
    (k.setRec b r v).regs = k.regs := rfl
@[simp] theorem Block.setRec_clk (k : Block) (b r : Nat) (v : MoveRec) :
    (k.setRec b r v).clk = k.clk := rfl
@[simp] theorem Block.setRec_prog (k : Block) (b r : Nat) (v : MoveRec) :
    (k.setRec b r v).prog = k.prog := rfl
@[simp] theorem Block.setRec_img (k : Block) (b r : Nat) (v : MoveRec) :
    (k.setRec b r v).img = k.img := rfl
@[simp] theorem Block.setRec_net (k : Block) (b r : Nat) (v : MoveRec) :
    (k.setRec b r v).net = k.net := rfl
@[simp] theorem Block.setRec_xfr (k : Block) (b r : Nat) (v : MoveRec) :
    (k.setRec b r v).xfr = k.xfr := rfl
@[simp] theorem Block.setRec_rdc (k : Block) (b r : Nat) (v : MoveRec) :
    (k.setRec b r v).rdc = k.rdc := rfl
@[simp] theorem Block.setRec_flt (k : Block) (b r : Nat) (v : MoveRec) :
    (k.setRec b r v).flt = k.flt := rfl
@[simp] theorem Block.setRec_mq (k : Block) (b r : Nat) (v : MoveRec) :
    (k.setRec b r v).mq = k.mq := rfl
@[simp] theorem Block.setRec_spc (k : Block) (b r : Nat) (v : MoveRec) :
    (k.setRec b r v).spc = k.spc := rfl
@[simp] theorem Block.setRec_hlth (k : Block) (b r : Nat) (v : MoveRec) :
    (k.setRec b r v).hlth = k.hlth := rfl
@[simp] theorem Block.setRec_lnk (k : Block) (b r : Nat) (v : MoveRec) :
    (k.setRec b r v).lnk = k.lnk := rfl
@[simp] theorem Block.setRec_rst (k : Block) (b r : Nat) (v : MoveRec) :
    (k.setRec b r v).rst = k.rst := rfl
@[simp] theorem Block.setRec_fresh (k : Block) (b r : Nat) (v : MoveRec) :
    (k.setRec b r v).fresh = k.fresh := rfl
@[simp] theorem Block.setRec_late (k : Block) (b r : Nat) (v : MoveRec) :
    (k.setRec b r v).late = k.late := rfl
@[simp] theorem Block.setRec_out (k : Block) (b r : Nat) (v : MoveRec) :
    (k.setRec b r v).out = k.out := rfl
@[simp] theorem Block.setRec_free (k : Block) (b r : Nat) (v : MoveRec) :
    (k.setRec b r v).free = k.free := rfl
@[simp] theorem Block.setRec_gpd_entry (k : Block) (b r : Nat) (v : MoveRec) :
    (k.setRec b r v).gpd.entry = k.gpd.entry := rfl
@[simp] theorem Block.setRec_gpd_entryOld (k : Block) (b r : Nat) (v : MoveRec) :
    (k.setRec b r v).gpd.entryOld = k.gpd.entryOld := rfl
@[simp] theorem Block.setRec_gpd_endOld (k : Block) (b r : Nat) (v : MoveRec) :
    (k.setRec b r v).gpd.endOld = k.gpd.endOld := rfl
@[simp] theorem Block.setRec_gpd_frameOld (k : Block) (b r : Nat) (v : MoveRec) :
    (k.setRec b r v).gpd.frameOld = k.gpd.frameOld := rfl
@[simp] theorem Block.setRec_gpd_staged (k : Block) (b r : Nat) (v : MoveRec) :
    (k.setRec b r v).gpd.staged = k.gpd.staged := rfl
@[simp] theorem Block.setRec_gpd_seen (k : Block) (b r : Nat) (v : MoveRec) :
    (k.setRec b r v).gpd.seen = k.gpd.seen := rfl
@[simp] theorem Block.setRec_gpd_refreshed (k : Block) (b r : Nat) (v : MoveRec) :
    (k.setRec b r v).gpd.refreshed = k.gpd.refreshed := rfl
@[simp] theorem Block.setRec_gpd_coord (k : Block) (b r : Nat) (v : MoveRec) :
    (k.setRec b r v).gpd.coord = k.gpd.coord := rfl
@[simp] theorem Block.setRec_gpd_steerLast (k : Block) (b r : Nat) (v : MoveRec) :
    (k.setRec b r v).gpd.steerLast = k.gpd.steerLast := rfl
@[simp] theorem Block.setRec_gpd_steered (k : Block) (b r : Nat) (v : MoveRec) :
    (k.setRec b r v).gpd.steered = k.gpd.steered := rfl
@[simp] theorem Block.setRec_gpd_occ (k : Block) (b r : Nat) (v : MoveRec) :
    (k.setRec b r v).gpd.occ = k.gpd.occ := rfl
@[simp] theorem Block.setRec_gpd_active (k : Block) (b r : Nat) (v : MoveRec) :
    (k.setRec b r v).gpd.active = k.gpd.active := rfl
@[simp] theorem Block.setRec_gpd_lastGrant (k : Block) (b r : Nat) (v : MoveRec) :
    (k.setRec b r v).gpd.lastGrant = k.gpd.lastGrant := rfl
@[simp] theorem Block.setRec_gpd_log (k : Block) (b r : Nat) (v : MoveRec) :
    (k.setRec b r v).gpd.log = k.gpd.log := rfl
@[simp] theorem Block.setRec_gpd_asks (k : Block) (b r : Nat) (v : MoveRec) :
    (k.setRec b r v).gpd.asks = k.gpd.asks := rfl

/-! ### Block.setPort -/

@[simp] theorem Block.setPort_regs (k : Block) (bridge : Bool) (n : Nat) (v : LinkLayer) :
    (k.setPort bridge n v).regs = k.regs := rfl
@[simp] theorem Block.setPort_clk (k : Block) (bridge : Bool) (n : Nat) (v : LinkLayer) :
    (k.setPort bridge n v).clk = k.clk := rfl
@[simp] theorem Block.setPort_prog (k : Block) (bridge : Bool) (n : Nat) (v : LinkLayer) :
    (k.setPort bridge n v).prog = k.prog := rfl
@[simp] theorem Block.setPort_img (k : Block) (bridge : Bool) (n : Nat) (v : LinkLayer) :
    (k.setPort bridge n v).img = k.img := rfl
@[simp] theorem Block.setPort_net (k : Block) (bridge : Bool) (n : Nat) (v : LinkLayer) :
    (k.setPort bridge n v).net = k.net := rfl
@[simp] theorem Block.setPort_xfr (k : Block) (bridge : Bool) (n : Nat) (v : LinkLayer) :
    (k.setPort bridge n v).xfr = k.xfr := rfl
@[simp] theorem Block.setPort_rdc (k : Block) (bridge : Bool) (n : Nat) (v : LinkLayer) :
    (k.setPort bridge n v).rdc = k.rdc := rfl
@[simp] theorem Block.setPort_flt (k : Block) (bridge : Bool) (n : Nat) (v : LinkLayer) :
    (k.setPort bridge n v).flt = k.flt := rfl
@[simp] theorem Block.setPort_mq (k : Block) (bridge : Bool) (n : Nat) (v : LinkLayer) :
    (k.setPort bridge n v).mq = k.mq := rfl
@[simp] theorem Block.setPort_spc (k : Block) (bridge : Bool) (n : Nat) (v : LinkLayer) :
    (k.setPort bridge n v).spc = k.spc := rfl
@[simp] theorem Block.setPort_gpd (k : Block) (bridge : Bool) (n : Nat) (v : LinkLayer) :
    (k.setPort bridge n v).gpd = k.gpd := rfl
@[simp] theorem Block.setPort_hlth (k : Block) (bridge : Bool) (n : Nat) (v : LinkLayer) :
    (k.setPort bridge n v).hlth = k.hlth := rfl
@[simp] theorem Block.setPort_rst (k : Block) (bridge : Bool) (n : Nat) (v : LinkLayer) :
    (k.setPort bridge n v).rst = k.rst := rfl
@[simp] theorem Block.setPort_fresh (k : Block) (bridge : Bool) (n : Nat) (v : LinkLayer) :
    (k.setPort bridge n v).fresh = k.fresh := rfl
@[simp] theorem Block.setPort_late (k : Block) (bridge : Bool) (n : Nat) (v : LinkLayer) :
    (k.setPort bridge n v).late = k.late := rfl
@[simp] theorem Block.setPort_out (k : Block) (bridge : Bool) (n : Nat) (v : LinkLayer) :
    (k.setPort bridge n v).out = k.out := rfl
@[simp] theorem Block.setPort_free (k : Block) (bridge : Bool) (n : Nat) (v : LinkLayer) :
    (k.setPort bridge n v).free = k.free := rfl
@[simp] theorem Block.setPort_lnk_rxBuf (k : Block) (bridge : Bool) (n : Nat) (v : LinkLayer) :
    (k.setPort bridge n v).lnk.rxBuf = k.lnk.rxBuf := rfl
@[simp] theorem Block.setPort_lnk_lane (k : Block) (bridge : Bool) (n : Nat) (v : LinkLayer) :
    (k.setPort bridge n v).lnk.lane = k.lnk.lane := rfl
@[simp] theorem Block.setPort_lnk_eq (k : Block) (bridge : Bool) (n : Nat) (v : LinkLayer) :
    (k.setPort bridge n v).lnk.eq = k.lnk.eq := rfl

/-! ### Block.mapPort -/

@[simp] theorem Block.mapPort_regs (k : Block) (bridge : Bool) (n : Nat) (f : LinkLayer → LinkLayer) :
    (k.mapPort bridge n f).regs = k.regs := rfl
@[simp] theorem Block.mapPort_clk (k : Block) (bridge : Bool) (n : Nat) (f : LinkLayer → LinkLayer) :
    (k.mapPort bridge n f).clk = k.clk := rfl
@[simp] theorem Block.mapPort_prog (k : Block) (bridge : Bool) (n : Nat) (f : LinkLayer → LinkLayer) :
    (k.mapPort bridge n f).prog = k.prog := rfl
@[simp] theorem Block.mapPort_img (k : Block) (bridge : Bool) (n : Nat) (f : LinkLayer → LinkLayer) :
    (k.mapPort bridge n f).img = k.img := rfl
@[simp] theorem Block.mapPort_net (k : Block) (bridge : Bool) (n : Nat) (f : LinkLayer → LinkLayer) :
    (k.mapPort bridge n f).net = k.net := rfl
@[simp] theorem Block.mapPort_xfr (k : Block) (bridge : Bool) (n : Nat) (f : LinkLayer → LinkLayer) :
    (k.mapPort bridge n f).xfr = k.xfr := rfl
@[simp] theorem Block.mapPort_rdc (k : Block) (bridge : Bool) (n : Nat) (f : LinkLayer → LinkLayer) :
    (k.mapPort bridge n f).rdc = k.rdc := rfl
@[simp] theorem Block.mapPort_flt (k : Block) (bridge : Bool) (n : Nat) (f : LinkLayer → LinkLayer) :
    (k.mapPort bridge n f).flt = k.flt := rfl
@[simp] theorem Block.mapPort_mq (k : Block) (bridge : Bool) (n : Nat) (f : LinkLayer → LinkLayer) :
    (k.mapPort bridge n f).mq = k.mq := rfl
@[simp] theorem Block.mapPort_spc (k : Block) (bridge : Bool) (n : Nat) (f : LinkLayer → LinkLayer) :
    (k.mapPort bridge n f).spc = k.spc := rfl
@[simp] theorem Block.mapPort_gpd (k : Block) (bridge : Bool) (n : Nat) (f : LinkLayer → LinkLayer) :
    (k.mapPort bridge n f).gpd = k.gpd := rfl
@[simp] theorem Block.mapPort_hlth (k : Block) (bridge : Bool) (n : Nat) (f : LinkLayer → LinkLayer) :
    (k.mapPort bridge n f).hlth = k.hlth := rfl
@[simp] theorem Block.mapPort_rst (k : Block) (bridge : Bool) (n : Nat) (f : LinkLayer → LinkLayer) :
    (k.mapPort bridge n f).rst = k.rst := rfl
@[simp] theorem Block.mapPort_fresh (k : Block) (bridge : Bool) (n : Nat) (f : LinkLayer → LinkLayer) :
    (k.mapPort bridge n f).fresh = k.fresh := rfl
@[simp] theorem Block.mapPort_late (k : Block) (bridge : Bool) (n : Nat) (f : LinkLayer → LinkLayer) :
    (k.mapPort bridge n f).late = k.late := rfl
@[simp] theorem Block.mapPort_out (k : Block) (bridge : Bool) (n : Nat) (f : LinkLayer → LinkLayer) :
    (k.mapPort bridge n f).out = k.out := rfl
@[simp] theorem Block.mapPort_free (k : Block) (bridge : Bool) (n : Nat) (f : LinkLayer → LinkLayer) :
    (k.mapPort bridge n f).free = k.free := rfl
@[simp] theorem Block.mapPort_lnk_rxBuf (k : Block) (bridge : Bool) (n : Nat) (f : LinkLayer → LinkLayer) :
    (k.mapPort bridge n f).lnk.rxBuf = k.lnk.rxBuf := rfl
@[simp] theorem Block.mapPort_lnk_lane (k : Block) (bridge : Bool) (n : Nat) (f : LinkLayer → LinkLayer) :
    (k.mapPort bridge n f).lnk.lane = k.lnk.lane := rfl
@[simp] theorem Block.mapPort_lnk_eq (k : Block) (bridge : Bool) (n : Nat) (f : LinkLayer → LinkLayer) :
    (k.mapPort bridge n f).lnk.eq = k.lnk.eq := rfl

/-! ### Block.setRxBuffer -/

@[simp] theorem Block.setRxBuffer_regs (k : Block) (bridge : Bool) (n : Nat) (l : List Packet) :
    (k.setRxBuffer bridge n l).regs = k.regs := rfl
@[simp] theorem Block.setRxBuffer_clk (k : Block) (bridge : Bool) (n : Nat) (l : List Packet) :
    (k.setRxBuffer bridge n l).clk = k.clk := rfl
@[simp] theorem Block.setRxBuffer_prog (k : Block) (bridge : Bool) (n : Nat) (l : List Packet) :
    (k.setRxBuffer bridge n l).prog = k.prog := rfl
@[simp] theorem Block.setRxBuffer_img (k : Block) (bridge : Bool) (n : Nat) (l : List Packet) :
    (k.setRxBuffer bridge n l).img = k.img := rfl
@[simp] theorem Block.setRxBuffer_net (k : Block) (bridge : Bool) (n : Nat) (l : List Packet) :
    (k.setRxBuffer bridge n l).net = k.net := rfl
@[simp] theorem Block.setRxBuffer_xfr (k : Block) (bridge : Bool) (n : Nat) (l : List Packet) :
    (k.setRxBuffer bridge n l).xfr = k.xfr := rfl
@[simp] theorem Block.setRxBuffer_rdc (k : Block) (bridge : Bool) (n : Nat) (l : List Packet) :
    (k.setRxBuffer bridge n l).rdc = k.rdc := rfl
@[simp] theorem Block.setRxBuffer_flt (k : Block) (bridge : Bool) (n : Nat) (l : List Packet) :
    (k.setRxBuffer bridge n l).flt = k.flt := rfl
@[simp] theorem Block.setRxBuffer_mq (k : Block) (bridge : Bool) (n : Nat) (l : List Packet) :
    (k.setRxBuffer bridge n l).mq = k.mq := rfl
@[simp] theorem Block.setRxBuffer_spc (k : Block) (bridge : Bool) (n : Nat) (l : List Packet) :
    (k.setRxBuffer bridge n l).spc = k.spc := rfl
@[simp] theorem Block.setRxBuffer_gpd (k : Block) (bridge : Bool) (n : Nat) (l : List Packet) :
    (k.setRxBuffer bridge n l).gpd = k.gpd := rfl
@[simp] theorem Block.setRxBuffer_hlth (k : Block) (bridge : Bool) (n : Nat) (l : List Packet) :
    (k.setRxBuffer bridge n l).hlth = k.hlth := rfl
@[simp] theorem Block.setRxBuffer_rst (k : Block) (bridge : Bool) (n : Nat) (l : List Packet) :
    (k.setRxBuffer bridge n l).rst = k.rst := rfl
@[simp] theorem Block.setRxBuffer_fresh (k : Block) (bridge : Bool) (n : Nat) (l : List Packet) :
    (k.setRxBuffer bridge n l).fresh = k.fresh := rfl
@[simp] theorem Block.setRxBuffer_late (k : Block) (bridge : Bool) (n : Nat) (l : List Packet) :
    (k.setRxBuffer bridge n l).late = k.late := rfl
@[simp] theorem Block.setRxBuffer_out (k : Block) (bridge : Bool) (n : Nat) (l : List Packet) :
    (k.setRxBuffer bridge n l).out = k.out := rfl
@[simp] theorem Block.setRxBuffer_free (k : Block) (bridge : Bool) (n : Nat) (l : List Packet) :
    (k.setRxBuffer bridge n l).free = k.free := rfl
@[simp] theorem Block.setRxBuffer_lnk_port (k : Block) (bridge : Bool) (n : Nat) (l : List Packet) :
    (k.setRxBuffer bridge n l).lnk.port = k.lnk.port := rfl
@[simp] theorem Block.setRxBuffer_lnk_lane (k : Block) (bridge : Bool) (n : Nat) (l : List Packet) :
    (k.setRxBuffer bridge n l).lnk.lane = k.lnk.lane := rfl
@[simp] theorem Block.setRxBuffer_lnk_eq (k : Block) (bridge : Bool) (n : Nat) (l : List Packet) :
    (k.setRxBuffer bridge n l).lnk.eq = k.lnk.eq := rfl

/-! ### Block.setLaneRx -/

@[simp] theorem Block.setLaneRx_regs (k : Block) (p l : Nat) (v : LaneRx) :
    (k.setLaneRx p l v).regs = k.regs := rfl
@[simp] theorem Block.setLaneRx_clk (k : Block) (p l : Nat) (v : LaneRx) :
    (k.setLaneRx p l v).clk = k.clk := rfl
@[simp] theorem Block.setLaneRx_prog (k : Block) (p l : Nat) (v : LaneRx) :
    (k.setLaneRx p l v).prog = k.prog := rfl
@[simp] theorem Block.setLaneRx_img (k : Block) (p l : Nat) (v : LaneRx) :
    (k.setLaneRx p l v).img = k.img := rfl
@[simp] theorem Block.setLaneRx_net (k : Block) (p l : Nat) (v : LaneRx) :
    (k.setLaneRx p l v).net = k.net := rfl
@[simp] theorem Block.setLaneRx_xfr (k : Block) (p l : Nat) (v : LaneRx) :
    (k.setLaneRx p l v).xfr = k.xfr := rfl
@[simp] theorem Block.setLaneRx_rdc (k : Block) (p l : Nat) (v : LaneRx) :
    (k.setLaneRx p l v).rdc = k.rdc := rfl
@[simp] theorem Block.setLaneRx_flt (k : Block) (p l : Nat) (v : LaneRx) :
    (k.setLaneRx p l v).flt = k.flt := rfl
@[simp] theorem Block.setLaneRx_mq (k : Block) (p l : Nat) (v : LaneRx) :
    (k.setLaneRx p l v).mq = k.mq := rfl
@[simp] theorem Block.setLaneRx_spc (k : Block) (p l : Nat) (v : LaneRx) :
    (k.setLaneRx p l v).spc = k.spc := rfl
@[simp] theorem Block.setLaneRx_gpd (k : Block) (p l : Nat) (v : LaneRx) :
    (k.setLaneRx p l v).gpd = k.gpd := rfl
@[simp] theorem Block.setLaneRx_hlth (k : Block) (p l : Nat) (v : LaneRx) :
    (k.setLaneRx p l v).hlth = k.hlth := rfl
@[simp] theorem Block.setLaneRx_rst (k : Block) (p l : Nat) (v : LaneRx) :
    (k.setLaneRx p l v).rst = k.rst := rfl
@[simp] theorem Block.setLaneRx_fresh (k : Block) (p l : Nat) (v : LaneRx) :
    (k.setLaneRx p l v).fresh = k.fresh := rfl
@[simp] theorem Block.setLaneRx_late (k : Block) (p l : Nat) (v : LaneRx) :
    (k.setLaneRx p l v).late = k.late := rfl
@[simp] theorem Block.setLaneRx_out (k : Block) (p l : Nat) (v : LaneRx) :
    (k.setLaneRx p l v).out = k.out := rfl
@[simp] theorem Block.setLaneRx_free (k : Block) (p l : Nat) (v : LaneRx) :
    (k.setLaneRx p l v).free = k.free := rfl
@[simp] theorem Block.setLaneRx_lnk_port (k : Block) (p l : Nat) (v : LaneRx) :
    (k.setLaneRx p l v).lnk.port = k.lnk.port := rfl
@[simp] theorem Block.setLaneRx_lnk_rxBuf (k : Block) (p l : Nat) (v : LaneRx) :
    (k.setLaneRx p l v).lnk.rxBuf = k.lnk.rxBuf := rfl
@[simp] theorem Block.setLaneRx_lnk_eq (k : Block) (p l : Nat) (v : LaneRx) :
    (k.setLaneRx p l v).lnk.eq = k.lnk.eq := rfl

end Sys2Proof.Machine
end

