-- ==== Sys2Proof/Laws/Ops.lean ====
section
/-!
SUPPORT. For each shared operation, what it does: how a command answers, reads after writes, registers, counters,
streams, trackers, events, the fault log, and the packet at the head of a receive FIFO.
-/

namespace Sys2Proof.Machine

/-! ### How a command answers -/

theorem State.run_next (s : State) (f : Block → Block) (h : s.blk.held = false) :
    s.run true f = .next { s with blk := f s.blk } := by simp [State.run, h]

theorem State.run_held (s : State) (f : Block → Block) (h : s.blk.held = true) :
    s.run true f = .next s := by simp [State.run, h]

/-- Everything `State.run` can do. -/
theorem State.run_cases (s : State) (ok : Bool) (f : Block → Block) :
    (ok = true ∧ s.blk.held = false ∧ s.run ok f = .next { s with blk := f s.blk }) ∨
    ((ok = false ∨ s.blk.held = true) ∧ s.run ok f = .next s) := by
  cases ok <;> cases h : s.blk.held <;> simp [State.run, h]

theorem State.run_env {s t : State} {ok : Bool} {f : Block → Block} (h : s.run ok f = .next t) : t.env = s.env := by
  cases h; rfl

theorem State.run_pending {s t : State} {ok : Bool} {f : Block → Block} (h : s.run ok f = .next t) :
    t.pending = s.pending := by
  cases h; rfl

theorem State.runAlways_env {s t : State} {f : Block → Block} (h : s.runAlways f = .next t) : t.env = s.env := by
  cases h; rfl

theorem State.runMem_build {s t : State} {ok : Bool} {f : List Host.Cell × Block → List Host.Cell × Block}
    (h : s.runMem ok f = .next t) : t.env.build = s.env.build := by
  cases h; rfl

/-- Everything `State.access` can do: the access applies, or is answered as one that names no register. -/
theorem State.access_cases (s : State) (ok : Bool) (b : Nat) (via : Via) (f : Block → Block) :
    (s.blk.held = true ∧ s.access ok b via f = .next s) ∨
    (s.blk.held = false ∧ s.blk.mpShut via = true ∧ s.access ok b via f = .next s) ∨
    (s.blk.held = false ∧ s.blk.mpShut via = false ∧ ok = true ∧ s.access ok b via f = .next { s with blk := f s.blk }) ∨
    (s.blk.held = false ∧ s.blk.mpShut via = false ∧ ok = false ∧
      s.access ok b via f = .next { s with blk := s.blk.answerNone s.env.build b via }) := by
  cases ok <;> cases h : s.blk.held <;> cases hm : s.blk.mpShut via <;> simp [State.access, State.run, h, hm]

/-- An access to a register that is there is a command on elements that are there. -/
theorem State.access_run (s : State) (b : Nat) (via : Via) (f : Block → Block) (hm : s.blk.mpShut via = false) :
    s.access true b via f = s.run true f := by
  cases h : s.blk.held <;> simp [State.access, State.run, h, hm]

/-- A response leaves at once where its requester identifier is owed none. -/
theorem Block.respond_free {k : Block} {b rid : Nat} (tag status : Nat) (data : List Byte)
    (h : look [] k.xfr.lpDue (b * 64 + rid % 64) = []) :
    k.respond b rid tag status data = { k with out := k.out ++ [.lp b rid tag status data] } := by
  simp [Block.respond, h]

/-- Behind a response still owed nothing leaves (R551). -/
theorem Block.respond_behind {k : Block} {b rid : Nat} (tag status : Nat) (data : List Byte)
    (h : look [] k.xfr.lpDue (b * 64 + rid % 64) ≠ []) : (k.respond b rid tag status data).out = k.out := by
  unfold Block.respond
  cases e : look [] k.xfr.lpDue (b * 64 + rid % 64) with
  | nil => exact absurd e h
  | cons x l => simp [e]

/-- A response that waits at the front leaves nothing. -/
theorem releaseDue_waits (b rid tag : Nat) (w : LpWait) (l : List LpDue) :
    releaseDue b rid (.waits tag w :: l) = ([], .waits tag w :: l) := rfl

/-! ### Reads after writes -/

@[simp] theorem Block.counter_putCounter (k : Block) (b c v : Nat) (x : CountTick) :
    (k.putCounter b c v x).counter b c = v % 2 ^ 32 := by
  simp [Block.counter, Block.putCounter]

theorem Block.counter_putCounter_other (k : Block) {b c b' c' : Nat} (v : Nat) (x : CountTick)
    (h : b' * 256 + c' ≠ b * 256 + c) : (k.putCounter b c v x).counter b' c' = k.counter b' c' := by
  simp [Block.counter, Block.putCounter, look_put_other _ _ _ _ h]

/-- A set that no earlier set of its FCLK goes before: the adds of that FCLK apply to it (R39). -/
theorem Block.counter_counterSet (k : Block) (b c rank v : Nat) (h : (k.countTick b c).rank ≤ rank) :
    (k.counterSet b c rank v).counter b c = (v + (k.countTick b c).adds) % 2 ^ 32 := by
  simp [Block.counterSet, Nat.not_lt.2 h]

/-- A set has no effect on another counter. -/
theorem Block.counter_counterSet_other (k : Block) {b c b' c' : Nat} (rank v : Nat)
    (h : b' * 256 + c' ≠ b * 256 + c) : (k.counterSet b c rank v).counter b' c' = k.counter b' c' := by
  unfold Block.counterSet
  dsimp only
  split
  · rfl
  · exact k.counter_putCounter_other _ _ h

@[simp] theorem Block.stream_setStream (k : Block) (b u : Nat) (v : Stream) : (k.setStream b u v).stream b u = v := by
  simp [Block.stream, Block.setStream]

@[simp] theorem Block.stream_mapStream (k : Block) (b u : Nat) (f : Stream → Stream) :
    (k.mapStream b u f).stream b u = f (k.stream b u) := by simp [Block.mapStream]

@[simp] theorem Block.tracker_setTracker (k : Block) (b t : Nat) (v : Tracker) : (k.setTracker b t v).tracker b t = v := by
  simp [Block.tracker, Block.setTracker]

@[simp] theorem Block.ringOf_setRing (k : Block) (b r : Nat) (v : Ring) : (k.setRing b r v).ringOf b r = v := by
  simp [Block.ringOf, Block.setRing]

@[simp] theorem Block.slot_setSlot (k : Block) (b s : Nat) (v : Slot) : (k.setSlot b s v).slot b s = v := by
  simp [Block.slot, Block.setSlot]

@[simp] theorem Block.port_setPort (k : Block) (bridge : Bool) (n : Nat) (v : LinkLayer) :
    (k.setPort bridge n v).port bridge n = v := by simp [Block.port, Block.setPort]

@[simp] theorem Block.rxQueue_setRx (k : Block) (b c : Nat) (q : List Packet) : (k.setRx b c q).rxQueue b c = q := by
  simp [Block.rxQueue, Block.setRx]

@[simp] theorem Block.chan_setChan (k : Block) (b c : Nat) (v : Channel) : (k.setChan b c v).chan b c = v := by
  simp [Block.chan, Block.setChan]

/-- With no record waiting, a ring places none. -/
theorem Block.placeRecords_none (k : Block) (b r n : Nat) (h : (k.ringOf b r).waiting = []) :
    k.placeRecords b r n = k := by
  cases n with
  | zero => rfl
  | succ n => simp [Block.placeRecords, h]

/-! ### Events and the fault log -/

theorem insertEvent_length (q : List Event) (v : Event) : (insertEvent q v).length = q.length + 1 := by
  have h : (q.reverse.takeWhile (comesAfter v)).length ≤ q.length := by
    simpa using (List.takeWhile_sublist (comesAfter v) (l := q.reverse)).length_le
  simp [insertEvent, List.length_take]
  omega

/-- The event FIFO never grows past 512 entries (R373). -/
theorem storeEvent_length (q : List Event) (v : Event) (h : q.length ≤ eventDepth) :
    (storeEvent q v).1.length ≤ eventDepth := by
  unfold storeEvent
  split
  · simp only [insertEvent_length]; omega
  · split
    · rename_i g hg
      have hq : q ≠ [] := by rintro rfl; simp at hg
      have := List.length_pos_iff.2 hq
      split
      · dsimp only
        split
        · split
          · rename_i x hx
            have hd : q.dropLast ≠ [] := by intro e; simp [e] at hx
            have := List.length_pos_iff.2 hd
            split <;> simp [insertEvent_length] at * <;> omega
          · simp; omega
        · simp; omega
      · split
        · split <;> simp [insertEvent_length] <;> omega
        · exact h
    · rename_i h2
      simp [List.getLast?_eq_none_iff] at h2
      subst h2
      simp [eventDepth] at *

/-! ### The packet at the head of a receive FIFO (R78, R84) -/

/-- A good packet leaves the FIFO and reaches the rule of its endpoint. -/
theorem Block.consume_good {k : Block} {d : Build} {b ep : Nat} {p : Packet} {nack : Bool} {f : Block → Block}
    (hc : headerCheck p = .good) (hd : deliveredRight b ep true p = true) (hs : k.strayEnd b ep p = false)
    (hp : payloadOk p = true) : k.consume d b ep p true nack f = f k := by
  simp [Block.consume, hc, hd, hs, hp]

@[simp] theorem Block.strayEnd_setRx (k : Block) (b c b' ep : Nat) (q : List Packet) (p : Packet) :
    (k.setRx b c q).strayEnd b' ep p = k.strayEnd b' ep p := rfl

/-- The good packet at the head of a receive FIFO, with the rest of the FIFO behind it, reaches the rule of its endpoint. -/
theorem Block.consume_head {k : Block} {d : Build} {b c ep : Nat} {p : Packet} {r : List Packet} {nack : Bool}
    {f : Block → Block} (h : k.headGood b c ep p r) :
    (k.setRx b c r).consume d b ep p true nack f = f (k.setRx b c r) :=
  Block.consume_good h.2.1 h.2.2.1 h.2.2.2.1 h.2.2.2.2

theorem Block.rxTake_head {k : Block} {b c : Nat} {p : Packet} {r : List Packet} {ops : List Nat}
    (h : k.rxQueue b c = p :: r) (ho : ops.contains p.op = true) : k.rxTake b c ops = some (p, k.setRx b c r) := by
  unfold Block.rxTake
  rw [h]
  simp_all

/-! ### What a packet that leaves a receive FIFO keeps -/

@[simp] theorem Block.reg_setRx (k : Block) (b c : Nat) (q : List Packet) (r : RegName) (pg : Nat) (ix : List Nat) :
    (k.setRx b c q).reg r pg ix = k.reg r pg ix := rfl

@[simp] theorem Block.rf_setRx (k : Block) (b c : Nat) (q : List Packet) (r : RegName) (hi lo pg : Nat) (ix : List Nat) :
    (k.setRx b c q).rf r hi lo pg ix = k.rf r hi lo pg ix := rfl

@[simp] theorem Block.tracker_setRx (k : Block) (b c : Nat) (q : List Packet) (b' t : Nat) :
    (k.setRx b c q).tracker b' t = k.tracker b' t := rfl

@[simp] theorem Block.stream_setRx (k : Block) (b c : Nat) (q : List Packet) (b' u : Nat) :
    (k.setRx b c q).stream b' u = k.stream b' u := rfl

@[simp] theorem Block.slot_setRx (k : Block) (b c : Nat) (q : List Packet) (b' s : Nat) :
    (k.setRx b c q).slot b' s = k.slot b' s := rfl

@[simp] theorem Block.slotWord_setRx (k : Block) (b c : Nat) (q : List Packet) (b' s : Nat) :
    (k.setRx b c q).slotWord b' s = k.slotWord b' s := rfl

@[simp] theorem Block.queue_setRx (k : Block) (b c : Nat) (q : List Packet) (b' i : Nat) :
    (k.setRx b c q).queue b' i = k.queue b' i := rfl

@[simp] theorem Block.chan_setRx (k : Block) (b c : Nat) (q : List Packet) (b' i : Nat) :
    (k.setRx b c q).chan b' i = k.chan b' i := rfl

@[simp] theorem Block.chanSteer_setRx (k : Block) (b c : Nat) (q : List Packet) (b' i : Nat) :
    (k.setRx b c q).chanSteer b' i = k.chanSteer b' i := rfl

@[simp] theorem Block.ringOf_setRx (k : Block) (b c : Nat) (q : List Packet) (b' i : Nat) :
    (k.setRx b c q).ringOf b' i = k.ringOf b' i := rfl

@[simp] theorem Block.counter_setRx (k : Block) (b c : Nat) (q : List Packet) (b' i : Nat) :
    (k.setRx b c q).counter b' i = k.counter b' i := rfl

@[simp] theorem Block.gpdEntry_setRx (k : Block) (b c : Nat) (q : List Packet) (b' i : Nat) :
    (k.setRx b c q).gpdEntry b' i = k.gpdEntry b' i := rfl

@[simp] theorem Block.findEntry_setRx (k : Block) (b c : Nat) (q : List Packet) (b' i : Nat) :
    (k.setRx b c q).findEntry b' i = k.findEntry b' i := rfl

@[simp] theorem Block.seenEntry_setRx (k : Block) (b c : Nat) (q : List Packet) (b' i : Nat) :
    (k.setRx b c q).seenEntry b' i = k.seenEntry b' i := rfl

@[simp] theorem Block.lookupEntry_setRx (k : Block) (b c : Nat) (q : List Packet) (b' i : Nat) :
    (k.setRx b c q).lookupEntry b' i = k.lookupEntry b' i := rfl

@[simp] theorem Block.pooledFrame_setRx (k : Block) (b c : Nat) (q : List Packet) (i : Nat) :
    (k.setRx b c q).pooledFrame i = k.pooledFrame i := rfl

@[simp] theorem Block.pageEntry_setRx (k : Block) (b c : Nat) (q : List Packet) (b' i : Nat) :
    (k.setRx b c q).pageEntry b' i = k.pageEntry b' i := rfl

@[simp] theorem Block.moveRec_setRx (k : Block) (b c : Nat) (q : List Packet) (b' i : Nat) :
    (k.setRx b c q).moveRec b' i = k.moveRec b' i := rfl

@[simp] theorem Block.history_setRx (k : Block) (b c : Nat) (q : List Packet) (b' : Nat) :
    (k.setRx b c q).history b' = k.history b' := rfl

@[simp] theorem Block.waits_setRx (k : Block) (b c : Nat) (q : List Packet) (b' : Nat) :
    (k.setRx b c q).waits b' = k.waits b' := rfl

@[simp] theorem Block.job_setRx (k : Block) (b c : Nat) (q : List Packet) (b' t : Nat) :
    (k.setRx b c q).job b' t = k.job b' t := rfl

@[simp] theorem Block.answering_setRx (k : Block) (b c : Nat) (q : List Packet) (d : Build) (b' ep op : Nat) :
    (k.setRx b c q).answering d b' ep op = k.answering d b' ep op := rfl

@[simp] theorem Block.ownAnswer_setRx (k : Block) (b c : Nat) (q : List Packet) (v : Tracker) (p : Packet) :
    (k.setRx b c q).ownAnswer v p = k.ownAnswer v p := rfl

@[simp] theorem Block.answerUnit_setRx (k : Block) (b c : Nat) (q : List Packet) (v : Tracker) (p : Packet) :
    (k.setRx b c q).answerUnit v p = k.answerUnit v p := rfl

@[simp] theorem Block.groupStill_setRx (k : Block) (b c : Nat) (q : List Packet) (g : Nat) :
    (k.setRx b c q).groupStill g = k.groupStill g := rfl

@[simp] theorem Block.descValid_setRx (k : Block) (b c : Nat) (q : List Packet) (g : Nat) :
    (k.setRx b c q).descValid g = k.descValid g := rfl

@[simp] theorem Block.descWord_setRx (k : Block) (b c : Nat) (q : List Packet) (g i : Nat) :
    (k.setRx b c q).descWord g i = k.descWord g i := rfl

@[simp] theorem Block.gtime_setRx (k : Block) (b c : Nat) (q : List Packet) :
    (k.setRx b c q).gtime = k.gtime := rfl

/-- A new DIRREQ is served once: its result goes into the answer, which is remembered and sent (R396). -/
theorem Block.serveDir_new {k : Block} {d : Build} {b c op : Nat} {p : Packet} {r : List Packet}
    (h : k.dirNew d b c op p r) (hs : (dirServed c).contains op = true)
    (f : Block → Packet → Nat × List Byte × Block) :
    k.serveDir d b c op f =
      (f (k.setRx b c r) p).2.2.dirReply d b c (look [] k.gpd.seen (b * 8 + c)) p (f (k.setRx b c r) p).1
        (f (k.setRx b c r) p).2.1 := by
  obtain ⟨hg, ho, hp, hf, hl, ha⟩ := h
  unfold Block.serveDir
  rw [hg.1]
  have hs' : op ∈ dirServed c := by simpa using hs
  have hc : ¬ dirDepth ≤ (k.setRx b c r).answering d b c opDirResp := by
    show ¬ dirDepth ≤ k.answering d b c opDirResp
    omega
  have hl' : ¬ 64 ≤ (look [] (k.setRx b c r).gpd.seen (b * 8 + c)).length := by
    show ¬ 64 ≤ (look [] k.gpd.seen (b * 8 + c)).length
    omega
  have hf' : (look [] (k.setRx b c r).gpd.seen (b * 8 + c)).find? (fun x => x.src == p.src && x.trk == p.tracker) = none := hf
  simp only [ho, hp, hs, ne_eq, not_true_eq_false, false_and, and_false, or_self, if_false, beq_self_eq_true, Bool.and_self,
    Bool.true_or]
  rw [Block.consume_head hg]
  simp only [if_neg hc, hf', if_neg hl', Block.dirReply]
  rfl

/-! ### Boundaries and memory requests -/

/-- A handshake underway lets nothing cross its boundary (R497). -/
@[simp] theorem Block.crosses_handshake (k : Block) (x : Boundary) : (k.handshake x).crosses x = false := by
  simp [Block.crosses, Block.handshake]

/-- A handshake at one boundary leaves the others as they are. -/
theorem Block.crosses_handshake_other (k : Block) {x y : Boundary} (h : y ≠ x) :
    (k.handshake x).crosses y = k.crosses y := by
  simp [Block.crosses, Block.handshake, h]

@[simp] theorem Block.reg_handshake (k : Block) (x : Boundary) (r : RegName) (pg : Nat) (ix : List Nat) :
    (k.handshake x).reg r pg ix = k.reg r pg ix := rfl

/-- An access by a Local Port does not depend on the Management Port. -/
@[simp] theorem Block.mpShut_lp (k : Block) (rid tag : Nat) : k.mpShut (.lp rid tag) = false := rfl

@[simp] theorem Block.mpShut_mp (k : Block) : k.mpShut .mp = !k.crosses .managementPort := rfl

/-- Everything a memory-master request can do: it takes a free tag, or waits behind the others (R553). -/
theorem Block.memRequest_cases (k : Block) (b : Nat) (q : MemReq) :
    (∃ t, k.freeTag b = some t ∧
      k.memRequest b q = { k with xfr.lpm := put none k.xfr.lpm (b * 1024 + t) (some q) }) ∨
    (k.freeTag b = none ∧
      k.memRequest b q = { k with xfr.lpmWait := put [] k.xfr.lpmWait b (look [] k.xfr.lpmWait b ++ [q]) }) := by
  unfold Block.memRequest
  split
  · next t h => exact .inl ⟨t, h, rfl⟩
  · next h => exact .inr ⟨h, rfl⟩

/-- An access of one unit is one request of the whole access. -/
theorem Block.memAccess_one (k : Block) (b : Nat) (use : MemUse) (u : List (Nat × List Byte)) (len : Nat) :
    k.memAccess b use [u] len =
      ({ k with xfr.starts := k.xfr.starts + 1 } : Block).memRequest b
        { runs := u, use := use, id := k.xfr.starts, len := len } := by
  simp [Block.memAccess]

/-- The count of units sent is all that changes (R531). -/
theorem Block.countCarried_frame (k : Block) (b p : Nat) (q : Packet) :
    k.countCarried b p q = { k with hlth.carried := (k.countCarried b p q).hlth.carried } := by
  unfold Block.countCarried
  split <;> rfl

/-! ### Events and writes of one FCLK -/

/-- An event reaches the word of its register. -/
@[simp] theorem Block.reg_event (k : Block) (r : RegName) (pg : Nat) (ix : List Nat) (e : Word) :
    (k.event r pg ix e).reg r pg ix = eventOn r (k.reg r pg ix) e := by
  simp [Block.event, Block.reg, Block.setReg]

/-- A write that no event of its FCLK preceded makes its word. -/
theorem Block.reg_write_quiet (k : Block) (r : RegName) (pg : Nat) (ix : List Nat) (f : Word → Word)
    (h : (look ((0 : Nat), (0 : Word), (0 : Word)) k.fresh (regAddr r pg ix)).1 ≠ k.clk.now + 1) :
    (k.writeBeforeEvents r pg ix f).reg r pg ix = f (k.reg r pg ix) := by
  simp only [Block.writeBeforeEvents, if_neg h, Block.reg_setReg]

end Sys2Proof.Machine
end

