-- ==== Sys2Proof/WellFormed.lean ====
section
/-!
DEFINITION. Well-formed commands: every operand names an element that some build of the block has (R546 to R548, R578),
or lies within the width of the field that carries it. Which of these elements a given build has is the step's to ask.
-/

namespace Sys2Proof

/-- A stream as an event names it (R373): transfer engine 0 to 15, or reducer slot 0 to 63 from 0x100. -/
def streamNamed (u : Nat) : Bool := decide (u < 16) || (decide (0x100 ≤ u) && decide (u < 0x140))

/-- A boundary with a far clock (R490) of some build. -/
def boundaryNamed : Boundary → Bool
  | .localPort b => decide (b < 256)
  | .managementPort => true
  | .lane p l => decide (p < 56) && decide (l < 4)
  | .bridge p => decide (p < 16)
  | .voltage => true

/-- A Local Port request names a requester of six bits and a tag of eight (R549). -/
def viaNamed : Via → Bool
  | .mp => true
  | .lp rid tag => decide (rid < 64) && decide (tag < 256)

/-- The command's operands are well formed. -/
def Instr.wellFormed : Instr → Bool
  | .wait b u
  | .waitSatisfied b u
  | .signal b u
  | .loopBack b u
  | .halt b u
  | .illegalInstruction b u
  | .watchdogExpiry b u
  | .restart b u _ => decide (b < 256) && streamNamed u
  | .programMemoryError b u _ => decide (b < 256) && (streamNamed u || (decide (0x200 ≤ u) && decide (u < 0x209)))
  | .signalR b e => decide (b < 256) && streamNamed e
  | .copy b e _
  | .mcast b e _
  | .contrib b e _
  | .gather b e _
  | .storeC b e _
  | .send b e _
  | .rload b e _
  | .rstore b e _
  | .fence b e
  | .fenceRelease b e
  | .trackerClaim b e => decide (b < 256) && decide (e < 16)
  | .remoteLineRelease b t
  | .ackTimer b t
  | .holeTimer b t
  | .resendTimer b t
  | .initiatorTimeout b t
  | .lingerExpiry b t
  | .noticeWaitExpiry b t => decide (b < 256) && decide (t < 1024)
  | .poolTrackerClaim b
  | .segmentAck b
  | .boundaryMessage b _
  | .timeMessage b
  | .inBandSection b _
  | .counter b
  | .flatLookup b
  | .write b
  | .mcastDelivery b
  | .readreq b
  | .readresp b
  | .ack b
  | .nack b
  | .error b
  | .fenceNotice b
  | .contribFile b
  | .resultAtReducer b
  | .resultDelivery b
  | .dispatchFile b
  | .dispatchDelivery b
  | .fenceBitsWrite b _
  | .routeEntryCommit b _
  | .compressScanDone b
  | .mergePhaseStart b
  | .mergeWaitTimeout b
  | .residualPost b
  | .residualPauseExpiry b
  | .message b
  | .steeredMessage b
  | .credit b
  | .channelAck b
  | .channelNack b
  | .channelError b
  | .eventStale b
  | .directoryLookup b
  | .placementEvaluation b
  | .startMove b
  | .endMove b
  | .reserve b
  | .release b
  | .prepare b
  | .cancel b
  | .install b
  | .movePage b
  | .report b
  | .flip b
  | .refresh b
  | .dirresp b
  | .chunk b
  | .gpdCommit b _
  | .lpReset b
  | .lprst b _
  | .powerDownRequest b
  | .lpClosingDone b
  | .powerUp b
  | .isolate b _
  | .isolateRelease b _
  | .isolationExit b
  | .computeGate b _
  | .computeUngate b _
  | .computeClosingDone b
  | .wakingDone b
  | .stressHour b _ _
  | .traceRecord b
  | .telemetry b
  | .segmentError b
  | .segmentNack b
  | .interruptReturn b _ => decide (b < 256)
  | .segin b sl
  | .seginSatisfied b sl
  | .segout b sl
  | .segmentEmitted b sl
  | .add b sl _
  | .max b sl _
  | .min b sl _
  | .scale b sl _
  | .cvt b sl _
  | .expmax b sl _
  | .align b sl _
  | .sort b sl
  | .merge b sl
  | .filter b sl
  | .topk b sl
  | .reducerGather b sl
  | .emit b sl
  | .slotWrite b sl _ => decide (b < 256) && decide (sl < 64)
  | .connect b p
  | .idle b p
  | .shared b p
  | .closingWindow b p
  | .repeatBody b p
  | .mark b p
  | .sync b p
  | .courseSafe b p _
  | .routeSource b p _
  | .routeCoordinate b p _
  | .mcastReplicate b p _
  | .ingressRewrite b p _
  | .sharedArbitrate b p
  | .scheduledStart b p
  | .missboundExpiry b p
  | .holdQueueRelease b p
  | .holdQueueExpiry b p
  | .headmaxExpiry b p => decide (b < 256) && decide (p < 8)
  | .courseBoundary _ _
  | .drainInjectionStop
  | .imageStart
  | .timCtlSrcWrite _
  | .timSet _
  | .timNowRead
  | .trefEdge
  | .holdoverEntry
  | .timeLost
  | .imageCheck
  | .imageWrite
  | .imageAbort
  | .imageData _
  | .quiesceDone
  | .quiesceTimeout
  | .writePassRelease
  | .grpAbort _
  | .routeFlipWrite _
  | .routeFlip
  | .plcLogPop
  | .mgmt
  | .faultDone _
  | .episodeEnd
  | .fltlogPop
  | .coldReset
  | .warmReset
  | .warm _
  | .enum _
  | .rootckLoss
  | .rootckReturn
  | .frequencyMeasure _
  | .settleExpiry
  | .down _
  | .prbTctlEnable _
  | .congestionMapComplete
  | .freeze _
  | .freezeComplete
  | .unfreeze _
  | .mbistRun
  | .mbistRead
  | .wsBypass
  | .wsExtest
  | .wsIntest
  | .coldResetRelease _
  | .warmResetRelease => true
  | .programWindowWrite b off _ => decide (b < 256) && decide (off < 0x10000) && decide (off % 8 = 0)
  | .lpProgramWrite b rid tag off _ => decide (b < 256) && decide (rid < 64) && decide (tag < 256) && decide (off < 2 ^ 54)
  | .counterSet via b c _
  | .counterAddWrite via b c _ => viaNamed via && decide (b < 256) && decide (c < 256)
  | .coalesceTimeout b r => decide (b < 256) && decide (r < 8)
  | .trkRidxWrite via b r _
  | .trkRbaseWrite via b r _ => viaNamed via && decide (b < 256) && decide (r < 8)
  | .lpmResponse b tag _ => decide (b < 256) && decide (tag < 1024)
  | .lpLoad b rid tag addr n => decide (b < 256) && decide (rid < 64) && decide (tag < 256) && decide (addr < 2 ^ 57) && decide (0 < n) && decide (n ≤ 64)
  | .lpStore b rid tag addr data => decide (b < 256) && decide (rid < 64) && decide (tag < 256) && decide (addr < 2 ^ 57) && decide (0 < data.length) && decide (data.length ≤ 64)
  | .fenceRead b rid tag
  | .mqSend b rid tag _ => decide (b < 256) && decide (rid < 64) && decide (tag < 256)
  | .routeTableWrite addr _
  | .shaperWrite addr _ => decide (addr < 2 ^ 26)
  | .partitionWrite b ix _ => decide (b < 256) && decide (ix < 32)
  | .channelResendTimer b c
  | .channelTimeout b c
  | .sendAccept b c
  | .sendBlockExpiry b c => decide (b < 256) && decide (c < 1024)
  | .mqGrant via b _
  | .eventPop via b => viaNamed via && decide (b < 256)
  | .queueReset via b q _
  | .mqPop via b q => viaNamed via && decide (b < 256) && decide (q < 64)
  | .mqChcfgWrite via b c _ => viaNamed via && decide (b < 256) && decide (c < 1024)
  | .creditBatch b q
  | .creditRefresh b q => decide (b < 256) && decide (q < 64)
  | .copyRoundDone b r
  | .forwardLeaseExpiry b r
  | .logwaitRelease b r => decide (b < 256) && decide (r < 4)
  | .entryLeaseExpiry b ix => decide (b < 256) && decide (ix < 2048)
  | .trainingDone p l _
  | .huntLock p l
  | .huntUnlock p l
  | .huntTimeout p l
  | .retrainCheck p l
  | .laneAddTimer p l
  | .losLol p l _
  | .losTimeout p l
  | .laneRetire p l _
  | .laneRelease p l _
  | .markCodeword p l _ _
  | .losLolClear p l _ => decide (p < 56) && decide (l < 4)
  | .firstLockTimeout p
  | .lsetRepeat p
  | .replayTimeout p
  | .idleEntry p
  | .idlein p
  | .idleExit p
  | .exitBurstEnd p
  | .linkEnable p _
  | .linkDisable p _
  | .linkRetrain p _
  | .lctlSendDue p
  | .wakePattern p => decide (p < 56)
  | .fecInterval p l _ uncorr peak => decide (p < 56) && decide (l < 4) && decide (uncorr < 2 ^ 16) && decide (peak < 16)
  | .init p die port _ cred => decide (p < 56) && decide (die < 2 ^ 19) && decide (port < 64) && decide (cred.length = 6)
  | .lset p mask
  | .lsetEcho p mask => decide (p < 56) && decide (mask < 16)
  | .linkPacketRx p _ lseq lack _ cvc ctot _ => decide (p < 56) && decide (lseq < 2 ^ 16) && decide (lack < 2 ^ 16) && decide (cvc < 8) && decide (ctot < 4096)
  | .nak p lack => decide (p < 56) && decide (lack < 2 ^ 16)
  | .lctl p _ lack totals => decide (p < 56) && decide (lack < 2 ^ 16) && decide (totals.length = 6)
  | .tsreqSend t1 => decide (t1 < 2 ^ 64)
  | .tsreq p t2 t3 => decide (p < 56) && decide (t2 < 2 ^ 64) && decide (t3 < 2 ^ 64)
  | .tsresp p t2 t3 t4 => decide (p < 56) && decide (t2 < 2 ^ 64) && decide (t3 < 2 ^ 64) && decide (t4 < 2 ^ 64)
  | .phyLinkUp d
  | .phyLinkDown d
  | .bridgeInitTimeout d
  | .bridgeEnable d _
  | .bridgeDisable d _
  | .bridgeRetrain d _ => decide (d < 16)
  | .bridgeInit d frag0 frag1 => decide (d < 16) && decide (frag0 < 2 ^ 24) && decide (frag1 < 2 ^ 24)
  | .bridgeCredit d ctl => decide (d < 16) && decide (ctl < 2 ^ 24)
  | .bridgeTsreq d t2 t3 => decide (d < 16) && decide (t2 < 2 ^ 64) && decide (t3 < 2 ^ 64)
  | .bridgeTsresp d _ t4 => decide (d < 16) && decide (t4 < 2 ^ 64)
  | .portRetire bridge n
  | .portRelease bridge n => decide (n < if bridge then 16 else 56)
  | .enumerationDone ret => decide (ret < 2 ^ 16)
  | .heartbeatStop far
  | .heartbeatResume far
  | .resyncDone far => boundaryNamed far
  | .vreqAck v => decide (v < 16)
  | .segmentModeChange ix
  | .agePlanWrite ix _ => decide (ix < 24)
  | .ageHistWrite b k _ => decide (b < 256) && decide (k < 20)
  | .congestionInterval b busy => decide (b < 256) && decide (busy.length = 8)
  | .blackBoxEntry b => (decide (b < 256) || decide (b = 0xFFFF))
  | .mbistDone failed => failed.all fun b => decide (b < 256)
  | .registerWrite via addr _ => viaNamed via && decide (addr < 2 ^ 26)
  | .arrivalHistoryExpiry b src trk => decide (b < 256) && decide (src < 2 ^ 30) && decide (trk < 2 ^ 18)
  | .reducerHoleTimer b sl child => decide (b < 256) && decide (sl < 64) && decide (child < 7)
  | .segmentResendTimer b sl seg => decide (b < 256) && decide (sl < 64) && decide (seg < 2 ^ 16)

end Sys2Proof
end

