-- ==== Sys2Proof/Tests/Slice0.lean ====
section
/-!
SUPPORT. Tests of the model: an ill-formed command for each check of WellFormed, program words and worked examples of the
spec, and for each obligation states and operands that meet its hypotheses.
-/

set_option Elab.async false

open Sys2Proof Sys2Proof.Machine

namespace Sys2Proof.Tests

/-- A 4 by 4 die of the accelerator profile: a lane port on XB of (0,0), a bridge port on XA of (3,0). -/
def small : Build := { meshX := 4, meshY := 4, roles := [(1, .lane 0), (6, .bridge 0)] }

/-- A state of the small die with the given block. -/
def st (k : Block) (mem : List Host.Cell := []) : State := { env := { build := small, mem := mem }, blk := k }

/-- The block with word `w` at address `v.pc` of transfer stream 0 of brick 0, and that stream as given. -/
def prog (w : Nat) (v : Stream := { st := .running }) : Block :=
  ({ prog.xferMem := [(v.pc, BitVec.ofNat 64 w)] } : Block).setStream 0 0 v

/-- The block with one tracker of brick 0. -/
def trk (t : Nat) (v : Tracker) (k : Block := {}) : Block := k.setTracker 0 t v

/-- Every pool tracker of brick 0 in use. -/
def busyPool (k : Block := {}) : Block :=
  { k with xfr.trk := (List.range 128).map fun i => (896 + i, { st := .source }) }

/-- A good packet of opcode `op` on VC `vc` for endpoint `ep` of brick 0. -/
def pk (op vc ep : Nat) (p : Packet := {}) : Packet :=
  sealPacket { p with op := op, vc := vc, dst := ep, flow := if vc < 2 then 1 else 0 }

/-- The packet at the head of receive FIFO `c` of brick 0. -/
def rx (c : Nat) (p : Packet) (k : Block := {}) : Block := k.setRx 0 c [p]

/-- Lane 0 of lane port 0 in state `v`, the port in link state `l`. -/
def lane (v l : Nat) (k : Block := {}) : Block := (k.setRf .LN_STAT 63 61 0 [0] v).setRf .LNK_STAT 49 48 0 [] l

/-- Bridge port 0 in link state `l`. -/
def bridge (l : Nat) (k : Block := {}) : Block := k.setRf .D2D_STAT 1 0 0 [0] l

/-- Output 1 of brick 0 runs this course, with its sequencer as given. -/
def crs (l : List CourseInstr) (v : Sequencer := {}) (k : Block := {}) : Block :=
  { k with
    img.run := true, net.courseProg := [(2, l.map fun i => BitVec.ofNat 64 (encodeCourse i))]
    net.seq := put {} k.net.seq 1 v }

/-- A CONNECT window of output 1 of brick 0 from input `i` for flow 1. -/
def window (i : Nat) (k : Block := {}) : Block :=
  crs [.connect i 4000 1 2] { at_ := 1 } k

/-- A packet of flow 1 to brick (1,0). -/
def east : Packet := { rmode := 1, dst := 128, flow := 1 }

/-- A flat-mode READREQ to identifier 3. -/
def flat : Packet := pk 6 4 3 { rmode := 2, payload := [0, 0, 0, 0, 0, 0, 0, 0] }

/-- Endpoint entry 0 of brick 0 resolves identifier 3. -/
def ep3 (k : Block) : Block := k.setReg .GPD_EPENT 0 [0] 0x8000000000000003

/-- Slot 0 of brick 0 with word `w` (group 0) and state `v`; every input port of its tree is child 0. -/
def red (w : Nat) (v : Slot := {}) (k : Block := {}) : Block :=
  (({ k with rdc.tree := [(0, 0x8000000000000000)] } : Block).setReg .RDC_SLOT 0 [0] (BitVec.ofNat 64 w)).setSlot 0 0 v

/-- That slot about to run instruction `i`. -/
def redRun (i : RdcInstr) (w : Nat) (v : Slot) (st : StreamState := .running) (h : Hold := .none) : Block :=
  (red w v { prog.rdcMem := [(0, BitVec.ofNat 64 (encodeRdc false i))] }).setStream 0 0x100 { st := st, hold := h }

/-- A buffer set of two children, each with one complete part of one element. -/
def filled : BufSet :=
  { tag := some (0, 0), bufs := [(0, [0, 0, 0x80, 0x3F]), (1, [0, 0, 0x80, 0x3F])]
    parts := [(0, { complete := true, len := 1, trailer := List.replicate 16 0 }),
              (2, { complete := true, len := 1, trailer := List.replicate 16 0 })] }

/-- A slot whose current set is `filled`. -/
def full : Slot := { cur := some 0, sets := [(0, filled)] }

/-- ADD of the two children, about to run; and what it computes. -/
def adding : Block := redRun (.add 7 0 0 3) 0x8400000000000000 full
def added : Computed × Block := (adding.compute 0 0 (.add 7 0 0 3)).getD (⟨0, 0, 0, []⟩, {})

/-- SORT of a record buffer, about to run. -/
def sorting : Block := redRun (.sort false 0 0) 0xA400000000000001 full

/-- SEGOUT down the tree of a root slot, about to run. -/
def leaving : Block := redRun (.segout true false false false 7 0 1) 0x9400000000000000 full

/-- EMIT of one range, about to run. -/
def emitting : Block := (redRun (.emit 0 1 0) 0xA400000000000001 full).setReg .RDC_PART 0 [0] 0xC000000000000100

/-- Group 0 has a valid descriptor, and brick 0 is the destination of member 0. -/
def grp (k : Block := {}) : Block :=
  { k with rdc.desc := [(0, 0x8000000000000000)], rdc.tree := [(0, 0x8000000000000000), (1, 0x8400000000000000)] }

/-- Channel 0 of brick 0 enabled, in state `v`. -/
def chn (v : Channel) (k : Block := {}) : Block :=
  (k.setReg .MQ_CHCFG 0 [0] 0x8000000000000000).setChan 0 0 v

/-- Receive queue 0 of brick 0 with configuration word `w` and state `v`. -/
def que (w : Nat) (v : RxQueue := {}) (k : Block := {}) : Block :=
  (k.setReg .MQ_QCFG 0 [0] (BitVec.ofNat 64 w)).setQueue 0 0 v

/-- A MESSAGE of 32 bytes, and a send of one through MQ_SEND on channel 0. -/
def msg (p : Packet := {}) : Packet := pk 9 4 1 { p with payload := List.replicate 32 0 }
def send64 : List Byte := [0, 0, 1] ++ List.replicate 61 0

/-- A GATHER on tracker 0 with job `j`. -/
def gat (j : GatherJob) (k : Block := {}) : Block :=
  (trk 0 { st := .source, op := .gather } { k with spc.gathers := [(0, [0])] }).setJob 0 0 j

/-- A DIRREQ of operation `op` for endpoint `ep`, at the head of its receive FIFO. -/
def drq (op ep : Nat) : Packet := pk 0xD 4 ep { payload := BitVec.ofNat 8 op :: List.replicate 23 1 }
def ask (op ep : Nat) (k : Block := {}) : State := st (rx ep (drq op ep) k)

/-- Directory entry 0 of brick 0. -/
def gpd (v : GpdEntry) (k : Block := {}) : Block := k.setGpd 0 0 v

/-- Move record 0 of brick 0. -/
def mov (v : MoveRec) (k : Block := {}) : Block := k.setRec 0 0 v

/-- An image of a header alone for the small die; and the loader checking it, all but the last eight bytes taken. -/
def image : List Byte :=
  let h : List Byte := [0x49, 0x48, 0x46, 0x32, 1, 0, 0, 0, 4, 4, 0, 0, 64, 0, 0, 0, 7, 0, 0, 0, 0, 0, 0, 0, 40] ++
    List.replicate 35 0
  h ++ leBytes 4 (crc32c h)
def lastWord (l : List Byte) : Word := BitVec.ofNat 64 (leNat (l.drop 56))
def checking : Block := { img := { st := .checking, cur := image.take 56 } }

/-- Stream 0 of brick 0 with the loop from 2 to 5. -/
def looping : Block := { prog.xferMem := [(5, 0xC300000300000002)] }

theorem no_loop {a t : Nat} {P : Prop} (h : ({} : Block).loopTarget 0 0 a = some t) : P := by
  have h0 : ({} : Block).progWord 0 0 a = 0 := by
    unfold Block.progWord
    split <;> rfl
  have h1 : ({} : Block).loopTarget 0 0 a = none := by
    unfold Block.loopTarget
    rw [h0]
    rfl
  rw [h1] at h
  cases h

theorem one_loop {a t : Nat} (h : looping.loopTarget 0 0 a = some t) : t ≤ 2 ∧ 5 ≤ a := by
  by_cases ha : a = 5
  · subst ha
    have h1 : looping.loopTarget 0 0 5 = some 2 := by decide +kernel
    rw [h1] at h
    cases h
    decide
  · have h0 : looping.progWord 0 0 a = 0 := by
      unfold Block.progWord
      split
      · rfl
      · simp [looping, isReducer, look]
        intro h
        omega
    have h1 : looping.loopTarget 0 0 a = none := by
      unfold Block.loopTarget
      rw [h0]
      rfl
    rw [h1] at h
    cases h

/-- The Local Port bridge of brick 0 is OPEN. -/
def opn (k : Block := {}) : Block := k.setRf .RST_BRK 7 6 0 [] 0

/-- A COPY descriptor of one byte on VC3 at local address 64. -/
def copyMem : List Host.Cell := [(70, 3#8), (76, 1#8)]

/-- The machine after reset, but for one byte of cluster memory. -/
def stored : State := { env := { build := State.reset.env.build, mem := [(5, 1)] } }

theorem stored_inv : Machine.Inv stored := ⟨by decide +kernel, by decide +kernel⟩

end Sys2Proof.Tests

namespace Sys2Proof.Tests

/-! ### Well-formed commands: each check refuses a command that breaks it -/

def refused (l : List Instr) : Bool := l.all fun i => !i.wellFormed

theorem test_streams_are_named : refused [.wait 256 0, .wait 0 16, .wait 0 0xFF, .wait 0 0x140, .signalR 256 0, .signalR 0 16,
    .copy 256 0 true, .copy 0 16 true, .segin 256 0, .segin 0 64, .slotWrite 256 0 0, .slotWrite 0 64 0] = true := by decide

theorem test_bricks_and_ports_are_named : refused [.counter 256, .lprst 256 0, .ackTimer 256 0, .ackTimer 0 1024,
    .connect 256 0, .connect 0 8, .coalesceTimeout 256 0, .coalesceTimeout 0 8, .mbistDone [3, 256],
    .blackBoxEntry 256] = true := by decide

theorem test_program_windows_are_bounded : refused [.programWindowWrite 256 0 0, .programWindowWrite 0 0x10000 0,
    .programWindowWrite 0 4 0, .lpProgramWrite 256 0 0 0 0, .lpProgramWrite 0 64 0 0 0, .lpProgramWrite 0 0 256 0 0,
    .lpProgramWrite 0 0 0 (2 ^ 54) 0] = true := by decide

theorem test_accesses_are_bounded : refused [.counterSet (.lp 64 0) 0 0 0, .counterSet (.lp 0 256) 0 0 0,
    .counterSet .mp 256 0 0, .counterSet .mp 0 256 0, .trkRidxWrite (.lp 64 0) 0 0 0, .trkRidxWrite .mp 256 0 0,
    .trkRidxWrite .mp 0 8 0, .registerWrite (.lp 64 0) 0 0, .registerWrite .mp (2 ^ 26) 0, .routeTableWrite (2 ^ 26) 0,
    .partitionWrite 256 0 0, .partitionWrite 0 32 0] = true := by decide

theorem test_requests_are_bounded : refused [.lpmResponse 256 0 false, .lpmResponse 0 1024 false,
    .lpLoad 256 0 0 0 1, .lpLoad 0 64 0 0 1, .lpLoad 0 0 256 0 1, .lpLoad 0 0 0 (2 ^ 57) 1, .lpLoad 0 0 0 0 0,
    .lpLoad 0 0 0 0 65, .lpStore 256 0 0 0 [1], .lpStore 0 64 0 0 [1], .lpStore 0 0 256 0 [1],
    .lpStore 0 0 0 (2 ^ 57) [1], .lpStore 0 0 0 0 [], .lpStore 0 0 0 0 (List.replicate 65 1), .fenceRead 256 0 0,
    .fenceRead 0 64 0, .fenceRead 0 0 256] = true := by decide

theorem test_queues_are_named : refused [.channelTimeout 256 0, .channelTimeout 0 1024, .mqGrant (.lp 64 0) 0 0,
    .mqGrant .mp 256 0, .queueReset (.lp 0 256) 0 0 0, .queueReset .mp 256 0 0, .queueReset .mp 0 64 0,
    .mqChcfgWrite (.lp 64 0) 0 0 0, .mqChcfgWrite .mp 256 0 0, .mqChcfgWrite .mp 0 1024 0, .creditBatch 256 0,
    .creditBatch 0 64, .copyRoundDone 256 0, .copyRoundDone 0 4, .entryLeaseExpiry 256 0,
    .entryLeaseExpiry 0 2048] = true := by decide

theorem test_lanes_are_named : refused [.trainingDone 56 0 0, .trainingDone 0 4 0, .firstLockTimeout 56,
    .fecInterval 56 0 0 0 0, .fecInterval 0 4 0 0 0, .fecInterval 0 0 0 65536 0, .fecInterval 0 0 0 0 16,
    .lset 56 0, .lset 0 16] = true := by decide

theorem test_link_fields_are_bounded : refused [.init 56 0 0 true [0, 0, 0, 0, 0, 0],
    .init 0 (2 ^ 19) 0 true [0, 0, 0, 0, 0, 0], .init 0 0 64 true [0, 0, 0, 0, 0, 0], .init 0 0 0 true [0, 0, 0, 0, 0],
    .linkPacketRx 56 {} 0 0 false 0 0 true, .linkPacketRx 0 {} 65536 0 false 0 0 true,
    .linkPacketRx 0 {} 0 65536 false 0 0 true, .linkPacketRx 0 {} 0 0 false 8 0 true,
    .linkPacketRx 0 {} 0 0 false 0 4096 true, .nak 56 0, .nak 0 65536, .lctl 56 false 0 [0, 0, 0, 0, 0, 0],
    .lctl 0 false 65536 [0, 0, 0, 0, 0, 0], .lctl 0 false 0 [0, 0, 0, 0, 0]] = true := by decide

theorem test_times_are_bounded : refused [.tsreqSend (2 ^ 64), .tsreq 56 0 0, .tsreq 0 (2 ^ 64) 0, .tsreq 0 0 (2 ^ 64),
    .tsresp 56 0 0 0, .tsresp 0 (2 ^ 64) 0 0, .tsresp 0 0 (2 ^ 64) 0, .tsresp 0 0 0 (2 ^ 64), .bridgeTsreq 16 0 0,
    .bridgeTsreq 0 (2 ^ 64) 0, .bridgeTsreq 0 0 (2 ^ 64), .bridgeTsresp 16 [] 0, .bridgeTsresp 0 [] (2 ^ 64)] = true := by
  decide

theorem test_bridges_and_boundaries_are_named : refused [.phyLinkUp 16, .bridgeEnable 16 0, .bridgeInit 16 0 0,
    .bridgeInit 0 (2 ^ 24) 0, .bridgeInit 0 0 (2 ^ 24), .bridgeCredit 16 0, .bridgeCredit 0 (2 ^ 24), .portRetire true 16,
    .portRetire false 56, .portRelease true 16, .heartbeatStop (.localPort 256), .heartbeatStop (.lane 56 0),
    .heartbeatStop (.lane 0 4), .heartbeatStop (.bridge 16)] = true := by decide

theorem test_health_operands_are_bounded : refused [.enumerationDone 65536, .vreqAck 16, .agePlanWrite 24 0,
    .ageHistWrite 256 0 0, .ageHistWrite 0 20 0, .congestionInterval 256 [0, 0, 0, 0, 0, 0, 0, 0],
    .congestionInterval 0 [0, 0, 0, 0, 0, 0, 0]] = true := by decide

theorem test_late_operands_are_bounded : refused [.arrivalHistoryExpiry 256 0 0, .arrivalHistoryExpiry 0 (2 ^ 30) 0,
    .arrivalHistoryExpiry 0 0 (2 ^ 18), .reducerHoleTimer 256 0 0, .reducerHoleTimer 0 64 0, .reducerHoleTimer 0 0 7,
    .segmentResendTimer 256 0 0, .segmentResendTimer 0 64 0, .segmentResendTimer 0 0 65536] = true := by decide

/-- The last element of each kind is named: 255, engine 15, slot 63, port 7, and a die-wide entry. -/
theorem test_last_elements_are_well_formed : [Instr.wait 255 15, .wait 255 0x13F, .segin 255 63, .connect 255 7,
    .ackTimer 255 1023, .blackBoxEntry 0xFFFF, .lpLoad 255 63 255 (2 ^ 57 - 1) 64].all Instr.wellFormed = true := by decide

/-- No row of the table gives its command bits. -/
theorem test_no_word_spells_a_command : decodeTableWord 64 0 = none := rfl

/-! ### Program words, written out from the tables of R33, R98, R202 and R254 -/

theorem test_transfer_words : [0xC100050200000007, 0xC201030ABC000009, 0xC440000000000000, 0xC500200000000040,
    0xCD00000000000000, 0xC480000000000000, 0].map decodeXfer = [some (.ctl (.wait 5 2 7)),
    some (.ctl (.signalR 3 0xABC 9)), some (.ctl .halt), some (.desc .copy 2 0x40), some .fence, none, none] := by decide

theorem test_reducer_words : [0x8300000300000010, 0x8501000031000005, 0x8700701030000000, 0xC700701030000000, 0].map
    decodeRdc = [some (.ctl (.loop 3 0x10)), some (.segin true false false 3 1 5), some (.add 7 0 1 3), none, none] := by
  decide

/-- The course of the example of spec/04_courses.md, and the two bounds of REP (R98). -/
theorem test_course_words : [0x4100651401100002, 0x4600280000000001, 0x430001F400000000, 0x410088E338700002,
    0x4300000000000000, 0x4501000000000000, 0x440012BF00000010, 0x440012C000000010, 0].map decodeCourse =
    [some (.connect 3 1300 17 2), some (.sync 40 1), some (.shared 500), some (.connect 4 2275 903 2),
    some (.shared 0), some (.mark true), some (.rep 4799 16), none, none] := by decide

/-! ### Worked examples of the spec -/

/-- R90's example: on a 16 by 16 die brick 24, on a 12 by 10 die brick 32. -/
theorem test_slice_of_flat_identifier :
    (sliceOf {} 0x5A3C7E, sliceOf { meshX := 12, meshY := 10 } 0x5A3C7E) = (24, 32) := by decide

/-- The exponent codes of the five members of spec/09_arithmetic.md's example. -/
theorem test_exponent_codes : [0x4050, 0xBFB0, 0x3C00, 0x21A0, 0xA260].map (fun c => expCode (valueOf 2 c)) =
    [0x7F, 0x7E, 0x77, 0x42, 0x43] := by decide +kernel

/-- ALIGN of the five members (R286), and CVT of their sum (R289): 0x3FF1 with INEXACT. -/
theorem test_align_of_five_members : [0x4050, 0xBFB0, 0x3C00, 0x21A0, 0xA260].map (fun c => alignElem 3 0x7F (valueOf 2 c)) =
    [(0x0D00000000000000, 0), (0xFA80000000000000, 0), (0x0008000000000000, 0), (0, flInexact),
     (0xFFFFFFFFFFFFFFFF, flInexact)] := by decide +kernel

theorem test_still_sum_rounds_at_the_root : cvtStill 3 2 false 0x7F 0x0787FFFFFFFFFFFF = (0x3FF1, flInexact) := by
  decide +kernel

/-! ### The hypotheses of the obligations are met -/

/-- The hypotheses of AcceptedImagesBreakNoRule are met, clause by clause. -/
theorem witness_AcceptedImagesBreakNoRule :
  (∃ (d : Build) (h : Nat) (idle : Bool) (img : List Byte), checkImage d h idle img = none) ∧
  (∃ (d : Build) (img : List Byte) (c : Nat) (r : List Nat), headerCodes d img = c :: r) :=
  ⟨⟨small, 0, true, image, by decide +kernel⟩,
   ⟨small, image.set 4 2, 2, [3], by decide +kernel⟩⟩

/-- The hypotheses of AnswersAndTimersReachTrackers are met, clause by clause. -/
theorem witness_AnswersAndTimersReachTrackers :
  (∃ (s : State) (b : Nat) (p : Packet) (r : List Packet), Ready s b ∧ s.blk.headGood b 0 1 p r ∧ p.op = opAck ∧
    p.group < 0xFC0 ∧
    let t := p.tracker % 1024
    let v := s.blk.tracker b t
    v.isDest = false ∧ v.st = .source ∧ s.blk.ownAnswer v p = true ∧ v.op ≠ .contrib ∧ v.op ≠ .mcast ∧ v.op ≠
      .gather) ∧
  (∃ (s : State) (b : Nat) (p : Packet) (r : List Packet), Ready s b ∧ s.blk.headGood b 0 1 p r ∧ p.op = opAck ∧
    p.group < 0xFC0 ∧
    let t := p.tracker % 1024
    let v := s.blk.tracker b t
    v.isDest = false ∧ v.st = .collect ∧ v.op = .contrib ∧ s.blk.ownAnswer v p = true ∧ (ackList p.payload
      p.pcount).length = p.pcount) ∧
  (∃ (s : State) (b : Nat) (p : Packet) (r : List Packet), Ready s b ∧ s.blk.headGood b 0 1 p r ∧ p.op = opNack ∧
    p.group < 0xFC0 ∧
    let t := p.tracker % 1024
    let v := s.blk.tracker b t
    let n := s.blk.answerUnit v p
    v.isDest = false ∧ v.sourceAtWork = true ∧ s.blk.ownAnswer v p = true ∧ n < v.issued ∧ v.b ≤ n ∧ ((v.op = .mcast
      ∨ v.seen.contains n = false))) ∧
  (∃ (s : State) (b : Nat) (p : Packet) (r : List Packet), Ready s b ∧ s.blk.headGood b 0 1 p r ∧ p.op = opError ∧
    p.group < 0xFC0 ∧
    let t := p.tracker % 1024
    let v := s.blk.tracker b t
    v.isDest = false ∧ v.sourceAtWork = true ∧ s.blk.ownAnswer v p = true) ∧
  (∃ (s : State) (b : Nat) (p : Packet) (r : List Packet), Ready s b ∧ s.blk.headGood b 0 1 p r ∧ p.op =
    opFenceNotice ∧
    let t := p.tracker % 1024
    let v := s.blk.tracker b t
    v.op = .mcast ∧ v.desc.group = p.group ∧ v.st = .source) ∧
  (∃ (s : State) (b : Nat) (p : Packet) (r : List Packet), Ready s b ∧ s.blk.headGood b 0 1 p r ∧ p.op = opAck ∧
    p.group < 0xFC0 ∧
    let v := s.blk.tracker b (p.tracker % 1024)
    (v.isDest = true ∨ s.blk.ownAnswer v p = false ∨ v.st = .idle ∨ v.st = .dest)) ∧
  (∃ (s : State) (b : Nat) (p : Packet) (r : List Packet), Ready s b ∧ s.blk.headGood b 0 1 p r ∧ p.op = opAck ∧
    p.group < 0xFC0 ∧
    let v := s.blk.tracker b (p.tracker % 1024)
    v.isDest = false ∧ s.blk.ownAnswer v p = true ∧ (v.st = .linger ∨ v.st = .completing)) ∧
  (∃ (s : State) (b t : Nat), Ready s b ∧ t < 1024 ∧ (s.blk.tracker b t).st = .dest ∧ 0 < (s.blk.tracker b
    t).ackDue) ∧
  (∃ (s : State) (b t : Nat), Ready s b ∧ t < 1024 ∧ (s.blk.tracker b t).st = .dest) ∧
  (∃ (s : State) (b t n : Nat), Ready s b ∧ t < 1024 ∧ (s.blk.tracker b t).sourceAtWork = true ∧ (s.blk.tracker b
    t).op ≠ .mcast ∧ (s.blk.tracker b t).op ≠ .send ∧ (s.blk.tracker b t).unanswered = [n]) ∧
  (∃ (s : State) (b t : Nat), Ready s b ∧ t < 1024 ∧ s.blk.timed b t = true) ∧
  (∃ (s : State) (b t : Nat), Ready s b ∧ t < 1024 ∧ (s.blk.tracker b t).st = .linger) ∧
  (∃ (s : State) (b t : Nat), Ready s b ∧ t < 1024 ∧ (s.blk.tracker b t).st = .source ∧ (s.blk.tracker b t).op =
    .mcast ∧ ((s.blk.tracker b t).stop = true ∨ (s.blk.tracker b t).issued = (s.blk.tracker b t).pcount) ∧
    s.blk.allLeft b t = true) ∧
  (∃ (s : State) (b r : Nat), Ready s b ∧ r < 8) ∧
  (∃ (s : State) (b t : Nat), Ready s b ∧ t < 1024 ∧ remoteOp (s.blk.tracker b t).op = true) ∧
  (∃ (s : State) (b t : Nat), Ready s b ∧ t < 1024 ∧ remoteOp (s.blk.tracker b t).op = true ∧ (s.blk.tracker b
    t).eng = none ∧ (s.blk.tracker b t).todo = [] ∧ s.blk.lineBusy b t (s.blk.tracker b t).issued = true) :=
  ⟨⟨st (rx 0 (pk 11 5 1 { payload := [0, 0, 0, 0, 0, 0, 0, 0] }) (trk 0
     { st := .source, issued := 1, pcount := 1 })), 0, pk 11 5 1 { payload := [0, 0, 0, 0, 0, 0, 0, 0] }, [],
     by decide +kernel⟩,
   ⟨st (rx 0 (pk 11 5 1 { payload := leBytes 4 1 ++ List.replicate 32 0 ++ [1, 0, 0, 0], pcount := 1 }) (trk 0
     { st := .collect, op := .contrib, pcount := 1, issued := 1 })), 0, pk 11 5 1
     { payload := leBytes 4 1 ++ List.replicate 32 0 ++ [1, 0, 0, 0], pcount := 1 }, [], by decide +kernel⟩,
   ⟨st (rx 0 (pk 12 5 1) (trk 0 { st := .source, issued := 1, pcount := 1 })), 0, pk 12 5 1, [], by decide +kernel⟩,
   ⟨st (rx 0 (pk 18 7 1) (trk 0 { st := .source, issued := 1, pcount := 1 })), 0, pk 18 7 1, [], by decide +kernel⟩,
   ⟨st (rx 0 (pk 19 7 1 { payload := [0, 0, 0, 0, 1, 0, 0, 0] }) (trk 0
     { st := .source, op := .mcast, issued := 1, pcount := 1 })), 0, pk 19 7 1
     { payload := [0, 0, 0, 0, 1, 0, 0, 0] }, [], by decide +kernel⟩,
   ⟨st (rx 0 (pk 11 5 1) (trk 0 { pcount := 1 })), 0, pk 11 5 1, [], by decide +kernel⟩,
   ⟨st (rx 0 (pk 11 5 1) (trk 0 { st := .linger, pcount := 1 })), 0, pk 11 5 1, [], by decide +kernel⟩,
   ⟨st (trk 1023 { st := .dest, ackDue := 1 }), 0, 1023, by decide +kernel⟩,
   ⟨st (trk 511 { st := .dest }), 0, 511, by decide +kernel⟩,
   ⟨st (trk 1023 { st := .source, issued := 1, pcount := 1 }), 0, 1023, 0, by decide +kernel⟩,
   ⟨st (trk 1023 { st := .source, issued := 1, pcount := 1 }), 0, 1023, by decide +kernel⟩,
   ⟨st (trk 511 { st := .linger }), 0, 511, by decide +kernel⟩,
   ⟨st (trk 1023 { st := .source, op := .mcast, issued := 1, pcount := 1 }), 0, 1023, by decide +kernel⟩,
   ⟨st {}, 0, 7, by decide +kernel⟩,
   ⟨st (trk 1023 { st := .source, op := .rload }), 0, 1023, by decide +kernel⟩,
   ⟨st (trk 0 { st := .source, op := .rstore, serial := 1, pcount := 1, desc := { len := 64 } } (trk 1
     { st := .source, op := .rstore, pcount := 1, desc := { len := 64 } })), 0, 0, by decide +kernel⟩⟩

/-- The hypotheses of BlackBoxRecordsAndFreezes are met, clause by clause. -/
theorem witness_BlackBoxRecordsAndFreezes :
  (∃ (s : State) (b : Nat) (x : BoxEntry), s.blk.held = false ∧ ((brickOk s.env.build b = true ∨ b = 0xFFFF)) ∧
    s.blk.flt.boxWait.find? (fun y => y.source == b) = some x ∧ flag (s.blk.reg .BBX_STAT) 63 = false ∧
    s.blk.flt.freezing = none ∧ s.blk.rf .BBX_STAT 11 0 < 4095) ∧
  (∃ (s : State) (b : Nat) (x : BoxEntry), s.blk.held = false ∧ ((brickOk s.env.build b = true ∨ b = 0xFFFF)) ∧
    s.blk.flt.boxWait.find? (fun y => y.source == b) = some x ∧ flag (s.blk.reg .BBX_STAT) 63 = false ∧
    s.blk.flt.freezing = none ∧ s.blk.rf .BBX_STAT 11 0 = 4095) ∧
  (∃ (s : State) (b : Nat) (x : BoxEntry), s.blk.held = false ∧ ((brickOk s.env.build b = true ∨ b = 0xFFFF)) ∧
    s.blk.flt.boxWait.find? (fun y => y.source == b) = some x ∧ flag (s.blk.reg .BBX_STAT) 63 = true) ∧
  (∃ (s : State) (v : Word), s.blk.held = false ∧ s.blk.crosses .managementPort = true ∧ flag v 0 = true ∧ flag v
    1 = false) ∧
  (∃ (s : State) (v : Word), s.blk.held = false ∧ s.blk.crosses .managementPort = true ∧ flag v 0 = false ∧ flag v
    1 = true) ∧
  (∃ (s : State) (g c : Nat), s.blk.held = false ∧ s.blk.flt.freezing = some (g, c) ∧ c < 16) ∧
  (∃ (s : State), s.blk.held = false ∧ s.blk.flt.freezing = none) ∧
  (∃ (k : Block) (en : BoxEntry) (i : Nat), ownEntry i en = true ∧ flag (k.reg .BBX_STAT) 63 = false ∧
    k.flt.freezing = none) :=
  ⟨⟨st (({ flt.boxWait := [{ source := 0xFFFF }] } : Block).setRf .BBX_STAT 11 0 0 [] 4094), 0xFFFF,
     { source := 0xFFFF }, by decide +kernel⟩,
   ⟨st (({ flt.boxWait := [{ source := 0 }] } : Block).setRf .BBX_STAT 11 0 0 [] 4095), 0, { source := 0 },
     by decide +kernel⟩,
   ⟨st (({ flt.boxWait := [{ source := 0 }] } : Block).setBit .BBX_STAT 63), 0, { source := 0 }, by decide +kernel⟩,
   ⟨st {}, 1, by decide +kernel⟩,
   ⟨st (({} : Block).setReg .BBX_STAT 0 [] 0xF800FFFFFF000005), 2, by decide +kernel⟩,
   ⟨st { flt := { freezing := some (5, 15), boxWait := [{ gtime := 5 }, { gtime := 6 }] } }, 5, 15, by decide +kernel⟩,
   ⟨st {}, by decide +kernel⟩,
   ⟨{}, { kind := 3 }, 5, by decide +kernel⟩⟩

/-- The hypotheses of BricksAreIsolatedAndReleased are met, clause by clause. -/
theorem witness_BricksAreIsolatedAndReleased :
  (∃ (s : State) (b : Nat) (v : Word), Ready s b ∧ s.blk.crosses .managementPort = true ∧ flag v 0 = true ∧ flag v
    1 = false ∧ flag v 2 = false ∧ flag (s.blk.reg .RST_BRK b) 0 = false ∧ s.blk.fencedIn s.env.build b = false) ∧
  (∃ (s : State) (b : Nat) (v : Word), Ready s b ∧ s.blk.crosses .managementPort = true ∧ flag v 0 = true ∧ flag v
    1 = false ∧ flag v 2 = false ∧ flag (s.blk.reg .RST_BRK b) 0 = false ∧ s.blk.fencedIn s.env.build b = true ∧
    s.blk.isolated b = false) ∧
  (∃ (s : State) (b : Nat) (v : Word), Ready s b ∧ s.blk.crosses .managementPort = true ∧ flag v 0 = false ∧ flag
    v 1 = false ∧ flag v 2 = false ∧ s.blk.isolated b = true ∧ s.blk.rst.leaving.contains b = false) ∧
  (∃ (s : State) (b : Nat), Ready s b ∧ s.blk.clk.cyc = 0 ∧ s.blk.rst.leaving.contains b = true) ∧
  (∃ (s : State) (b : Nat), Ready s b ∧ s.blk.rst.leaving.contains b = false) :=
  ⟨⟨st {}, 0, 1, by decide +kernel⟩,
   ⟨st ((({} : Block).setReg .BRK_RTCTL 1 [] 8).setReg .BRK_RTCTL 16 [] 1), 0, 1, by decide +kernel⟩,
   ⟨st { rst.isolated := [0] }, 0, 0, by decide +kernel⟩,
   ⟨st { rst := { isolated := [0], leaving := [0] } }, 0, by decide +kernel⟩,
   ⟨st {}, 0, by decide +kernel⟩⟩

/-- The hypotheses of BridgeLinksStartStopAndCredit are met, clause by clause. -/
theorem witness_BridgeLinksStartStopAndCredit :
  (∃ (s : State) (n : Nat), s.blk.held = false ∧ n < s.env.build.bridgePorts ∧ n < 16 ∧ s.blk.linkState true n =
    linkTraining ∧ s.blk.crosses (.bridge n) = true) ∧
  (∃ (s : State) (n : Nat), s.blk.held = false ∧ n < s.env.build.bridgePorts ∧ n < 16 ∧ s.blk.crosses (.bridge
    n) = false) ∧
  (∃ (d : Build) (n : Nat), dieOf (coord d 0 0) < 2 ^ 19 ∧ n < 16) ∧
  (∃ (s : State) (n : Nat), s.blk.held = false ∧ n < s.env.build.bridgePorts ∧ n < 16 ∧ flag (s.blk.reg .D2D_STAT
    0 [n]) 2 = true) ∧
  (∃ (s : State) (n f0 f1 : Nat), s.blk.held = false ∧ n < s.env.build.bridgePorts ∧ n < 16 ∧ s.blk.linkState true
    n = linkInit ∧ controlOk f0 = true ∧ controlOk f1 = true ∧ initPair f0 f1 = true ∧
    let die := bits f0 16 1 * 8 + bits f1 16 14
    let port := bits f1 13 10
    (s.blk.port true n).init = some (die, port, false, [])) ∧
  (∃ (s : State) (n f0 f1 : Nat), s.blk.held = false ∧ n < s.env.build.bridgePorts ∧ n < 16 ∧ s.blk.linkState true
    n = linkInit ∧ controlOk f0 = true ∧ controlOk f1 = true ∧ initPair f0 f1 = true ∧
    let die := bits f0 16 1 * 8 + bits f1 16 14
    let port := bits f1 13 10
    (s.blk.port true n).init ≠ some (die, port, false, [])) ∧
  (∃ (s : State) (n f0 f1 : Nat), s.blk.held = false ∧ n < s.env.build.bridgePorts ∧ n < 16 ∧ controlOk f0 =
    true ∧ controlOk f1 = false) ∧
  (∃ (s : State) (n : Nat), s.blk.held = false ∧ n < s.env.build.bridgePorts ∧ n < 16 ∧ s.blk.linkState true n =
    linkInit) ∧
  (∃ (s : State) (n ctl : Nat), s.blk.held = false ∧ n < s.env.build.bridgePorts ∧ n < 16 ∧ controlOk ctl = true ∧
    bits ctl 23 20 = 1 ∧ bits ctl 19 17 < 6 ∧ s.blk.portUp true n = true) ∧
  (∃ (s : State) (n ctl : Nat), s.blk.held = false ∧ n < s.env.build.bridgePorts ∧ n < 16 ∧ controlOk ctl = false) ∧
  (∃ (s : State) (n : Nat) (v : Word), s.blk.held = false ∧ s.blk.crosses .managementPort = true ∧ n <
    s.env.build.bridgePorts ∧ n < 16 ∧
    let k := s.blk.applyWrite .D2D_CTL 0 [n] v
    k.portEnabled true n = true ∧ flag v 1 = false) ∧
  (∃ (s : State) (n : Nat) (v : Word), s.blk.held = false ∧ s.blk.crosses .managementPort = true ∧ n <
    s.env.build.bridgePorts ∧ n < 16 ∧
    let k := s.blk.applyWrite .D2D_CTL 0 [n] v
    k.portEnabled true n = false ∧ k.linkState true n ≠ linkDownCode) ∧
  (∃ (s : State) (n : Nat) (v : Word), s.blk.held = false ∧ s.blk.crosses .managementPort = true ∧ n <
    s.env.build.bridgePorts ∧ n < 16 ∧
    let k := s.blk.applyWrite .D2D_CTL 0 [n] v
    k.portEnabled true n = true ∧ flag v 1 = true) :=
  ⟨⟨st (bridge 1), 0, by decide +kernel⟩,
   ⟨st { rst.resync := [.bridge 0] }, 0, by decide +kernel⟩,
   ⟨small, 15, by decide +kernel⟩,
   ⟨st ((bridge 3).setBit .D2D_STAT 2 0 [0]), 0, by decide +kernel⟩,
   ⟨st ((bridge 2).setPort true 0 { init := some (40, 6, false, []) }), 0, controlField 4 5, controlField 4 (2 ^ 16
     + 6 * 2 ^ 9), by decide +kernel⟩,
   ⟨st (bridge 2), 0, controlField 4 5, controlField 4 (2 ^ 16 + 6 * 2 ^ 9), by decide +kernel⟩,
   ⟨st (bridge 2), 0, controlField 4 5, controlField 4 (2 ^ 16) + 1, by decide +kernel⟩,
   ⟨st (bridge 2), 0, by decide +kernel⟩,
   ⟨st (bridge 3), 0, 0x1A0021 - 1 + controlParity 0x1A0020, by decide +kernel⟩,
   ⟨st {}, 15, 1, by decide +kernel⟩,
   ⟨st {}, 15, 1, by decide +kernel⟩,
   ⟨st (bridge 3), 0, 0, by decide +kernel⟩,
   ⟨st (bridge 3), 0, 3, by decide +kernel⟩⟩

/-- The hypotheses of BringUpAndHeartbeats are met, clause by clause. -/
theorem witness_BringUpAndHeartbeats :
  (∃ (s : State) (v : Word), s.blk.held = false ∧ s.blk.crosses .managementPort = true ∧ flag v 0 = false ∧ flag v
    1 = true) ∧
  (∃ (s : State), s.blk.held = false ∧ s.blk.rst.enumerating = true ∧ flag (s.blk.reg .RST_STAT) 8 = true) ∧
  (∃ (k : Block), k.rf .GLB_MORTAR 8 0 = 0) ∧
  (∃ (s : State), s.blk.held = false ∧ s.blk.rst.enumerating = false) ∧
  (∃ (s : State) (f : Int), s.blk.held = false ∧ f.natAbs ≤ 1000) ∧
  (∃ (s : State) (f : Int), s.blk.held = false ∧ 1000 < f.natAbs ∧ flag (s.blk.reg .CLK_STAT) 32 = false) ∧
  (∃ (s : State) (x : Boundary), s.blk.held = false ∧ boundaryOk s.env.build x = true ∧ s.blk.watched x = true ∧
    s.blk.rst.stopped.contains x = false) ∧
  (∃ (s : State) (x : Boundary), s.blk.held = false ∧ boundaryOk s.env.build x = true ∧ s.blk.rst.stopped.contains
    x = true) ∧
  (∃ (s : State) (x : Boundary), s.blk.held = false ∧ boundaryOk s.env.build x = true ∧ atLocalPort x = false ∧
    atLane x = false ∧ s.blk.rst.stopped.contains x = true) ∧
  (∃ (s : State) (p l : Nat), s.blk.held = false ∧ p < s.env.build.lanePorts ∧ l < 4 ∧ s.blk.rst.stopped.contains
    (.lane p l) = true) ∧
  (∃ (k : Block) (p l : Nat), k.rst.stopped.contains (.lane p l) = true ∧ k.laneState p l = laneLocked) ∧
  (∃ (s : State) (b : Nat), Ready s b ∧ lpBuilt s.env.build b = true ∧ s.blk.rst.stopped.contains (.localPort b) =
    true ∧ s.blk.lpState b = 2 ∧ s.blk.isolated b = false ∧ s.blk.rst.clusterUp.contains b = true) ∧
  (∃ (s : State) (b : Nat), Ready s b ∧ lpBuilt s.env.build b = true ∧ s.blk.lpState b = 3 ∧
    s.blk.rst.stopped.contains (.localPort b) = false) ∧
  (∃ (s : State) (x : Boundary), s.blk.held = false ∧ boundaryOk s.env.build x = true ∧ atLocalPort x = false ∧
    atBridge x = false ∧ s.blk.rst.stopped.contains x = false) ∧
  (∃ (s : State) (n : Nat), s.blk.held = false ∧ boundaryOk s.env.build (.bridge n) = true ∧
    s.blk.rst.stopped.contains (.bridge n) = false) ∧
  (∃ (s : State) (x : Boundary), s.blk.held = false ∧ boundaryOk s.env.build x = true ∧ s.blk.rst.stopped.contains
    x = true) :=
  ⟨⟨st {}, 2, by decide +kernel⟩,
   ⟨st (({ rst.enumerating := true } : Block).setBit .RST_STAT 8), by decide +kernel⟩,
   ⟨{}, by decide +kernel⟩,
   ⟨st {}, by decide +kernel⟩,
   ⟨st {}, -1000, by decide +kernel⟩,
   ⟨st {}, 1001, by decide +kernel⟩,
   ⟨st opn, .localPort 0, by decide +kernel⟩,
   ⟨st { rst.stopped := [.localPort 0] }, .localPort 0, by decide +kernel⟩,
   ⟨st { rst.stopped := [.bridge 0] }, .bridge 0, by decide +kernel⟩,
   ⟨st { rst.stopped := [.lane 0 3] }, 0, 3, by decide +kernel⟩,
   ⟨(lane 3 3 { rst.stopped := [.lane 0 0] }), 0, 0, by decide +kernel⟩,
   ⟨st ({ rst.stopped := [.localPort 0], rst.clusterUp := [0] } : Block), 0, by decide +kernel⟩,
   ⟨st (({} : Block).setRf .RST_BRK 7 6 0 [] 3), 0, by decide +kernel⟩,
   ⟨st { rst.resync := [.managementPort] }, .managementPort, by decide +kernel⟩,
   ⟨st (bridge 1 { rst.resync := [.bridge 0] }), 0, by decide +kernel⟩,
   ⟨st { rst.stopped := [.voltage] }, .voltage, by decide +kernel⟩⟩

/-- The hypotheses of ChannelsAreAnswered are met, clause by clause. -/
theorem witness_ChannelsAreAnswered :
  (∃ (s : State) (b : Nat) (p : Packet) (r : List Packet), Ready s b ∧ s.blk.headGood b 0 1 p r ∧ p.op = opAck ∧
    0xFC0 ≤ p.group) ∧
  (∃ (k : Block) (b c t : Nat) (p : Packet) (m : SentMsg), (k.chan b c).unacked = [m] ∧ m.trk = some t ∧
    m.residual = false ∧ (natAt p.payload 36 1).testBit 0 = true ∧ before16 m.seq (natAt p.payload 0 4) = true) ∧
  (∃ (s : State) (b : Nat) (p : Packet) (r : List Packet), Ready s b ∧ s.blk.headGood b 0 1 p r ∧ p.op = opNack ∧
    0xFC0 ≤ p.group ∧ (s.blk.chan b (p.tracker % 1024)).unacked.any (fun m => m.seq == p.pseq) = true) ∧
  (∃ (s : State) (b : Nat) (p : Packet) (r : List Packet) (m : SentMsg), Ready s b ∧ s.blk.headGood b 0 1 p r ∧
    p.op = opError ∧ 0xFC0 ≤ p.group ∧ (s.blk.chan b (p.tracker % 1024)).unacked.find? (fun m => m.seq ==
    p.pseq) = some m ∧ ((statusOf p.status = stStaleEpoch ∨ statusOf p.status = stClosed ∨ statusOf p.status =
    stNoRoute))) ∧
  (∃ (s : State) (b t : Nat) (p : Packet) (r : List Packet) (m : SentMsg), Ready s b ∧ s.blk.headGood b 0 1 p r ∧
    p.op = opError ∧ 0xFC0 ≤ p.group ∧ statusOf p.status = stFenced ∧ (s.blk.chan b (p.tracker %
    1024)).unacked.find? (fun m => m.seq == p.pseq) = some m ∧ m.trk = some t ∧ m.residual = false) ∧
  (∃ (s : State) (b c : Nat), Ready s b ∧ c < 1024) ∧
  (∃ (s : State) (b c : Nat), Ready s b ∧ c < 1024 ∧ (s.blk.chan b c).unacked ≠ []) ∧
  (∃ (s : State) (b c : Nat), Ready s b ∧ c < 1024 ∧ (s.blk.chan b c).unacked = []) :=
  ⟨⟨st (rx 0 (pk 11 5 1 { group := 0xFC0 })), 0, pk 11 5 1 { group := 0xFC0 }, [], by decide +kernel⟩,
   ⟨(chn { st := .opened, unacked := [{ seq := 0, data := [], addr := 0, trk := some 3 }] }), 0, 0, 3,
     { payload := leBytes 4 1 ++ List.replicate 32 0 ++ [1, 0, 0, 0] },
     { seq := 0, data := [], addr := 0, trk := some 3 }, by decide +kernel⟩,
   ⟨st (rx 0 (pk 12 5 1 { group := 0xFC0 }) (chn { st := .opened, unacked := [{ seq := 0, data := [] }] })), 0, pk
     12 5 1 { group := 0xFC0 }, [], by decide +kernel⟩,
   ⟨st (rx 0 (pk 18 7 1 { group := 0xFFF, status := 2 }) (chn
     { st := .opened, unacked := [{ seq := 0, data := [] }] })), 0, pk 18 7 1 { group := 0xFFF, status := 2 }, [],
     { seq := 0, data := [] }, by decide +kernel⟩,
   ⟨st (rx 0 (pk 18 7 1 { group := 0xFC0, status := stFenced }) (chn
     { st := .opened, unacked := [{ seq := 0, data := [], addr := 0, trk := some 3 }] })), 0, 3, pk 18 7 1
     { group := 0xFC0, status := stFenced }, [], { seq := 0, data := [], addr := 0, trk := some 3 }, by decide +kernel⟩,
   ⟨st {}, 0, 1023, by decide +kernel⟩,
   ⟨st (chn { st := .opened, unacked := [{ seq := 0, data := [] }] }), 0, 0, by decide +kernel⟩,
   ⟨st {}, 0, 1023, by decide +kernel⟩⟩

/-- The hypotheses of CheckPassJudgesTheImage are met, clause by clause. -/
theorem witness_CheckPassJudgesTheImage :
  (∃ (s : State), s.blk.held = false ∧ s.blk.crosses .managementPort = true ∧ s.blk.img.st ≠ .checking ∧
    s.blk.img.st ≠ .quiescing ∧ s.blk.img.st ≠ .writing) ∧
  (∃ (s : State), s.blk.held = false ∧ s.blk.crosses .managementPort = true ∧ ((s.blk.img.st = .checked ∨
    s.blk.img.st = .rejected ∨ s.blk.img.st = .checking))) ∧
  (∃ (s : State), s.blk.held = false ∧ s.blk.crosses .managementPort = true ∧ s.blk.img.st = .checking ∧
    s.blk.img.cur.length + 8 < 64) ∧
  (∃ (s : State) (v : Word), s.blk.held = false ∧ s.blk.crosses .managementPort = true ∧ s.blk.img.st =
    .checking ∧
    let img := s.blk.img.cur ++ leBytes 8 v.toNat
    64 ≤ img.length ∧ ((headerCodes s.env.build img ≠ [] ∨ imgLength img ≤ img.length)) ∧ ∃ (code sec brick : _),
      checkImage s.env.build (s.blk.rf .GPD_CTL 4 0) (s.blk.anyIdle s.env.build) img = some (code, sec, brick)) ∧
  (∃ (s : State) (v : Word), s.blk.held = false ∧ s.blk.crosses .managementPort = true ∧ s.blk.img.st =
    .checking ∧
    let img := s.blk.img.cur ++ leBytes 8 v.toNat
    64 ≤ img.length ∧ imgLength img ≤ img.length ∧ checkImage s.env.build (s.blk.rf .GPD_CTL 4 0) (s.blk.anyIdle
      s.env.build) img = none) ∧
  (∃ (s : State) (data : List Byte), Ready s 0 ∧ s.blk.img.cur = [] ∧ s.blk.img.st = .checking ∧ data.length = 64) ∧
  (∃ (s : State) (b : Nat) (data : List Byte), Ready s b ∧ s.blk.img.cur ≠ [] ∧ s.blk.img.st = .checking ∧ 16 ≤
    data.length ∧ b = (if natAt data 2 2 = 0xFFFF then 0 else natAt data 2 2)) ∧
  (∃ (s : State) (b : Nat) (data : List Byte), Ready s b ∧ s.blk.img.cur ≠ [] ∧ b ≠ (if natAt data 2 2 = 0xFFFF
    then 0 else natAt data 2 2)) :=
  ⟨⟨st {}, by decide +kernel⟩,
   ⟨st checking, by decide +kernel⟩,
   ⟨st { img := { st := .checking, cur := image.take 48 } }, by decide +kernel⟩,
   ⟨st checking, 0, by decide +kernel, by decide +kernel, by decide +kernel, by decide +kernel, by decide +kernel, 3, 0, 0xFFFF, by decide +kernel⟩,
   ⟨st checking, lastWord image, by decide +kernel⟩,
   ⟨st { img.st := .checking }, image, by decide +kernel⟩,
   ⟨st { img := { st := .checking, cur := image } }, 17, [2, 0, 17, 0] ++ List.replicate 12 0, by decide +kernel⟩,
   ⟨st checking, 1, [2, 0, 17, 0], by decide +kernel⟩⟩

/-- The hypotheses of CountersAddAndStreamsRestart are met, clause by clause. -/
theorem witness_CountersAddAndStreamsRestart :
  (∃ (s : State) (b u c n : Nat) (evt : Bool), Ready s b ∧ streamOk u = true ∧ s.blk.ctlFetch b u = some (.signal
    c n, evt)) ∧
  (∃ (s : State) (via : Via) (b c : Nat), Ready s b ∧ c < 256 ∧ s.blk.viaOpen s.env.build b via = true ∧
    (s.blk.countTick b c).rank ≤ setRankOf via) ∧
  (∃ (s : State) (via : Via) (b c : Nat), Ready s b ∧ c < 256 ∧ s.blk.viaOpen s.env.build b via = true ∧ setRankOf
    via < (s.blk.countTick b c).rank) ∧
  (∃ (s : State) (via : Via) (b c : Nat), s.blk.held = false ∧ s.blk.mpShut via = false ∧ (brickOk s.env.build b =
    false ∨ 256 ≤ c)) ∧
  (∃ (s : State) (via : Via) (b c : Nat), Ready s b ∧ c < 256 ∧ s.blk.viaOpen s.env.build b via = true) ∧
  (∃ (s : State) (b u c en n t : Nat) (evt : Bool), Ready s b ∧ streamOk u = true ∧ en < 4096 ∧ s.blk.ctlFetch b
    u = some (.signalR c en n, evt) ∧ s.blk.freePool b = some t) ∧
  (∃ (s : State) (b u c en n : Nat) (evt : Bool), Ready s b ∧ streamOk u = true ∧ en < 4096 ∧ s.blk.ctlFetch b u =
    some (.signalR c en n, evt) ∧ s.blk.freePool b = none) ∧
  (∃ (s : State) (b u c en n : Nat) (evt : Bool), Ready s b ∧ u < 16 ∧ 4096 ≤ en ∧ s.blk.ctlFetch b u = some
    (.signalR c en n, evt)) ∧
  (∃ (s : State) (b u : Nat), Ready s b ∧ u < 16 ∧ (s.blk.stream b u).st = .running ∧ (s.blk.stream b u).hold =
    .none ∧ wordLegal u (s.blk.progWord b u (s.blk.stream b u).pc) = false) ∧
  (∃ (s : State) (b u : Nat), Ready s b ∧ streamOk u = true ∧ (s.blk.stream b u).st = .running ∧ (s.blk.stream b
    u).hold = .none) ∧
  (∃ (s : State) (b u : Nat), Ready s b ∧ memoryOk u = true ∧ s.blk.isolated b = false) ∧
  (∃ (s : State) (b u : Nat), Ready s b ∧ u < 16 ∧ (s.blk.stream b u).st = .running ∧ (s.blk.stream b u).hold =
    .none ∧ (s.blk.failures s.blk.prog.memFaults (b * 2 * 4096 + (s.blk.stream b u).pc) 1000000).1 < 2) ∧
  (∃ (s : State) (b u : Nat), Ready s b ∧ u < 16 ∧ (s.blk.stream b u).st = .waiting) ∧
  (∃ (s : State) (b u : Nat) (v : Word), Ready s b ∧ s.blk.crosses .managementPort = true ∧ streamOk u = true ∧
    flag v 63 = true ∧ ((s.blk.stream b u).st = .halted ∨ (s.blk.stream b u).st = .faulted)) :=
  ⟨⟨st (prog 0xC200050000000007), 0, 0, 5, 7, false, by decide +kernel⟩,
   ⟨st opn, .lp 5 6, 0, 255, by decide +kernel⟩,
   ⟨st ((opn).counterSet 0 255 3 7), .lp 5 6, 0, 255, by decide +kernel⟩,
   ⟨st {}, .mp, 0, 256, by decide +kernel⟩,
   ⟨st {}, .mp, 0, 255, by decide +kernel⟩,
   ⟨st (prog 0xC201030ABC000009), 0, 0, 3, 0xABC, 9, 896, false, by decide +kernel⟩,
   ⟨st (busyPool (prog 0xC201030ABC000009)), 0, 0, 3, 0xABC, 9, false, by decide +kernel⟩,
   ⟨st (prog 0xC201031000000009), 0, 0, 3, 0x1000, 9, false, by decide +kernel⟩,
   ⟨st (prog 0), 0, 0, by decide +kernel⟩,
   ⟨st (prog 0), 0, 0, by decide +kernel⟩,
   ⟨st {}, 0, 0x208, by decide +kernel⟩,
   ⟨st (prog 0), 0, 0, by decide +kernel⟩,
   ⟨st (prog 0 { st := .waiting, wcnt := 5, wtarget := 9 }), 0, 0, by decide +kernel⟩,
   ⟨st (prog 0 { st := .faulted }), 0, 0, 0x8000000000000000, by decide +kernel⟩⟩

/-- The hypotheses of CourseInstructionsRun are met, clause by clause. -/
theorem witness_CourseInstructionsRun :
  (∃ (s : State) (b p a i n fl m : Nat), Ready s b ∧ p < 8 ∧ s.blk.courseNext s.env.build b p = some (a, .connect
    i n fl m) ∧ s.blk.windowComes s.env.build b p = true) ∧
  (∃ (s : State) (b p a n : Nat), Ready s b ∧ p < 8 ∧ s.blk.courseNext s.env.build b p = some (a, .idle n) ∧
    s.blk.windowComes s.env.build b p = true) ∧
  (∃ (s : State) (b p a n : Nat), Ready s b ∧ p < 8 ∧ s.blk.courseNext s.env.build b p = some (a, .shared n) ∧ n ≠
    0 ∧ s.blk.windowComes s.env.build b p = true) ∧
  (∃ (s : State) (b p a : Nat), Ready s b ∧ p < 8 ∧ s.blk.courseNext s.env.build b p = some (a, .shared 0) ∧
    s.blk.windowComes s.env.build b p = true) ∧
  (∃ (s : State) (b p a : Nat) (i : CourseInstr) (w : CourseWindow), Ready s b ∧ p < 8 ∧ timeTimed s.env.build b
    p = false ∧ s.blk.courseNext s.env.build b p = some (a, i) ∧ (s.blk.seqOf b p).ahead = false ∧
    let l := s.blk.traceNow b p
    let start := traceSlots (l.take (s.blk.seqOf b p).at_)
    windowOf start a i = some w ∧ ((w.slots ≠ 0 ∨ ∀ x ∈ l.drop ((s.blk.seqOf b p).at_ + 1), courseSlots x.2 =
      none)) ∧ s.blk.clk.cyc ≤ start ∧ start < s.blk.clk.cyc + s.blk.clk.toBoundary) ∧
  (∃ (s : State) (b p a c n : Nat), Ready s b ∧ p < 8 ∧ s.blk.courseNext s.env.build b p = some (a, .sync c n)) ∧
  (∃ (s : State) (b p n c a x : Nat), Ready s b ∧ p < 8 ∧ s.blk.courseNext s.env.build b p = some (x, .idle n) ∧
    s.blk.windowComes s.env.build b p = true ∧ s.blk.late = [] ∧ (s.blk.seqOf b p).owed = [(c, a)]) ∧
  (∃ (s : State) (b p a n body : Nat), Ready s b ∧ p < 8 ∧ s.blk.courseNext s.env.build b p = some (a, .rep n
    body)) ∧
  (∃ (pre body : List (Nat × CourseInstr)), ((∀ x ∈ pre ++ body, ∀ m c, x.2 ≠ .rep m c))) ∧
  (∃ (s : State) (b p a : Nat) (w : Bool), Ready s b ∧ p < 8 ∧ s.blk.courseNext s.env.build b p = some (a, .mark
    w) ∧ (s.blk.seqOf b p).ahead = false) ∧
  (∃ (s : State) (b p : Nat), Ready s b ∧ p < 8) ∧
  (∃ (s : State) (b p : Nat), Ready s b ∧ p < 8) :=
  ⟨⟨st (crs [.connect 0 4000 1 2]), 0, 1, 0, 0, 4000, 1, 2, by decide +kernel⟩,
   ⟨st (crs [.idle 200]), 0, 1, 0, 200, by decide +kernel⟩,
   ⟨st (crs [.shared 200]), 0, 1, 0, 200, by decide +kernel⟩,
   ⟨st (crs [.shared 0]), 0, 1, 0, by decide +kernel⟩,
   ⟨st (crs [.idle 3, .shared 0] { at_ := 1 }), 0, 1, 1, .shared 0,
     { kind := .closing, first := 3, slots := 0, addr := 1 }, by decide +kernel⟩,
   ⟨st (crs [.sync 255 7]), 0, 1, 0, 255, 7, by decide +kernel⟩,
   ⟨st (crs [.idle 3] { owed := [(255, 7)] }), 0, 1, 3, 255, 7, 0, by decide +kernel⟩,
   ⟨st (crs [.idle 3, .rep 2 1] { at_ := 1 }), 0, 1, 1, 2, 1, by decide +kernel⟩,
   ⟨[(0, .idle 1)], [(1, .idle 2)], by simp⟩,
   ⟨st (crs [.mark true]), 0, 1, 0, true, by decide +kernel⟩,
   ⟨st {}, 0, 7, by decide +kernel⟩,
   ⟨st {}, 0, 7, by decide +kernel⟩⟩

/-- The hypotheses of CoursesBeginAtBoundaries are met, clause by clause. -/
theorem witness_CoursesBeginAtBoundaries :
  (∃ (s : State), s.blk.held = false ∧ s.blk.clk.setHeld = none ∧ s.blk.rst.ramped = []) ∧
  (∃ (s : State) (fclks : Nat), s.blk.held = false ∧ fclks ≠ s.blk.clk.cyc + s.blk.clk.toBoundary) ∧
  (∃ (s : State), s.blk.held = false ∧ s.blk.img.written = true ∧ s.blk.net.target ≤ s.blk.clk.course + 1) ∧
  (∃ (k : Block) (d : Build) (b p : Nat), k.runsCourse d b p = false ∧ timeTimed d b p = true) ∧
  (∃ (k : Block) (d : Build) (fclks b p : Nat), k.runsCourse d b p = false ∧ timeTimed d b p = false ∧ 4792 ≤
    fclks ∧ fclks ≤ 4808) ∧
  (∃ (k : Block) (d : Build) (fclks b p : Nat), k.runsCourse d b p = false ∧ timeTimed d b p = false ∧ ((fclks <
    4792 ∨ 4808 < fclks))) ∧
  (∃ (k : Block) (d : Build) (b p : Nat), k.runsCourse d b p = true ∧ timeTimed d b p = true ∧ (k.seqOf b
    p).ahead = true) ∧
  (∃ (k : Block) (d : Build) (n fclks b p : Nat) (adds owed : List (Nat × Nat)) (cut : Bool), k.runsCourse d b p =
    true ∧ timeTimed d b p = false ∧ 4792 ≤ fclks ∧ fclks ≤ 4808 ∧ (k.seqOf b p).ahead = false ∧
    let v := k.seqOf b p
    let tr := k.traceOf b p n
    finishTrace (fun c => decide (c < fclks)) (traceSlots (tr.take v.at_)) [] v.owed (tr.drop v.at_) = (adds, owed,
      cut)) :=
  ⟨⟨st {}, by decide +kernel⟩,
   ⟨st {}, 4799, by decide +kernel⟩,
   ⟨st { img.written := true }, by decide +kernel⟩,
   ⟨{}, small, 0, 7, by decide +kernel⟩,
   ⟨{}, small, 4792, 0, 1, by decide +kernel⟩,
   ⟨{}, small, 4809, 0, 1, by decide +kernel⟩,
   ⟨{ img.run := true, net.courseProg := [(14, [BitVec.ofNat 64 (encodeCourse (.shared 0))])], net.seq := [(7, { ahead := true })] },
     small, 0, 7, by decide +kernel⟩,
   ⟨crs [.idle 4, .sync 3 5, .shared 0] { at_ := 1, owed := [(1, 2)] }, small, 5, 4808, 0, 1, [(1, 2), (3, 5)], [],
     false, by decide +kernel⟩⟩

/-- The hypotheses of CreditsOpenAndFeedChannels are met, clause by clause. -/
theorem witness_CreditsOpenAndFeedChannels :
  (∃ (s : State) (b : Nat) (p : Packet) (r : List Packet), Ready s b ∧ s.blk.headGood b 0 1 p r ∧ p.op = opCredit) ∧
  (∃ (k : Block) (b c : Nat) (p : Packet), k.chanSteer b c = false ∧ k.chanOn b c = true ∧ p.src = k.chanDst b c ∧
    p.group % 64 = k.rf .MQ_CHCFG 48 43 b [c] ∧ natAt p.payload 2 1 = 1 ∧ (k.chan b c).st = .idle) ∧
  (∃ (k : Block) (b c : Nat) (p : Packet), k.chanSteer b c = false ∧ k.chanOn b c = true ∧ p.src = k.chanDst b c ∧
    p.group % 64 = k.rf .MQ_CHCFG 48 43 b [c] ∧ natAt p.payload 2 1 = 1 ∧ (k.chan b c).st = .opened ∧ p.cseq =
    (k.chan b c).epoch ∧ serialLe 16 (k.chan b c).limit (natAt p.payload 0 2) = true) ∧
  (∃ (k : Block) (b c : Nat) (p : Packet), k.chanSteer b c = false ∧ k.chanOn b c = true ∧ p.src = k.chanDst b c ∧
    p.group % 64 = k.rf .MQ_CHCFG 48 43 b [c] ∧ natAt p.payload 2 1 = 1 ∧ (k.chan b c).st = .closed ∧ epochNewer
    p.cseq (k.chan b c).epoch = false) ∧
  (∃ (k : Block) (b c : Nat) (p : Packet), k.chanSteer b c = false ∧ p.src = k.chanDst b c ∧ p.group % 64 = k.rf
    .MQ_CHCFG 48 43 b [c] ∧ natAt p.payload 2 1 = 1 ∧ (k.chan b c).st = .opened ∧ p.cseq ≠ (k.chan b c).epoch ∧
    epochNewer p.cseq (k.chan b c).epoch = true) ∧
  (∃ (k : Block) (b c : Nat) (p : Packet), k.chanSteer b c = false ∧ p.src = k.chanDst b c ∧ p.group % 64 = k.rf
    .MQ_CHCFG 48 43 b [c] ∧ natAt p.payload 2 1 = 1 ∧ (k.chan b c).st = .opened ∧ p.cseq ≠ (k.chan b c).epoch ∧
    epochNewer p.cseq (k.chan b c).epoch = false) ∧
  (∃ (k : Block) (b c : Nat) (p : Packet), k.chanSteer b c = false ∧ p.src = k.chanDst b c ∧ p.group % 64 = k.rf
    .MQ_CHCFG 48 43 b [c] ∧ natAt p.payload 2 1 = 2 ∧ (k.chan b c).st = .opened ∧ ((p.cseq = (k.chan b c).epoch ∨
    epochNewer p.cseq (k.chan b c).epoch = true))) ∧
  (∃ (k : Block) (b c : Nat) (p : Packet), k.chanSteer b c = false ∧ p.src = k.chanDst b c ∧ p.group % 64 = k.rf
    .MQ_CHCFG 48 43 b [c] ∧ natAt p.payload 2 1 = 2 ∧ (k.chan b c).st = .opened ∧ p.cseq ≠ (k.chan b c).epoch ∧
    epochNewer p.cseq (k.chan b c).epoch = false) ∧
  (∃ (k : Block) (b c : Nat) (p : Packet), k.chanSteer b c = false ∧ p.src = k.chanDst b c ∧ p.group % 64 = k.rf
    .MQ_CHCFG 48 43 b [c] ∧ natAt p.payload 2 1 = 2 ∧ (k.chan b c).st ≠ .opened) ∧
  (∃ (k : Block) (b c : Nat) (p : Packet), k.chanSteer b c = false ∧ p.src = k.chanDst b c ∧ p.group % 64 = k.rf
    .MQ_CHCFG 48 43 b [c] ∧ natAt p.payload 2 1 = 1 ∧ (k.chan b c).st = .closed ∧ epochNewer p.cseq (k.chan b
    c).epoch = true) ∧
  (∃ (k : Block) (b c : Nat), (k.chan b c).unacked = [] ∧ (k.waits b).any (fun w => w.chan == c) = false) ∧
  (∃ (k : Block) (b c : Nat) (p : Packet), ((k.chanSteer b c = true ∨ p.src ≠ k.chanDst b c ∨ p.group % 64 ≠ k.rf
    .MQ_CHCFG 48 43 b [c]))) ∧
  (∃ (s : State) (via : Via) (b : Nat), Ready s b ∧ s.blk.viaOpen s.env.build b via = true) ∧
  (∃ (k : Block) (b : Nat) (w : Word),
    let q := fld w 52 47
    (k.queue b q).grants = []) ∧
  (∃ (k : Block) (b : Nat) (w : Word),
    let v := k.queue b (fld w 52 47)
    let mine (g : Grant) : Bool := g.brick == fld w 36 10 && g.chan == fld w 46 37
    v.grants.any mine = true) ∧
  (∃ (k : Block) (b : Nat) (w : Word),
    let v := k.queue b (fld w 52 47)
    let mine (g : Grant) : Bool := g.brick == fld w 36 10 && g.chan == fld w 46 37
    v.grants.any mine = false ∧ 16 ≤ v.grants.length) ∧
  (∃ (s : State) (b q : Nat), Ready s b ∧ q < 64) ∧
  (∃ (s : State) (b q : Nat), Ready s b ∧ q < 64) :=
  ⟨⟨st (rx 0 (pk 10 5 1 { payload := List.replicate 8 0 })), 0, pk 10 5 1 { payload := List.replicate 8 0 }, [],
     by decide +kernel⟩,
   ⟨chn {}, 0, 0, { src := 1, cseq := 3, payload := [5, 0, 1] }, by decide +kernel⟩,
   ⟨chn { st := .opened }, 0, 0, { src := 1, payload := [5, 0, 1] }, by decide +kernel⟩,
   ⟨chn { st := .closed, epoch := 3 }, 0, 0, { src := 1, cseq := 3, payload := [5, 0, 1] }, by decide +kernel⟩,
   ⟨chn { st := .opened }, 0, 0, { src := 1, cseq := 1, payload := [5, 0, 1] }, by decide +kernel⟩,
   ⟨chn { st := .opened, epoch := 3 }, 0, 0, { src := 1, cseq := 1, payload := [5, 0, 1] }, by decide +kernel⟩,
   ⟨chn { st := .opened }, 0, 0, { src := 1, cseq := 1, payload := [5, 0, 2] }, by decide +kernel⟩,
   ⟨chn { st := .opened, epoch := 3 }, 0, 0, { src := 1, cseq := 1, payload := [5, 0, 2] }, by decide +kernel⟩,
   ⟨chn {}, 0, 0, { src := 1, payload := [5, 0, 2] }, by decide +kernel⟩,
   ⟨chn { st := .closed, epoch := 3 }, 0, 0, { src := 1, cseq := 4, payload := [5, 0, 1] }, by decide +kernel⟩,
   ⟨chn { st := .opened }, 0, 0, by decide +kernel⟩,
   ⟨chn {}, 0, 0, { src := 9 }, by decide +kernel⟩,
   ⟨st {}, .mp, 0, by decide +kernel⟩,
   ⟨{}, 0, 0x0FC0000000000000, by decide +kernel⟩,
   ⟨que 0x8000000000000000 { grants := [{ brick := 0, chan := 0 }] }, 0, 0x0040000000000000, by decide +kernel⟩,
   ⟨que 0x8000000000000000 { grants := List.replicate 16 { brick := 1, chan := 0 } }, 0, 0, by decide +kernel⟩,
   ⟨st {}, 0, 63, by decide +kernel⟩,
   ⟨st {}, 0, 63, by decide +kernel⟩⟩

/-- The hypotheses of DataPacketsAreTakenByTheirTracker are met, clause by clause. -/
theorem witness_DataPacketsAreTakenByTheirTracker :
  (∃ (s : State) (b : Nat) (p : Packet) (r : List Packet), Ready s b ∧ s.blk.headGood b 0 0 p r ∧ p.op = opWrite ∧
    (s.blk.setRx b 0 r).recOf b p.addr .forward = none ∧ (s.blk.setRx b 0 r).recOf b p.addr .logwait = none) ∧
  (∃ (s : State) (b m : Nat) (p : Packet) (r : List Packet), Ready s b ∧ s.blk.headGood b 0 0 p r ∧ p.op =
    opWrite ∧ (s.blk.setRx b 0 r).recOf b p.addr .forward = some m) ∧
  (∃ (s : State) (b : Nat) (p : Packet) (r : List Packet), Ready s b ∧ s.blk.headGood b 0 0 p r ∧ p.op = opChunk) ∧
  (∃ (s : State) (b : Nat) (p : Packet) (r : List Packet), Ready s b ∧ s.blk.headGood b 0 0 p r ∧ p.op = opMcast) ∧
  (∃ (s : State) (b : Nat) (p : Packet) (r : List Packet), Ready s b ∧ s.blk.headGood b 0 0 p r ∧ p.op =
    opReadReq ∧ p.plen = 8 ∧ (s.blk.setRx b 0 r).recOf b p.addr .forward = none ∧ (s.blk.setRx b 0 r).recOf b
    p.addr .logwait = none ∧ (look [] s.blk.xfr.requests b).length + s.blk.answering s.env.build b 0 opReadResp <
    requestDepth) ∧
  (∃ (s : State) (b : Nat) (p : Packet) (r : List Packet), Ready s b ∧ s.blk.headGood b 0 0 p r ∧ p.op =
    opReadReq ∧ p.plen = 8 ∧ (s.blk.setRx b 0 r).recOf b p.addr .forward = none ∧ (s.blk.setRx b 0 r).recOf b
    p.addr .logwait = none ∧ requestDepth ≤ (look [] s.blk.xfr.requests b).length + s.blk.answering s.env.build b
    0 opReadResp) ∧
  (∃ (s : State) (b : Nat) (p : Packet) (r : List Packet) (off len : Nat), Ready s b ∧ s.blk.headGood b 0 1 p r ∧
    p.op = opReadResp ∧ s.blk.lpOpen b = true ∧
    let t := p.tracker % 1024
    let v := s.blk.tracker b t
    v.isDest = false ∧ v.st = .source ∧ v.op = .rload ∧ p.pcount = v.pcount ∧ v.b ≤ p.pseq ∧ v.seen.contains
      p.pseq = false ∧ p.pseq < v.issued ∧ v.pieces.getD p.pseq (0, 0) = (off, len) ∧ p.payload.length = len) ∧
  (∃ (s : State) (b : Nat) (p : Packet) (r : List Packet) (k : Block), Ready s b ∧ s.blk.headGood b 0 1 p r ∧
    p.op = opCounter ∧ p.plen = 8 ∧ (s.blk.setRx b 0 r).arriveOnce b (p.src, p.tracker) = (some true, k)) ∧
  (∃ (s : State) (b : Nat) (p : Packet) (r : List Packet) (k : Block), Ready s b ∧ s.blk.headGood b 0 1 p r ∧
    p.op = opCounter ∧ p.plen = 8 ∧ (s.blk.setRx b 0 r).arriveOnce b (p.src, p.tracker) = (some false, k)) ∧
  (∃ (p : Packet), headerCheck p ≠ .good) ∧
  (∃ (k : Block) (b ep : Nat) (p : Packet) (rule : Bool), headerCheck p = .good ∧ deliveredRight b ep rule p =
    false ∧ k.strayEnd b ep p = false) ∧
  (∃ (k : Block) (b ep : Nat) (p : Packet), headerCheck p = .good ∧ k.strayEnd b ep p = true) ∧
  (∃ (k : Block) (b ep : Nat) (p : Packet) (rule : Bool), headerCheck p = .good ∧ deliveredRight b ep rule p =
    true ∧ k.strayEnd b ep p = false ∧ payloadOk p = false) ∧
  (∃ (p : Packet), 512 ≤ p.tracker % 1024) ∧
  (∃ (k : Block) (b : Nat) (p : Packet), p.tracker % 1024 < 512 ∧ flag (k.binding b (p.tracker % 1024)) 63 =
    true ∧ (k.tracker b (p.tracker % 1024)).st = .idle ∧ p.pseq < 256) ∧
  (∃ (k : Block) (b : Nat) (p : Packet), p.tracker % 1024 < 512 ∧ (k.tracker b (p.tracker % 1024)).st = .dest ∧
    (p.src, p.pcount) ≠ ((k.tracker b (p.tracker % 1024)).owner, (k.tracker b (p.tracker % 1024)).pcount)) ∧
  (∃ (k : Block) (b : Nat) (p : Packet), p.tracker % 1024 < 512 ∧ (k.tracker b (p.tracker % 1024)).st = .dest ∧
    (p.src, p.pcount) = ((k.tracker b (p.tracker % 1024)).owner, (k.tracker b (p.tracker % 1024)).pcount) ∧ p.pseq
    < (k.tracker b (p.tracker % 1024)).b) ∧
  (∃ (k : Block) (b : Nat) (p : Packet), p.tracker % 1024 < 512 ∧ (k.tracker b (p.tracker % 1024)).st = .dest ∧
    (p.src, p.pcount) = ((k.tracker b (p.tracker % 1024)).owner, (k.tracker b (p.tracker % 1024)).pcount) ∧
    (k.tracker b (p.tracker % 1024)).seen.contains p.pseq = false ∧ (k.tracker b (p.tracker % 1024)).b + 256 ≤
    p.pseq) ∧
  (∃ (k : Block) (b : Nat) (p : Packet), p.tracker % 1024 < 512 ∧ flag (k.binding b (p.tracker % 1024)) 63 =
    true ∧ (k.tracker b (p.tracker % 1024)).st = .idle ∧ 256 ≤ p.pseq) ∧
  (∃ (k : Block) (b : Nat) (p : Packet), k.arrival b p = .window) ∧
  (∃ (k : Block) (b : Nat) (p : Packet), k.arrival b p = .clash) ∧
  (∃ (k : Block) (b : Nat) (p : Packet), k.arrival b p = .untracked) ∧
  (∃ (k : Block) (b : Nat) (p : Packet), k.arrival b p = .accept ∧
    let t := p.tracker % 1024
    (k.tracker b t).st = .dest) ∧
  (∃ (k : Block) (b : Nat) (p : Packet), k.arrival b p = .accept ∧
    let t := p.tracker % 1024
    (k.tracker b t).st = .idle) ∧
  (∃ (k : Block) (b : Nat) (p : Packet), k.arrival b p = .duplicate ∧ p.op = opMcast) ∧
  (∃ (k : Block) (b : Nat) (p : Packet), k.arrival b p = .duplicate ∧
    let t := p.tracker % 1024
    let v := k.tracker b t
    p.op ≠ opMcast ∧ v.st ≠ .dest) ∧
  (∃ (k : Block) (b : Nat) (p : Packet), k.arrival b p = .duplicate ∧
    let t := p.tracker % 1024
    let v := k.tracker b t
    p.op ≠ opMcast ∧ v.st = .dest ∧ v.dupAck = none) ∧
  (∃ (k : Block) (b : Nat) (p : Packet), k.arrival b p = .duplicate ∧
    let t := p.tracker % 1024
    let v := k.tracker b t
    ∃ (g : _), p.op ≠ opMcast ∧ v.st = .dest ∧ v.dupAck = some g ∧ k.gtime < g + k.rf .TRK_CTL 23 16 b * 6553600) ∧
  (∃ (a : Nat) (l : List Byte), l ≠ [] ∧ a % 128 + l.length ≤ 128) ∧
  (∃ (l : List Byte), l ≠ []) ∧
  (∃ (p : Packet), p.op = opWrite) ∧
  (∃ (k : Block) (d : Build) (b : Nat) (p : Packet), p.op = opChunk ∧
    let t := p.tracker % 1024
    let v := k.tracker b t
    let w :=
      { v with b := v.b + 1, done := v.done + 1, bytes := v.bytes + p.plen, ackDue := v.ackDue + 1, hdr := { p with payload := [] } }
    t < 512 ∧ v.st = .dest ∧ (p.src, p.pcount) = (v.owner, v.pcount) ∧ p.pseq = v.b ∧ v.seen = [] ∧ v.done + 1 ≠
      v.pcount ∧ v.ackDue < 63 ∧ k.ackStands b (k.response d b 1 opAck 5 0 w.hdr) = none) ∧
  (∃ (k : Block) (b : Nat) (p : Packet), p.op = opChunk ∧
    let t := p.tracker % 1024
    let v := k.tracker b t
    t < 512 ∧ v.st = .dest ∧ (p.src, p.pcount) = (v.owner, v.pcount) ∧ p.pseq = v.b ∧ v.seen = [] ∧ v.done + 1 =
      v.pcount) ∧
  (∃ (s : State) (b tag : Nat) (q : MemReq), Ready s b ∧ tag < 1024 ∧ s.blk.memReq b tag = some q) ∧
  (∃ (k : Block) (b t : Nat) (q : MemReq) (x : ToSend) (r : List ToSend), q.use = .source t ∧ (k.tracker b
    t).reading = some q.id ∧ (k.tracker b t).todo = x :: r) :=
  ⟨⟨st (rx 0 (pk 1 3 0 { payload := [7] })), 0, pk 1 3 0 { payload := [7] }, [], by decide +kernel⟩,
   ⟨st (rx 0 (pk 1 3 0 { payload := [7] }) (mov { st := .forward })), 0, 0, pk 1 3 0 { payload := [7] }, [],
     by decide +kernel⟩,
   ⟨st (rx 0 (pk 15 3 0 { payload := [7] })), 0, pk 15 3 0 { payload := [7] }, [], by decide +kernel⟩,
   ⟨st (rx 0 (pk 2 2 0 { payload := [7] })), 0, pk 2 2 0 { payload := [7] }, [], by decide +kernel⟩,
   ⟨st (rx 0 (pk 6 4 0 { payload := [7, 0, 0, 0, 0, 0, 0, 0] })), 0, pk 6 4 0
     { payload := [7, 0, 0, 0, 0, 0, 0, 0] }, [], by decide +kernel⟩,
   ⟨st (rx 0 (pk 6 4 0 { payload := [7, 0, 0, 0, 0, 0, 0, 0] }) { xfr.requests := [(0, List.replicate 256 {})] }),
     0, pk 6 4 0 { payload := [7, 0, 0, 0, 0, 0, 0, 0] }, [], by decide +kernel⟩,
   ⟨st (opn (rx 0 (pk 7 3 1 { payload := [7] }) (trk 0
     { st := .source, op := .rload, pcount := 1, issued := 1, desc := { len := 1 } }))), 0, pk 7 3 1
     { payload := [7] }, [], 0, 1, by decide +kernel⟩,
   ⟨st (rx 0 (pk 8 4 1 { payload := [7, 0, 0, 0, 1, 0, 0, 0] })), 0, pk 8 4 1
     { payload := [7, 0, 0, 0, 1, 0, 0, 0] }, [], { xfr.history := [(0, [(0, 0)])] }, by decide +kernel⟩,
   ⟨st (rx 0 (pk 8 4 1 { payload := [7, 0, 0, 0, 1, 0, 0, 0] }) { xfr.history := [(0, [(0, 0)])] }), 0, pk 8 4 1
     { payload := [7, 0, 0, 0, 1, 0, 0, 0] }, [], { xfr.history := [(0, [(0, 0)])] }, by decide +kernel⟩,
   ⟨{}, by decide +kernel⟩,
   ⟨{}, 1, 0, pk 1 3 0 { payload := [7] }, true, by decide +kernel⟩,
   ⟨{}, 0, 0, pk 6 4 6, by decide +kernel⟩,
   ⟨{}, 0, 0, { pk 1 3 0 { payload := [7] } with dataBad := 1 }, true, by decide +kernel⟩,
   ⟨{ tracker := 512 }, by decide +kernel⟩,
   ⟨({} : Block).setReg .TRK_BIND 0 [511] 0x8000000000000000, 0, { tracker := 511, pseq := 255 }, by decide +kernel⟩,
   ⟨trk 511 { st := .dest, pcount := 2 }, 0, { tracker := 511 }, by decide +kernel⟩,
   ⟨trk 511 { st := .dest, pcount := 2, b := 1 }, 0, { tracker := 511, pcount := 2 }, by decide +kernel⟩,
   ⟨trk 511 { st := .dest, pcount := 300 }, 0, { tracker := 511, pcount := 300, pseq := 256 }, by decide +kernel⟩,
   ⟨({} : Block).setReg .TRK_BIND 0 [511] 0x8000000000000000, 0, { tracker := 511, pcount := 300, pseq := 256 },
     by decide +kernel⟩,
   ⟨trk 511 { st := .dest, pcount := 300 }, 0, { tracker := 511, pcount := 300, pseq := 256 }, by decide +kernel⟩,
   ⟨trk 511 { st := .dest, pcount := 2 }, 0, { tracker := 511 }, by decide +kernel⟩,
   ⟨{}, 0, { tracker := 512, payload := [7] }, by decide +kernel⟩,
   ⟨trk 511 { st := .dest, pcount := 2 }, 0, { tracker := 511, pcount := 2, payload := [7] }, by decide +kernel⟩,
   ⟨({} : Block).setReg .TRK_BIND 0 [511] 0x8000000000000000, 0, { tracker := 511, pcount := 2, payload := [7] },
     by decide +kernel⟩,
   ⟨trk 511 { st := .dest, pcount := 2, b := 1 }, 0, { tracker := 511, pcount := 2, op := 2 }, by decide +kernel⟩,
   ⟨trk 511 { st := .linger, pcount := 2, b := 1 }, 0, { tracker := 511, pcount := 2 }, by decide +kernel⟩,
   ⟨trk 511 { st := .dest, pcount := 2, b := 1 }, 0, { tracker := 511, pcount := 2 }, by decide +kernel⟩,
   ⟨(trk 511 { st := .dest, pcount := 2, b := 1, dupAck := some 0 }).setReg .TRK_CTL 0 [] 0x0000000000010000, 0,
     { tracker := 511, pcount := 2 }, by decide +kernel, 0, by decide +kernel, by decide +kernel, by decide +kernel, by decide +kernel⟩,
   ⟨127, [7], by decide +kernel⟩,
   ⟨[7, 8], by decide +kernel⟩,
   ⟨{ op := 1 }, by decide +kernel⟩,
   ⟨trk 511 { st := .dest, pcount := 2 }, small, 0, { tracker := 511, pcount := 2, op := 15 }, by decide +kernel⟩,
   ⟨trk 511 { st := .dest, pcount := 1 }, 0, { tracker := 511, pcount := 1, op := 15 }, by decide +kernel⟩,
   ⟨st { xfr.lpm := [(1023, some { use := .plain })] }, 0, 1023, { use := .plain }, by decide +kernel⟩,
   ⟨trk 0 { st := .source, todo := [{ unit := 0 }], reading := some 5 }, 0, 0, { use := .source 0, id := 5 },
     { unit := 0 }, [], by decide +kernel⟩⟩

/-- The hypotheses of DirectoryAndCoordinators are met, clause by clause. -/
theorem witness_DirectoryAndCoordinators :
  (∃ (s : State) (b : Nat) (p : Packet) (r : List Packet), Ready s b ∧ s.blk.headGood b 3 3 p r ∧ p.rmode ≠ 2 ∧
    ((p.op = opReadReq ∨ p.op = opWrite ∨ (p.op = opMessage ∧ p.steer = true)))) ∧
  (∃ (k : Block) (b : Nat) (p : Packet), k.lookupEntry b (pageOf p.addr) = none) ∧
  (∃ (k : Block) (e : Env) (b i : Nat) (p : Packet), k.lookupEntry b (pageOf p.addr) = some i ∧ p.op ≠ opMessage ∧
    (k.seenEntry b i).isHome e.build = true ∧ (k.seenEntry b i).st = .pinned) ∧
  (∃ (k : Block) (e : Env) (b i : Nat) (p : Packet), k.lookupEntry b (pageOf p.addr) = some i ∧ p.op ≠ opMessage ∧
    (k.seenEntry b i).isHome e.build = true ∧ (k.seenEntry b i).st = .moving) ∧
  (∃ (k : Block) (e : Env) (b i : Nat) (p : Packet), k.lookupEntry b (pageOf p.addr) = some i ∧ (k.seenEntry b
    i).isHome e.build = false ∧ p.moved = true) ∧
  (∃ (k : Block) (e : Env) (b i : Nat) (p : Packet), k.lookupEntry b (pageOf p.addr) = some i ∧ (k.seenEntry b
    i).isHome e.build = false ∧ p.moved = false ∧ onDie e.build p.src = true) ∧
  (∃ (k : Block) (e : Env) (b i : Nat) (p : Packet), k.lookupEntry b (pageOf p.addr) = some i ∧ (k.seenEntry b
    i).isHome e.build = false ∧ p.moved = false ∧ onDie e.build p.src = false) ∧
  (∃ (k : Block) (b src addr : Nat), (look [] k.gpd.refreshed b).contains (dieOf src, pageOf addr) = true) ∧
  (∃ (k : Block) (b src addr : Nat), (look [] k.gpd.refreshed b).contains (dieOf src, pageOf addr) = false) ∧
  (∃ (k : Block) (e : Env) (b i : Nat) (p : Packet), k.lookupEntry b (pageOf p.addr) = some i ∧ p.op = opMessage ∧
    (k.seenEntry b i).isHome e.build = true) ∧
  (∃ (k : Block) (e : Env) (b i : Nat) (p : Packet), k.lookupEntry b (pageOf p.addr) = some i ∧ p.op ≠ opMessage ∧
    (k.seenEntry b i).isHome e.build = true ∧ (k.seenEntry b i).st = .home) ∧
  (∃ (k : Block) (b i : Nat), (k.gpdEntry b i).st = .home) ∧
  (∃ (k : Block) (b i : Nat), (k.gpdEntry b i).st ≠ .home) ∧
  (∃ (k : Block) (b i page : Nat), k.lookupEntry b page = some i) ∧
  (∃ (s : State) (b : Nat), Ready s b ∧ s.blk.isolated b = false ∧ (s.blk.clk.course + b) % max 1 (s.blk.rf
    .PLC_POL 39 32 0 * 16) = 0 ∧ look none s.blk.gpd.coord b = none ∧ s.blk.candidates s.env.build b = []) ∧
  (∃ (s : State) (b : Nat) (x : Nat × Nat × Nat), Ready s b ∧ s.blk.isolated b = false ∧ (s.blk.clk.course + b) %
    max 1 (s.blk.rf .PLC_POL 39 32 0 * 16) = 0 ∧ look none s.blk.gpd.coord b = none ∧ x ∈ s.blk.candidates
    s.env.build b ∧ ((∀ y, y ∈ s.blk.candidates s.env.build b → y.2.1 < x.2.1 ∨ (y.2.1 = x.2.1 ∧ x.1 ≤ y.1))) ∧
    flag (s.blk.reg .PLC_POL) 63 = true) ∧
  (∃ (s : State) (b : Nat) (x : Nat × Nat × Nat), Ready s b ∧ s.blk.isolated b = false ∧ (s.blk.clk.course + b) %
    max 1 (s.blk.rf .PLC_POL 39 32 0 * 16) = 0 ∧ look none s.blk.gpd.coord b = none ∧ x ∈ s.blk.candidates
    s.env.build b ∧ ((∀ y, y ∈ s.blk.candidates s.env.build b → y.2.1 < x.2.1 ∨ (y.2.1 = x.2.1 ∧ x.1 ≤ y.1))) ∧
    flag (s.blk.reg .PLC_POL) 63 = false) ∧
  (∃ (s : State) (b : Nat) (c : Coordinator), Ready s b ∧ s.blk.isolated b = false ∧ (s.blk.clk.course + b) % max
    1 (s.blk.rf .PLC_POL 39 32 0 * 16) = 0 ∧ look none s.blk.gpd.coord b = some c ∧ c.step ≠ .installAgain) ∧
  (∃ (s : State) (b : Nat) (c : Coordinator), Ready s b ∧ s.blk.isolated b = false ∧ (s.blk.clk.course + b) % max
    1 (s.blk.rf .PLC_POL 39 32 0 * 16) = 0 ∧ look none s.blk.gpd.coord b = some c ∧ c.step = .installAgain) ∧
  (∃ (k : Block) (d : Build) (b i n die : Nat), (i, n, die) ∈ k.candidates d b) ∧
  (∃ (s : State) (b : Nat) (c : Coordinator) (p : Packet) (r : List Packet), Ready s b ∧ s.blk.headGood b 0 1 p
    r ∧ p.op = opDirResp ∧ look none s.blk.gpd.coord b = some c ∧ c.trk = some (p.tracker % 1024) ∧
    let t := p.tracker % 1024
    let v := s.blk.tracker b t
    v.st = .source ∧ v.op = .dirreq ∧ p.pcount = v.pcount) ∧
  (∃ (c : Coordinator), c.step = .start) ∧
  (∃ (c : Coordinator), c.step = .start) ∧
  (∃ (c : Coordinator), c.step = .reserve) ∧
  (∃ (c : Coordinator), c.step = .prepare) ∧
  (∃ (c : Coordinator), c.step = .move ∧ c.early = none) ∧
  (∃ (c : Coordinator), c.step = .install) ∧
  (∃ (v : GpdEntry), v.heat.length ≤ 4) :=
  ⟨⟨st (rx 3 (pk 6 4 3 { payload := List.replicate 8 0 })), 0, pk 6 4 3 { payload := List.replicate 8 0 }, [],
     by decide +kernel⟩,
   ⟨{}, 0, {}, by decide +kernel⟩,
   ⟨gpd { v := true }, { build := small }, 0, 0, { op := 6 }, by decide +kernel⟩,
   ⟨gpd { v := true, st := .moving, frame := 7 }, { build := small }, 0, 0, { op := 6, addr := 5 }, by decide +kernel⟩,
   ⟨gpd { v := true, home := 2048 }, { build := small }, 0, 0, { moved := true }, by decide +kernel⟩,
   ⟨gpd { v := true, home := 2048 }, { build := small }, 0, 0, {}, by decide +kernel⟩,
   ⟨gpd { v := true, home := 2048 }, { build := small }, 0, 0, { src := 4096 }, by decide +kernel⟩,
   ⟨{ gpd.refreshed := [(0, [(0, 0)])] }, 0, 0, 0, by decide +kernel⟩,
   ⟨{}, 0, 0, 0, by decide +kernel⟩,
   ⟨gpd { v := true, st := .home }, { build := small }, 0, 0, { op := 9, steer := true }, by decide +kernel⟩,
   ⟨gpd { v := true, st := .home, frame := 7 }, { build := small }, 0, 0, { op := 6, addr := 5 }, by decide +kernel⟩,
   ⟨gpd { v := true, st := .home }, 0, 0, by decide +kernel⟩,
   ⟨gpd { v := true, st := .moving }, 0, 0, by decide +kernel⟩,
   ⟨gpd { v := true, base := 3, lenm1 := 2 }, 0, 0, 5, by decide +kernel⟩,
   ⟨st (gpd { v := true, total := 9, heat := [(3, 5)] }), 0, by decide +kernel⟩,
   ⟨st ((gpd { v := true, st := .home, age := 255, total := 9, heat := [(3, 5)] }).setReg .PLC_POL 0 []
     0x8000000000000000), 0, (0, 9, 3), by decide +kernel⟩,
   ⟨st ((gpd { v := true, st := .home, age := 255, total := 9, heat := [(3, 5)] }).setReg .PLC_POL 0 [] 0), 0, (0,
     9, 3), by decide +kernel⟩,
   ⟨st { gpd.coord := [(0, some {})] }, 0, {}, by decide +kernel⟩,
   ⟨st { gpd.coord := [(0, some { step := .installAgain })] }, 0, { step := .installAgain }, by decide +kernel⟩,
   ⟨(gpd { v := true, st := .home, age := 255, total := 9, heat := [(3, 5)] }).setReg .PLC_POL 0 [] 0, small, 0, 0,
     9, 3, by decide +kernel⟩,
   ⟨st (rx 0 (pk 0xE 5 1 { payload := List.replicate 24 0 }) (trk 0 { st := .source, op := .dirreq, pcount := 1 }
     { gpd.coord := [(0, some { trk := some 0 })] })), 0, { trk := some 0 }, pk 0xE 5 1
     { payload := List.replicate 24 0 }, [], by decide +kernel⟩,
   ⟨{}, by decide +kernel⟩,
   ⟨{}, by decide +kernel⟩,
   ⟨{ step := .reserve }, by decide +kernel⟩,
   ⟨{ step := .prepare }, by decide +kernel⟩,
   ⟨{ step := .move }, by decide +kernel⟩,
   ⟨{ step := .install }, by decide +kernel⟩,
   ⟨{}, by decide +kernel⟩⟩

/-- The hypotheses of EpisodesEndAndLogsAreRead are met, clause by clause. -/
theorem witness_EpisodesEndAndLogsAreRead :
  (∃ (s : State) (br : Bool) (n : Nat), s.blk.held = false ∧ s.blk.crosses .managementPort = true ∧ portOk
    s.env.build br n = true ∧ s.blk.portRetired br n = false) ∧
  (∃ (s : State) (br : Bool) (n : Nat), s.blk.held = false ∧ s.blk.crosses .managementPort = true ∧ portOk
    s.env.build br n = true ∧ s.blk.portRetired br n = true) ∧
  (∃ (s : State) (br : Bool) (n : Nat), s.blk.held = false ∧ s.blk.crosses .managementPort = true ∧ portOk
    s.env.build br n = true ∧ s.blk.portRetired br n = true) ∧
  (∃ (s : State) (v : Word), s.blk.held = false ∧ s.blk.crosses .managementPort = true ∧ flag v 0 = true ∧
    s.blk.flt.recovering = true) ∧
  (∃ (s : State), s.blk.held = false ∧ s.blk.crosses .managementPort = true ∧ s.blk.flt.recovering = false) ∧
  (∃ (s : State), s.blk.held = false ∧ s.blk.clk.cyc = 0 ∧ s.blk.flt.recovering = true ∧ s.blk.flt.donePend =
    true ∧ s.blk.recovered s.env.build = true) ∧
  (∃ (s : State), s.blk.held = false ∧ ((s.blk.flt.donePend = false ∨ s.blk.recovered s.env.build = false))) ∧
  (∃ (s : State) (w : Word) (r : List Word), s.blk.held = false ∧ s.blk.crosses .managementPort = true ∧
    s.blk.flt.log = w :: r) ∧
  (∃ (s : State), s.blk.held = false ∧ s.blk.crosses .managementPort = true ∧ s.blk.flt.log = []) :=
  ⟨⟨st {}, true, 0, by decide +kernel⟩,
   ⟨st (({} : Block).setReg .GLB_PORTRET0 0 [] 1), false, 0, by decide +kernel⟩,
   ⟨st (({} : Block).setReg .GLB_PORTRET0 0 [] 1), false, 0, by decide +kernel⟩,
   ⟨st { flt.recovering := true }, 1, by decide +kernel⟩,
   ⟨st {}, by decide +kernel⟩,
   ⟨st { flt := { recovering := true, donePend := true } }, by decide +kernel⟩,
   ⟨st {}, by decide +kernel⟩,
   ⟨st { flt.log := [7] }, 7, [], by decide +kernel⟩,
   ⟨st {}, by decide +kernel⟩⟩

/-- The hypotheses of FlatIdentifiersNameTheirSlice are met, clause by clause. -/
theorem witness_FlatIdentifiersNameTheirSlice :
  (∃ (d : Build), 0 < d.meshX ∧ d.meshX ≤ 16 ∧ 0 < d.meshY ∧ d.meshY ≤ 16) :=
  ⟨small, by decide +kernel⟩

/-- The hypotheses of GroupPartsReachTheirTrackers are met, clause by clause. -/
theorem witness_GroupPartsReachTheirTrackers :
  (∃ (s : State) (b : Nat) (p : Packet) (r : List Packet), Ready s b ∧ s.blk.headGood b 0 1 p r ∧ p.op =
    opResult ∧
    let k := s.blk.setRx b 0 r
    let ts := (List.range 1024).filter fun t => (k.tracker b t).collects p.group p.cseq && k.takesResults b p.group
      (k.tracker b t).desc.member
    ((k.groupStill p.group = true → p.seg % 2 = 1)) ∧ ts ≠ []) ∧
  (∃ (s : State) (b : Nat) (p : Packet) (r : List Packet), Ready s b ∧ s.blk.headGood b 0 1 p r ∧ p.op =
    opResult ∧ (s.blk.setRx b 0 r).groupStill p.group = true ∧ p.seg % 2 = 0) ∧
  (∃ (s : State) (b : Nat) (p : Packet) (r : List Packet), Ready s b ∧ s.blk.headGood b 0 1 p r ∧ p.op =
    opResult ∧ s.blk.xfr.trk = [] ∧ ((s.blk.groupStill p.group = true → p.seg % 2 = 1))) ∧
  (∃ (s : State) (b : Nat) (p : Packet) (r : List Packet), Ready s b ∧ s.blk.headGood b 0 0 p r ∧ p.op =
    opDispatch ∧
    let k := s.blk.setRx b 0 r
    k.descValid p.group = false) ∧
  (∃ (s : State) (b : Nat) (p : Packet) (r : List Packet), Ready s b ∧ s.blk.headGood b 0 0 p r ∧ p.op =
    opDispatch ∧
    let k := s.blk.setRx b 0 r
    let t := fld (k.descWord p.group 1) 39 30
    k.descValid p.group = true ∧ flag (k.binding b t) 63 = true ∧ (k.tracker b t).st = .idle) ∧
  (∃ (s : State) (b : Nat) (p : Packet) (r : List Packet), Ready s b ∧ s.blk.headGood b 0 0 p r ∧ p.op =
    opDispatch ∧
    let k := s.blk.setRx b 0 r
    let t := fld (k.descWord p.group 1) 39 30
    k.descValid p.group = true ∧ (k.tracker b t).op = .reducerPart ∧ (k.tracker b t).desc.group = p.group ∧
      (k.tracker b t).desc.cseq = p.cseq ∧ (k.tracker b t).st = .collect ∧ flag (k.binding b t) 63 = true) ∧
  (∃ (s : State) (b : Nat) (p : Packet) (r : List Packet), Ready s b ∧ s.blk.headGood b 0 0 p r ∧ p.op =
    opDispatch ∧
    let k := s.blk.setRx b 0 r
    let t := fld (k.descWord p.group 1) 39 30
    k.descValid p.group = true ∧ (k.tracker b t).op = .reducerPart ∧ (k.tracker b t).desc.group = p.group ∧
      (k.tracker b t).desc.cseq = p.cseq ∧ (k.tracker b t).st = .collect ∧ flag (k.binding b t) 63 = false) ∧
  (∃ (s : State) (b : Nat) (p : Packet) (r : List Packet), Ready s b ∧ s.blk.headGood b 0 0 p r ∧ p.op =
    opDispatch ∧
    let k := s.blk.setRx b 0 r
    let t := fld (k.descWord p.group 1) 39 30
    k.descValid p.group = true ∧ (k.tracker b t).op = .reducerPart ∧ (k.tracker b t).desc.group = p.group ∧
      (k.tracker b t).desc.cseq = p.cseq ∧ ((k.tracker b t).st = .linger ∨ (k.tracker b t).st = .completing)) ∧
  (∃ (s : State) (b : Nat) (p : Packet) (r : List Packet), Ready s b ∧ s.blk.headGood b 0 0 p r ∧ p.op =
    opDispatch ∧
    let k := s.blk.setRx b 0 r
    let t := fld (k.descWord p.group 1) 39 30
    k.descValid p.group = true ∧ flag (k.binding b t) 63 = true ∧ (k.tracker b t).st ≠ .idle ∧ (k.tracker b t).op ≠
      .reducerPart) :=
  ⟨⟨st (rx 0 (pk 4 1 1 { payload := List.replicate 20 0 }) (grp (trk 0 { st := .collect, op := .contrib }))), 0, pk
     4 1 1 { payload := List.replicate 20 0 }, [], by decide +kernel⟩,
   ⟨st (rx 0 (pk 4 1 1) { rdc.desc := [(0, 0x4000000000000000)] }), 0, pk 4 1 1, [], by decide +kernel⟩,
   ⟨st (rx 0 (pk 4 1 1)), 0, pk 4 1 1, [], by decide +kernel⟩,
   ⟨st (rx 0 (pk 5 1 0)), 0, pk 5 1 0, [], by decide +kernel⟩,
   ⟨st (rx 0 (pk 5 1 0) (grp (({} : Block).setReg .TRK_BIND 0 [0] 0x8000000000000000))), 0, pk 5 1 0, [],
     by decide +kernel⟩,
   ⟨st (rx 0 (pk 5 1 0) (grp (trk 0 { st := .collect, op := .reducerPart } (({} : Block).setReg .TRK_BIND 0 [0]
     0x8000000000000000)))), 0, pk 5 1 0, [], by decide +kernel⟩,
   ⟨st (rx 0 (pk 5 1 0) (grp (trk 0 { st := .collect, op := .reducerPart }))), 0, pk 5 1 0, [], by decide +kernel⟩,
   ⟨st (rx 0 (pk 5 1 0) (grp (trk 0 { st := .linger, op := .reducerPart }))), 0, pk 5 1 0, [], by decide +kernel⟩,
   ⟨st (rx 0 (pk 5 1 0) (grp (trk 0 { st := .source } (({} : Block).setReg .TRK_BIND 0 [0] 0x8000000000000000)))),
     0, pk 5 1 0, [], by decide +kernel⟩⟩

/-- The hypotheses of HeldBlockKeepsStill are met, clause by clause. -/
theorem witness_HeldBlockKeepsStill :
  (∃ (c : Instr) (s : State), s.blk.held = true ∧ c.reachesReset = false) :=
  ⟨.timSet 7, st { rst.rootLost := true }, by decide, by decide⟩

/-- The hypotheses of IncrementsCountAndWaitsCompare are met, clause by clause. -/
theorem witness_IncrementsCountAndWaitsCompare :
  (∃ (c t : Nat), c < 2 ^ 32 ∧ t < 2 ^ 32) ∧
  (∃ (c t : Nat), t ≤ c ∧ c < t + 2 ^ 31) ∧
  (∃ (c t : Nat), c < t ∧ t ≤ c + 2 ^ 31) :=
  ⟨⟨3, 0xFFFFFFFE, by decide +kernel⟩,
   ⟨0x80000003 + 0x7FFFFFFF, 0x80000003, by decide +kernel⟩,
   ⟨3, 3 + 0x80000000, by decide +kernel⟩⟩

/-- The hypotheses of IntegerArithmeticIsExactOrClipped are met, clause by clause. -/
theorem witness_IntegerArithmeticIsExactOrClipped :
  (∃ (k : Block) (b sl j dst fo fi m : Nat), (k.slot b sl).cur = some j ∧
    let w := k.slotWord b sl
    let names := maskBufs w.nch m
    w.hasBuf dst = true ∧ names.all w.hasBuf = true ∧ 2 ≤ names.length ∧ combineOk true fo fi = true) ∧
  (∃ (k : Block) (b sl j dst fo fi m : Nat), (k.slot b sl).cur = some j ∧
    let w := k.slotWord b sl
    let names := maskBufs w.nch m
    w.hasBuf dst = true ∧ names.all w.hasBuf = true ∧ 2 ≤ names.length ∧ combineOk false fo fi = true) ∧
  (∃ (k : Block) (b sl j dst fo fi m : Nat), (k.slot b sl).cur = some j ∧
    let w := k.slotWord b sl
    let names := maskBufs w.nch m
    w.hasBuf dst = true ∧ names.all w.hasBuf = true ∧ 2 ≤ names.length ∧ combineOk false fo fi = true) ∧
  (∃ (k k' : Block) (b sl dst fo fi m : Nat) (c : Computed), 5 ≤ fo ∧ fo ≤ 8 ∧ k.compute b sl (.add dst fo fi m) =
    some (c, k') ∧ ∃ (x : _), x ∈ c.res) ∧
  (∃ (k k' : Block) (b sl dst fo fi m : Nat) (c : Computed), 5 ≤ fo ∧ fo ≤ 8 ∧ ((k.compute b sl (.max dst fo fi
    m) = some (c, k') ∨ k.compute b sl (.min dst fo fi m) = some (c, k'))) ∧ ∃ (x : _), x ∈ c.res) ∧
  (∃ (fo f g w : Nat), intBits fo = some w ∧ (intBits f).isSome = true ∧ (intBits g).isSome = true ∧ (intBits
    f).getD 8 ≤ w ∧ (intBits g).getD 8 ≤ w) ∧
  (∃ (w : Nat) (l : List Int) (y : Int), l ≠ [] ∧ (clip w ((addInts w l).1 + y)).2 = true) ∧
  (∃ (w : Nat) (l : List Int) (y : Int), l ≠ [] ∧ (clip w ((addInts w l).1 + y)).2 = false) ∧
  (∃ (fo w : Nat) (l : List (Nat × Nat)), l ≠ [] ∧ intBits fo = some w ∧ ((∀ x, x ∈ l → (intBits x.1).isSome =
    true ∧ (intBits x.1).getD 8 ≤ w))) ∧
  (∃ (w : Nat), 0 < w) ∧
  (∃ (w : Nat) (z : Int), 0 < w ∧ -(2 : Int) ^ (w - 1) ≤ z ∧ z < (2 : Int) ^ (w - 1)) ∧
  (∃ (w c : Nat), 0 < w ∧ c < 2 ^ w) :=
  ⟨⟨(red 0x8400000000000000
     { cur := some 0, sets := [(0, { tag := some (0, 0), bufs := [(0, [1, 0, 0, 0]), (1, [2, 0, 0, 0])] })] }), 0,
     0, 0, 7, 7, 7, 3, by decide +kernel⟩,
   ⟨(red 0x8400000000000000
     { cur := some 0, sets := [(0, { tag := some (0, 0), bufs := [(0, [1, 0, 0, 0]), (1, [2, 0, 0, 0])] })] }), 0,
     0, 0, 7, 7, 7, 3, by decide +kernel⟩,
   ⟨(red 0x8400000000000000
     { cur := some 0, sets := [(0, { tag := some (0, 0), bufs := [(0, [1, 0, 0, 0]), (1, [2, 0, 0, 0])] })] }), 0,
     0, 0, 7, 7, 7, 3, by decide +kernel⟩,
   ⟨(red 0x8400000000000000
     { cur := some 0, sets := [(0, { tag := some (0, 0), bufs := [(0, [1, 0, 0, 0]), (1, [2, 0, 0, 0])] })] }),
     (red 0x8400000000000000
     { cur := some 0, sets := [(0, { tag := some (0, 0), bufs := [(0, [1, 0, 0, 0]), (1, [2, 0, 0, 0])] })] }), 0,
     0, 7, 7, 7, 3, ⟨7, 7, 7, [(3, 0)]⟩, by decide +kernel, by decide +kernel, by decide +kernel, (3, 0), by decide +kernel⟩,
   ⟨(red 0x8400000000000000
     { cur := some 0, sets := [(0, { tag := some (0, 0), bufs := [(0, [1, 0, 0, 0]), (1, [2, 0, 0, 0])] })] }),
     (red 0x8400000000000000
     { cur := some 0, sets := [(0, { tag := some (0, 0), bufs := [(0, [1, 0, 0, 0]), (1, [2, 0, 0, 0])] })] }), 0,
     0, 7, 7, 7, 3, ⟨7, 7, 8, [(2, 0)]⟩, by decide +kernel, by decide +kernel, by decide +kernel, (2, 0), by decide +kernel⟩,
   ⟨7, 7, 7, 32, by decide +kernel⟩,
   ⟨8, [120], 10, by decide +kernel⟩,
   ⟨8, [1], 2, by decide +kernel⟩,
   ⟨7, 32, [(7, 1), (7, 5)], by decide +kernel⟩,
   ⟨1, by decide +kernel⟩,
   ⟨8, 127, by decide +kernel⟩,
   ⟨8, 255, by decide +kernel⟩⟩

/-- The hypotheses of IterationIndexIsTheInnermostLoops are met, clause by clause. -/
theorem witness_IterationIndexIsTheInnermostLoops :
  (∃ (k : Block) (b u pc : Nat), ((∀ a t, pc ≤ a → a < progSize u → k.loopTarget b u a = some t → pc < t))) ∧
  (∃ (k : Block) (b u pc a t : Nat), pc ≤ a ∧ a < progSize u ∧ k.loopTarget b u a = some t ∧ t ≤ pc ∧ ((∀ a' t',
    pc ≤ a' → a' < progSize u → k.loopTarget b u a' = some t' → t' ≤ pc → t' ≤ t ∧ a ≤ a'))) ∧
  (∃ (s : State) (b u n t : Nat) (evt : Bool), Ready s b ∧ streamOk u = true ∧ s.blk.ctlFetch b u = some (.loop n
    t, evt)) ∧
  (∃ (s : State) (b u c st v : Nat) (evt : Bool), Ready s b ∧ streamOk u = true ∧ (¬(s.blk.img.st = .quiescing ∧
    isReducer u = false)) ∧ s.blk.ctlFetch b u = some (.wait c st v, evt)) :=
  ⟨⟨{}, 0, 0, 4095, fun a t h1 h2 h3 => no_loop h3⟩,
   ⟨looping, 0, 0, 3, 5, 2, by decide, by decide, by decide +kernel, by decide, fun a t _ _ h3 _ => one_loop h3⟩,
   ⟨st (prog 0xC300000300000000), 0, 0, 3, 0, false, by decide +kernel⟩,
   ⟨st (prog 0xC100050200000007), 0, 0, 5, 2, 7, false, by decide +kernel⟩⟩

/-- The hypotheses of LaneLinksAndElectricalIdle are met, clause by clause. -/
theorem witness_LaneLinksAndElectricalIdle :
  (∃ (s : State) (p die port : Nat) (llr : Bool) (cred : List Nat), s.blk.held = false ∧ p <
    s.env.build.lanePorts ∧ s.blk.linkState false p = linkInit ∧ (s.blk.port false p).init = some (die % 2 ^ 19,
    port % 64, llr, cred) ∧ llr = s.blk.llr p ∧ ((List.range 6).map fun i => s.blk.rf .LNK_CRED (8 * i + 7) (8 *
    i) p).sum ≤ 256) ∧
  (∃ (s : State) (p : Nat), s.blk.held = false ∧ p < s.env.build.lanePorts ∧ s.blk.linkState false p = linkInit ∧
    (s.blk.port false p).init = none) ∧
  (∃ (s : State) (p die port : Nat) (llr : Bool) (cred : List Nat) (x : Nat × Nat × Bool × List Nat), s.blk.held =
    false ∧ p < s.env.build.lanePorts ∧ s.blk.linkState false p = linkInit ∧ (s.blk.port false p).init = some x ∧
    (x ≠ (die % 2 ^ 19, port % 64, llr, cred) ∨ llr ≠ s.blk.llr p)) ∧
  (∃ (k : Block) (p : Nat), k.linkState false p = linkTraining ∧ k.rxSet p ≠ 0 ∧ k.txSet p ≠ 0) ∧
  (∃ (s : State) (p mask : Nat), s.blk.held = false ∧ p < s.env.build.lanePorts ∧ s.blk.linkState false p ≠
    linkDownCode ∧ 0 < mask ∧ mask < 16) ∧
  (∃ (s : State) (p mask : Nat), s.blk.held = false ∧ p < s.env.build.lanePorts ∧ s.blk.linkState false p ≠
    linkDownCode ∧ 0 < mask ∧ mask < 16) ∧
  (∃ (s : State) (p m : Nat), s.blk.held = false ∧ p < s.env.build.lanePorts ∧ (s.blk.port false p).asked = some
    m) ∧
  (∃ (s : State) (p : Nat) (v : Word), s.blk.held = false ∧ s.blk.crosses .managementPort = true ∧ p <
    s.env.build.lanePorts ∧
    let k := s.blk.applyWrite .LNK_CTL p [] v
    k.portEnabled false p = true ∧ flag v 1 = false) ∧
  (∃ (s : State) (p : Nat) (v : Word), s.blk.held = false ∧ s.blk.crosses .managementPort = true ∧ p <
    s.env.build.lanePorts ∧
    let k := s.blk.applyWrite .LNK_CTL p [] v
    k.portEnabled false p = false ∧ k.linkState false p ≠ linkDownCode) ∧
  (∃ (s : State) (p : Nat) (v : Word), s.blk.held = false ∧ s.blk.crosses .managementPort = true ∧ p <
    s.env.build.lanePorts ∧
    let k := s.blk.applyWrite .LNK_CTL p [] v
    k.portEnabled false p = true ∧ flag v 1 = true) ∧
  (∃ (s : State) (p : Nat), s.blk.held = false ∧ p < s.env.build.lanePorts ∧ s.blk.mayIdle s.env.build p = true ∧
    flag (s.blk.reg .LNK_STAT p) 50 = false ∧ (s.blk.port false p).burst = false) ∧
  (∃ (s : State) (p : Nat), s.blk.held = false ∧ p < s.env.build.lanePorts ∧ s.blk.portUp false p = true ∧
    s.blk.lanesOf p = [0, 1, 2, 3]) ∧
  (∃ (s : State) (p : Nat), s.blk.held = false ∧ p < s.env.build.lanePorts ∧ s.blk.mayIdle s.env.build p = false ∧
    flag (s.blk.reg .LNK_STAT p) 50 = true) ∧
  (∃ (s : State) (p : Nat), s.blk.held = false ∧ p < s.env.build.lanePorts ∧ flag (s.blk.reg .LNK_STAT p) 51 =
    true ∧ ((∀ l < 4, s.blk.laneState p l = laneIdle))) ∧
  (∃ (s : State) (p : Nat) (r : List Bool), s.blk.held = false ∧ p < s.env.build.lanePorts ∧ (s.blk.port false
    p).bursts = true :: r) ∧
  (∃ (s : State) (p : Nat) (r : List Bool), s.blk.held = false ∧ p < s.env.build.lanePorts ∧ (s.blk.port false
    p).bursts = false :: r ∧ ((∀ l < 4, s.blk.laneState p l = laneLocked)) ∧ s.blk.wantedSet p < 16) ∧
  (∃ (s : State) (p : Nat) (r : List Bool), s.blk.held = false ∧ p < s.env.build.lanePorts ∧ (s.blk.port false
    p).bursts = false :: r ∧ ((∀ l < 4, l ≠ 3 → s.blk.laneState p l = laneLocked)) ∧ s.blk.laneState p 3 =
    laneExit ∧ s.blk.wantedSet p = 15) :=
  ⟨⟨st ((lane 3 2).setPort false 0 { init := some (5, 6, true, []) }), 0, 5, 6, true, [], by decide +kernel⟩,
   ⟨st (lane 3 2), 0, by decide +kernel⟩,
   ⟨st ((lane 3 2).setPort false 0 { init := some (5, 6, true, []) }), 0, 5, 6, false, [], (5, 6, true, []),
     by decide +kernel⟩,
   ⟨((lane 3 1).setRf .LNK_STAT 59 52 0 [] 0x11), 0, by decide +kernel⟩,
   ⟨st (lane 3 1), 0, 15, by decide +kernel⟩,
   ⟨st (lane 3 1), 0, 1, by decide +kernel⟩,
   ⟨st (({} : Block).setPort false 0 { asked := some 3 }), 0, 3, by decide +kernel⟩,
   ⟨st {}, 0, 1, by decide +kernel⟩,
   ⟨st (lane 3 3), 0, 0, by decide +kernel⟩,
   ⟨st (lane 3 3), 0, 3, by decide +kernel⟩,
   ⟨st ((lane 3 3).setReg .LNK_CTL 0 [] 9), 0, by decide +kernel⟩,
   ⟨st (lane 3 3), 0, by decide +kernel⟩,
   ⟨st (((lane 3 3).setReg .LNK_CTL 0 [] 1).setBit .LNK_STAT 50 0), 0, by decide +kernel⟩,
   ⟨st (((List.range 4).foldl (fun k l => k.setRf .LN_STAT 63 61 0 [l] 4) (lane 4 3)).setBit .LNK_STAT 51 0), 0,
     by decide +kernel⟩,
   ⟨st ((lane 3 3).setPort false 0 { bursts := [true] }), 0, [], by decide +kernel⟩,
   ⟨st ((((List.range 4).foldl (fun k l => k.setRf .LN_STAT 63 61 0 [l] 3) (lane 3 3)).setPort false 0
     { bursts := [false, true] })), 0, [true], by decide +kernel⟩,
   ⟨st (((((List.range 4).foldl (fun k l => k.setRf .LN_STAT 63 61 0 [l] 3) (lane 3 3)).setRf .LN_STAT 63 61 0 [3]
     5).setRf .LNK_STAT 59 56 0 [] 15).setPort false 0 { bursts := [false] }), 0, [], by decide +kernel⟩⟩

/-- The hypotheses of LanesTrainLockAndRetire are met, clause by clause. -/
theorem witness_LanesTrainLockAndRetire :
  (∃ (s : State) (p l : Nat), s.blk.held = false ∧ p < s.env.build.lanePorts ∧ l < 4 ∧ s.blk.laneState p l =
    laneTrain) ∧
  (∃ (s : State) (p l : Nat), s.blk.held = false ∧ p < s.env.build.lanePorts ∧ l < 4 ∧ s.blk.crosses (.lane p l) =
    true ∧ ((s.blk.laneState p l = laneTrain ∧ (s.blk.laneRx p l).trained = true) ∨ s.blk.laneState p l = laneExit
    ∨ s.blk.laneState p l = laneHunt)) ∧
  (∃ (s : State) (p l : Nat), s.blk.held = false ∧ p < s.env.build.lanePorts ∧ l < 4 ∧ s.blk.crosses (.lane p l) =
    true ∧ ((s.blk.laneState p l = laneTrain ∧ (s.blk.laneRx p l).trained = true) ∨ s.blk.laneState p l = laneExit
    ∨ s.blk.laneState p l = laneHunt)) ∧
  (∃ (s : State) (p l : Nat), s.blk.held = false ∧ p < s.env.build.lanePorts ∧ l < 4 ∧ s.blk.crosses (.lane p l) =
    true ∧ s.blk.laneState p l = laneHunt ∧ (s.blk.laneRx p l).skewed = false) ∧
  (∃ (s : State) (p l : Nat), s.blk.held = false ∧ p < s.env.build.lanePorts ∧ l < 4 ∧ s.blk.laneState p l =
    laneLocked) ∧
  (∃ (s : State) (p l : Nat), s.blk.held = false ∧ p < s.env.build.lanePorts ∧ l < 4 ∧ s.blk.laneState p l =
    laneHunt) ∧
  (∃ (s : State) (p l n : Nat) (h : List (Nat × Nat)), s.blk.held = false ∧ p < s.env.build.lanePorts ∧ l < 4 ∧
    s.blk.laneState p l = laneHunt ∧ (s.blk.laneRx p l).retrain = true ∧ s.blk.failures s.blk.flt.laneHist (p * 4
    + l) 1000000 = (n, h)) ∧
  (∃ (s : State) (p l : Nat), s.blk.held = false ∧ p < s.env.build.lanePorts ∧ l < 4 ∧ s.blk.laneState p l =
    laneLocked ∧ s.blk.laneRetired p l = false ∧ (s.blk.wantedSet p).testBit l = false ∧ s.blk.wantedSet p ≠ 0) ∧
  (∃ (s : State) (p : Nat), s.blk.held = false ∧ p < s.env.build.lanePorts ∧ s.blk.linkState false p =
    linkTraining ∧ s.blk.rxSet p = 0 ∧ (s.blk.port false p).asked = none ∧
    let m := laneMask ((s.blk.lanesOf p).filter fun l => s.blk.laneState p l == laneLocked)
    m ≠ 0) ∧
  (∃ (s : State) (p l : Nat), s.blk.held = false ∧ p < s.env.build.lanePorts ∧ l < 4 ∧ s.blk.crosses (.lane p l) =
    false) ∧
  (∃ (s : State) (p l : Nat), s.blk.held = false ∧ p < s.env.build.lanePorts ∧ l < 4) ∧
  (∃ (s : State) (p l : Nat), s.blk.held = false ∧ p < s.env.build.lanePorts ∧ l < 4) ∧
  (∃ (s : State) (p l : Nat), s.blk.held = false ∧ p < s.env.build.lanePorts ∧ l < 4 ∧ s.blk.laneLost p l = true) ∧
  (∃ (s : State) (p l : Nat), s.blk.held = false ∧ p < s.env.build.lanePorts ∧ l < 4 ∧ s.blk.laneState p l ≠
    laneOff) ∧
  (∃ (s : State) (p l : Nat), s.blk.held = false ∧ p < s.env.build.lanePorts ∧ l < 4 ∧ s.blk.laneState p l =
    laneOff) ∧
  (∃ (k : Block) (p l peak : Nat), l < 4 ∧ peak < 16 ∧ peak ≤ k.rf .LN_MARGIN 35 32 p [l]) ∧
  (∃ (k : Block) (p l peak : Nat), l < 4 ∧ peak < 16 ∧ k.rf .LN_MARGIN 35 32 p [l] < peak) ∧
  (∃ (s : State) (p l : Nat) (v : Word), s.blk.held = false ∧ s.blk.crosses .managementPort = true ∧ p <
    s.env.build.lanePorts ∧ l < 4 ∧ flag v 0 = true) ∧
  (∃ (s : State) (p l : Nat) (v : Word), s.blk.held = false ∧ s.blk.crosses .managementPort = true ∧ p <
    s.env.build.lanePorts ∧ l < 4 ∧ flag v 0 = false) ∧
  (∃ (k : Block) (p l : Nat), k.laneRetired p l = true) ∧
  (∃ (k : Block) (p l : Nat), k.laneRetired p l = false) ∧
  (∃ (k : Block) (p l : Nat), (k.wantedSet p).testBit l = true ∧ k.wantedSet p ≠ 2 ^ l) ∧
  (∃ (k : Block) (p l : Nat), (k.wantedSet p).testBit l = true ∧ k.wantedSet p = 2 ^ l) :=
  ⟨⟨st (lane 1 0), 0, 0, by decide +kernel⟩,
   ⟨st (lane 2 0), 0, 0, by decide +kernel⟩,
   ⟨st ((lane 1 0).setLaneRx 0 0 { trained := true }), 0, 0, by decide +kernel⟩,
   ⟨st (lane 2 0), 0, 0, by decide +kernel⟩,
   ⟨st (lane 3 0), 0, 0, by decide +kernel⟩,
   ⟨st (lane 2 0), 0, 0, by decide +kernel⟩,
   ⟨st ((lane 2 0).setLaneRx 0 0 { retrain := true }), 0, 0, 1, [(0, 0)], by decide +kernel⟩,
   ⟨st ((lane 3 0).setRf .LNK_STAT 59 56 0 [] 2), 0, 0, by decide +kernel⟩,
   ⟨st (lane 3 1), 0, by decide +kernel⟩,
   ⟨st (lane 1 1 { rst.resync := [.lane 0 0] }), 0, 0, by decide +kernel⟩,
   ⟨st {}, 0, 3, by decide +kernel⟩,
   ⟨st ((lane 3 0).setRf .LN_STAT 60 58 0 [0] 1), 0, 0, by decide +kernel⟩,
   ⟨st ((lane 3 0).setRf .LN_STAT 60 58 0 [0] 4), 0, 0, by decide +kernel⟩,
   ⟨st (lane 3 0), 0, 0, by decide +kernel⟩,
   ⟨st {}, 0, 3, by decide +kernel⟩,
   ⟨(lane 3 0), 0, 0, 10, by decide +kernel⟩,
   ⟨((lane 3 0).setRf .LN_MARGIN 47 40 0 [0] 15), 0, 0, 11, by decide +kernel⟩,
   ⟨st {}, 0, 3, 1, by decide +kernel⟩,
   ⟨st {}, 0, 3, 0, by decide +kernel⟩,
   ⟨({} : Block).setReg .LN_CTL 0 [3] 1, 0, 3, by decide +kernel⟩,
   ⟨{}, 0, 3, by decide +kernel⟩,
   ⟨((lane 3 3).setRf .LNK_STAT 59 56 0 [] 5), 0, 2, by decide +kernel⟩,
   ⟨((lane 3 3).setRf .LNK_STAT 59 56 0 [] 4), 0, 2, by decide +kernel⟩⟩

/-- The hypotheses of LinkRetryCreditsAndTime are met, clause by clause. -/
theorem witness_LinkRetryCreditsAndTime :
  (∃ (s : State) (p : Nat) (q : Packet), s.blk.held = false ∧ p < s.env.build.lanePorts ∧ s.blk.portUp false p =
    true ∧ s.blk.llr p = true ∧ headerCheck { q with rsv := 0 } = .good) ∧
  (∃ (s : State) (p : Nat), s.blk.held = false ∧ p < s.env.build.lanePorts ∧ s.blk.portUp false p = true ∧
    s.blk.llr p = true ∧ (s.blk.port false p).nak = false) ∧
  (∃ (s : State) (p : Nat), s.blk.held = false ∧ p < s.env.build.lanePorts ∧ s.blk.portUp false p = true) ∧
  (∃ (s : State) (p : Nat) (x : Nat × Packet) (r : List (Nat × Packet)), s.blk.held = false ∧ p <
    s.env.build.lanePorts ∧ s.blk.portUp false p = true ∧ s.blk.llr p = true ∧ (s.blk.port false p).kept = x :: r) ∧
  (∃ (s : State) (p : Nat), s.blk.held = false ∧ p < s.env.build.lanePorts ∧ s.blk.portUp false p = true) ∧
  (∃ (s : State) (p : Nat), s.blk.held = false ∧ p < s.env.build.lanePorts ∧ s.blk.portUp false p = true) ∧
  (∃ (s : State) (p : Nat), s.blk.held = false ∧ p < s.env.build.lanePorts ∧ s.blk.portUp false p = true ∧
    s.blk.llr p = false) ∧
  (∃ (s : State) (p : Nat), s.blk.held = false ∧ p < s.env.build.lanePorts ∧ s.blk.portUp false p = true ∧
    s.blk.owes p = true ∧ s.blk.llr p = true ∧ flag (s.blk.reg .LNK_STAT p) 50 = false) ∧
  (∃ (k : Block) (p lack : Nat) (x : Nat × Packet), k.llr p = true ∧ x ∈ ((k.takeLack p lack).port false p).kept) ∧
  (∃ (s : State), s.blk.held = false ∧ s.blk.rf .TIM_CTL 1 0 = 2 ∧
    let n := s.blk.rf .TIM_CTL 13 8
    s.blk.portUp true n = true ∧ (s.blk.port true n).request = none ∧ (s.blk.port true n).answered = false) ∧
  (∃ (s : State), s.blk.held = false ∧ s.blk.rf .TIM_CTL 1 0 = 3 ∧
    let n := s.blk.rf .TIM_CTL 13 8
    s.blk.portUp false n = true ∧ (s.blk.port false n).request = none ∧ (s.blk.port false n).answered = false ∧ flag
      (s.blk.reg .LNK_STAT n) 50 = false ∧ (s.blk.port false n).burst = false) ∧
  (∃ (s : State), s.blk.held = false ∧ s.blk.rf .TIM_CTL 1 0 = 3 ∧ flag (s.blk.reg .LNK_STAT (s.blk.rf .TIM_CTL 13
    8)) 50 = true) ∧
  (∃ (s : State) (p : Nat), s.blk.held = false ∧ p < s.env.build.lanePorts ∧ s.blk.portUp false p = true ∧ flag
    (s.blk.reg .LNK_STAT p) 50 = false) ∧
  (∃ (s : State) (p t1 : Nat), s.blk.held = false ∧ p < s.env.build.lanePorts ∧ s.blk.portUp false p = true ∧
    s.blk.timeSource false p = true ∧ (s.blk.port false p).request = some t1) ∧
  (∃ (s : State) (n : Nat), s.blk.held = false ∧ n < s.env.build.bridgePorts ∧ n < 16 ∧ s.blk.portUp true n =
    true) ∧
  (∃ (s : State) (n : Nat) (frags : List Nat), s.blk.held = false ∧ n < s.env.build.bridgePorts ∧ n < 16 ∧
    s.blk.portUp true n = true ∧ ((∀ f ∈ frags, controlOk f = true)) ∧ fragmentsWhole frags = true) :=
  ⟨⟨st ((lane 3 3).setReg .LNK_CTL 0 [] 5), 0, pk 1 3 0, by decide +kernel⟩,
   ⟨st ((lane 3 3).setReg .LNK_CTL 0 [] 5), 0, by decide +kernel⟩,
   ⟨st (lane 3 3), 0, by decide +kernel⟩,
   ⟨st (((lane 3 3).setReg .LNK_CTL 0 [] 5).setPort false 0 { kept := [(0, {})] }), 0, (0, {}), [], by decide +kernel⟩,
   ⟨st (lane 3 3), 0, by decide +kernel⟩,
   ⟨st (((lane 3 3).setReg .LNK_CTL 0 [] 5).setPort false 0 { kept := [(7, {})] }), 0, by decide +kernel⟩,
   ⟨st ((lane 3 3).setReg .LNK_CTL 0 [] 1), 0, by decide +kernel⟩,
   ⟨st (((lane 3 3).setReg .LNK_CTL 0 [] 5).setPort false 0 { expected := 1 }), 0, by decide +kernel⟩,
   ⟨({} : Block).setPort false 0 { kept := [(0, {})] } |>.setReg .LNK_CTL 0 [] 5, 0, 0, (0, {}), by decide +kernel⟩,
   ⟨st ((bridge 3).setRf .TIM_CTL 1 0 0 [] 2), by decide +kernel⟩,
   ⟨st ((lane 3 3).setRf .TIM_CTL 1 0 0 [] 3), by decide +kernel⟩,
   ⟨st (((lane 3 3).setBit .LNK_STAT 50 0).setRf .TIM_CTL 1 0 0 [] 3), by decide +kernel⟩,
   ⟨st (lane 3 3), 0, by decide +kernel⟩,
   ⟨st (((lane 3 3).setRf .TIM_CTL 1 0 0 [] 3).setPort false 0 { request := some 9 }), 0, 9, by decide +kernel⟩,
   ⟨st (bridge 3), 0, by decide +kernel⟩,
   ⟨st (bridge 3), 0, (List.range 8).map (fun i => 0x300000 + i * 0x20000 + controlParity (0x300000 + i *
     0x20000)), by decide +kernel⟩⟩

/-- The hypotheses of LocalPortAndComputeDomains are met, clause by clause. -/
theorem witness_LocalPortAndComputeDomains :
  (∃ (s : State) (b : Nat), Ready s b ∧ lpBuilt s.env.build b = true ∧ s.blk.lpState b ≠ 2) ∧
  (∃ (s : State) (b : Nat), Ready s b ∧ lpBuilt s.env.build b = true ∧ s.blk.lpState b = 2) ∧
  (∃ (s : State) (b : Nat) (v : Word), Ready s b ∧ s.blk.crosses .managementPort = true ∧ lpBuilt s.env.build b =
    true ∧ flag v 0 = false ∧ flag v 1 = true ∧ flag v 2 = false ∧
    let k := s.blk.lpToClosed s.env b true
    k.isolated b = false) ∧
  (∃ (s : State) (b : Nat), Ready s b ∧ lpBuilt s.env.build b = true ∧ s.blk.lpState b = 0) ∧
  (∃ (s : State) (b : Nat), Ready s b ∧ lpBuilt s.env.build b = true ∧ s.blk.lpState b ≠ 0) ∧
  (∃ (s : State) (b : Nat), Ready s b ∧ lpBuilt s.env.build b = true ∧ s.blk.lpState b = 1 ∧ s.blk.lpDrained b =
    true) ∧
  (∃ (s : State) (b : Nat), Ready s b ∧ lpBuilt s.env.build b = true ∧ s.blk.lpState b = 1 ∧ s.blk.lpDrained b =
    false) ∧
  (∃ (s : State) (b : Nat), Ready s b ∧ lpBuilt s.env.build b = true ∧ (s.blk.lpState b ≠ 2 ∨ s.blk.isolated b =
    true ∨ s.blk.rst.stopped.contains (.localPort b) = true)) ∧
  (∃ (s : State) (b : Nat), Ready s b ∧ lpBuilt s.env.build b = true ∧ s.blk.lpState b = 2 ∧ s.blk.isolated b =
    false ∧ s.blk.rst.stopped.contains (.localPort b) = false) ∧
  (∃ (s : State) (b : Nat) (v : Word), Ready s b ∧ s.blk.crosses .managementPort = true ∧ flag v 0 = true ∧
    s.blk.rf .PWR_BRK 9 8 b = 0) ∧
  (∃ (s : State) (b : Nat) (v : Word), Ready s b ∧ s.blk.crosses .managementPort = true ∧ flag v 0 = false ∧
    s.blk.rf .PWR_BRK 9 8 b = 2) ∧
  (∃ (s : State) (b : Nat) (v : Word), Ready s b ∧ s.blk.crosses .managementPort = true ∧ flag v 0 = false ∧
    s.blk.rf .PWR_BRK 9 8 b = 1) ∧
  (∃ (s : State) (b : Nat), Ready s b ∧ s.blk.rf .PWR_BRK 9 8 b = 1 ∧ s.blk.computeIdle b = true) ∧
  (∃ (s : State) (b : Nat), Ready s b ∧ s.blk.rf .PWR_BRK 9 8 b = 3 ∧ s.blk.rst.ramped.contains b = false) ∧
  (∃ (s : State) (b : Nat), Ready s b ∧ s.blk.rf .PWR_BRK 9 8 b ≠ 3) :=
  ⟨⟨st opn, 0, by decide +kernel⟩,
   ⟨st {}, 0, by decide +kernel⟩,
   ⟨st opn, 0, 2, by decide +kernel⟩,
   ⟨st opn, 0, by decide +kernel⟩,
   ⟨st {}, 0, by decide +kernel⟩,
   ⟨st (({} : Block).setRf .RST_BRK 7 6 0 [] 1), 0, by decide +kernel⟩,
   ⟨st (({ xfr.lpm := [(0, some { use := .packet {} })] } : Block).setRf .RST_BRK 7 6 0 [] 1), 0, by decide +kernel⟩,
   ⟨st { rst := { isolated := [0] } }, 0, by decide +kernel⟩,
   ⟨st {}, 0, by decide +kernel⟩,
   ⟨st {}, 0, 1, by decide +kernel⟩,
   ⟨st (({} : Block).setReg .PWR_BRK 0 [] 0x201), 0, 0, by decide +kernel⟩,
   ⟨st (({} : Block).setReg .PWR_BRK 0 [] 0x101), 0, 0, by decide +kernel⟩,
   ⟨st (red 0 { openSeq := 7, sets := [(0, { emitted := true })] } (({} : Block).setReg .PWR_BRK 0 [] 0x101)), 0,
     by decide +kernel⟩,
   ⟨st (({} : Block).setReg .PWR_BRK 0 [] 0x300), 0, by decide +kernel⟩,
   ⟨st {}, 0, by decide +kernel⟩⟩

/-- The hypotheses of LocalPortRequestsAreServed are met, clause by clause. -/
theorem witness_LocalPortRequestsAreServed :
  (∃ (s : State) (b rid addr n t : Nat), Ready s b ∧ s.blk.lpServes s.env.build b rid = true ∧ rid < 64 ∧ lpRange
    addr n = true ∧ s.blk.freePool b = some t ∧ look [] s.blk.xfr.lpHeld b = []) ∧
  (∃ (s : State) (b rid addr t : Nat) (data : List Byte), Ready s b ∧ s.blk.lpServes s.env.build b rid = true ∧
    rid < 64 ∧ lpRange addr data.length = true ∧ s.blk.freePool b = some t ∧ look [] s.blk.xfr.lpHeld b = []) ∧
  (∃ (s : State) (b rid addr n : Nat), Ready s b ∧ s.blk.lpServes s.env.build b rid = true ∧ rid < 64 ∧ lpRange
    addr n = false ∧ look [] s.blk.xfr.lpDue (b * 64 + rid) = []) ∧
  (∃ (s : State) (b rid tag : Nat), Ready s b ∧ s.blk.lpServes s.env.build b rid = true ∧ rid < 64 ∧ look []
    s.blk.xfr.fenceReads b = [] ∧ look [] s.blk.xfr.lpDue (b * 64 + rid) = [] ∧ s.blk.fenceReady b (s.blk.fenceOf
    b rid tag) = true) ∧
  (∃ (s : State) (b rid tag : Nat), Ready s b ∧ s.blk.lpServes s.env.build b rid = true ∧ rid < 64 ∧ look []
    s.blk.xfr.fenceReads b = [] ∧ s.blk.fenceReady b (s.blk.fenceOf b rid tag) = false) ∧
  (∃ (s : State) (b rid addr n : Nat), Ready s b ∧ s.blk.lpServes s.env.build b rid = true ∧ rid < 64 ∧ lpRange
    addr n = false ∧ look [] s.blk.xfr.lpDue (b * 64 + rid) ≠ []) ∧
  (∃ (k : Block) (b rid tag : Nat) (w : LpWait) (l r : List LpDue) (o : List Answer), rid < 64 ∧ look []
    k.xfr.lpDue (b * 64 + rid) = .waits tag w :: l ∧ releaseDue b rid l = (o, r)) ∧
  (∃ (k : Block) (b rid tag : Nat) (w v : LpWait) (l : List LpDue), rid < 64 ∧ v ≠ w ∧ look [] k.xfr.lpDue (b * 64
    + rid) = .waits tag v :: l) ∧
  (∃ (s : State) (b rid off : Nat), Ready s b ∧ s.blk.lpServes s.env.build b rid = true ∧ off < 4096 ∧ flag (look
    0 s.blk.prog.openRange b) 63 = true ∧ fld (look 0 s.blk.prog.openRange b) 11 0 ≤ off ∧ off ≤ fld (look 0
    s.blk.prog.openRange b) 27 16 ∧ look [] s.blk.xfr.lpDue (b * 64 + rid % 64) = []) ∧
  (∃ (s : State) (b rid off : Nat), Ready s b ∧ s.blk.lpServes s.env.build b rid = true ∧ ((flag (look 0
    s.blk.prog.openRange b) 63 = false ∨ off < fld (look 0 s.blk.prog.openRange b) 11 0 ∨ fld (look 0
    s.blk.prog.openRange b) 27 16 < off ∨ 4096 ≤ off)) ∧ look [] s.blk.xfr.lpDue (b * 64 + rid % 64) = []) ∧
  (∃ (s : State) (b rid : Nat), Ready s b ∧ s.blk.lpServes s.env.build b rid = false) ∧
  (∃ (k : Block) (b rid tag c : Nat) (l : List LpDue), ((look [] k.xfr.lpDue (b * 64 + rid % 64) = .waits tag
    .held :: l ∨ look [] k.xfr.lpDue (b * 64 + rid % 64) = .waits tag (.send c) :: l))) ∧
  (∃ (s : State) (b t : Nat) (o : LpOp) (r : List LpOp), Ready s b ∧ s.blk.freePool b = some t ∧ look []
    s.blk.xfr.lpHeld b = o :: r) ∧
  (∃ (s : State) (b t u c en n : Nat), Ready s b ∧ s.blk.freePool b = some t ∧ look [] s.blk.xfr.lpHeld b = [] ∧
    streamOk u = true ∧ (s.blk.stream b u).st = .running ∧ (s.blk.stream b u).hold = .pool ∧ ((∀ u' < u,
    (s.blk.stream b u').hold ≠ .pool)) ∧ ctlOf u (s.blk.curWord b u) = some (.signalR c en n) ∧ en < 4096) ∧
  (∃ (s : State) (b t dst a : Nat) (l : List Byte) (r : List (Nat × Nat × List Byte)), Ready s b ∧ s.blk.freePool
    b = some t ∧ look [] s.blk.xfr.lpHeld b = [] ∧ s.blk.prog.streams = [] ∧ look [] s.blk.gpd.asks b = (dst, a,
    l) :: r ∧ look none s.blk.gpd.coord b = none) ∧
  (∃ (s : State) (b : Nat), Ready s b ∧ s.blk.freePool b = none) ∧
  (∃ (s : State) (b rid addr n : Nat), Ready s b ∧ s.blk.lpServes s.env.build b rid = true ∧ rid < 64 ∧ lpRange
    addr n = true ∧ s.blk.freePool b = none) ∧
  (∃ (s : State) (b rid addr : Nat) (data : List Byte), Ready s b ∧ s.blk.lpServes s.env.build b rid = true ∧ rid
    < 64 ∧ lpRange addr data.length = true ∧ s.blk.freePool b = none) :=
  ⟨⟨st opn, 0, 63, 0, 64, 896, by decide +kernel⟩,
   ⟨st opn, 0, 63, 0, 896, [7], by decide +kernel⟩,
   ⟨st opn, 0, 63, 1, 64, by decide +kernel⟩,
   ⟨st opn, 0, 63, 0, by decide +kernel⟩,
   ⟨st (opn
     { xfr.trk := [(896, { st := .source, op := .lpLoad, rid := 63, rtag := 4, pcount := 1 })], xfr.lpDue := [(63, [.waits 4 (.load 896)])] }),
     0, 63, 0, by decide +kernel⟩,
   ⟨st (opn { xfr.lpDue := [(63, [.waits 4 (.load 896)])] }), 0, 63, 1, 64, by decide +kernel⟩,
   ⟨{ xfr.lpDue := [(63, [.waits 4 (.load 896), .ready 5 0 [], .waits 6 .held])] }, 0, 63, 4, .load 896, [.ready 5
     0 [], .waits 6 .held], [.waits 6 .held], [.lp 0 63 5 0 []], by decide +kernel⟩,
   ⟨{ xfr.lpDue := [(63, [.waits 4 (.load 896), .waits 6 .fence])] }, 0, 63, 4, .fence, .load 896, [.waits 6
     .fence], by decide +kernel⟩,
   ⟨st (opn { prog.openRange := [(0, 0x8000000000050005)] }), 0, 63, 5, by decide +kernel⟩,
   ⟨st (opn { prog.openRange := [(0, 0x8000000000050005)] }), 0, 63, 6, by decide +kernel⟩,
   ⟨st (opn { xfr.lpDue := [(63, [.waits 4 .held])] }), 0, 63, by decide +kernel⟩,
   ⟨{ xfr.lpDue := [(63, [.waits 4 (.send 3)])] }, 0, 63, 4, 3, [], by decide +kernel⟩,
   ⟨st { xfr.lpHeld := [(0, [{ rid := 1, tag := 0, addr := 0, len := 8, data := none }])] }, 0, 896,
     { rid := 1, tag := 0, addr := 0, len := 8, data := none }, [], by decide +kernel⟩,
   ⟨st (prog 0xC201030ABC000009 { st := .running, hold := .pool }), 0, 896, 0, 3, 0xABC, 9, by decide +kernel⟩,
   ⟨st { gpd.asks := [(0, [(4, 0, [1])])] }, 0, 896, 4, 0, [1], [], by decide +kernel⟩,
   ⟨st busyPool, 0, by decide +kernel⟩,
   ⟨st (opn busyPool), 0, 63, 64, 8, by decide +kernel⟩,
   ⟨st (opn busyPool), 0, 63, 64, [1], by decide +kernel⟩⟩

/-- The hypotheses of MessagesCommitInOrder are met, clause by clause. -/
theorem witness_MessagesCommitInOrder :
  (∃ (s : State) (b : Nat) (p : Packet) (r : List Packet) (g : Grant), Ready s b ∧ s.blk.headGood b 0 1 p r ∧
    p.op = opMessage ∧ p.steer = false ∧ p.group < 64 ∧
    let k := s.blk.setRx b 0 r
    let mine (g : Grant) : Bool := g.brick == p.src / 8 && g.chan == p.tracker % 1024
    flag (k.reg .MQ_QCFG b [p.group]) 63 = true ∧ p.cseq = (k.queue b p.group).epoch ∧ (k.queue b
      p.group).grants.find? mine = some g ∧ p.pseq < 2 ^ 16 ∧ g.next = p.pseq ∧ 0 < g.res) ∧
  (∃ (s : State) (b : Nat) (p : Packet) (r : List Packet) (g : Grant), Ready s b ∧ s.blk.headGood b 0 1 p r ∧
    p.op = opMessage ∧ p.steer = false ∧ p.group < 64 ∧
    let k := s.blk.setRx b 0 r
    flag (k.reg .MQ_QCFG b [p.group]) 63 = true ∧ p.cseq = (k.queue b p.group).epoch ∧ (k.queue b
      p.group).grants.find? (fun g => g.brick == p.src / 8 && g.chan == p.tracker % 1024) = some g ∧ before16 p.pseq
      g.next = true) ∧
  (∃ (s : State) (b : Nat) (p : Packet) (r : List Packet), Ready s b ∧ s.blk.headGood b 0 1 p r ∧ p.op =
    opMessage ∧ p.steer = false ∧ p.group < 64 ∧
    let k := s.blk.setRx b 0 r
    flag (k.reg .MQ_QCFG b [p.group]) 63 = true ∧ p.cseq = (k.queue b p.group).epoch ∧ (k.queue b
      p.group).grants.find? (fun g => g.brick == p.src / 8 && g.chan == p.tracker % 1024) = none) ∧
  (∃ (s : State) (b : Nat) (p : Packet) (r : List Packet) (g : Grant), Ready s b ∧ s.blk.headGood b 0 1 p r ∧
    p.op = opMessage ∧ p.steer = false ∧ p.group < 64 ∧
    let k := s.blk.setRx b 0 r
    let mine (g : Grant) : Bool := g.brick == p.src / 8 && g.chan == p.tracker % 1024
    flag (k.reg .MQ_QCFG b [p.group]) 63 = true ∧ p.cseq = (k.queue b p.group).epoch ∧ (k.queue b
      p.group).grants.find? mine = some g ∧ before16 p.pseq g.next = false ∧ p.pseq ≠ g.next ∧ g.nackAt = none) ∧
  (∃ (s : State) (b : Nat) (p : Packet) (r : List Packet) (g : Grant), Ready s b ∧ s.blk.headGood b 0 1 p r ∧
    p.op = opMessage ∧ p.steer = false ∧ p.group < 64 ∧
    let k := s.blk.setRx b 0 r
    let mine (g : Grant) : Bool := g.brick == p.src / 8 && g.chan == p.tracker % 1024
    flag (k.reg .MQ_QCFG b [p.group]) 63 = true ∧ p.cseq = (k.queue b p.group).epoch ∧ (k.queue b
      p.group).grants.find? mine = some g ∧ before16 p.pseq g.next = false ∧ ∃ (t : _), p.pseq ≠ g.next ∧ g.nackAt =
      some t ∧ k.within t (k.rf .TRK_CTL 31 24 b) = true) ∧
  (∃ (s : State) (b : Nat) (p : Packet) (r : List Packet) (g : Grant), Ready s b ∧ s.blk.headGood b 0 1 p r ∧
    p.op = opMessage ∧ p.steer = false ∧ p.group < 64 ∧
    let k := s.blk.setRx b 0 r
    let mine (g : Grant) : Bool := g.brick == p.src / 8 && g.chan == p.tracker % 1024
    flag (k.reg .MQ_QCFG b [p.group]) 63 = true ∧ p.cseq = (k.queue b p.group).epoch ∧ (k.queue b
      p.group).grants.find? mine = some g ∧ before16 p.pseq g.next = false ∧ p.pseq = g.next ∧ g.res = 0) ∧
  (∃ (s : State) (b : Nat) (p : Packet) (r : List Packet), Ready s b ∧ s.blk.headGood b 0 1 p r ∧ p.op =
    opMessage ∧ p.steer = false ∧ p.group < 64 ∧
    let k := s.blk.setRx b 0 r
    flag (k.reg .MQ_QCFG b [p.group]) 63 = true ∧ p.cseq ≠ (k.queue b p.group).epoch) ∧
  (∃ (s : State) (b : Nat) (p : Packet) (r : List Packet), Ready s b ∧ s.blk.headGood b 0 1 p r ∧ p.op =
    opMessage ∧ p.steer = false ∧ p.group < 64 ∧
    let k := s.blk.setRx b 0 r
    flag (k.reg .MQ_QCFG b [p.group]) 63 = false) ∧
  (∃ (s : State) (b : Nat) (p : Packet) (r : List Packet), Ready s b ∧ s.blk.headGood b 0 1 p r ∧ p.op =
    opMessage ∧ p.steer = true ∧ p.group < 64 ∧
    let k := s.blk.setRx b 0 r
    let key := (p.src, p.tracker + 2 ^ 18 * (1 + p.pseq))
    flag (k.reg .MQ_QCFG b [p.group]) 63 = true ∧ (k.history b).contains key = false ∧ (k.history b).length < 64 ∧
      flag (k.reg .MQ_QCFG b [p.group]) 61 = true ∧ 0 < (k.queue b p.group).free) ∧
  (∃ (s : State) (b : Nat) (p : Packet) (r : List Packet), Ready s b ∧ s.blk.headGood b 0 1 p r ∧ p.op =
    opMessage ∧ p.steer = true ∧ p.group < 64 ∧
    let k := s.blk.setRx b 0 r
    let key := (p.src, p.tracker + 2 ^ 18 * (1 + p.pseq))
    flag (k.reg .MQ_QCFG b [p.group]) 63 = true ∧ (k.history b).contains key = false ∧ (((k.queue b p.group).free =
      0 ∨ flag (k.reg .MQ_QCFG b [p.group]) 61 = false))) ∧
  (∃ (s : State) (b : Nat) (p : Packet) (r : List Packet), Ready s b ∧ s.blk.headGood b 0 1 p r ∧ p.op =
    opMessage ∧ p.steer = true ∧ p.group < 64 ∧
    let k := s.blk.setRx b 0 r
    let key := (p.src, p.tracker + 2 ^ 18 * (1 + p.pseq))
    flag (k.reg .MQ_QCFG b [p.group]) 63 = true ∧ (k.history b).contains key = true) ∧
  (∃ (s : State) (b : Nat) (p : Packet) (r : List Packet), Ready s b ∧ s.blk.headGood b 0 1 p r ∧ p.op =
    opMessage ∧ p.steer = true ∧ p.group < 64 ∧
    let k := s.blk.setRx b 0 r
    flag (k.reg .MQ_QCFG b [p.group]) 63 = false) ∧
  (∃ (k : Block) (b : Nat) (p : Packet), ((look [] k.net.stage (b * 2)).filter (ackFor p)).length ≤ 1) :=
  ⟨⟨st (rx 0 msg (que 0x8000000000000000 { grants := [{ brick := 0, chan := 0, res := 1 }] })), 0, msg, [],
     { brick := 0, chan := 0, res := 1 }, by decide +kernel⟩,
   ⟨st (rx 0 msg (que 0x8000000000000000 { grants := [{ brick := 0, chan := 0, next := 1 }] })), 0, msg, [],
     { brick := 0, chan := 0, next := 1 }, by decide +kernel⟩,
   ⟨st (rx 0 msg (que 0x8000000000000000)), 0, msg, [], by decide +kernel⟩,
   ⟨st (rx 0 (msg { pseq := 1 }) (que 0x8000000000000000 { grants := [{ brick := 0, chan := 0 }] })), 0, msg
     { pseq := 1 }, [], { brick := 0, chan := 0 }, by decide +kernel⟩,
   ⟨st (rx 0 (msg { pseq := 1 }) ((que 0x8000000000000000
     { grants := [{ brick := 0, chan := 0, nackAt := some 0 }] }).setReg .TRK_CTL 0 [] 0xFF000000)), 0, msg
     { pseq := 1 }, [], { brick := 0, chan := 0, nackAt := some 0 }, by decide +kernel, by decide +kernel, by decide +kernel, by decide +kernel,
     by decide +kernel, by decide +kernel, by decide +kernel, by decide +kernel, by decide +kernel, 0, by decide +kernel, by decide +kernel, by decide +kernel⟩,
   ⟨st (rx 0 msg (que 0x8000000000000000 { grants := [{ brick := 0, chan := 0 }] })), 0, msg, [],
     { brick := 0, chan := 0 }, by decide +kernel⟩,
   ⟨st (rx 0 msg (que 0x8000000000000000 { epoch := 1 })), 0, msg, [], by decide +kernel⟩,
   ⟨st (rx 0 msg), 0, msg, [], by decide +kernel⟩,
   ⟨st (rx 0 (msg { steer := true }) (que 0xA000000000000000)), 0, msg { steer := true }, [], by decide +kernel⟩,
   ⟨st (rx 0 (msg { steer := true }) (que 0xA000000000000000
     { msgs := List.replicate 32 { src := 0, chan := 0, data := [] } })), 0, msg { steer := true }, [], by decide +kernel⟩,
   ⟨st (rx 0 (msg { steer := true }) (que 0xA000000000000000 {} { xfr.history := [(0, [(0, 2 ^ 18)])] })), 0, msg
     { steer := true }, [], by decide +kernel⟩,
   ⟨st (rx 0 (msg { steer := true }) (que 0x2000000000000000)), 0, msg { steer := true }, [], by decide +kernel⟩,
   ⟨{ net.stage := [(0, [{ pkt := pk 11 5 1 { group := 0xFC0 } }])] }, 0, pk 9 4 1, by decide +kernel⟩⟩

/-- The hypotheses of OldHomesMoveTheirPages are met, clause by clause. -/
theorem witness_OldHomesMoveTheirPages :
  (∃ (s : State) (b i : Nat) (p : Packet) (r : List Packet), Ready s b ∧ s.blk.dirNew s.env.build b 4 8 p r ∧
    findBelow 4 (fun r => (s.blk.moveRec b r).st == .free) = some i) ∧
  (∃ (s : State) (b i : Nat) (p : Packet) (r : List Packet), Ready s b ∧ s.blk.dirNew s.env.build b 4 0xA p r ∧
    findBelow 4 (fun r => (s.blk.moveRec b r).st == .forward && (s.blk.moveRec b r).addr / 2 ^ 21 == p.addr / 2 ^
    21) = some i) ∧
  (∃ (s : State) (b r : Nat), Ready s b ∧ r < 4 ∧ (s.blk.moveRec b r).st = .copy ∧ (s.blk.moveRec b r).todo = [] ∧
    (s.blk.moveRec b r).flight = [] ∧ (s.blk.moveRec b r).dirty = 0 ∧ s.blk.frameBusy b (s.blk.moveRec b
    r).frame = true) ∧
  (∃ (s : State) (b r : Nat), Ready s b ∧ r < 4 ∧ (s.blk.moveRec b r).st = .copy ∧ (s.blk.moveRec b r).todo = [] ∧
    (s.blk.moveRec b r).flight = [] ∧ (s.blk.moveRec b r).dirty = 0 ∧ s.blk.frameBusy b (s.blk.moveRec b
    r).frame = false) ∧
  (∃ (s : State) (b r : Nat), Ready s b ∧ r < 4 ∧ (s.blk.moveRec b r).st = .copy ∧ (s.blk.moveRec b r).todo = [] ∧
    (s.blk.moveRec b r).flight = [] ∧ (s.blk.moveRec b r).dirty ≠ 0 ∧ s.blk.rf .PLC_POL 59 56 0 ≤ (s.blk.moveRec b
    r).round) ∧
  (∃ (s : State) (b r : Nat), Ready s b ∧ r < 4 ∧ (s.blk.moveRec b r).st = .copy ∧ (s.blk.moveRec b r).todo = [] ∧
    (s.blk.moveRec b r).flight = [] ∧ (s.blk.moveRec b r).dirty ≠ 0 ∧ (s.blk.moveRec b r).round < s.blk.rf
    .PLC_POL 59 56 0) ∧
  (∃ (s : State) (b r : Nat), Ready s b ∧ r < 4 ∧ (s.blk.moveRec b r).st = .forward ∧ (s.blk.moveRec b
    r).flipped = true ∧ s.blk.gpd.log.length < 64) ∧
  (∃ (s : State) (b r : Nat), Ready s b ∧ r < 4 ∧ (s.blk.moveRec b r).st = .forward ∧ (s.blk.moveRec b
    r).flipped = true ∧ s.blk.gpd.log.length = 64) ∧
  (∃ (s : State) (b r : Nat), Ready s b ∧ r < 4 ∧ (s.blk.moveRec b r).st = .logwait ∧ s.blk.gpd.log.length < 64) ∧
  (∃ (s : State) (b i : Nat), Ready s b ∧ i < 2048 ∧ (s.blk.gpdEntry b i).st = .forwarding) ∧
  (∃ (s : State) (b : Nat) (v : Word), Ready s b ∧ s.blk.crosses .managementPort = true ∧ s.blk.rf .GPD_SEL 13 11
    b = 2 ∧
    let i := s.blk.rf .GPD_SEL 10 0 b
    let x := gpdOfWords (look (0, 0) s.blk.gpd.staged b).1 (look (0, 0) s.blk.gpd.staged b).2 v
    (s.blk.gpdEntry b i).st ≠ .moving ∧ x.st ≠ .moving ∧ x.st ≠ .forwarding) ∧
  (∃ (s : State) (b : Nat), Ready s b ∧ s.blk.crosses .managementPort = true ∧ s.blk.rf .GPD_SEL 13 11 b = 2 ∧
    (s.blk.gpdEntry b (s.blk.rf .GPD_SEL 10 0 b)).st = .moving) ∧
  (∃ (s : State) (b f : Nat) (r : List (Nat × Nat)), s.blk.held = false ∧ s.blk.crosses .managementPort = true ∧
    s.blk.gpd.log = (b, f) :: r) ∧
  (∃ (s : State), s.blk.held = false ∧ s.blk.crosses .managementPort = true ∧ s.blk.gpd.log = []) :=
  ⟨⟨ask 8 4, 0, 0, drq 8 4, [], by decide +kernel⟩,
   ⟨ask 0xA 4 (mov { st := .forward }), 0, 0, drq 0xA 4, [], by decide +kernel⟩,
   ⟨st (mov { st := .copy } { xfr.lpm := [(0, some { use := .packet (pk 1 3 0 { payload := [7] }) })] }), 0, 0,
     by decide +kernel⟩,
   ⟨st (mov { st := .copy }), 0, 0, by decide +kernel⟩,
   ⟨st (mov { st := .copy, dirty := 1, round := 15 }), 0, 0, by decide +kernel⟩,
   ⟨st ((mov { st := .copy, dirty := 1 }).setRf .PLC_POL 59 56 0 [] 1), 0, 0, by decide +kernel⟩,
   ⟨st (mov { st := .forward, flipped := true, frame := 7 } { gpd.log := List.replicate 63 (0, 0) }), 0, 0,
     by decide +kernel⟩,
   ⟨st (mov { st := .forward, flipped := true } { gpd.log := List.replicate 64 (0, 0) }), 0, 0, by decide +kernel⟩,
   ⟨st (mov { st := .logwait, frame := 7 } { gpd.log := List.replicate 63 (0, 0) }), 0, 0, by decide +kernel⟩,
   ⟨st (gpd { v := true, st := .forwarding }), 0, 0, by decide +kernel⟩,
   ⟨st (({} : Block).setReg .GPD_SEL 0 [] 0x1000), 0, 7, by decide +kernel⟩,
   ⟨st (gpd { v := true, st := .moving } (({} : Block).setReg .GPD_SEL 0 [] 0x1000)), 0, by decide +kernel⟩,
   ⟨st { gpd.log := [(0, 7)] }, 0, 7, [], by decide +kernel⟩,
   ⟨st {}, by decide +kernel⟩⟩

/-- The hypotheses of OnlyResponsesWriteMemory are met, clause by clause. -/
theorem witness_OnlyResponsesWriteMemory :
  (∃ (c : Instr) (s t : State), exec c s = .next t) :=
  ⟨.timSet 7, st {}, st { clk.setHeld := some 7, out := [.mp 0 false] }, rfl⟩

/-- The hypotheses of PacketsEnterLeaveAndStart are met, clause by clause. -/
theorem witness_PacketsEnterLeaveAndStart :
  (∃ (s : State) (b i : Nat) (p q : Packet) (r : List Packet) (k : Block), Ready s b ∧ s.blk.rxQueue b 3 = p ::
    r ∧ p.rmode = 2 ∧ headerCheck p = .good ∧ (findBelow 512 fun i => flag ((s.blk.setRx b 3 r).endpointEntry b i)
    63 && fld ((s.blk.setRx b 3 r).endpointEntry b i) 23 0 == p.dst % 2 ^ 24) = some i ∧ (s.blk.setRx b 3
    r).enterDie s.env.build b 4
    { p with dst := fld ((s.blk.setRx b 3 r).endpointEntry b i) 53 24, rmode := 1, route := 0 } = (some q, k)) ∧
  (∃ (s : State) (b : Nat) (p : Packet) (r : List Packet), Ready s b ∧ s.blk.rxQueue b 3 = p :: r ∧ p.rmode = 2 ∧
    headerCheck p = .good ∧ (findBelow 512 fun i => flag ((s.blk.setRx b 3 r).endpointEntry b i) 63 && fld
    ((s.blk.setRx b 3 r).endpointEntry b i) 23 0 == p.dst % 2 ^ 24) = none) ∧
  (∃ (b i c j : Nat), i < 512 ∧ j < 512 ∧ b < 256 ∧ c < 256) ∧
  (∃ (s : State) (b p n : Nat) (q : Packet) (l : List Packet), Ready s b ∧ beyond s.env.build b p = .lane n ∧
    s.blk.isolated b = false ∧ s.blk.rxBuffer false n = q :: l ∧ q.vc < 2) ∧
  (∃ (s : State) (b p n : Nat), Ready s b ∧ beyond s.env.build b p = .bridge n ∧ s.blk.isolated b = false ∧
    s.blk.portUp true n = true) ∧
  (∃ (s : State) (b p : Nat) (x : Chained) (r : List Chained), Ready s b ∧ p < 8 ∧ p ≠ 4 ∧ p ≠ 5 ∧ s.blk.chainOf b
    p = x :: r ∧ 2 ≤ x.pkt.vc) ∧
  (∃ (k : Block) (b p : Nat) (x : Chained) (r : List Chained), p < 8 ∧ k.chainOf b p = x :: r ∧ pktUnits x.pkt ≤
    x.units ∧ 0 < x.units ∧ x.behind = []) ∧
  (∃ (s : State) (b p o : Nat) (q : Packet) (r : List Packet) (os : List Nat), Ready s b ∧ isExit s.env.build b
    p = true ∧ p < 8 ∧ look [] s.blk.net.hold (b * 8 + p) = q :: r ∧ s.blk.outputsOf s.env.build b p q = o :: os ∧
    s.blk.inWindow s.env.build b o p q (o :: os) = true ∧ chainUnits (s.blk.chainOf b p) < 4) ∧
  (∃ (s : State) (b p : Nat) (q : Packet) (r : List Packet), Ready s b ∧ isExit s.env.build b p = true ∧ p < 8 ∧
    look [] s.blk.net.hold (b * 8 + p) = q :: r) ∧
  (∃ (s : State) (b p : Nat), Ready s b ∧ p < 8 ∧ s.blk.isolated b = false ∧ s.blk.outputFree s.env.build b p =
    true ∧ s.blk.replays s.env.build b p = none ∧ (s.blk.windowKind s.env.build b p = .shared ∨ s.blk.windowKind
    s.env.build b p = .closing)) ∧
  (∃ (s : State) (b p n : Nat), Ready s b ∧ p < 8 ∧ s.blk.isolated b = false ∧ s.blk.outputFree s.env.build b p =
    true ∧ s.blk.replays s.env.build b p = some n) ∧
  (∃ (s : State) (b p : Nat), Ready s b ∧ p < 8 ∧ ((s.blk.isolated b = true ∨ s.blk.outputFree s.env.build b p =
    false))) ∧
  (∃ (s : State) (b p : Nat) (h : Head), Ready s b ∧ p < 8 ∧ s.blk.isolated b = false ∧ s.blk.outputFree
    s.env.build b p = true ∧ s.blk.replays s.env.build b p = none ∧
    let v := s.blk.windowNow s.env.build b p
    s.blk.scheduledHead b v.inp p v.flow = some h ∧ h.owed = [p] ∧ s.blk.matchesWindow s.env.build b p h.inp h.pkt
      [p] = true ∧ s.blk.outputTakes s.env.build b p h.pkt = true ∧ s.blk.heldIn s.env.build b p h = true) ∧
  (∃ (k : Block) (d : Build) (b o : Nat) (h : Head), pktUnits h.pkt ≤ k.unitsTaken d b o h.pkt) ∧
  (∃ (s : State) (b p : Nat) (x : Chained) (r : List Chained), Ready s b ∧ p < 8 ∧ p ≠ 4 ∧ p ≠ 5 ∧ s.blk.chainOf b
    p = x :: r ∧ x.pkt.vc < 2 ∧ s.blk.misses s.env.build b p x = true) ∧
  (∃ (s : State) (addr : Nat), s.blk.held = false ∧ s.blk.crosses .managementPort = true ∧ shaperAt addr = none) ∧
  (∃ (s : State) (addr b : Nat) (r : RegName) (ix : List Nat) (v : Word), Ready s b ∧ s.blk.crosses
    .managementPort = true ∧ shaperAt addr = some (r, b, ix) ∧ fld v 48 32 ≤ 65536 ∧ fld v 31 16 ≠ 0 ∧ fld v 7 0 ≠
    0) ∧
  (∃ (s : State) (addr b : Nat) (r : RegName) (ix : List Nat) (v : Word), Ready s b ∧ s.blk.crosses
    .managementPort = true ∧ shaperAt addr = some (r, b, ix) ∧ 65536 < fld v 48 32 ∧ fld v 31 16 ≠ 0 ∧ fld v 7 0 ≠
    0) :=
  ⟨⟨st (ep3 (rx 3 flat)), 0, 0, flat, { flat with dst := 0, rmode := 1, route := 0, la := 4 }, [], ep3 {},
     by decide +kernel⟩,
   ⟨st (rx 3 flat), 0, flat, [], by decide +kernel⟩,
   ⟨0, 511, 0, 511, by decide +kernel⟩,
   ⟨st (({} : Block).setRxBuffer false 0 [pk 1 0 0]), 0, 7, 0, pk 1 0 0, [], by decide +kernel⟩,
   ⟨st (bridge 3), 3, 6, 0, by decide +kernel⟩,
   ⟨st (({} : Block).setChain 0 7 [{ pkt := pk 1 3 0 }]), 0, 7, { pkt := pk 1 3 0 }, [], by decide +kernel⟩,
   ⟨(({} : Block).setChain 0 7 [{ pkt := pk 1 3 0 }]), 0, 7, { pkt := pk 1 3 0 }, [], by decide +kernel⟩,
   ⟨st (window 7 { net.hold := [(7, [east])] }), 0, 7, 1, east, [], [], by decide +kernel⟩,
   ⟨st { net.hold := [(7, [east])] }, 0, 7, east, [], by decide +kernel⟩,
   ⟨st (crs [.shared 200] { at_ := 1 }), 0, 1, by decide +kernel⟩,
   ⟨st (({} : Block).setPort false 0 { replay := [0] }), 0, 7, 0, by decide +kernel⟩,
   ⟨st { rst.isolated := [0] }, 0, 7, by decide +kernel⟩,
   ⟨st (window 4 { net.stage := [(0, [{ pkt := east, owed := some [1] }])] }), 0, 1,
     { inp := 4, idx := 0, pkt := east, owed := [1] }, by decide +kernel⟩,
   ⟨window 4 { net.stage := [(0, [{ pkt := east, owed := some [1] }])] }, small, 0, 1,
     { inp := 4, idx := 0, pkt := east, owed := [1] }, by decide +kernel⟩,
   ⟨st (({} : Block).setChain 0 7 [{ pkt := east }]), 0, 7, { pkt := east }, [], by decide +kernel⟩,
   ⟨st {}, 0, by decide +kernel⟩,
   ⟨st {}, 0x01000400, 0, .SHW_SVC, [0, 0], 0x0001000000010001, by decide +kernel⟩,
   ⟨st {}, 0x01009278, 0, .SHW_SUB, [1103], 0x0001000100010001, by decide +kernel⟩⟩

/-- The hypotheses of ProgramWindowAndRouteTables are met, clause by clause. -/
theorem witness_ProgramWindowAndRouteTables :
  (∃ (s : State) (b off : Nat), Ready s b ∧ s.blk.crosses .managementPort = true ∧ off < 0x2000 ∧ s.blk.rf
    .GLB_PMSEL 1 0 = 1 ∧ s.blk.streamsIdle b true = true) ∧
  (∃ (s : State) (b off : Nat), Ready s b ∧ s.blk.crosses .managementPort = true ∧ off < 0x8000 ∧ s.blk.rf
    .GLB_PMSEL 1 0 = 2 ∧ ((s.blk.streamsIdle b false = true ∨ (flag (look 0 s.blk.prog.openRange b) 63 = true ∧
    fld (look 0 s.blk.prog.openRange b) 11 0 ≤ off / 8 ∧ off / 8 ≤ fld (look 0 s.blk.prog.openRange b) 27 16)))) ∧
  (∃ (s : State) (b off : Nat), Ready s b ∧ s.blk.crosses .managementPort = true ∧ off < 0x10000 ∧ s.blk.rf
    .GLB_PMSEL 1 0 = 0) ∧
  (∃ (s : State) (b off : Nat), Ready s b ∧ s.blk.crosses .managementPort = true ∧ off < 0x2000 ∧ s.blk.rf
    .GLB_PMSEL 1 0 = 1 ∧ s.blk.streamsIdle b true = false) ∧
  (∃ (s : State) (v : Word), s.blk.held = false ∧ s.blk.crosses .managementPort = true ∧ flag v 1 = true) ∧
  (∃ (s : State) (v : Word), s.blk.held = false ∧ s.blk.crosses .managementPort = true ∧ flag v 1 = false) ∧
  (∃ (s : State), s.blk.held = false ∧ s.blk.clk.cyc = 0 ∧ s.blk.net.flipPending = true ∧ s.blk.img.flipsEpoch =
    false) ∧
  (∃ (s : State), s.blk.held = false ∧ s.blk.net.flipPending = false) ∧
  (∃ (s : State), s.blk.held = false ∧ s.blk.img.flipsEpoch = true ∧ s.blk.startsAt s.blk.clk.course = true) ∧
  (∃ (s : State) (bank i : Nat), s.blk.held = false ∧ s.blk.crosses .managementPort = true ∧ bank < 2 ∧ i < 4 ∧
    bank ≠ b2n s.blk.net.epoch ∧ s.blk.net.holdLeft = 0) ∧
  (∃ (s : State) (bank i : Nat), s.blk.held = false ∧ s.blk.crosses .managementPort = true ∧ bank < 2 ∧ i < 768 ∧
    bank ≠ b2n s.blk.net.epoch ∧ s.blk.net.holdLeft = 0) ∧
  (∃ (s : State) (bank i : Nat), s.blk.held = false ∧ s.blk.crosses .managementPort = true ∧ bank < 2 ∧ i < 768 ∧
    ((bank = b2n s.blk.net.epoch ∨ s.blk.net.holdLeft ≠ 0))) ∧
  (∃ (s : State) (b : Nat) (v : Word), Ready s b ∧ s.blk.crosses .managementPort = true ∧ fld v 61 60 ≤ 1) :=
  ⟨⟨st (({} : Block).setReg .GLB_PMSEL 0 [] 1), 0, 0x1FFF, by decide +kernel⟩,
   ⟨st (({ prog.openRange := [(0, 0x8000000000050005)] } : Block).setReg .GLB_PMSEL 0 [] 2), 0, 40, by decide +kernel⟩,
   ⟨st (({} : Block).setReg .GLB_PMSEL 0 [] 0), 0, 0xFFFF, by decide +kernel⟩,
   ⟨st ((({} : Block).setReg .GLB_PMSEL 0 [] 1).setStream 0 0x13F { st := .running }), 0, 0, by decide +kernel⟩,
   ⟨st {}, 3, by decide +kernel⟩,
   ⟨st {}, 1, by decide +kernel⟩,
   ⟨st { net.flipPending := true }, by decide +kernel⟩,
   ⟨st {}, by decide +kernel⟩,
   ⟨st { img.flipsEpoch := true, img.written := true }, by decide +kernel⟩,
   ⟨st {}, 1, 3, by decide +kernel⟩,
   ⟨st {}, 1, 767, by decide +kernel⟩,
   ⟨st {}, 0, 767, by decide +kernel⟩,
   ⟨st {}, 0, 0x1FFFFFFFFFFFFFFF, by decide +kernel⟩⟩

/-- The hypotheses of QueuesPopAndReset are met, clause by clause. -/
theorem witness_QueuesPopAndReset :
  (∃ (s : State) (b q : Nat) (m : Message) (r : List Message), Ready s b ∧ q < 64 ∧ (s.blk.queue b q).seen
    s.blk.clk.now = m :: r) ∧
  (∃ (s : State) (via : Via) (b q : Nat), Ready s b ∧ s.blk.viaOpen s.env.build b via = true ∧ q < 64 ∧
    (s.blk.queue b q).seen s.blk.clk.now = []) ∧
  (∃ (s : State) (b rid q : Nat) (m : Message) (r : List Message), Ready s b ∧ q < 64 ∧ s.blk.lpServes s.env.build
    b rid = true ∧ (s.blk.queue b q).seen s.blk.clk.now = m :: r ∧ look [] s.blk.xfr.lpDue (b * 64 + rid % 64) =
    []) ∧
  (∃ (s : State) (via : Via) (b : Nat) (v : Event) (r : List Event), Ready s b ∧ s.blk.viaOpen s.env.build b via =
    true ∧ s.blk.events b = v :: r) ∧
  (∃ (s : State) (via : Via) (b : Nat), Ready s b ∧ s.blk.viaOpen s.env.build b via = true ∧ s.blk.events b = []) ∧
  (∃ (s : State) (via : Via) (b q : Nat) (v : Word), Ready s b ∧ s.blk.viaOpen s.env.build b via = true ∧ q < 64 ∧
    flag v 62 = true) ∧
  (∃ (k : Block) (b q : Nat), (k.queue b q).msgs = [] ∧ (k.queue b q).late.1 ≠ k.clk.now + 1) ∧
  (∃ (k : Block) (b q : Nat), (k.queue b q).grants = []) ∧
  (∃ (s : State) (b : Nat), Ready s b ∧ s.blk.events b ≠ []) ∧
  (∃ (s : State) (b : Nat), Ready s b ∧ s.blk.events b = []) ∧
  (∃ (s : State) (b : Nat), Ready s b) :=
  ⟨⟨st (que 0 { msgs := [{ src := 0, chan := 0, data := [1] }] }), 0, 0, { src := 0, chan := 0, data := [1] }, [],
     by decide +kernel⟩,
   ⟨st opn, .lp 5 6, 0, 63, by decide +kernel⟩,
   ⟨st (opn (que 0 { msgs := [{ src := 0, chan := 0, data := [1] }] })), 0, 5, 0,
     { src := 0, chan := 0, data := [1] }, [], by decide +kernel⟩,
   ⟨st { flt.events := [(0, [{ type := 3 }])] }, .mp, 0, { type := 3 }, [], by decide +kernel⟩,
   ⟨st {}, .mp, 0, by decide +kernel⟩,
   ⟨st {}, .mp, 0, 63, 0x4000000000000000, by decide +kernel⟩,
   ⟨{}, 0, 0, by decide +kernel⟩,
   ⟨{}, 0, 63, by decide +kernel⟩,
   ⟨st { flt.events := [(0, [{ type := 3 }])] }, 0, by decide +kernel⟩,
   ⟨st {}, 0, by decide +kernel⟩,
   ⟨st { xfr.history := [(0, [(5, 6), (7, 8)])] }, 0, by decide +kernel⟩⟩

/-- The hypotheses of ReducerInstructionsCompute are met, clause by clause. -/
theorem witness_ReducerInstructionsCompute :
  (∃ (s : State) (b sl j : Nat) (i : RdcInstr) (evt : Bool) (r : Residue), Ready s b ∧ sl < 64 ∧ i.isArith =
    true ∧ s.blk.rdcFetch b sl = some (i, evt) ∧ (s.blk.slot b sl).cur = some j ∧ residueOk r = true ∧ ∃ (c k x :
    _), s.blk.compute b sl i = some (c, k) ∧ (k.slot b sl).cur = some j ∧ i.command b sl r = some x ∧ mismatches i
    r.first = []) ∧
  (∃ (s : State) (b sl j : Nat) (i : RdcInstr) (evt : Bool) (r : Residue), Ready s b ∧ sl < 64 ∧ i.isArith =
    true ∧ s.blk.rdcFetch b sl = some (i, evt) ∧ (s.blk.slot b sl).cur = some j ∧ residueOk r = true ∧ ∃ (c k x :
    _), s.blk.compute b sl i = some (c, k) ∧ (k.slot b sl).cur = some j ∧ i.command b sl r = some x ∧ mismatches i
    r.first ≠ [] ∧ mismatches i r.second = []) ∧
  (∃ (s : State) (b sl j : Nat) (i : RdcInstr) (evt : Bool) (r : Residue), Ready s b ∧ sl < 64 ∧ i.isArith =
    true ∧ s.blk.rdcFetch b sl = some (i, evt) ∧ (s.blk.slot b sl).cur = some j ∧ residueOk r = true ∧ ∃ (c k x :
    _), s.blk.compute b sl i = some (c, k) ∧ (k.slot b sl).cur = some j ∧ i.command b sl r = some x ∧ mismatches i
    r.first ≠ [] ∧ mismatches i r.second ≠ []) ∧
  (∃ (s : State) (b sl j : Nat) (i : RdcInstr) (evt : Bool) (r : Residue), Ready s b ∧ sl < 64 ∧ i.isArith =
    true ∧ s.blk.rdcFetch b sl = some (i, evt) ∧ (s.blk.slot b sl).cur = some j ∧ residueOk r = true ∧ ∃ (x : _),
    s.blk.compute b sl i = none ∧ i.command b sl r = some x) ∧
  (∃ (a b r : Nat), a < 2 ^ 64 ∧ b < 2 ^ 64 ∧ r = (a + b) % 2 ^ 64) ∧
  (∃ (a b n : Nat), a < 2 ^ 64 ∧ b < 2 ^ 64 ∧ n < 64) ∧
  (∃ (s : State) (b sl : Nat) (i : RdcInstr) (evt : Bool), Ready s b ∧ sl < 64 ∧ i.isRecord = true ∧
    s.blk.rdcFetch b sl = some (i, evt) ∧ ∃ (k x : _), s.blk.recResult b sl i = some k ∧ i.command b sl {} = some
    x) ∧
  (∃ (s : State) (b sl : Nat) (i : RdcInstr) (evt : Bool), Ready s b ∧ sl < 64 ∧ i.isRecord = true ∧
    s.blk.rdcFetch b sl = some (i, evt) ∧ ∃ (x : _), s.blk.recResult b sl i = none ∧ i.command b sl {} = some x) :=
  ⟨⟨st adding, 0, 0, 0, .add 7 0 0 3, false, {}, by decide +kernel, by decide +kernel, by decide +kernel, by decide +kernel, by decide +kernel, by decide +kernel,
     added.1, added.2, .add 0 0 {}, by decide +kernel, by decide +kernel, by decide +kernel, by decide +kernel⟩,
   ⟨st adding, 0, 0, 0, .add 7 0 0 3, false, { first := [{ lg := 1, lane := 31, work := .adder 1 0 0 false }] },
     by decide +kernel, by decide +kernel, by decide +kernel, by decide +kernel, by decide +kernel, by decide +kernel, added.1, added.2, .add 0 0
     { first := [{ lg := 1, lane := 31, work := .adder 1 0 0 false }] }, by decide +kernel, by decide +kernel, by decide +kernel,
     by decide +kernel, by decide +kernel⟩,
   ⟨st adding, 0, 0, 0, .add 7 0 0 3, false,
     { first := [{ lg := 1, lane := 31, work := .adder 1 0 0 false }], second := [{ lg := 1, lane := 31, work := .adder 1 0 0 false }] },
     by decide +kernel, by decide +kernel, by decide +kernel, by decide +kernel, by decide +kernel, by decide +kernel, added.1, added.2, .add 0 0
     { first := [{ lg := 1, lane := 31, work := .adder 1 0 0 false }], second := [{ lg := 1, lane := 31, work := .adder 1 0 0 false }] },
     by decide +kernel, by decide +kernel, by decide +kernel, by decide +kernel, by decide +kernel⟩,
   ⟨st (redRun (.add 7 0 0 1) 0x8400000000000000 full), 0, 0, 0, .add 7 0 0 1, false, {}, by decide +kernel, by decide +kernel,
     by decide +kernel, by decide +kernel, by decide +kernel, by decide +kernel, .add 0 0 {}, by decide +kernel, by decide +kernel⟩,
   ⟨2 ^ 63, 2 ^ 63, 0, by decide +kernel⟩,
   ⟨2 ^ 63, 2 ^ 63, 63, by decide +kernel⟩,
   ⟨st sorting, 0, 0, .sort false 0 0, false, by decide +kernel, by decide +kernel, by decide +kernel, by decide +kernel, (sorting.recResult 0 0
     (.sort false 0 0)).getD {}, .sort 0 0, by decide +kernel, by decide +kernel⟩,
   ⟨st (redRun (.sort false 0 0) 0x8400000000000001 full), 0, 0, .sort false 0 0, false, by decide +kernel, by decide +kernel,
     by decide +kernel, by decide +kernel, .sort 0 0, by decide +kernel, by decide +kernel⟩⟩

/-- The hypotheses of ReducerRegistersAreGuarded are met, clause by clause. -/
theorem witness_ReducerRegistersAreGuarded :
  (∃ (s : State) (b sl : Nat), Ready s b ∧ s.blk.crosses .managementPort = true ∧ sl < 64 ∧ s.blk.slotIdle b sl =
    true) ∧
  (∃ (s : State) (b sl : Nat), Ready s b ∧ s.blk.crosses .managementPort = true ∧ sl < 64 ∧ s.blk.slotIdle b sl =
    false) ∧
  (∃ (s : State) (b i : Nat), Ready s b ∧ s.blk.crosses .managementPort = true ∧ i < 32 ∧ ((∀ sl, sl < 64 →
    (s.blk.slotWord b sl).v = true → (s.blk.slotWord b sl).segp = i → s.blk.slotIdle b sl = true)) ∧ ((∀ sl, sl <
    64 → (s.blk.slotWord b sl).v = true → (s.blk.slotWord b sl).recs = true → (s.blk.slotWord b sl).scrp = i →
    s.blk.slotIdle b sl = true))) ∧
  (∃ (s : State) (b i sl : Nat), Ready s b ∧ s.blk.crosses .managementPort = true ∧ i < 32 ∧ sl < 64 ∧
    (s.blk.slotWord b sl).v = true ∧ (s.blk.slotWord b sl).segp = i ∧ s.blk.slotIdle b sl = false) ∧
  (∃ (s : State) (b : Nat), Ready s b ∧ s.blk.crosses .managementPort = true) ∧
  (∃ (s : State) (b : Nat), s.blk.held = false ∧ s.blk.crosses .managementPort = true ∧ brickOk s.env.build b =
    false) ∧
  (∃ (s : State) (v : Word), s.blk.held = false ∧ s.blk.crosses .managementPort = true ∧ 1 ≤ fld v 19 12 ∧ fld v
    19 12 ≤ 0x11) ∧
  (∃ (s : State) (v : Word), s.blk.held = false ∧ s.blk.crosses .managementPort = true ∧ ((fld v 19 12 = 0 ∨ 0x11
    < fld v 19 12))) :=
  ⟨⟨st {}, 0, 63, by decide +kernel⟩,
   ⟨st (({} : Block).setStream 0 0x13F { st := .running }), 0, 63, by decide +kernel⟩,
   ⟨st {}, 0, 31, by decide +kernel⟩,
   ⟨st ((red 0x8000000000000000).setStream 0 0x100 { st := .waiting }), 0, 0, 0, by decide +kernel⟩,
   ⟨st {}, 0, by decide +kernel⟩,
   ⟨st {}, 4, by decide +kernel⟩,
   ⟨st {}, 0x11000, by decide +kernel⟩,
   ⟨st {}, 0x12000, by decide +kernel⟩⟩

/-- The hypotheses of RegisterAccess are met, clause by clause. -/
theorem witness_RegisterAccess :
  (∃ (s : State) (a : Nat) (v : Word) (k : Block), s.blk.held = false ∧ s.blk.crosses .managementPort = true ∧
    s.blk.busWrite s.env a v = some k ∧ warmWrite a v = false) ∧
  (∃ (s : State) (a : Nat) (v : Word), s.blk.held = false ∧ s.blk.crosses .managementPort = true ∧ s.blk.busWrite
    s.env a v = none) ∧
  (∃ (s : State) (rid b a : Nat) (r : RegName) (pg : Nat) (ix : List Nat), Ready s b ∧ s.blk.lpServes s.env.build
    b rid = true ∧ a < 0x10000 ∧ regAt s.env.build (0x01000000 + 0x10000 * b + a) = some (r, pg, ix) ∧ lpWritable
    r = true ∧ b < 256) ∧
  (∃ (s : State) (rid b a : Nat) (r : RegName) (pg : Nat) (ix : List Nat), Ready s b ∧ s.blk.lpServes s.env.build
    b rid = true ∧ a < 0x10000 ∧ regAt s.env.build (0x01000000 + 0x10000 * b + a) = some (r, pg, ix) ∧ lpWritable
    r = false ∧ b < 256 ∧ look [] s.blk.xfr.lpDue (b * 64 + rid % 64) = []) ∧
  (∃ (s : State) (rid a : Nat), Ready s (pageBrick a) ∧ s.blk.lpServes s.env.build (pageBrick a) rid = true ∧ ((a
    < 0x01000000 ∨ 0x02000000 ≤ a))) ∧
  (∃ (s : State), s.blk.held = false ∧ s.blk.crosses .managementPort = false) ∧
  (∃ (s : State) (p : Packet) (r : List Packet), s.blk.held = false ∧ s.blk.headGood 0 5 5 p r ∧ p.op = opMgmt ∧
    p.plen = 16 ∧ (look [] s.blk.gpd.seen 5).find? (fun x => x.src == p.src && x.trk == p.tracker) = none ∧ (look
    [] s.blk.gpd.seen 5).length < 64) ∧
  (∃ (s : State) (p : Packet) (r : List Packet) (x : DirSeen), s.blk.held = false ∧ s.blk.headGood 0 5 5 p r ∧
    p.op = opMgmt ∧ p.plen = 16 ∧ (look [] s.blk.gpd.seen 5).find? (fun x => x.src == p.src && x.trk ==
    p.tracker) = some x) ∧
  (∃ (s : State) (b : Nat), Ready s b ∧ lpBuilt s.env.build b = true) ∧
  (∃ (s : State), s.blk.held = false ∧ s.blk.crosses .managementPort = true) ∧
  (∃ (s : State) (b : Nat), Ready s b ∧ s.blk.crosses .managementPort = true) ∧
  (∃ (s : State) (p : Nat), s.blk.held = false ∧ s.blk.crosses .managementPort = true ∧ p < s.env.build.lanePorts) ∧
  (∃ (s : State) (n : Nat), s.blk.held = false ∧ s.blk.crosses .managementPort = true ∧ n <
    s.env.build.bridgePorts ∧ n < 16) ∧
  (∃ (s : State) (via : Via) (b i : Nat), Ready s b ∧ s.blk.viaOpen s.env.build b via = false ∧ i < 8) ∧
  (∃ (e : Env) (a : Nat) (r : RegName) (pg : Nat) (ix : List Nat), programAt e.build a = none ∧ regAt e.build a =
    some (r, pg, ix)) ∧
  (∃ (e : Env) (a b off : Nat), programAt e.build a = some (b, off)) ∧
  (∃ (e : Env) (a : Nat), programAt e.build a = none ∧ regAt e.build a = none) ∧
  (∃ (k : Block) (w : Word) (r : List Word), k.flt.log = w :: r) ∧
  (∃ (e : Env) (r : RegName) (pg : Nat) (ix : List Nat) (f : Field), r.plain = true ∧ regAt e.build (regAddr r pg
    ix) = some (r, pg, ix) ∧ f ∈ regFields r) ∧
  (∃ (k : Block) (r : RegName) (pg : Nat) (ix : List Nat), (look ((0 : Nat), (0 : Word), (0 : Word)) k.fresh
    (regAddr r pg ix)).1 ≠ k.clk.now + 1) ∧
  (∃ (k : Block) (n : Nat), n ≠ k.clk.now) :=
  ⟨⟨st {}, 0x01002800, 7, (({} : Block).busWrite { build := small } 0x01002800 7).getD {}, by decide +kernel⟩,
   ⟨st {}, 16, 7, by decide +kernel⟩,
   ⟨st opn, 5, 0, 0x2800, .NI_CNTADD, 0, [0], by decide +kernel⟩,
   ⟨st opn, 5, 0, 0, .BRK_PORTS, 0, [], by decide +kernel⟩,
   ⟨st opn, 5, 0x2800, by decide +kernel⟩,
   ⟨st { rst.resync := [.managementPort] }, by decide +kernel⟩,
   ⟨st (rx 5 (pk 0x10 6 5 { payload := List.replicate 16 0 })), pk 0x10 6 5 { payload := List.replicate 16 0 }, [],
     by decide +kernel⟩,
   ⟨st (rx 5 (pk 0x10 6 5 { payload := List.replicate 16 0 })
     { gpd.seen := [(5, [{ src := 0, trk := 0, answer := [] }])] }), pk 0x10 6 5
     { payload := List.replicate 16 0 }, [], { src := 0, trk := 0, answer := [] }, by decide +kernel⟩,
   ⟨st { flt.lpi := [(0, (true, false, true))] }, 0, by decide +kernel⟩,
   ⟨st {}, by decide +kernel⟩,
   ⟨st {}, 0, by decide +kernel⟩,
   ⟨st (lane 3 3), 0, by decide +kernel⟩,
   ⟨st (bridge 3), 0, by decide +kernel⟩,
   ⟨st {}, .lp 5 6, 0, 7, by decide +kernel⟩,
   ⟨{ build := small }, 0x01002800, .NI_CNTADD, 0, [0], by decide +kernel⟩,
   ⟨{ build := small }, 0x0300FFF8, 0, 0xFFF8, by decide +kernel⟩,
   ⟨{ build := small }, 16, by decide +kernel⟩,
   ⟨{ flt.log := [7] }, 7, [], by decide +kernel⟩,
   ⟨{ build := small }, .BRK_FLT, 0, [], ⟨47, 32, .w1c, 0⟩, by decide +kernel⟩,
   ⟨{}, .GLB_IRQSTAT, 0, [], by decide +kernel⟩,
   ⟨{}, 1, by decide +kernel⟩⟩

/-- The hypotheses of ResetsLeaveResetValues are met, clause by clause. -/
theorem witness_ResetsLeaveResetValues :
  (∃ (s : State), s.blk.rst.coldHeld = true) ∧
  (∃ (s : State), s.blk.rst.coldHeld = false) ∧
  (∃ (s : State), s.blk.rst.coldHeld = true) ∧
  (∃ (s : State) (v : Word), s.blk.held = false ∧ s.blk.crosses .managementPort = true ∧ flag v 0 = true) ∧
  (∃ (s : State), s.blk.rst.rootLost = false ∧ s.blk.rst.coldHeld = false) ∧
  (∃ (s : State), s.blk.rst.rootLost = true) ∧
  (∃ (s : State), s.blk.rst.rootLost = false) ∧
  (∃ (k : Block), k.mq.queue = [] ∧ k.lnk.eq = [] ∧ k.flt.freezing = none) :=
  ⟨⟨st { rst.coldHeld := true }, by decide +kernel⟩,
   ⟨st {}, by decide +kernel⟩,
   ⟨st { rst.coldHeld := true }, by decide +kernel⟩,
   ⟨st {}, 1, by decide +kernel⟩,
   ⟨st {}, by decide +kernel⟩,
   ⟨st { rst.rootLost := true }, by decide +kernel⟩,
   ⟨st {}, by decide +kernel⟩,
   ⟨{}, by decide +kernel⟩⟩

/-- The hypotheses of ResponseWritesItsRequestOnly are met, clause by clause. -/
theorem witness_ResponseWritesItsRequestOnly :
  (∃ (s : State) (b tag : Nat) (q : MemReq), Ready s b ∧ tag < 1024 ∧ s.blk.memReq b tag = some q) :=
  ⟨st { xfr.lpm := [(1023, some { runs := [(5, [7])], use := .packet {} })] }, 0, 1023,
    { runs := [(5, [7])], use := .packet {} }, by decide +kernel⟩

/-- The hypotheses of RingRegistersAreWritten are met, clause by clause. -/
theorem witness_RingRegistersAreWritten :
  (∃ (s : State) (via : Via) (b r : Nat), Ready s b ∧ s.blk.viaOpen s.env.build b via = true ∧ r < 8) ∧
  (∃ (k : Block) (n : Nat), 0 < n ∧ n < k.clk.toBoundary) ∧
  (∃ (k : Block) (w : LateWrite), k.late = [w]) ∧
  (∃ (t : Nat), t < 512) ∧
  (∃ (b t : Nat), t < 512 ∧ ∃ (b' t' : _), b' * 512 + t' ≠ b * 512 + t ∧ t' < 512 ∧ b < 256 ∧ b' < 256) ∧
  (∃ (k : Block) (b r : Nat) (v : Word), k.ringSize b r < ((k.ringOf b r).prod + 2 ^ 32 - v.toNat % 2 ^ 32) % 2 ^
    32) ∧
  (∃ (k : Block) (b r : Nat) (v : Word), ((k.ringOf b r).prod + 2 ^ 32 - v.toNat % 2 ^ 32) % 2 ^ 32 ≤ k.ringSize b
    r ∧ (k.ringOf b r).waiting = []) ∧
  (∃ (k : Block) (b r : Nat) (v : Word), flag (k.reg .TRK_RBASE b [r]) 63 = false ∧ flag v 63 = true) ∧
  (∃ (k : Block) (b r : Nat) (v : Word), flag (k.reg .TRK_RBASE b [r]) 63 = true ∧ fld v 59 56 ≠ fld (k.reg
    .TRK_RBASE b [r]) 59 56 ∧ fld v 59 56 ≤ 10) ∧
  (∃ (k : Block) (b r : Nat) (v : Word), flag (k.reg .TRK_RBASE b [r]) 63 = true ∧ flag v 63 = false ∧ 10 < fld v
    59 56 ∧ fld v 47 7 = fld (k.reg .TRK_RBASE b [r]) 47 7) :=
  ⟨⟨st {}, .mp, 0, 7, by decide +kernel⟩,
   ⟨{}, 3, by decide +kernel⟩,
   ⟨{ late := [.ridx 0 7 5] }, .ridx 0 7 5, by decide +kernel⟩,
   ⟨511, by decide +kernel⟩,
   ⟨0, 511, by decide +kernel, 1, 511, by decide +kernel, by decide +kernel, by decide +kernel, by decide +kernel⟩,
   ⟨{}, 0, 7, 1, by decide +kernel⟩,
   ⟨{}, 0, 7, 0xFFFFFFC0, by decide +kernel⟩,
   ⟨{}, 0, 7, 0x8000000000000000, by decide +kernel⟩,
   ⟨({} : Block).setReg .TRK_RBASE 0 [7] 0x8000000000000000, 0, 7, 0x8100000000000000, by decide +kernel⟩,
   ⟨({} : Block).setReg .TRK_RBASE 0 [7] 0x8000000000000000, 0, 7, 0x0F00000000000000, by decide +kernel⟩⟩

/-- The hypotheses of RootsAndSlicesServeMoves are met, clause by clause. -/
theorem witness_RootsAndSlicesServeMoves :
  (∃ (s : State) (b c op : Nat) (p : Packet) (r : List Packet) (x : DirSeen) (i : Instr), Ready s b ∧ (c, op, i) ∈
    [(4, 1, .startMove b), (4, 2, .endMove b), (4, 3, .reserve b), (4, 4, .release b), (3, 5, .prepare b), (3, 6,
    .cancel b), (3, 7, .install b), (4, 8, .movePage b), (3, 9, .report b), (4, 0xA, .flip b), (3, 0xB,
    Instr.refresh b)] ∧ s.blk.headGood b c c p r ∧ p.op = opDirReq ∧ natAt p.payload 0 1 = op ∧ s.blk.answering
    s.env.build b c opDirResp < dirDepth ∧ (look [] s.blk.gpd.seen (b * 8 + c)).find? (fun x => x.src == p.src &&
    x.trk == p.tracker) = some x) ∧
  (∃ (s : State) (b c op : Nat) (p : Packet) (r : List Packet) (i : Instr), Ready s b ∧ (c, op, i) ∈ [(4, 1,
    .startMove b), (4, 2, .endMove b), (4, 3, .reserve b), (4, 4, .release b), (3, 5, .prepare b), (3, 6, .cancel
    b), (3, 7, .install b), (4, 8, .movePage b), (3, 9, .report b), (4, 0xA, .flip b), (3, 0xB, Instr.refresh
    b)] ∧ s.blk.headGood b c c p r ∧ p.op = opDirReq ∧ natAt p.payload 0 1 = op ∧ dirDepth ≤ s.blk.answering
    s.env.build b c opDirResp) ∧
  (∃ (s : State) (p : Packet) (r : List Packet), Ready s 0 ∧ s.blk.dirNew s.env.build 0 4 1 p r ∧ flag (s.blk.reg
    .PLC_POL) 63 = true ∧ s.blk.gpd.active.length < s.blk.rf .PLC_POL 43 40 0 ∧ s.blk.gpd.lastGrant = none ∧
    s.blk.img.st = .running) ∧
  (∃ (s : State) (b : Nat) (p : Packet) (r : List Packet), Ready s b ∧ s.blk.dirNew s.env.build b 4 1 p r ∧ ((flag
    (s.blk.reg .PLC_POL) 63 = false ∨ s.blk.rf .PLC_POL 43 40 0 ≤ s.blk.gpd.active.length ∨ s.blk.img.st =
    .checking ∨ s.blk.img.st = .checked ∨ s.blk.img.st = .quiescing ∨ s.blk.img.st = .writing ∨ ∃ g,
    s.blk.gpd.lastGrant = some g ∧ s.blk.clk.course < g + s.blk.rf .PLC_POL 55 48 0))) ∧
  (∃ (s : State) (b : Nat) (p : Packet) (r : List Packet), Ready s b ∧ s.blk.dirNew s.env.build b 4 2 p r) ∧
  (∃ (s : State) (b i : Nat) (p : Packet) (r : List Packet), Ready s b ∧ s.blk.dirNew s.env.build b 4 3 p r ∧
    findBelow 64 (fun i => flag (s.blk.pooledFrame i) 63) = some i) ∧
  (∃ (s : State) (b : Nat) (p : Packet) (r : List Packet), Ready s b ∧ s.blk.dirNew s.env.build b 4 3 p r ∧
    findBelow 64 (fun i => flag (s.blk.pooledFrame i) 63) = none) ∧
  (∃ (s : State) (b i : Nat) (p : Packet) (r : List Packet), Ready s b ∧ s.blk.dirNew s.env.build b 4 4 p r ∧
    findBelow 64 (fun i => !flag (s.blk.reg .PLC_FRAME 0 [i]) 63) = some i) ∧
  (∃ (k : Block) (i : Nat), (look ((0 : Nat), (0 : Word)) k.gpd.frameOld i).1 ≠ k.clk.now + 1) ∧
  (∃ (i j : Nat), i < 64 ∧ j < 64) ∧
  (∃ (s : State) (b i : Nat) (p : Packet) (r : List Packet), Ready s b ∧ s.blk.dirNew s.env.build b 3 5 p r ∧
    s.blk.pageEntry b p.addr = none ∧ s.blk.findEntry b (pageOf p.addr) = none ∧ findBelow 2048 (fun i =>
    !(s.blk.gpdEntry b i).v) = some i) ∧
  (∃ (s : State) (b i : Nat) (p : Packet) (r : List Packet), Ready s b ∧ s.blk.dirNew s.env.build b 3 5 p r ∧
    s.blk.pageEntry b p.addr = none ∧ s.blk.findEntry b (pageOf p.addr) = some i) ∧
  (∃ (s : State) (b i : Nat) (p : Packet) (r : List Packet), Ready s b ∧ s.blk.dirNew s.env.build b 3 6 p r ∧
    s.blk.pageEntry b p.addr = some i ∧ (s.blk.gpdEntry b i).st = .moving) ∧
  (∃ (s : State) (b i : Nat) (p : Packet) (r : List Packet), Ready s b ∧ s.blk.dirNew s.env.build b 3 7 p r ∧
    s.blk.pageEntry b p.addr = some i) ∧
  (∃ (s : State) (b : Nat) (p : Packet) (r : List Packet), Ready s b ∧ s.blk.dirNew s.env.build b 3 7 p r ∧
    s.blk.pageEntry b p.addr = none) ∧
  (∃ (s : State) (b i : Nat) (p : Packet) (r : List Packet), Ready s b ∧ s.blk.dirNew s.env.build b 3 0xB p r ∧
    findBelow 2048 (fun i => (s.blk.gpdEntry b i).v && (s.blk.gpdEntry b i).base == pageOf p.addr) = some i ∧
    (s.blk.gpdEntry b i).isHome s.env.build = false ∧ (s.blk.gpdEntry b i).st = .home ∧ epochNewer (dirEpoch
    p.payload) (s.blk.gpdEntry b i).epoch = true) ∧
  (∃ (s : State) (b : Nat) (c : Coordinator) (p : Packet) (r : List Packet), Ready s b ∧ s.blk.dirNew s.env.build
    b 3 9 p r ∧ look none s.blk.gpd.coord b = some c ∧ c.step = .report ∧ (s.blk.gpdEntry b c.entry).holds (pageOf
    p.addr) = true) :=
  ⟨⟨ask 3 4 { gpd.seen := [(4, [{ src := 0, trk := 0, answer := [] }])] }, 0, 4, 3, drq 3 4, [],
     { src := 0, trk := 0, answer := [] }, .reserve 0, by decide +kernel⟩,
   ⟨ask 3 4 { net.stage := [(0, List.replicate 64 { pkt := { op := 0xE, src := 4 } })] }, 0, 4, 3, drq 3 4, [],
     .reserve 0, by decide +kernel⟩,
   ⟨ask 1 4 (({ img.st := .running } : Block).setReg .PLC_POL 0 [] 0x8000010000000000), drq 1 4, [], by decide +kernel⟩,
   ⟨ask 1 4, 0, drq 1 4, [], by decide +kernel⟩,
   ⟨ask 2 4, 0, drq 2 4, [], by decide +kernel⟩,
   ⟨ask 3 4 (({} : Block).setReg .PLC_FRAME 0 [63] 0x8000000000000000), 0, 63, drq 3 4, [], by decide +kernel⟩,
   ⟨ask 3 4, 0, drq 3 4, [], by decide +kernel⟩,
   ⟨ask 4 4, 0, 0, drq 4 4, [], by decide +kernel⟩,
   ⟨{}, 63, by decide +kernel⟩,
   ⟨63, 63, by decide +kernel⟩,
   ⟨ask 5 3, 0, 0, drq 5 3, [], by decide +kernel⟩,
   ⟨ask 5 3 (gpd { v := true, lenm1 := 1 }), 0, 0, drq 5 3, [], by decide +kernel⟩,
   ⟨ask 6 3 (gpd { v := true, st := .moving }), 0, 0, drq 6 3, [], by decide +kernel⟩,
   ⟨ask 7 3 (gpd { v := true }), 0, 0, drq 7 3, [], by decide +kernel⟩,
   ⟨ask 7 3, 0, drq 7 3, [], by decide +kernel⟩,
   ⟨ask 0xB 3 (gpd { v := true, st := .home, home := 2048 }), 0, 0, drq 0xB 3, [], by decide +kernel⟩,
   ⟨ask 9 3 (gpd { v := true } { gpd.coord := [(0, some { step := .report })] }), 0, { step := .report }, drq 9 3,
     [], by decide +kernel⟩⟩

/-- The hypotheses of RouterDecidesTheHead are met, clause by clause. -/
theorem witness_RouterDecidesTheHead :
  (∃ (s : State) (b p : Nat) (x : Chained) (r : List Chained) (err : RxError) (q : Packet) (k₀ : Block), Ready s
    b ∧ p < 8 ∧ p ≠ 4 ∧ p ≠ 5 ∧ s.blk.chainOf b p = x :: r ∧ x.owed = none ∧ (s.blk.receiveBeats b
    err).receiveUnits s.env.build b p x.pkt err = (some q, k₀) ∧ x.pkt.mcast = false ∧ x.pkt.rmode = 0) ∧
  (∃ (s : State) (b p : Nat) (x : Chained) (r : List Chained) (err : RxError) (q : Packet) (k₀ : Block), Ready s
    b ∧ p < 8 ∧ p ≠ 4 ∧ p ≠ 5 ∧ s.blk.chainOf b p = x :: r ∧ x.owed = none ∧ (s.blk.receiveBeats b
    err).receiveUnits s.env.build b p x.pkt err = (some q, k₀) ∧ x.pkt.mcast = false ∧ x.pkt.rmode ≠ 0) ∧
  (∃ (s : State) (b p : Nat) (x : Chained) (r : List Chained) (err : RxError) (q : Packet) (k₀ : Block), Ready s
    b ∧ p < 8 ∧ p ≠ 4 ∧ p ≠ 5 ∧ s.blk.chainOf b p = x :: r ∧ x.owed = none ∧ (s.blk.receiveBeats b
    err).receiveUnits s.env.build b p x.pkt err = (some q, k₀) ∧ x.pkt.mcast = true) ∧
  (∃ (s : State) (b p : Nat) (x : Staged) (r : List Staged) (err : RxError) (q : Packet) (k₀ : Block), Ready s b ∧
    (p = 4 ∨ p = 5) ∧ s.blk.stagedAt b p = x :: r ∧ x.owed = none ∧ (s.blk.receiveBeats b err).receiveUnits
    s.env.build b p x.pkt err = (some q, k₀) ∧ x.pkt.mcast = false ∧ x.pkt.rmode = 0) ∧
  (∃ (s : State) (b p : Nat) (x : Staged) (r : List Staged) (err : RxError) (q : Packet) (k₀ : Block), Ready s b ∧
    (p = 4 ∨ p = 5) ∧ s.blk.stagedAt b p = x :: r ∧ x.owed = none ∧ (s.blk.receiveBeats b err).receiveUnits
    s.env.build b p x.pkt err = (some q, k₀) ∧ x.pkt.mcast = false ∧ x.pkt.rmode ≠ 0) ∧
  (∃ (s : State) (b p : Nat) (x : Staged) (r : List Staged) (err : RxError) (q : Packet) (k₀ : Block), Ready s b ∧
    (p = 4 ∨ p = 5) ∧ s.blk.stagedAt b p = x :: r ∧ x.owed = none ∧ (s.blk.receiveBeats b err).receiveUnits
    s.env.build b p x.pkt err = (some q, k₀) ∧ x.pkt.mcast = true) ∧
  (∃ (s : State) (b p : Nat) (x : Chained) (r : List Chained) (err : RxError), Ready s b ∧ p < 8 ∧ p ≠ 4 ∧ p ≠ 5 ∧
    s.blk.chainOf b p = x :: r ∧ x.owed = none ∧ err.header = true ∧ x.pkt.mcast = false ∧ x.pkt.rmode = 0) ∧
  (∃ (s : State) (b p : Nat) (x : Chained) (r : List Chained) (err : RxError), Ready s b ∧ p < 8 ∧ p ≠ 4 ∧ p ≠ 5 ∧
    s.blk.chainOf b p = x :: r ∧ x.owed = none ∧ err.header = true ∧ x.pkt.mcast = false ∧ x.pkt.rmode ≠ 0) ∧
  (∃ (s : State) (b p : Nat) (x : Chained) (r : List Chained) (err : RxError), Ready s b ∧ p < 8 ∧ p ≠ 4 ∧ p ≠ 5 ∧
    s.blk.chainOf b p = x :: r ∧ x.owed = none ∧ err.header = true ∧ x.pkt.mcast = true) ∧
  (∃ (s : State) (b p : Nat), Ready s b ∧ p < 8 ∧ p ≠ 4 ∧ p ≠ 5 ∧ s.blk.chainOf b p = []) ∧
  (∃ (n : Nat), n ≠ 0) ∧
  (∃ (hi lo : Nat) (v : Word), fld v hi lo = 0xFFFF) ∧
  (∃ (k : Block) (b : Nat), (look ((0 : Nat), (0 : Word)) k.net.pktClear b).1 ≠ k.clk.now + 1) ∧
  (∃ (q : Packet), q.dataBad = 0) ∧
  (∃ (n : Nat) (q : Packet), q.dataBad = 0 ∧ n < q.nData) ∧
  (∃ (q : Packet), q.dataBad = 1) ∧
  (∃ (q : Packet), 24 ≤ q.hopidx) ∧
  (∃ (k k' : Block) (d : Build) (b inp : Nat) (q : Packet), q.hopidx < 24 ∧
    let out := hopOf q.route q.hopidx
    let q' := { q with hopidx := q.hopidx + 1, la := hopOf q.route (q.hopidx + 1) }
    k.outputAllowed d b inp out q' = (true, k')) ∧
  (∃ (d : Build) (q : Packet), q.rmode = 1 ∧ onDie d q.dst = true) ∧
  (∃ (q : Packet), q.rmode = 3) ∧
  (∃ (d : Build) (b out : Nat), unconnected d b out = true) ∧
  (∃ (d : Build) (b inp out : Nat) (q : Packet), unconnected d b out = false ∧ 2 ≤ q.vc ∧ breaksOrder d b inp
    out = true) :=
  ⟨⟨st (({} : Block).setChain 0 1 [{ pkt := pk 1 0 0 { route := 2 } }]), 0, 1, { pkt := pk 1 0 0 { route := 2 } },
     [], {}, pk 1 0 0 { route := 2 }, (((st (({} : Block).setChain 0 1
     [{ pkt := pk 1 0 0 { route := 2 } }])).blk.receiveBeats 0 {}).receiveUnits small 0 1 (pk 1 0 0 { route := 2 })
     {}).2, by decide +kernel⟩,
   ⟨st (({} : Block).setChain 0 1 [{ pkt := pk 1 0 0 { rmode := 1 } }]), 0, 1, { pkt := pk 1 0 0 { rmode := 1 } },
     [], { corrected := 2 }, pk 1 0 0 { rmode := 1 }, (((st (({} : Block).setChain 0 1
     [{ pkt := pk 1 0 0 { rmode := 1 } }])).blk.receiveBeats 0 { corrected := 2 }).receiveUnits small 0 1 (pk 1 0 0
     { rmode := 1 }) { corrected := 2 }).2, by decide +kernel⟩,
   ⟨st (({} : Block).setChain 0 1 [{ pkt := pk 2 1 0 { mcast := true } }]), 0, 1,
     { pkt := pk 2 1 0 { mcast := true } }, [], { bad := 1 }, { pk 2 1 0 { mcast := true } with dataBad := 1 },
     (((st (({} : Block).setChain 0 1 [{ pkt := pk 2 1 0 { mcast := true } }])).blk.receiveBeats 0
     { bad := 1 }).receiveUnits small 0 1 (pk 2 1 0 { mcast := true }) { bad := 1 }).2, by decide +kernel⟩,
   ⟨st { net.stage := [(0, [{ pkt := pk 1 0 0 { route := 1 } }])] }, 0, 4, { pkt := pk 1 0 0 { route := 1 } }, [],
     {}, pk 1 0 0 { route := 1 }, (((st
     { net.stage := [(0, [{ pkt := pk 1 0 0 { route := 1 } }])] }).blk.receiveBeats 0 {}).receiveUnits small 0 4
     (pk 1 0 0 { route := 1 }) {}).2, by decide +kernel⟩,
   ⟨st { net.stage := [(0, [{ pkt := east }])] }, 0, 4, { pkt := east }, [], { corrected := 2 }, east, (((st
     { net.stage := [(0, [{ pkt := east }])] }).blk.receiveBeats 0 { corrected := 2 }).receiveUnits small 0 4
     (east) { corrected := 2 }).2, by decide +kernel⟩,
   ⟨st { net.stage := [(1, [{ pkt := pk 2 1 0 { mcast := true } }])] }, 0, 5,
     { pkt := pk 2 1 0 { mcast := true } }, [], { bad := 1 }, { pk 2 1 0 { mcast := true } with dataBad := 1 },
     (((st { net.stage := [(1, [{ pkt := pk 2 1 0 { mcast := true } }])] }).blk.receiveBeats 0
     { bad := 1 }).receiveUnits small 0 5 (pk 2 1 0 { mcast := true }) { bad := 1 }).2, by decide +kernel⟩,
   ⟨st (({} : Block).setChain 0 1 [{ pkt := pk 1 0 0 { route := 2 } }]), 0, 1, { pkt := pk 1 0 0 { route := 2 } },
     [], { header := true }, by decide +kernel⟩,
   ⟨st (({} : Block).setChain 0 1 [{ pkt := pk 1 0 0 { rmode := 1 } }]), 0, 1, { pkt := pk 1 0 0 { rmode := 1 } },
     [], { header := true }, by decide +kernel⟩,
   ⟨st (({} : Block).setChain 0 1 [{ pkt := pk 2 1 0 { mcast := true } }]), 0, 1,
     { pkt := pk 2 1 0 { mcast := true } }, [], { header := true }, by decide +kernel⟩,
   ⟨st {}, 0, 7, by decide +kernel⟩,
   ⟨2, by decide +kernel⟩,
   ⟨63, 48, 0xFFFF000000000000, by decide +kernel⟩,
   ⟨{ net.pktClear := [(0, 1, 0xFFFF)], clk.now := 1 }, 0, by decide +kernel⟩,
   ⟨{ nData := 3 }, by decide +kernel⟩,
   ⟨1, { nData := 3 }, by decide +kernel⟩,
   ⟨{ dataBad := 1 }, by decide +kernel⟩,
   ⟨{ hopidx := 24 }, by decide +kernel⟩,
   ⟨{}, {}, small, 0, 4, { hopidx := 23, route := 0x200000000000000000 }, by decide +kernel⟩,
   ⟨small, { rmode := 1, dst := 2 }, by decide +kernel⟩,
   ⟨{ rmode := 3 }, by decide +kernel⟩,
   ⟨small, 0, 0, by decide +kernel⟩,
   ⟨small, 17, 2, 1, { vc := 2 }, by decide +kernel⟩⟩

/-- The hypotheses of SegmentPacketsAreFiledAndAnswered are met, clause by clause. -/
theorem witness_SegmentPacketsAreFiledAndAnswered :
  (∃ (s : State) (b : Nat) (p : Packet) (r : List Packet), Ready s b ∧ s.blk.headGood b 2 2 p r ∧ p.op =
    opContrib) ∧
  (∃ (s : State) (b : Nat) (p : Packet) (r : List Packet), Ready s b ∧ s.blk.headGood b 2 2 p r ∧ p.op = opResult) ∧
  (∃ (s : State) (b : Nat) (p : Packet) (r : List Packet), Ready s b ∧ s.blk.headGood b 2 2 p r ∧ p.op =
    opDispatch) ∧
  (∃ (k : Block), k.rdc.slotOld.1 ≠ k.clk.now + 1) ∧
  (∃ (k : Block) (d : Build) (b sl : Nat) (v : Word) (p : Packet), k.rdc.slotOld.1 ≠ k.clk.now + 1 ∧ sl < 64 ∧
    k.slotIdle b sl = true ∧
    let old := (k.writeSlot b sl v).setReg .RDC_SLOT b [sl] (k.reg .RDC_SLOT b [sl])
    ((old.filePacket d b p).stream b (0x100 + sl)).st = .running) ∧
  (∃ (k : Block) (b : Nat) (p : Packet), k.slotOfGroup b p.group = none) ∧
  (∃ (k : Block) (b : Nat) (p : Packet),
    let child := k.childSlot b p.group p.inPort
    ∃ (sl : _), k.slotOfGroup b p.group = some sl ∧ p.op ≠ opResult ∧ child = none) ∧
  (∃ (k : Block) (b : Nat) (p : Packet), ∃ (sl : _), k.slotOfGroup b p.group = some sl ∧
    let w := k.slotWord b sl
    p.op = opResult ∧ ((w.still = false ∨ w.root = true))) ∧
  (∃ (k : Block) (b : Nat) (p : Packet), ∃ (sl : _), k.slotOfGroup b p.group = some sl ∧
    let w := k.slotWord b sl
    let v := k.slot b sl
    p.op = opResult ∧ w.still = true ∧ w.root = false ∧ p.cseq ≠ v.openSeq) ∧
  (∃ (k : Block) (b : Nat) (p : Packet), ∃ (sl : _), k.slotOfGroup b p.group = some sl ∧
    let w := k.slotWord b sl
    let v := k.slot b sl
    p.op = opResult ∧ w.still = true ∧ w.root = false ∧ p.cseq = v.openSeq ∧ faultPacket p = true) ∧
  (∃ (k : Block) (b : Nat) (p : Packet), ∃ (sl : _), k.slotOfGroup b p.group = some sl ∧
    let w := k.slotWord b sl
    let v := k.slot b sl
    p.op = opResult ∧ w.still = true ∧ w.root = false ∧ p.cseq = v.openSeq ∧ faultPacket p = false ∧ p.seg % 2 = 1) ∧
  (∃ (k : Block) (b : Nat) (p : Packet), ∃ (sl : _), k.slotOfGroup b p.group = some sl ∧
    let w := k.slotWord b sl
    let v := k.slot b sl
    let n := if w.still then p.seg / 2 else p.seg
    ∃ (i : _), p.op = opResult ∧ w.still = true ∧ w.root = false ∧ p.cseq = v.openSeq ∧ faultPacket p = false ∧
      p.seg % 2 = 0 ∧ v.tagged p.cseq n = some i ∧ (v.set i).emitted = true) ∧
  (∃ (k : Block) (b : Nat) (p : Packet), ∃ (sl : _), k.slotOfGroup b p.group = some sl ∧
    let w := k.slotWord b sl
    let v := k.slot b sl
    let n := if w.still then p.seg / 2 else p.seg
    ∃ (i : _), p.op = opResult ∧ w.still = true ∧ w.root = false ∧ p.cseq = v.openSeq ∧ faultPacket p = false ∧
      p.seg % 2 = 0 ∧ v.tagged p.cseq n = some i ∧ (v.set i).emitted = false) ∧
  (∃ (k : Block) (b : Nat) (p : Packet), ∃ (sl : _), k.slotOfGroup b p.group = some sl ∧
    let w := k.slotWord b sl
    let v := k.slot b sl
    let n := if w.still then p.seg / 2 else p.seg
    p.op = opResult ∧ w.still = true ∧ w.root = false ∧ p.cseq = v.openSeq ∧ faultPacket p = false ∧ p.seg % 2 = 0 ∧
      v.tagged p.cseq n = none ∧ n < v.next) ∧
  (∃ (k : Block) (b : Nat) (p : Packet), ∃ (sl : _), k.slotOfGroup b p.group = some sl ∧
    let w := k.slotWord b sl
    let v := k.slot b sl
    let n := if w.still then p.seg / 2 else p.seg
    p.op = opResult ∧ w.still = true ∧ w.root = false ∧ p.cseq = v.openSeq ∧ faultPacket p = false ∧ p.seg % 2 = 0 ∧
      v.tagged p.cseq n = none ∧ ∃ (i : _), v.next ≤ n ∧ findBelow (w.depth + 1) (fun i => (v.set i).tag.isNone) =
      some i) ∧
  (∃ (k : Block) (b : Nat) (p : Packet), ∃ (sl : _), k.slotOfGroup b p.group = some sl ∧
    let w := k.slotWord b sl
    let v := k.slot b sl
    let n := if w.still then p.seg / 2 else p.seg
    p.op = opResult ∧ w.still = true ∧ w.root = false ∧ p.cseq = v.openSeq ∧ faultPacket p = false ∧ p.seg % 2 = 0 ∧
      v.tagged p.cseq n = none ∧ v.next ≤ n ∧ findBelow (w.depth + 1) (fun i => (v.set i).tag.isNone) = none) ∧
  (∃ (k : Block) (b : Nat) (p : Packet),
    let child := k.childSlot b p.group p.inPort
    ∃ (sl : _), k.slotOfGroup b p.group = some sl ∧
    let v := k.slot b sl
    ∃ (c : _), p.op ≠ opResult ∧ child = some c ∧ seqBefore p.cseq v.openSeq = true) ∧
  (∃ (k : Block) (b : Nat) (p : Packet),
    let child := k.childSlot b p.group p.inPort
    ∃ (sl : _), k.slotOfGroup b p.group = some sl ∧
    let w := k.slotWord b sl
    let v := k.slot b sl
    let n := if w.still then p.seg / 2 else p.seg
    ∃ (c i : _), p.op ≠ opResult ∧ child = some c ∧ p.cseq = v.openSeq ∧ v.tagged p.cseq n = some i ∧ (v.set
      i).emitted = true) ∧
  (∃ (k : Block) (b : Nat) (p : Packet),
    let child := k.childSlot b p.group p.inPort
    ∃ (sl : _), k.slotOfGroup b p.group = some sl ∧
    let w := k.slotWord b sl
    let v := k.slot b sl
    let n := if w.still then p.seg / 2 else p.seg
    ∃ (c i : _), p.op ≠ opResult ∧ child = some c ∧ p.cseq = v.openSeq ∧ v.tagged p.cseq n = some i ∧ (v.set
      i).emitted = false) ∧
  (∃ (k : Block) (b : Nat) (p : Packet),
    let child := k.childSlot b p.group p.inPort
    ∃ (sl : _), k.slotOfGroup b p.group = some sl ∧
    let w := k.slotWord b sl
    let v := k.slot b sl
    let n := if w.still then p.seg / 2 else p.seg
    ∃ (c i : _), p.op ≠ opResult ∧ child = some c ∧ p.cseq = v.openSeq ∧ v.tagged p.cseq n = none ∧ v.next ≤ n ∧
      findBelow (w.depth + 1) (fun i => (v.set i).tag.isNone) = some i) ∧
  (∃ (k : Block) (b : Nat) (p : Packet),
    let child := k.childSlot b p.group p.inPort
    ∃ (sl : _), k.slotOfGroup b p.group = some sl ∧
    let w := k.slotWord b sl
    let v := k.slot b sl
    let n := if w.still then p.seg / 2 else p.seg
    ∃ (c : _), p.op ≠ opResult ∧ child = some c ∧ p.cseq = v.openSeq ∧ v.tagged p.cseq n = none ∧ v.next ≤ n ∧
      findBelow (w.depth + 1) (fun i => (v.set i).tag.isNone) = none) ∧
  (∃ (k : Block) (b : Nat) (p : Packet),
    let child := k.childSlot b p.group p.inPort
    ∃ (sl : _), k.slotOfGroup b p.group = some sl ∧
    let w := k.slotWord b sl
    let v := k.slot b sl
    let n := if w.still then p.seg / 2 else p.seg
    ∃ (c : _), p.op ≠ opResult ∧ child = some c ∧ p.cseq = v.openSeq ∧ v.tagged p.cseq n = none ∧ n < v.next) ∧
  (∃ (k : Block) (b : Nat) (p : Packet),
    let child := k.childSlot b p.group p.inPort
    ∃ (sl : _), k.slotOfGroup b p.group = some sl ∧
    let w := k.slotWord b sl
    let v := k.slot b sl
    let n := if w.still then p.seg / 2 else p.seg
    ∃ (c i : _), p.op ≠ opResult ∧ child = some c ∧ v.openSeq < 2 ^ 16 ∧ p.cseq = (v.openSeq + 1) % 2 ^ 16 ∧
      v.tagged p.cseq n = some i) ∧
  (∃ (k : Block) (b : Nat) (p : Packet),
    let child := k.childSlot b p.group p.inPort
    ∃ (sl : _), k.slotOfGroup b p.group = some sl ∧
    let w := k.slotWord b sl
    let v := k.slot b sl
    let n := if w.still then p.seg / 2 else p.seg
    ∃ (c i : _), p.op ≠ opResult ∧ child = some c ∧ v.openSeq < 2 ^ 16 ∧ p.cseq = (v.openSeq + 1) % 2 ^ 16 ∧
      v.tagged p.cseq n = none ∧ findBelow (w.depth + 1) (fun i => (v.set i).tag.isNone) = some i) ∧
  (∃ (k : Block) (b : Nat) (p : Packet),
    let child := k.childSlot b p.group p.inPort
    ∃ (sl : _), k.slotOfGroup b p.group = some sl ∧
    let w := k.slotWord b sl
    let v := k.slot b sl
    let n := if w.still then p.seg / 2 else p.seg
    ∃ (c : _), p.op ≠ opResult ∧ child = some c ∧ v.openSeq < 2 ^ 16 ∧ p.cseq = (v.openSeq + 1) % 2 ^ 16 ∧ v.tagged
      p.cseq n = none ∧ findBelow (w.depth + 1) (fun i => (v.set i).tag.isNone) = none) ∧
  (∃ (k : Block) (b : Nat) (p : Packet),
    let child := k.childSlot b p.group p.inPort
    ∃ (sl : _), k.slotOfGroup b p.group = some sl ∧
    let v := k.slot b sl
    ∃ (c : _), p.op ≠ opResult ∧ child = some c ∧ seqBefore p.cseq v.openSeq = false ∧ p.cseq ≠ v.openSeq ∧ p.cseq ≠
      (v.openSeq + 1) % 2 ^ 16) ∧
  (∃ (s : State) (b sl : Nat) (x : OutPart), Ready s b ∧ sl < 64 ∧ (s.blk.slot b sl).out = [x] ∧ x.offered =
    true ∧ x.gone = false ∧ x.left = [] ∧ (s.blk.stagedAt b 5).any (fun y => y.sub == some (1040 + sl) &&
    y.pkt.cseq == x.cseq && y.pkt.seg == x.seg) = false) ∧
  (∃ (s : State) (b sl i : Nat) (x : OutPart), Ready s b ∧ sl < 64 ∧ (s.blk.slot b sl).out = [x] ∧ x.offered =
    true ∧ x.gone = false ∧ x.left = [] ∧ x.down = false ∧ x.set = some i ∧ ((s.blk.slot b sl).set i).tag = some
    (x.cseq, x.seqk) ∧ x.emits = true ∧ ((s.blk.slot b sl).set i).aHeld = true ∧ ((s.blk.slot b sl).set
    i).children = [] ∧ (s.blk.stagedAt b 5).any (fun y => y.sub == some (1040 + sl) && y.pkt.cseq == x.cseq &&
    y.pkt.seg == x.seg) = false) ∧
  (∃ (s : State) (b i : Nat) (p : Packet) (r : List Packet), Ready s b ∧ s.blk.headGood b 2 2 p r ∧ p.op = opAck ∧
    (s.blk.slot b (p.tracker % 1024)).out.findIdx? (answersPart p) = some i ∧ (ackList p.payload
    p.pcount).length = p.pcount) ∧
  (∃ (s : State) (b : Nat) (p : Packet) (r : List Packet) (x : OutPart), Ready s b ∧ s.blk.headGood b 2 2 p r ∧
    p.op = opAck ∧ (s.blk.slot b (p.tracker % 1024)).out = [x] ∧ answersPart p x = true ∧ x.set = none ∧ (ackList
    p.payload p.pcount).length = p.pcount) ∧
  (∃ (s : State) (b : Nat) (p : Packet) (r : List Packet), Ready s b ∧ s.blk.headGood b 2 2 p r ∧ p.op = opAck ∧
    (s.blk.slot b (p.tracker % 1024)).out.findIdx? (answersPart p) = none) ∧
  (∃ (s : State) (b i : Nat) (p : Packet) (r : List Packet), Ready s b ∧ s.blk.headGood b 2 2 p r ∧ p.op =
    opError ∧ (s.blk.slot b (p.tracker % 1024)).out.findIdx? (answersPart p) = some i) ∧
  (∃ (s : State) (b : Nat) (p : Packet) (r : List Packet), Ready s b ∧ s.blk.headGood b 2 2 p r ∧ p.op = opError ∧
    (s.blk.slot b (p.tracker % 1024)).out.findIdx? (answersPart p) = none ∧ (s.blk.slot b (p.tracker %
    1024)).answersDown p = true) ∧
  (∃ (s : State) (b i : Nat) (x : OutPart) (p : Packet) (r : List Packet), Ready s b ∧ s.blk.headGood b 2 2 p r ∧
    p.op = opNack ∧ (s.blk.slot b (p.tracker % 1024)).out.findIdx? (answersPart p) = some i ∧ (s.blk.slot b
    (p.tracker % 1024)).out[i]? = some x ∧ x.resent < 4) ∧
  (∃ (s : State) (b i : Nat) (x : OutPart) (p : Packet) (r : List Packet), Ready s b ∧ s.blk.headGood b 2 2 p r ∧
    p.op = opNack ∧ (s.blk.slot b (p.tracker % 1024)).out.findIdx? (answersPart p) = some i ∧ (s.blk.slot b
    (p.tracker % 1024)).out[i]? = some x ∧ 4 ≤ x.resent ∧ x.cseq = (s.blk.slot b (p.tracker % 1024)).openSeq) ∧
  (∃ (s : State) (b sl : Nat), Ready s b ∧ sl < 64) ∧
  (∃ (s : State) (b sl seg i : Nat) (x : OutPart), Ready s b ∧ sl < 64 ∧ (s.blk.slot b sl).out.filter (fun x =>
    x.gone && !x.down && x.seg == seg && x.left.isEmpty) = [x] ∧ (s.blk.slot b sl).out.findIdx? (· == x) = some
    i ∧ (s.blk.slot b sl).out[i]? = some x ∧ x.resent < 4) ∧
  (∃ (s : State) (b sl seg i : Nat) (x : OutPart), Ready s b ∧ sl < 64 ∧ (s.blk.slot b sl).out.filter (fun x =>
    x.gone && !x.down && x.seg == seg && x.left.isEmpty) = [x] ∧ (s.blk.slot b sl).out.findIdx? (· == x) = some
    i ∧ (s.blk.slot b sl).out[i]? = some x ∧ 4 ≤ x.resent ∧ x.nacked = true ∧ x.cseq = (s.blk.slot b sl).openSeq) ∧
  (∃ (s : State) (b sl seg i : Nat) (x : OutPart), Ready s b ∧ sl < 64 ∧ (s.blk.slot b sl).out.filter (fun x =>
    x.gone && !x.down && x.seg == seg && x.left.isEmpty) = [x] ∧ (s.blk.slot b sl).out.findIdx? (· == x) = some
    i ∧ (s.blk.slot b sl).out[i]? = some x ∧ 4 ≤ x.resent ∧ x.nacked = false) ∧
  (∃ (s : State) (b sl child : Nat) (l : List Part), Ready s b ∧ sl < 64 ∧ ((s.blk.slot b sl).sets.flatMap fun e
    => (e.2.children.filter fun f => f.1 / 2 == child && !f.2.complete && !f.2.placed.isEmpty).map Prod.snd) = l) :=
  ⟨⟨st (rx 2 (pk 3 1 2 { payload := [7] })), 0, pk 3 1 2 { payload := [7] }, [], by decide +kernel⟩,
   ⟨st (rx 2 (pk 4 1 2 { payload := [7] })), 0, pk 4 1 2 { payload := [7] }, [], by decide +kernel⟩,
   ⟨st (rx 2 (pk 5 1 2 { payload := [7] })), 0, pk 5 1 2 { payload := [7] }, [], by decide +kernel⟩,
   ⟨{}, by decide +kernel⟩,
   ⟨(red 0x8000000000000000).setStream 0 0x100 { st := .halted }, small, 0, 0, 7, pk 3 1 2
     { pcount := 2, payload := [7] }, by decide +kernel⟩,
   ⟨{}, 0, {}, by decide +kernel⟩,
   ⟨({} : Block).setReg .RDC_SLOT 0 [0] 0x8000000000000000, 0, {}, 0, by decide +kernel, by decide +kernel, by decide +kernel⟩,
   ⟨red 0x8000000000000000, 0, { op := 4 }, 0, by decide +kernel⟩,
   ⟨red 0xC000000000000000, 0, { op := 4, cseq := 1 }, 0, by decide +kernel⟩,
   ⟨red 0xC000000000000000, 0,
     { op := 4, pcount := 1, payload := List.replicate 5 0 ++ [1] ++ List.replicate 10 0 }, 0, by decide +kernel⟩,
   ⟨red 0xC000000000000000, 0, { op := 4, seg := 1 }, 0, by decide +kernel⟩,
   ⟨red 0xC000000000000000 { sets := [(0, { tag := some (0, 0), emitted := true })] }, 0, { op := 4 }, 0,
     by decide +kernel, 0, by decide +kernel, by decide +kernel, by decide +kernel, by decide +kernel, by decide +kernel, by decide +kernel, by decide +kernel, by decide +kernel⟩,
   ⟨red 0xC000000000000000 { sets := [(0, { tag := some (0, 0) })] }, 0, { op := 4 }, 0, by decide +kernel, 0, by decide +kernel,
     by decide +kernel, by decide +kernel, by decide +kernel, by decide +kernel, by decide +kernel, by decide +kernel, by decide +kernel⟩,
   ⟨red 0xC000000000000000 { next := 1 }, 0, { op := 4 }, 0, by decide +kernel⟩,
   ⟨red 0xC000000000000000, 0, { op := 4 }, 0, by decide +kernel, by decide +kernel, by decide +kernel, by decide +kernel, by decide +kernel, by decide +kernel,
     by decide +kernel, by decide +kernel, 0, by decide +kernel, by decide +kernel⟩,
   ⟨red 0xC000000000000000 { sets := [(0, { tag := some (0, 5) })] }, 0, { op := 4 }, 0, by decide +kernel⟩,
   ⟨red 0x8000000000000000 { openSeq := 32767 }, 0, {}, 0, by decide +kernel, 0, by decide +kernel, by decide +kernel, by decide +kernel⟩,
   ⟨red 0x8000000000000000 { sets := [(0, { tag := some (0, 0), emitted := true })] }, 0, {}, 0, by decide +kernel, 0, 0,
     by decide +kernel, by decide +kernel, by decide +kernel, by decide +kernel, by decide +kernel⟩,
   ⟨red 0x8000000000000000 { sets := [(0, { tag := some (0, 0) })] }, 0, {}, 0, by decide +kernel, 0, 0, by decide +kernel,
     by decide +kernel, by decide +kernel, by decide +kernel, by decide +kernel⟩,
   ⟨red 0x8000000000000000, 0, {}, 0, by decide +kernel, 0, 0, by decide +kernel, by decide +kernel, by decide +kernel, by decide +kernel, by decide +kernel,
     by decide +kernel⟩,
   ⟨red 0x8000000000000000 { sets := [(0, { tag := some (0, 5) })] }, 0, {}, 0, by decide +kernel, 0, by decide +kernel, by decide +kernel,
     by decide +kernel, by decide +kernel, by decide +kernel, by decide +kernel⟩,
   ⟨red 0x8000000000000000 { next := 1 }, 0, {}, 0, by decide +kernel, 0, by decide +kernel, by decide +kernel, by decide +kernel, by decide +kernel,
     by decide +kernel⟩,
   ⟨red 0x8000000000000000 { sets := [(0, { tag := some (1, 0) })] }, 0, { cseq := 1 }, 0, by decide +kernel, 0, 0,
     by decide +kernel, by decide +kernel, by decide +kernel, by decide +kernel, by decide +kernel⟩,
   ⟨red 0x8000000000000000, 0, { cseq := 1 }, 0, by decide +kernel, 0, 0, by decide +kernel, by decide +kernel, by decide +kernel, by decide +kernel,
     by decide +kernel, by decide +kernel⟩,
   ⟨red 0x8000000000000000 { sets := [(0, { tag := some (0, 5) })] }, 0, { cseq := 1 }, 0, by decide +kernel, 0, by decide +kernel,
     by decide +kernel, by decide +kernel, by decide +kernel, by decide +kernel, by decide +kernel⟩,
   ⟨red 0x8000000000000000, 0, { cseq := 5 }, 0, by decide +kernel, 0, by decide +kernel, by decide +kernel, by decide +kernel, by decide +kernel,
     by decide +kernel⟩,
   ⟨st (red 0x8000000000000000 { out := [{ pkts := [{}], offered := true }] }), 0, 0,
     { pkts := [{}], offered := true }, by decide +kernel⟩,
   ⟨st (red 0x8000000000000000
     { out := [{ pkts := [{}], offered := true, set := some 0, emits := true }], sets := [(0, { tag := some (0, 0), aHeld := true })] }),
     0, 0, 0, { pkts := [{}], offered := true, set := some 0, emits := true }, by decide +kernel⟩,
   ⟨st (rx 2 (pk 11 5 2 { payload := [1] ++ List.replicate 35 0 ++ [1, 0, 0, 0] }) (red 0x8000000000000000
     { out := [{ pkts := [{}] }] })), 0, 0, pk 11 5 2 { payload := [1] ++ List.replicate 35 0 ++ [1, 0, 0, 0] },
     [], by decide +kernel⟩,
   ⟨st (rx 2 (pk 11 5 2 { payload := leBytes 4 1 ++ List.replicate 32 0 ++ [1, 0, 0, 0] }) (red 0x8000000000000000
     { out := [{ pkts := [{}] }] })), 0, pk 11 5 2
     { payload := leBytes 4 1 ++ List.replicate 32 0 ++ [1, 0, 0, 0] }, [], { pkts := [{}] }, by decide +kernel⟩,
   ⟨st (rx 2 (pk 11 5 2) (red 0x8000000000000000)), 0, pk 11 5 2, [], by decide +kernel⟩,
   ⟨st (rx 2 (pk 18 7 2) (red 0x8000000000000000 { out := [{ pkts := [{}] }] })), 0, 0, pk 18 7 2, [], by decide +kernel⟩,
   ⟨st (rx 2 (pk 18 7 2) (red 0x8000000000000000 { downs := [(0, 0, 1)] })), 0, pk 18 7 2, [], by decide +kernel⟩,
   ⟨st (rx 2 (pk 12 5 2) (red 0x8000000000000000 { out := [{ pkts := [{}] }] })), 0, 0, { pkts := [{}] }, pk 12 5
     2, [], by decide +kernel⟩,
   ⟨st (rx 2 (pk 12 5 2) (red 0x8000000000000000 { out := [{ pkts := [{}], resent := 4 }] })), 0, 0,
     { pkts := [{}], resent := 4 }, pk 12 5 2, [], by decide +kernel⟩,
   ⟨st (red 0x8000000000000000
     { out := [{ pkts := [{}], gone := true }, { pkts := [{}], cseq := 1, gone := true }] }), 0, 0, by decide +kernel⟩,
   ⟨st (red 0x8000000000000000 { out := [{ pkts := [{}], gone := true }] }), 0, 0, 0, 0,
     { pkts := [{}], gone := true }, by decide +kernel⟩,
   ⟨st (red 0x8000000000000000 { out := [{ pkts := [{}], gone := true, resent := 4, nacked := true }] }), 0, 0, 0,
     0, { pkts := [{}], gone := true, resent := 4, nacked := true }, by decide +kernel⟩,
   ⟨st (red 0x8000000000000000 { out := [{ pkts := [{}], gone := true, resent := 4 }] }), 0, 0, 0, 0,
     { pkts := [{}], gone := true, resent := 4 }, by decide +kernel⟩,
   ⟨st (red 0x8000000000000000 { sets := [(0, { parts := [(0, { placed := [(0, [])] })] })] }), 0, 0, 0,
     [{ placed := [(0, [])] }], by decide +kernel⟩⟩

/-- The hypotheses of SegmentsEnterAndLeave are met, clause by clause. -/
theorem witness_SegmentsEnterAndLeave :
  (∃ (s : State) (b sl j m p e : Nat) (adv xw endj evt : Bool), Ready s b ∧ sl < 64 ∧ s.blk.rdcFetch b sl = some
    (.segin adv xw endj m p e, evt) ∧ (((s.blk.slotWord b sl).still = true ∨ (p = 0 ∧ xw = false))) ∧
    (maskChildren (s.blk.slotWord b sl).nch m).all (s.blk.slotWord b sl).hasBuf = true ∧ ((adv = true →
    (s.blk.slot b sl).finalOut = false)) ∧ (s.blk.slot b sl).seginReady (s.blk.slotWord b sl).nch adv xw m p =
    some j) ∧
  (∃ (s : State) (b sl m p e : Nat) (xw endj evt : Bool), Ready s b ∧ sl < 64 ∧ s.blk.rdcFetch b sl = some (.segin
    true xw endj m p e, evt) ∧ (((s.blk.slotWord b sl).still = true ∨ (p = 0 ∧ xw = false))) ∧ (maskChildren
    (s.blk.slotWord b sl).nch m).all (s.blk.slotWord b sl).hasBuf = true ∧ (s.blk.slot b sl).finalOut = false ∧
    (s.blk.slot b sl).seginReady (s.blk.slotWord b sl).nch true xw m p = none) ∧
  (∃ (s : State) (b sl m p e : Nat) (xw endj evt : Bool), Ready s b ∧ sl < 64 ∧ s.blk.rdcFetch b sl = some (.segin
    false xw endj m p e, evt) ∧ (((s.blk.slotWord b sl).still = true ∨ (p = 0 ∧ xw = false))) ∧ (maskChildren
    (s.blk.slotWord b sl).nch m).all (s.blk.slotWord b sl).hasBuf = true ∧ (s.blk.slot b sl).cur = none) ∧
  (∃ (s : State) (b sl j m p e : Nat) (adv xw endj : Bool), Ready s b ∧ sl < 64 ∧ (s.blk.stream b (0x100 +
    sl)).st = .waiting ∧ (s.blk.stream b (0x100 + sl)).hold ≠ .none ∧ decodeRdc (s.blk.curWord b (0x100 +
    sl)).toNat = some (.segin adv xw endj m p e) ∧ (s.blk.slot b sl).seginReady (s.blk.slotWord b sl).nch adv xw m
    p = some j) ∧
  (∃ (s : State) (b sl j src fmt flow af first cseq n : Nat) (down hold sh recs evt final : Bool) (t : List Byte)
    (ps : List Packet), Ready s b ∧ sl < 64 ∧ s.blk.rdcFetch b sl = some (.segout down hold sh recs src fmt flow,
    evt) ∧ (s.blk.slot b sl).cur = some j ∧ ((down = true → (s.blk.slotWord b sl).root = true)) ∧ (s.blk.slotWord
    b sl).hasBuf src = true ∧ ((recs = true → (s.blk.slotWord b sl).recs = true)) ∧ s.blk.combineTrailer b sl j =
    some (t, final, af, first) ∧
    let w := s.blk.slotWord b sl
    let v := s.blk.slot b sl
    (v.set j).tag = some (cseq, n) ∧
    let k := s.blk.mergeGflag b sl af first
    let seg := w.segField n v.phase
    k.buildPart s.env.build b sl (if down then opResult else if recs then opDispatch else opContrib) (if sh then 2
      else 1) flow seg cseq (v.set j).member (if down then .down else .parent) (w.partData recs fmt (v.buf (v.set j)
      src) ++ t) = some ps) ∧
  (∃ (s : State) (b sl src n j : Nat) (evt : Bool) (k : Block), Ready s b ∧ sl < 64 ∧ s.blk.rdcFetch b sl = some
    (.emit src n j, evt) ∧ s.blk.emitOp s.env.build b sl (.emit src n j) evt = some k) ∧
  (∃ (s : State) (b sl src n j : Nat) (evt : Bool), Ready s b ∧ sl < 64 ∧ s.blk.rdcFetch b sl = some (.emit src n
    j, evt) ∧ (s.blk.slot b sl).cur = none) :=
  ⟨⟨st (redRun (.segin true false false 1 0 0) 0x8200000000000000 { sets := [(0, filled)] }), 0, 0, 0, 1, 0, 0,
     true, false, false, false, by decide +kernel⟩,
   ⟨st (redRun (.segin true false false 1 0 0) 0x8200000000000000 {}), 0, 0, 1, 0, 0, false, false, false,
     by decide +kernel⟩,
   ⟨st (redRun (.segin false false false 1 0 0) 0x8200000000000000 {}), 0, 0, 1, 0, 0, false, false, false,
     by decide +kernel⟩,
   ⟨st (redRun (.segin true false false 1 0 0) 0x8200000000000000 { sets := [(0, filled)] } .waiting (.segin 0)),
     0, 0, 0, 1, 0, 0, true, false, false, by decide +kernel⟩,
   ⟨st leaving, 0, 0, 0, 7, 0, 1, 0, 0xFFFFFFFF, 0, 0, true, false, false, false, false, false,
     ((leaving.combineTrailer 0 0 0).getD ([], true, 0, 0)).1, (leaving.buildPart small 0 0 4 1 1 0 0 0 .down
     ((leaving.combineTrailer 0 0 0).getD ([], true, 0, 0)).1).getD [], by decide +kernel⟩,
   ⟨st emitting, 0, 0, 0, 1, 0, false, (emitting.emitOp small 0 0 (.emit 0 1 0) false).getD {}, by decide +kernel⟩,
   ⟨st (redRun (.emit 0 1 0) 0xA400000000000001 {}), 0, 0, 0, 1, 0, false, by decide +kernel⟩⟩

/-- The hypotheses of SendsAreAcceptedOrWait are met, clause by clause. -/
theorem witness_SendsAreAcceptedOrWait :
  (∃ (s : State) (b rid : Nat) (l : List Byte), Ready s b ∧ s.blk.lpServes s.env.build b rid = true ∧ l.length =
    64 ∧ 0 < natAt (bytesAt l 0 32) 2 1 ∧
    let c := natAt l 32 2 % 1024
    s.blk.chanOn b c = true ∧ (s.blk.chan b c).st = .opened ∧ s.blk.chanAccepts b c = true ∧ (s.blk.waits b).any
      (fun w => w.chan == c) = false) ∧
  (∃ (s : State) (b rid : Nat) (l : List Byte), Ready s b ∧ s.blk.lpServes s.env.build b rid = true ∧ l.length =
    64 ∧ 0 < natAt (bytesAt l 0 32) 2 1 ∧
    let c := natAt l 32 2 % 1024
    s.blk.chanOn b c = true ∧ (s.blk.chan b c).st ≠ .closed ∧ s.blk.chanAccepts b c = false) ∧
  (∃ (s : State) (b rid : Nat) (l : List Byte), Ready s b ∧ s.blk.lpServes s.env.build b rid = true ∧ l.length ≠
    64 ∧ look [] s.blk.xfr.lpDue (b * 64 + rid % 64) = []) ∧
  (∃ (s : State) (b rid : Nat) (l : List Byte), Ready s b ∧ s.blk.lpServes s.env.build b rid = true ∧ l.length =
    64 ∧ 0 < natAt (bytesAt l 0 32) 2 1 ∧ (s.blk.chan b (natAt l 32 2 % 1024)).st = .closed ∧ look []
    s.blk.xfr.lpDue (b * 64 + rid % 64) = []) ∧
  (∃ (s : State) (b c : Nat) (w : WaitSend), Ready s b ∧ c < 1024 ∧ (s.blk.waits b).find? (fun w => w.chan == c) =
    some w ∧ s.blk.chanAccepts b c = true) ∧
  (∃ (s : State) (b c rid tag : Nat) (w : WaitSend), Ready s b ∧ c < 1024 ∧ (s.blk.waits b).find? (fun w => w.chan
    == c) = some w ∧ w.who = .lp rid tag) ∧
  (∃ (s : State) (via : Via) (b c : Nat), Ready s b ∧ s.blk.viaOpen s.env.build b via = true ∧ c < 1024 ∧
    (s.blk.chan b c).st ≠ .opened ∧ (s.blk.chan b c).unacked = []) ∧
  (∃ (s : State) (via : Via) (b c : Nat), Ready s b ∧ s.blk.viaOpen s.env.build b via = true ∧ c < 1024 ∧
    (((s.blk.chan b c).st = .opened ∨ (s.blk.chan b c).unacked ≠ []))) :=
  ⟨⟨st (opn (chn { st := .opened, limit := 1 })), 0, 5, send64, by decide +kernel⟩,
   ⟨st (opn (chn { st := .opened })), 0, 5, send64, by decide +kernel⟩,
   ⟨st opn, 0, 5, [], by decide +kernel⟩,
   ⟨st (opn (chn { st := .closed })), 0, 5, send64, by decide +kernel⟩,
   ⟨st (chn { st := .opened, limit := 1 }
     { mq.waits := [(0, [{ chan := 0, who := .mp, data := [], addr := 0 }])] }), 0, 0,
     { chan := 0, who := .mp, data := [], addr := 0 }, by decide +kernel⟩,
   ⟨st (chn { st := .opened }
     { mq.waits := [(0, [{ chan := 0, who := .lp 5 6, data := [], addr := 0 }])], xfr.lpDue := [(5, [.waits 6 (.send 0), .ready 7 0 []])] }),
     0, 0, 5, 6, { chan := 0, who := .lp 5 6, data := [], addr := 0 }, by decide +kernel⟩,
   ⟨st opn, .lp 5 6, 0, 1023, by decide +kernel⟩,
   ⟨st (chn { st := .opened }), .mp, 0, 0, by decide +kernel⟩⟩

/-- The hypotheses of SparsePhasesFollow are met, clause by clause. -/
theorem witness_SparsePhasesFollow :
  (∃ (s : State) (b t : Nat) (ps : List (Nat × Nat)), Ready s b ∧ s.blk.scanning b = some t ∧
    let v := s.blk.tracker b t
    let src := memRead s.env.mem b v.desc.sa v.desc.len
    (storeBlocks v.desc.opx src).all (fun x => !x.1.dense) = true ∧ storeSplit s.env.mem b v.desc = some ps) ∧
  (∃ (s : State) (b t : Nat), Ready s b ∧ s.blk.gatherTurn b = some t ∧ (s.blk.job b t).phase = .fetch ∧
    (s.blk.job b t).started = true ∧ (s.blk.tracker b t).stop = false ∧ (s.blk.job b t).nFetch ≤ (s.blk.tracker b
    t).issued ∧ (((s.blk.job b t).mw = false ∨ waitMet (s.blk.counter b (s.blk.job b t).mcnt) (s.blk.job b
    t).mval = true))) ∧
  (∃ (s : State) (b t : Nat), Ready s b ∧ s.blk.gatherTurn b = some t ∧ (s.blk.job b t).phase = .fetch ∧
    (s.blk.job b t).mw = true ∧ (s.blk.job b t).started = true ∧ (s.blk.job b t).nFetch ≤ (s.blk.tracker b
    t).issued) ∧
  (∃ (s : State) (b t : Nat) (w : WaitSend) (r : List WaitSend), Ready s b ∧ s.blk.waits b = w :: r ∧ w.who =
    .residual t ∧ s.blk.chanAccepts b w.chan = true) ∧
  (∃ (s : State) (b : Nat), Ready s b ∧ s.blk.waits b = []) ∧
  (∃ (k : Block) (b t : Nat) (m : List Byte) (r : List (List Byte)), (k.job b t).posts = m :: r ∧ k.chanOn b
    (k.job b t).chan = true ∧ (k.chan b (k.job b t).chan).st ≠ .closed ∧ ((k.waits b).any fun w => w.chan ==
    (k.job b t).chan) = true ∧ k.residHeld b (k.job b t).rpart < k.residCapacity b (k.job b t).rpart) ∧
  (∃ (s : State) (b t : Nat), Ready s b ∧ s.blk.gatherTurn b = some t ∧ (s.blk.job b t).posts ≠ []) :=
  ⟨⟨st (trk 0 { st := .source, op := .storeC, desc := { len := 256, opx := [1] } } { spc.compress := [(0, [0])] }),
     0, 0, (splitStream 0 (storeBytes [1] (List.replicate 256 0)).length).getD [], by decide +kernel⟩,
   ⟨st (gat { started := true }), 0, 0, by decide +kernel⟩,
   ⟨st (gat { started := true, mw := true }), 0, 0, by decide +kernel⟩,
   ⟨st (chn { st := .opened, limit := 1 }
     { mq.waits := [(0, [{ chan := 0, who := .residual 0, data := [], addr := 0 }])] }), 0, 0,
     { chan := 0, who := .residual 0, data := [], addr := 0 }, [], by decide +kernel⟩,
   ⟨st (gat { posts := [[]] }), 0, by decide +kernel⟩,
   ⟨gat { posts := [[1]] } (chn { st := .opened }
     (({ mq.waits := [(0, [{ chan := 0, who := .mp, data := [], addr := 0 }])] } : Block).setRf .RDC_PART 16 8 0
     [0] 1)), 0, 0, [1], [], by decide +kernel⟩,
   ⟨st (gat { posts := [[]] }), 0, 0, by decide +kernel⟩⟩

/-- The hypotheses of StepKeepsBuildAndMemoryForm are met, clause by clause. -/
theorem witness_StepKeepsBuildAndMemoryForm :
  (∃ (s t : State), Inv s ∧ step s = .next t) :=
  ⟨stored, { stored with blk := stored.blk.pass stored.env 1 }, stored_inv, rfl⟩

/-- The hypotheses of StepRunsFrontCommand are met, clause by clause. -/
theorem witness_StepRunsFrontCommand :
  (∃ (s : State), s.pending = [] ∧ s.blk.held = false ∧ s.blk.clk.toBoundary ≠ 1) ∧
  (∃ (s : State), s.pending = [] ∧ s.blk.held = false ∧ s.blk.clk.toBoundary = 1) ∧
  (∃ (s : State), s.pending = [] ∧ s.blk.held = true) :=
  ⟨⟨st {}, by decide +kernel⟩,
   ⟨st { clk.phase := courseSpan - 1 }, by decide, by decide +kernel, by decide +kernel⟩,
   ⟨st { rst.rootLost := true }, by decide +kernel⟩⟩

/-- The hypotheses of StreamsWaitLoopHaltAndRetire are met, clause by clause. -/
theorem witness_StreamsWaitLoopHaltAndRetire :
  (∃ (s : State) (b u c st v : Nat) (evt : Bool), Ready s b ∧ streamOk u = true ∧ (¬(s.blk.img.st = .quiescing ∧
    isReducer u = false)) ∧ s.blk.ctlFetch b u = some (.wait c st v, evt)) ∧
  (∃ (s : State) (b u : Nat), Ready s b ∧ streamOk u = true ∧ (s.blk.stream b u).st = .waiting ∧ (s.blk.stream b
    u).hold = .none ∧ waitMet (s.blk.counter b (s.blk.stream b u).wcnt) (s.blk.stream b u).wtarget = true) ∧
  (∃ (s : State) (b u : Nat), Ready s b ∧ streamOk u = true ∧ waitMet (s.blk.counter b (s.blk.stream b u).wcnt)
    (s.blk.stream b u).wtarget = false) ∧
  (∃ (s : State) (b u n t : Nat), Ready s b ∧ streamOk u = true ∧ s.blk.ctlFetch b u = some (.loop n t, false) ∧
    (n = 0 ∨ (s.blk.stream b u).taken (s.blk.stream b u).pc < n)) ∧
  (∃ (s : State) (b u n t : Nat), Ready s b ∧ streamOk u = true ∧ s.blk.ctlFetch b u = some (.loop n t, false) ∧ n
    ≠ 0 ∧ n ≤ (s.blk.stream b u).taken (s.blk.stream b u).pc) ∧
  (∃ (s : State) (b u : Nat), Ready s b ∧ u < 16 ∧ s.blk.img.st ≠ .quiescing ∧ s.blk.ctlFetch b u = some (.halt,
    false)) ∧
  (∃ (s : State) (b sl : Nat), Ready s b ∧ sl < 64 ∧ s.blk.ctlFetch b (0x100 + sl) = some (.halt, false)) :=
  ⟨⟨st (prog 0xC100050200000007), 0, 0, 5, 2, 7, false, by decide +kernel⟩,
   ⟨st (prog 0xC100050200000000 { st := .waiting, wcnt := 5, wtarget := 0 }), 0, 0, by decide +kernel⟩,
   ⟨st (prog 0xC100050200000000 { st := .waiting, wcnt := 5, wtarget := 9 }), 0, 0, by decide +kernel⟩,
   ⟨st (prog 0xC300000300000000), 0, 0, 3, 0, by decide +kernel⟩,
   ⟨st (prog 0xC300000300000000 { st := .running, loops := [(0, 3)] }), 0, 0, 3, 0, by decide +kernel⟩,
   ⟨st (prog 0xC400000000000000), 0, 0, by decide +kernel⟩,
   ⟨st (({ prog.rdcMem := [(0, 9511602413006487552)] } : Block).setStream 0 0x100 { st := .running }), 0, 0,
     by decide +kernel⟩⟩

/-- The hypotheses of StressAndEndOfLife are met, clause by clause. -/
theorem witness_StressAndEndOfLife :
  (∃ (s : State) (b f g : Nat), Ready s b ∧ 0 < g ∧ g < f ∧ f < 2 ^ 20 ∧ s.blk.rf .AGE_DRIFT 63 32 b < 2 ^ 32 - 1) ∧
  (∃ (s : State) (b f g i : Nat), Ready s b ∧ 0 < g ∧ f ≤ g ∧ i < 20 ∧ s.blk.rf .AGE_DRIFT 63 32 b + 1 = 2 ^ i) ∧
  (∃ (s : State) (b i : Nat), Ready s b ∧ s.blk.crosses .managementPort = true ∧ i < 20) ∧
  (∃ (k : Block) (b : Nat), (k.samples b).length < 2) ∧
  (∃ (f : Int × Int × Int), f.1 ≤ 0) :=
  ⟨⟨st {}, 0, 1048575, 1, by decide +kernel⟩,
   ⟨st (({} : Block).setRf .AGE_DRIFT 63 32 0 [] 524287), 0, 5, 5, 19, by decide +kernel⟩,
   ⟨st {}, 0, 19, by decide +kernel⟩,
   ⟨{}, 0, by decide +kernel⟩,
   ⟨(0, 5, 1), by decide +kernel⟩⟩

/-- The hypotheses of SupplyAndSegmentsChange are met, clause by clause. -/
theorem witness_SupplyAndSegmentsChange :
  (∃ (s : State), s.blk.held = false ∧ flag (s.blk.reg .AGE_VREQ) 0 = true) ∧
  (∃ (s : State), s.blk.held = false ∧ flag (s.blk.reg .AGE_VREQ) 0 = false) ∧
  (∃ (s : State), s.blk.held = false) ∧
  (∃ (s : State) (v : Word), s.blk.held = false ∧ s.blk.crosses .managementPort = true ∧ flag v 1 = true ∧ 0 <
    s.blk.rf .AGE_VREQ 11 8 ∧ flag (s.blk.reg .AGE_VREQ) 0 = false ∧ s.blk.regulatorShut = false) ∧
  (∃ (s : State) (v : Word), s.blk.held = false ∧ s.blk.crosses .managementPort = true ∧ ((flag v 1 = false ∨
    s.blk.rf .AGE_VREQ 11 8 = 0 ∨ flag (s.blk.reg .AGE_VREQ) 0 = true ∨ s.blk.regulatorShut = true))) ∧
  (∃ (s : State) (i : Nat) (v : Word), s.blk.held = false ∧ s.blk.crosses .managementPort = true ∧ i < 24 ∧
    segmentBuilt s.env.build i = true ∧ look none s.blk.hlth.planNext i = none ∧ flag v 0 ≠ flag (s.blk.reg
    .AGE_PLAN 0 [i]) 0) ∧
  (∃ (s : State) (i : Nat), s.blk.held = false ∧ s.blk.crosses .managementPort = true ∧ i < 24 ∧ segmentBuilt
    s.env.build i = false) ∧
  (∃ (s : State) (i n : Nat) (two policy : Bool), s.blk.held = false ∧ i < 24 ∧ look none s.blk.hlth.planNext i =
    some (two, policy, n) ∧ s.blk.clk.cyc = 0 ∧ n < s.blk.clk.now) ∧
  (∃ (s : State) (i : Nat), s.blk.held = false ∧ i < 24 ∧ ((look none s.blk.hlth.planNext i = none ∨ s.blk.clk.cyc
    ≠ 0))) :=
  ⟨⟨st ((({} : Block).setReg .AGE_VREQ 0 [] 1).setRf .AGE_MARGIN 42 40 17 [] 5), by decide +kernel⟩,
   ⟨st {}, by decide +kernel⟩,
   ⟨st { hlth.settling := true }, by decide +kernel⟩,
   ⟨st (({} : Block).setRf .AGE_VREQ 11 8 0 [] 1), 2, by decide +kernel⟩,
   ⟨st (({} : Block).setRf .AGE_VREQ 11 8 0 [] 0), 2, by decide +kernel⟩,
   ⟨{ env := { build := { meshX := 9, meshY := 4 } } }, 1, 1, by decide +kernel⟩,
   ⟨st {}, 23, by decide +kernel⟩,
   ⟨st { hlth.planNext := [(23, some (true, false, 0))], clk.now := 1 }, 23, 0, true, false, by decide +kernel⟩,
   ⟨st {}, 23, by decide +kernel⟩⟩

/-- The hypotheses of TimeIsSetReadAndTracked are met, clause by clause. -/
theorem witness_TimeIsSetReadAndTracked :
  (∃ (s : State), s.blk.held = false ∧ s.blk.crosses .managementPort = true ∧ s.blk.img.run = false) ∧
  (∃ (s : State), s.blk.held = false ∧ s.blk.crosses .managementPort = true ∧ s.blk.img.run = true) ∧
  (∃ (s : State), s.blk.held = false) ∧
  (∃ (s : State) (v : Word), s.blk.held = false ∧ s.blk.crosses .managementPort = true ∧ fld v 1 0 ≠ 0) ∧
  (∃ (s : State) (v : Word), s.blk.held = false ∧ s.blk.crosses .managementPort = true ∧ fld v 1 0 = 0) ∧
  (∃ (s : State), s.blk.held = false ∧ s.blk.rf .TIM_CTL 1 0 = 1 ∧ s.blk.clk.cphase ≤ 65536000) ∧
  (∃ (s : State), s.blk.held = false ∧ s.blk.rf .TIM_CTL 1 0 = 1 ∧ 65536000 < s.blk.clk.cphase) ∧
  (∃ (s : State), s.blk.held = false ∧ ((s.blk.clk.st = .tracking ∨ s.blk.clk.st = .locked)) ∧ 256 ≤
    s.blk.clk.since) ∧
  (∃ (s : State), s.blk.held = false ∧ s.blk.clk.since < 256) ∧
  (∃ (s : State), s.blk.held = false ∧ s.blk.clk.st = .holdover ∧ s.blk.rf .TIM_CTL 63 48 0 ≤
    s.blk.clk.holdCourses) ∧
  (∃ (s : State) (b : Nat), Ready s b) ∧
  (∃ (s : State) (b : Nat), Ready s b) ∧
  (∃ (k : Block) (d : Build) (b time : Nat), look 0 k.rst.position b = ringPos d b ∧ 0 < timeDiff time k.gtime * 2
    ^ 24 - ((k.clk.phase % 2 ^ 24 : Nat) : Int)) ∧
  (∃ (k : Block), k.clk.st = .root) ∧
  (∃ (k : Block) (e : Int), k.clk.st = .tracking ∧ k.wide = false ∧ e.natAbs ≤ 2 * 65536 ∧ 63 ≤ k.clk.good) ∧
  (∃ (k : Block) (e : Int), k.clk.st = .tracking ∧ k.wide = false ∧ e.natAbs ≤ 2 * 65536 ∧ k.clk.good < 63) ∧
  (∃ (k : Block) (e : Int), k.clk.st = .tracking ∧ k.wide = false ∧ 2 * 65536 < e.natAbs) ∧
  (∃ (k : Block) (e : Int), k.clk.st = .locked ∧ k.wide = false ∧ 163840 < e.natAbs) ∧
  (∃ (k : Block) (e : Int), k.clk.st = .locked ∧ k.wide = false ∧ e.natAbs ≤ 163840) ∧
  (∃ (k : Block), (k.clk.st = .acquire ∨ k.clk.st = .holdover ∨ k.clk.st = .lost)) ∧
  (∃ (k : Block), k.clk.lhalt = true) :=
  ⟨⟨st {}, by decide +kernel⟩,
   ⟨st { img.run := true }, by decide +kernel⟩,
   ⟨st {}, by decide +kernel⟩,
   ⟨st {}, 3, by decide +kernel⟩,
   ⟨st {}, 0, by decide +kernel⟩,
   ⟨st (({} : Block).setRf .TIM_CTL 1 0 0 [] 1), by decide +kernel⟩,
   ⟨st (({ clk.phase := 65536001 * 2 ^ 24 } : Block).setRf .TIM_CTL 1 0 0 [] 1), by decide +kernel⟩,
   ⟨st { clk.st := .locked, clk.since := 256 }, by decide +kernel⟩,
   ⟨st { clk.st := .locked, clk.since := 255 }, by decide +kernel⟩,
   ⟨st { clk.st := .holdover, clk.holdCourses := 4096 }, by decide +kernel⟩,
   ⟨st {}, 0, by decide +kernel⟩,
   ⟨st {}, 0, by decide +kernel⟩,
   ⟨{}, small, 0, 7, by decide +kernel⟩,
   ⟨{}, by decide +kernel⟩,
   ⟨{ clk.st := .tracking, clk.good := 63 }, -131072, by decide +kernel⟩,
   ⟨{ clk.st := .tracking, clk.good := 62 }, 131072, by decide +kernel⟩,
   ⟨{ clk.st := .tracking, clk.good := 63 }, -131073, by decide +kernel⟩,
   ⟨{ clk.st := .locked }, 163841, by decide +kernel⟩,
   ⟨{ clk.st := .locked }, -163840, by decide +kernel⟩,
   ⟨{ clk.st := .holdover }, by decide +kernel⟩,
   ⟨{ clk.lhalt := true }, by decide +kernel⟩⟩

/-- The hypotheses of TracesAndMapsAreGathered are met, clause by clause. -/
theorem witness_TracesAndMapsAreGathered :
  (∃ (s : State) (b : Nat) (r : List Byte) (l : List (List Byte)), Ready s b ∧ look [] s.blk.hlth.traces b = r ::
    l ∧ s.blk.hlth.traceBuf = [] ∧ s.blk.hlth.sramAt ≠ s.blk.mclk + 1 ∧ flag (s.blk.reg .PRB_TCTL) 63 = true ∧
    flag (s.blk.reg .PRB_TSTAT) 33 = false ∧ s.blk.rf .PRB_TSTAT 13 0 + 1 < 12288) ∧
  (∃ (s : State) (b : Nat) (r : List Byte) (l : List (List Byte)), Ready s b ∧ look [] s.blk.hlth.traces b = r ::
    l ∧ s.blk.hlth.traceBuf = [] ∧ s.blk.hlth.sramAt ≠ s.blk.mclk + 1 ∧ flag (s.blk.reg .PRB_TCTL) 63 = true ∧
    flag (s.blk.reg .PRB_TCTL) 62 = true ∧ flag (s.blk.reg .PRB_TSTAT) 33 = false ∧ s.blk.rf .PRB_TSTAT 13 0 =
    12287) ∧
  (∃ (s : State) (b : Nat) (r : List Byte) (l : List (List Byte)), Ready s b ∧ look [] s.blk.hlth.traces b = r ::
    l ∧ s.blk.hlth.traceBuf = [] ∧ s.blk.hlth.sramAt ≠ s.blk.mclk + 1 ∧ flag (s.blk.reg .PRB_TCTL) 63 = true ∧
    flag (s.blk.reg .PRB_TCTL) 62 = false ∧ flag (s.blk.reg .PRB_TSTAT) 33 = false ∧ s.blk.rf .PRB_TSTAT 13 0 =
    12287) ∧
  (∃ (s : State) (b : Nat) (r : List Byte) (l : List (List Byte)), Ready s b ∧ look [] s.blk.hlth.traces b = r ::
    l ∧ flag (s.blk.reg .PRB_TCTL) 63 = true ∧ s.blk.hlth.sramAt = s.blk.mclk + 1 ∧ s.blk.hlth.traceBuf.length <
    4) ∧
  (∃ (s : State) (b : Nat) (r : List Byte) (l : List (List Byte)), Ready s b ∧ look [] s.blk.hlth.traces b = r ::
    l ∧ flag (s.blk.reg .PRB_TCTL) 63 = true ∧ s.blk.hlth.traceBuf.length = 4) ∧
  (∃ (k : Block) (r : List Byte) (l : List (List Byte)) (m : Nat), k.hlth.traceBuf = r :: l ∧ k.mclk = m + 1) ∧
  (∃ (k : Block), flag (k.reg .PRB_TSTAT) 33 = false) ∧
  (∃ (s : State) (v : Word), s.blk.held = false ∧ s.blk.crosses .managementPort = true ∧ flag v 63 = true ∧ flag
    (s.blk.reg .PRB_TCTL) 63 = false) ∧
  (∃ (s : State) (b : Nat), Ready s b ∧ flag (s.blk.reg .PRB_CMCTL) 63 = true ∧ s.blk.clk.cyc = 0 ∧ s.blk.rf
    .PRB_CMCTL 15 0 ≤ s.blk.hlth.courses) ∧
  (∃ (s : State) (b : Nat), Ready s b ∧ ((flag (s.blk.reg .PRB_CMCTL) 63 = false ∨ s.blk.hlth.courses < s.blk.rf
    .PRB_CMCTL 15 0))) ∧
  (∃ (k : Block) (q : Packet), flag (k.reg .PRB_CMCTL) 63 = true ∧ 2 ≤ q.vc) ∧
  (∃ (s : State), s.blk.held = false ∧ (bricks s.env.build).all (fun b => s.blk.hlth.reported.contains b) = true ∧
    flag (s.blk.reg .PRB_CMCTL) 62 = false ∧ s.blk.rf .PRB_CMSTAT 63 32 < 2 ^ 32 - 1) ∧
  (∃ (s : State), s.blk.held = false ∧ (bricks s.env.build).all (fun b => s.blk.hlth.reported.contains b) = false) ∧
  (∃ (s : State) (b : Nat) (p : Packet) (r : List Packet), Ready s b ∧ s.blk.headGood b 0 (cEp p.dst) p r ∧ p.op =
    opTelemetry) :=
  ⟨⟨st (({ hlth.traces := [(0, [[7]])] } : Block).setRf .PRB_TCTL 63 63 0 [] 1 |>.setRf .PRB_TSTAT 13 0 0 []
     12286), 0, [7], [], by decide +kernel⟩,
   ⟨st (({ hlth.traces := [(0, [[7]])] } : Block).setRf .PRB_TCTL 63 62 0 [] 3 |>.setRf .PRB_TSTAT 13 0 0 []
     12287), 0, [7], [], by decide +kernel⟩,
   ⟨st (({ hlth.traces := [(0, [[7]])] } : Block).setRf .PRB_TCTL 63 62 0 [] 2 |>.setRf .PRB_TSTAT 13 0 0 []
     12287), 0, [7], [], by decide +kernel⟩,
   ⟨st (({ hlth := { traces := [(0, [[7]])], sramAt := 1, traceBuf := [[5]] } } : Block).setRf .PRB_TCTL 63 63 0 []
     1), 0, [7], [], by decide +kernel⟩,
   ⟨st (({ hlth := { traces := [(0, [[7]])], traceBuf := [[5], [6], [7], [8]] } } : Block).setRf .PRB_TCTL 63 63 0
     [] 1), 0, [7], [], by decide +kernel⟩,
   ⟨{ hlth.traceBuf := [[5], [6]], clk.now := 4 }, [5], [[6]], 0, by decide +kernel⟩,
   ⟨{ hlth.traceMem := [(0, [1])] }, by decide +kernel⟩,
   ⟨st (({} : Block).setRf .PRB_TCTL 63 63 0 [] 0), 0x8000000000000000, by decide +kernel⟩,
   ⟨st
     (({ hlth := { back := [(0, 300), (3, 5), (7, 9)], shared := [(0, 3200)], carried := [(0, 800)], courses := 64 } }
     : Block).setRf .PRB_CMCTL 63 63 0 [] 1), 0, by decide +kernel⟩,
   ⟨st (({} : Block).setRf .PRB_CMCTL 63 63 0 [] 0), 0, by decide +kernel⟩,
   ⟨(({} : Block).setRf .PRB_CMCTL 63 63 0 [] 1), { vc := 5 }, by decide +kernel⟩,
   ⟨st (({ hlth.reported := bricks small } : Block).setRf .PRB_CMCTL 62 62 0 [] 0), by decide +kernel⟩,
   ⟨st {}, by decide +kernel⟩,
   ⟨st (rx 0 (pk 0x11 6 1 { payload := List.replicate 8 0 })), 0, pk 0x11 6 1 { payload := List.replicate 8 0 },
     [], by decide +kernel⟩⟩

/-- The hypotheses of TransfersStartAndWait are met, clause by clause. -/
theorem witness_TransfersStartAndWait :
  (∃ (s : State) (b en st da : Nat) (o : DescOp) (evt : Bool), Ready s b ∧ en < 16 ∧ s.blk.descFetch b en = some
    (o, st, da, evt) ∧ s.blk.lpOpen b = true ∧
    let l := memRead s.env.mem b (((da + st * s.blk.iterIndex b en (s.blk.stream b en).pc) * 64) % 2 ^ 48) 64
    descOk o l = true ∧ s.blk.startOk s.env b o (descOf l) = true ∧ (s.blk.tracker b (descOf l).trk).st = .idle) ∧
  (∃ (s : State) (b en st da : Nat) (o : DescOp) (evt : Bool), Ready s b ∧ en < 16 ∧ s.blk.descFetch b en = some
    (o, st, da, evt) ∧ s.blk.lpOpen b = true ∧
    let l := memRead s.env.mem b (((da + st * s.blk.iterIndex b en (s.blk.stream b en).pc) * 64) % 2 ^ 48) 64
    descOk o l = true ∧ s.blk.startOk s.env b o (descOf l) = true ∧ (s.blk.tracker b (descOf l).trk).st ≠ .idle) ∧
  (∃ (s : State) (b en st da : Nat) (o : DescOp) (evt : Bool), Ready s b ∧ en < 16 ∧ s.blk.descFetch b en = some
    (o, st, da, evt) ∧ s.blk.lpOpen b = true ∧
    let l := memRead s.env.mem b (((da + st * s.blk.iterIndex b en (s.blk.stream b en).pc) * 64) % 2 ^ 48) 64
    descOk o l = false) ∧
  (∃ (s : State) (b en st da : Nat) (o : DescOp) (evt : Bool), Ready s b ∧ en < 16 ∧ s.blk.descFetch b en = some
    (o, st, da, evt) ∧ s.blk.lpOpen b = true ∧
    let l := memRead s.env.mem b (((da + st * s.blk.iterIndex b en (s.blk.stream b en).pc) * 64) % 2 ^ 48) 64
    descOk o l = true ∧ s.blk.startOk s.env b o (descOf l) = false) ∧
  (∃ (s : State) (b en : Nat) (o : DescOp) (c : Desc), Ready s b ∧ en < 16 ∧ (s.blk.stream b en).st = .running ∧
    (s.blk.stream b en).hold = .tracker (opOf o) c ∧ (s.blk.tracker b c.trk).st = .idle ∧ s.blk.startOk s.env b o
    c = true) ∧
  (∃ (s : State) (b en st da : Nat) (o : DescOp) (evt ok : Bool), Ready s b ∧ en < 16 ∧ s.blk.descFetch b en =
    some (o, st, da, evt) ∧ ((ok = false ∨ s.blk.lpOpen b = false))) ∧
  (∃ (s : State) (b en : Nat) (o : DescOp) (c : Desc), Ready s b ∧ en < 16 ∧ (s.blk.stream b en).st = .running ∧
    (s.blk.stream b en).hold = .tracker (opOf o) c ∧ (s.blk.tracker b c.trk).st = .idle ∧ s.blk.startOk s.env b o
    c = false) ∧
  (∃ (s : State) (b en : Nat), Ready s b ∧ en < 16 ∧ (s.blk.stream b en).st = .running ∧ (s.blk.stream b
    en).hold = .none ∧ decodeXfer (s.blk.progWord b en (s.blk.stream b en).pc).toNat = some .fence) ∧
  (∃ (s : State) (b en : Nat), Ready s b ∧ en < 16 ∧ (s.blk.stream b en).st = .running ∧ (s.blk.stream b
    en).hold = .fence ∧ s.blk.engineBusy b en = false) :=
  ⟨⟨st (opn (prog 0xC500000000000001)) copyMem, 0, 0, 0, 1, .copy, false, by decide +kernel⟩,
   ⟨st (trk 0 { st := .linger } (opn (prog 0xC500000000000001))) copyMem, 0, 0, 0, 1, .copy, false, by decide +kernel⟩,
   ⟨st (opn (prog 0xC500000000000001)), 0, 0, 0, 1, .copy, false, by decide +kernel⟩,
   ⟨st (opn (prog 0xC600000000000001)) [(70, 2#8), (76, 1#8)], 0, 0, 0, 1, .mcast, false, by decide +kernel⟩,
   ⟨st (prog 0xC500000000000001 { st := .running, hold := .tracker .copy (descOf (memRead copyMem 0 64 64)) }), 0,
     0, .copy, descOf (memRead copyMem 0 64 64), by decide +kernel⟩,
   ⟨st (opn (prog 0xC500000000000001)) copyMem, 0, 0, 0, 1, .copy, false, false, by decide +kernel⟩,
   ⟨st (prog 0xC500000000000001 { st := .running, hold := .tracker .mcast {} }), 0, 0, .mcast, {}, by decide +kernel⟩,
   ⟨st (prog 0xCD00000000000000), 0, 0, by decide +kernel⟩,
   ⟨st (prog 0xCD00000000000000 { st := .running, hold := .fence }), 0, 0, by decide +kernel⟩⟩

/-- The hypotheses of WiloriDecodeOfEncode are met, clause by clause. -/
theorem witness_WiloriDecodeOfEncode :
  (∃ (i : XferInstr), i.fits = true) ∧
  (∃ (i : RdcInstr), i.fits = true) ∧
  (∃ (i : CourseInstr), i.fits = true) :=
  ⟨⟨.desc .copy 2 0x40, by decide +kernel⟩,
   ⟨.add 7 0 0 3, by decide +kernel⟩,
   ⟨.rep 4799 16, by decide +kernel⟩⟩

/-- The hypotheses of WiloriEncodeOfDecode are met, clause by clause. -/
theorem witness_WiloriEncodeOfDecode :
  (∃ (w : Nat) (i : XferInstr), w < 2 ^ 64 ∧ decodeXfer w = some i) ∧
  (∃ (w : Nat) (i : RdcInstr), w < 2 ^ 64 ∧ decodeRdc w = some i) ∧
  (∃ (w : Nat) (i : CourseInstr), w < 2 ^ 64 ∧ decodeCourse w = some i) :=
  ⟨⟨0xC540200000000040, .desc .copy 2 0x40, by decide +kernel⟩,
   ⟨encodeRdc true (.add 7 0 0 3), .add 7 0 0 3, by decide +kernel⟩,
   ⟨encodeCourse (.rep 4799 16), .rep 4799 16, by decide +kernel⟩⟩

/-- The hypotheses of WrapperAndSelfTest are met, clause by clause. -/
theorem witness_WrapperAndSelfTest :
  (∃ (s : State), s.blk.held = false ∧ s.blk.rst.testing = true) ∧
  (∃ (s : State), s.blk.held = false ∧ s.blk.rst.testing = false ∧ flag (s.blk.reg .RST_STAT) 8 = true) ∧
  (∃ (s : State), s.blk.held = false ∧ s.blk.rst.testing = false ∧ s.blk.rf .CLK_STAT 33 32 ≠ 0) :=
  ⟨⟨st { rst.testing := true }, by decide +kernel⟩,
   ⟨st (({} : Block).setBit .RST_STAT 8), by decide +kernel⟩,
   ⟨st (({} : Block).setRf .CLK_STAT 33 32 0 [] 1), by decide +kernel⟩⟩

/-- The hypotheses of WritePassAndImageStart are met, clause by clause. -/
theorem witness_WritePassAndImageStart :
  (∃ (s : State), s.blk.held = false ∧ s.blk.crosses .managementPort = true ∧ s.blk.img.st = .checked ∧
    s.blk.writeHeld s.env.build = false) ∧
  (∃ (s : State), s.blk.held = false ∧ s.blk.crosses .managementPort = true ∧ s.blk.img.st = .checked ∧
    s.blk.writeHeld s.env.build = true) ∧
  (∃ (s : State), s.blk.held = false ∧ s.blk.crosses .managementPort = true ∧ s.blk.img.st ≠ .checked) ∧
  (∃ (s : State), s.blk.held = false ∧ s.blk.img.st = .checked ∧ s.blk.img.writeAsked = true ∧ s.blk.writeHeld
    s.env.build = false) ∧
  (∃ (s : State), s.blk.held = false ∧ s.blk.img.st = .quiescing ∧ s.blk.isQuiet = true) ∧
  (∃ (s : State), s.blk.held = false ∧ s.blk.img.st = .quiescing ∧ s.blk.isQuiet = false) ∧
  (∃ (s : State), s.blk.held = false ∧ s.blk.img.st = .quiescing ∧ s.blk.img.saved = []) ∧
  (∃ (s : State) (v : Word), s.blk.held = false ∧ s.blk.crosses .managementPort = true ∧ s.blk.img.st = .writing ∧
    s.blk.img.checked.take (s.blk.img.cur ++ leBytes 8 v.toNat).length ≠ s.blk.img.cur ++ leBytes 8 v.toNat) ∧
  (∃ (s : State) (v : Word), s.blk.held = false ∧ s.blk.crosses .managementPort = true ∧ s.blk.img.st = .writing ∧
    let cur := s.blk.img.cur ++ leBytes 8 v.toNat
    s.blk.img.checked.take cur.length = cur ∧ cur.length < 64 ∧ cur.length ≠ s.blk.img.checked.length) ∧
  (∃ (s : State), s.blk.held = false ∧ s.blk.clk.cyc = 0 ∧ s.blk.startsAt s.blk.clk.course = true) ∧
  (∃ (s : State), s.blk.held = false ∧ s.blk.clk.cyc = 0 ∧ s.blk.startsAt s.blk.clk.course = true) ∧
  (∃ (s : State), s.blk.held = false ∧ ((s.blk.clk.cyc ≠ 0 ∨ s.blk.startsAt s.blk.clk.course = false))) :=
  ⟨⟨st { img := { st := .checked, checked := image } }, by decide +kernel⟩,
   ⟨st
     { img := { st := .checked, checked := image.set 10 1 ++ [3, 1] ++ List.replicate 14 0 }, net.holdLeft := 1 },
     by decide +kernel⟩,
   ⟨st {}, by decide +kernel⟩,
   ⟨st { img := { st := .checked, checked := image, writeAsked := true } }, by decide +kernel⟩,
   ⟨st { img.st := .quiescing, prog.streams := [(0, { wcnt := 5 })] }, by decide +kernel⟩,
   ⟨st (({ img.st := .quiescing } : Block).setStream 0 0 { st := .running }), by decide +kernel⟩,
   ⟨st { img.st := .quiescing }, by decide +kernel⟩,
   ⟨st { img := { st := .writing, checked := image } }, 0, by decide +kernel⟩,
   ⟨st { img := { st := .writing, checked := image, cur := image.take 48 } }, BitVec.ofNat 64 (leNat ((image.drop
     48).take 8)), by decide +kernel⟩,
   ⟨st { img := { st := .writing, checked := image, written := true } }, by decide +kernel⟩,
   ⟨st { img := { st := .writing, checked := image, written := true } }, by decide +kernel⟩,
   ⟨st { clk.cyc := 1 }, by decide +kernel⟩⟩

end Sys2Proof.Tests
end

section
/-!
SUPPORT. How a command whose step is `State.run` completes; frames of registers; what a stored map reads; and the
operations that bring-up and the stopped boundaries use (R22, R483, R490, R497).
-/

namespace Sys2Proof.Machine

/-! ### Commands that run on the block -/

/-- A command that is `State.run` of elements that are there completes, in a block that runs, with the run's effect. -/
theorem gives_of_run {c : Instr} {s : State} {ok : Bool} {f : Block → Block} {k : Block}
    (he : exec c s = s.run ok f) (hok : ok = true) (hh : s.blk.held = false) (hk : f s.blk = k) : Gives c s k := by
  subst hok hk
  exact he.trans (State.run_next s f hh)

/-! ### Stored maps and boundaries -/

/-- A map into which `f` was written at each key of a list. -/
theorem look_foldl_put {α : Type} [DecidableEq α] (d : α) (f : Nat → α) (l : List Nat) (m : Store α) (b : Nat) :
    look d (l.foldl (fun m b => put d m b (f b)) m) b = if b ∈ l then f b else look d m b := by
  induction l generalizing m with
  | nil => simp
  | cons a l ih =>
    rw [List.foldl_cons, ih, look_put]
    by_cases hl : b ∈ l
    · simp [hl]
    · by_cases ha : b = a <;> simp [hl, ha]

theorem contains_filter_ne (l : List Boundary) (x : Boundary) :
    (l.filter fun (y : Boundary) => y != x).contains x = false := by simp

/-! ### What a write of registers leaves alone -/

theorem Block.regsKept_trans {k m n : Block} {l : List Nat} (h : k.regsKept m l) (h' : m.regsKept n l) :
    k.regsKept n l :=
  fun r pg ix hr => (h' r pg ix hr).trans (h r pg ix hr)

theorem Block.regsKept_setRf (k : Block) (r : RegName) (hi lo pg : Nat) (ix : List Nat) (v : Nat) {l : List Nat}
    (hl : regAddr r pg ix ∈ l) : k.regsKept (k.setRf r hi lo pg ix v) l :=
  fun _ _ _ hr => k.reg_setRf_other hi lo pg ix v fun e => hr (e ▸ hl)

theorem Block.setRf_frame (k : Block) (r : RegName) (hi lo pg : Nat) (ix : List Nat) (v : Nat) :
    k.setRf r hi lo pg ix v = { k with regs := (k.setRf r hi lo pg ix v).regs } := rfl

/-- Two steps that change registers alone, one after the other. -/
theorem Block.only_regs_trans {k m n : Block} (h : m = { k with regs := m.regs }) (h' : n = { m with regs := n.regs }) :
    n = { k with regs := n.regs } :=
  h'.trans (congrArg (fun x : Block => { x with regs := n.regs }) h)

theorem Block.only_regs_fresh_trans {k m n : Block} (h : m = { k with regs := m.regs })
    (h' : n = { m with regs := n.regs, fresh := n.fresh }) : n = { k with regs := n.regs, fresh := n.fresh } :=
  h'.trans (congrArg (fun x : Block => { x with regs := n.regs, fresh := n.fresh }) h)

/-- An event changes no register at another address. -/
theorem Block.reg_event_other (k : Block) {r r' : RegName} {pg pg' : Nat} {ix ix' : List Nat} (e : Word)
    (h : regAddr r' pg' ix' ≠ regAddr r pg ix) : (k.event r pg ix e).reg r' pg' ix' = k.reg r' pg' ix' :=
  k.reg_setReg_other _ h

theorem Block.regsKept_irq (k : Block) (i : Nat) {l : List Nat} (hl : regAddr .GLB_IRQSTAT 0 [] ∈ l) :
    k.regsKept (k.irq i) l :=
  fun _ _ _ hr => k.reg_event_other _ fun e => hr (e ▸ hl)

@[simp] theorem Block.irq_rst (k : Block) (i : Nat) : (k.irq i).rst = k.rst := rfl

theorem Block.irq_frame (k : Block) (i : Nat) :
    k.irq i = { k with regs := (k.irq i).regs, fresh := (k.irq i).fresh } := rfl

/-- A raised cause stands in GLB_IRQSTAT (R574). -/
theorem Block.flag_irq (k : Block) {i : Nat} (hi : i < 64) : flag ((k.irq i).reg .GLB_IRQSTAT) i = true := by
  have hp : 2 ^ i < 2 ^ 64 := Nat.pow_lt_pow_right (by omega) hi
  have he : (mkWord [(i, 1)]).toNat = 2 ^ i := by
    rw [mkWord, BitVec.toNat_ofNat, packFields, packFields, Nat.one_shiftLeft, Nat.add_zero, Nat.mod_eq_of_lt hp]
  rw [Block.irq, Block.reg_event]
  show (k.reg .GLB_IRQSTAT ||| mkWord [(i, 1)]).toNat.testBit i = true
  rw [BitVec.toNat_or, Nat.testBit_or, he, Nat.testBit_two_pow_self, Bool.or_true]

/-- A bit of a register reads what was written to it. -/
theorem Block.flag_setRf_same (k : Block) (r : RegName) (i pg : Nat) (ix : List Nat) (c : Bool) (hi : i < 64) :
    flag ((k.setRf r i i pg ix (b2n c)).reg r pg ix) i = c := by
  have h := k.rf_setRf_same r i i pg ix (b2n c) (by omega) hi
  rw [Block.rf] at h
  rw [flag_eq_fld, h]
  cases c <;> simp [b2n]

/-! ### Training a port (R427, R439, R503) -/

/-- What bring-up has found stands: GLB_MORTAR, and of the bring-up state all but the handshakes underway. -/
def Block.keepsMap (k n : Block) : Prop :=
  n.rst = { k.rst with resync := n.rst.resync } ∧ n.reg .GLB_MORTAR = k.reg .GLB_MORTAR

theorem Block.keepsMap_refl (k : Block) : k.keepsMap k := ⟨rfl, rfl⟩

theorem Block.keepsMap_trans {k m n : Block} (h : k.keepsMap m) (h' : m.keepsMap n) : k.keepsMap n :=
  ⟨h'.1.trans (by rw [h.1]), h'.2.trans h.2⟩

/-- What each step of a fold keeps, the fold keeps. -/
theorem Block.keepsMap_foldl {α : Type} {f : Block → α → Block} (hf : ∀ (k : Block) x, k.keepsMap (f k x)) (l : List α)
    (k : Block) : k.keepsMap (l.foldl f k) := by
  induction l generalizing k with
  | nil => exact k.keepsMap_refl
  | cons x l ih => exact Block.keepsMap_trans (hf k x) (ih _)

theorem Block.keepsMap_setRf (k : Block) (r : RegName) (hi lo pg : Nat) (ix : List Nat) (v : Nat)
    (h : regAddr .GLB_MORTAR 0 [] ≠ regAddr r pg ix) : k.keepsMap (k.setRf r hi lo pg ix v) :=
  ⟨rfl, k.reg_setRf_other hi lo pg ix v h⟩

theorem Block.keepsMap_irq (k : Block) (i : Nat) : k.keepsMap (k.irq i) :=
  ⟨rfl, k.reg_event_other _ (by decide)⟩

theorem Block.keepsMap_handshake (k : Block) (x : Boundary) : k.keepsMap (k.handshake x) := ⟨rfl, rfl⟩

theorem Block.keepsMap_setLaneRx (k : Block) (p l : Nat) (v : LaneRx) : k.keepsMap (k.setLaneRx p l v) := ⟨rfl, rfl⟩

/-- The status registers of the ports and lanes lie above GLB_MORTAR (R578). -/
theorem regAddr_mortar_ne_linkStat (p : Nat) : regAddr .GLB_MORTAR 0 [] ≠ regAddr .LNK_STAT p [] := by
  simp [regAddr, regRow, pageBase, elemOff]

theorem regAddr_mortar_ne_bridgeStat (n : Nat) : regAddr .GLB_MORTAR 0 [] ≠ regAddr .D2D_STAT 0 [n] := by
  simp [regAddr, regRow, pageBase, elemOff]; omega

theorem regAddr_mortar_ne_laneStat (p l : Nat) : regAddr .GLB_MORTAR 0 [] ≠ regAddr .LN_STAT p [l] := by
  simp [regAddr, regRow, pageBase, elemOff]; omega

theorem Block.keepsMap_setLink (k : Block) (br : Bool) (n st : Nat) : k.keepsMap (k.setLink br n st) := by
  unfold Block.setLink
  split
  · exact k.keepsMap_refl
  · refine Block.keepsMap_trans (m := if br then _ else _) ?_ (Block.keepsMap_irq _ 6)
    cases br
    · exact k.keepsMap_setRf _ _ _ _ _ _ (regAddr_mortar_ne_linkStat n)
    · exact k.keepsMap_setRf _ _ _ _ _ _ (regAddr_mortar_ne_bridgeStat n)

theorem Block.keepsMap_enterTrain (k : Block) (p l : Nat) (c : Bool) : k.keepsMap (k.enterTrain p l c) :=
  Block.keepsMap_trans (m := k.setLaneState p l laneTrain)
    (k.keepsMap_setRf .LN_STAT 63 61 p [l] laneTrain (regAddr_mortar_ne_laneStat p l)) (Block.keepsMap_setLaneRx _ p l _)

theorem Block.keepsMap_leaveDown (k : Block) (d : Build) (p : Nat) : k.keepsMap (k.leaveDown d p) := by
  unfold Block.leaveDown
  split
  · have hlane : ∀ (k : Block) l, k.keepsMap ((k.enterTrain p l false).handshake (.lane p l)) := fun k l =>
      Block.keepsMap_trans (k.keepsMap_enterTrain p l false) (Block.keepsMap_handshake _ _)
    exact Block.keepsMap_trans (k.keepsMap_setLink false p _) (Block.keepsMap_foldl hlane _ _)
  · exact k.keepsMap_refl

theorem Block.keepsMap_bridgeLeaveDown (k : Block) (d : Build) (n : Nat) : k.keepsMap (k.bridgeLeaveDown d n) := by
  unfold Block.bridgeLeaveDown
  split
  · exact Block.keepsMap_trans (k.keepsMap_setLink true n _) (Block.keepsMap_handshake _ _)
  · exact k.keepsMap_refl

/-- A port that trains leaves the map of mortar as it is. -/
theorem Block.keepsMap_portTrain (k : Block) (d : Build) (br : Bool) (n : Nat) : k.keepsMap (k.portTrain d br n) := by
  cases br
  · exact k.keepsMap_leaveDown d n
  · exact k.keepsMap_bridgeLeaveDown d n

/-- No port trains before mortar is enumerated (R503). -/
theorem Block.portTrain_unenumerated {k : Block} (h : k.rf .GLB_MORTAR 8 0 = 0) (d : Build) (br : Bool) (n : Nat) :
    k.portTrain d br n = k := by
  have he : k.enumerated = false := by simp [Block.enumerated, h]
  cases br
  · simp [Block.portTrain, Block.leaveDown, Block.mayTrain, he]
  · simp [Block.portTrain, Block.bridgeLeaveDown, he]

/-! ### The root clock's measured error (R483) -/

/-- CLK_STAT after a measurement: the error in ppm, held to its field, and whether it is more than 1,000 ppm. -/
def Block.clockMeasured (k : Block) (f : Int) : Block :=
  (k.setRf .CLK_STAT 15 0 0 [] (BitVec.ofInt 16
    (if 32767 < f then 32767 else if f < -32768 then -32768 else f)).toNat).setRf .CLK_STAT 32 32 0 []
    (b2n (decide (1000 < f.natAbs)))

theorem Block.clockMeasured_frame (k : Block) (f : Int) :
    k.clockMeasured f = { k with regs := (k.clockMeasured f).regs } :=
  Block.only_regs_trans (k.setRf_frame ..) (Block.setRf_frame ..)

theorem Block.flt_clockMeasured (k : Block) (f : Int) : (k.clockMeasured f).flt = k.flt :=
  (Block.setRf_flt ..).trans (Block.setRf_flt ..)

theorem Block.regsKept_clockMeasured (k : Block) (f : Int) {l : List Nat} (hl : regAddr .CLK_STAT 0 [] ∈ l) :
    k.regsKept (k.clockMeasured f) l :=
  Block.regsKept_trans (k.regsKept_setRf _ _ _ _ _ _ hl) (Block.regsKept_setRf _ _ _ _ _ _ _ hl)

theorem Block.flag_clockMeasured (k : Block) (f : Int) :
    flag ((k.clockMeasured f).reg .CLK_STAT) 32 = decide (1000 < f.natAbs) :=
  Block.flag_setRf_same _ .CLK_STAT 32 0 [] _ (by omega)

theorem Block.rf_clockMeasured (k : Block) {f : Int} (hf : f.natAbs ≤ 1000) :
    (k.clockMeasured f).rf .CLK_STAT 15 0 = (BitVec.ofInt 16 f).toNat := by
  have hhi : ¬ 32767 < f := by omega
  have hlo : ¬ f < -32768 := by omega
  rw [Block.clockMeasured, if_neg hhi, if_neg hlo, Block.rf_setRf_other _ _ _ _ _ _ _ _ _ (by omega) (by omega) (by omega),
    Block.rf_setRf_same _ _ _ _ _ _ _ (by omega) (by omega)]
  exact Nat.mod_eq_of_lt (BitVec.isLt _)

theorem exec_frequencyMeasure (f : Int) (s : State) : exec (.frequencyMeasure f) s = s.run true fun k =>
    if decide (1000 < f.natAbs) && !flag (k.reg .CLK_STAT) 32 then (k.clockMeasured f).irq 7 else k.clockMeasured f := rfl

/-! ### Boundaries that stop and resume (R490, R497) -/

theorem exec_heartbeatStop (x : Boundary) (s : State) : exec (.heartbeatStop x) s = s.run (boundaryOk s.env.build x)
    fun k => if k.watched x && !k.rst.stopped.contains x then
      ({ k with rst.stopped := k.rst.stopped ++ [x] } : Block).boundaryStops s.env x else k := rfl

/-- A LOCKED lane whose far clock has stopped is lost (R436). -/
theorem Block.laneLost_of_stopped {k : Block} {p l : Nat} (hs : k.rst.stopped.contains (.lane p l) = true)
    (hl : k.laneState p l = laneLocked) : k.laneLost p l = true := by
  simp only [Block.laneLost, hs, hl, Bool.or_true]
  rfl

/-- The far clock of a boundary runs again, and the handshake starts. -/
def Block.resumed (k : Block) (x : Boundary) : Block :=
  ({ k with rst.stopped := k.rst.stopped.filter fun (y : Boundary) => y != x } : Block).handshake x

/-- The handshake of a boundary is over. -/
def Block.resynced (k : Block) (x : Boundary) : Block :=
  { k with rst.resync := k.rst.resync.filter fun (y : Boundary) => y != x }

theorem Block.stopped_resumed (k : Block) (x : Boundary) : (k.resumed x).rst.stopped.contains x = false :=
  contains_filter_ne _ x

theorem Block.resync_handshake (k : Block) (x : Boundary) : (k.handshake x).rst.resync.contains x = true := by
  simp [Block.handshake]

theorem Block.resync_resynced (k : Block) (x : Boundary) : (k.resynced x).rst.resync.contains x = false :=
  contains_filter_ne _ x

/-- After its handshake a boundary that is not stopped crosses again. -/
theorem Block.crosses_resynced {k : Block} {x : Boundary} (h : k.rst.stopped.contains x = false) :
    (k.resynced x).crosses x = true := by
  have hs : (k.resynced x).rst.stopped.contains x = false := h
  rw [Block.crosses, hs, k.resync_resynced x]
  rfl

theorem exec_heartbeatResume_plain {x : Boundary} (hp : atLocalPort x = false) (hl : atLane x = false) (s : State) :
    exec (.heartbeatResume x) s = s.run (boundaryOk s.env.build x) fun k =>
      if k.rst.stopped.contains x then k.resumed x else k := by
  cases x with
  | localPort b => cases hp
  | lane p l => cases hl
  | managementPort => rfl
  | bridge n => rfl
  | voltage => rfl

theorem exec_heartbeatResume_lane (p l : Nat) (s : State) :
    exec (.heartbeatResume (.lane p l)) s = s.run (laneLOk s.env.build p l) fun k =>
      if k.rst.stopped.contains (.lane p l) then (k.resumed (.lane p l)).endLoss s.env.build p l (k.laneLost p l) else k :=
  rfl

theorem exec_heartbeatResume_localPort (b : Nat) (s : State) :
    exec (.heartbeatResume (.localPort b)) s = s.run (brickOk s.env.build b && lpBuilt s.env.build b) fun k =>
      if k.rst.stopped.contains (.localPort b) then (k.resumed (.localPort b)).lpResync b else k :=
  rfl

theorem exec_resyncDone_plain {x : Boundary} (hp : atLocalPort x = false) (hb : atBridge x = false) (s : State) :
    exec (.resyncDone x) s = s.run (boundaryOk s.env.build x) fun k =>
      if k.rst.stopped.contains x then k else k.resynced x := by
  cases x with
  | localPort b => cases hp
  | bridge n => cases hb
  | managementPort => rfl
  | lane p l => rfl
  | voltage => rfl

theorem exec_resyncDone_localPort (b : Nat) (s : State) :
    exec (.resyncDone (.localPort b)) s = s.run (brickOk s.env.build b && lpBuilt s.env.build b) fun k =>
      if k.rst.stopped.contains (.localPort b) then k
      else if (k.resynced (.localPort b)).lpState b = 3 then
        ((k.resynced (.localPort b)).setRf .RST_BRK 7 6 b [] 0).bump .CLK_LP 15 0 b
      else k.resynced (.localPort b) :=
  rfl

theorem exec_resyncDone_bridge (n : Nat) (s : State) :
    exec (.resyncDone (.bridge n)) s = s.run (bridgeOk s.env.build n) fun k =>
      if k.rst.stopped.contains (.bridge n) then k else (k.resynced (.bridge n)).bridgeEnterInit s.env.build n :=
  rfl

end Sys2Proof.Machine
end

section
/-!
The statement about bring-up, the measured root clock and the stopped boundaries (R22, R23, R483, R490, R497, R504).
-/

namespace Sys2Proof.Machine

/-! ### Bring-up (R22, R23) -/

theorem exec_enum (v : Word) (s : State) : exec (.enum v) s =
    s.access true 0 .mp fun k => (k.writeRstCtl s.env.build v).answerRstCtl v := rfl

theorem gives_enum {s : State} {v : Word} (hh : s.blk.held = false) (hc : s.blk.crosses .managementPort = true)
    (hw : flag v 0 = false) (he : flag v 1 = true) :
    Gives (.enum v) s (({ s.blk with rst.enumerating := true } : Block).answerWrite 0 .mp) :=
  gives_of_run ((exec_enum v s).trans (State.access_run s 0 .mp _ (by simp [hc]))) rfl hh
    (by simp [Block.writeRstCtl, Block.answerRstCtl, hw, he])

/-- The block when the count of the bricks is back, before any port trains: each stop has its place, and GLB_MORTAR the
count and the trip. -/
def Block.mapped (k : Block) (d : Build) (r : Nat) : Block :=
  ({ k with
    rst.enumerating := false
    rst.position := (bricks d).foldl (fun m b => put 0 m b (ringPos d b)) [] } : Block).setReg .GLB_MORTAR 0 []
      (mkWord [(16, (2 * (bricks d).length + r) % 65536), (0, (bricks d).length)])

/-- The block when bring-up has counted the bricks: the ports enabled train (R503). -/
def Block.broughtUp (k : Block) (d : Build) (r : Nat) : Block :=
  (allPorts d).foldl (fun k x => k.portTrain d x.1 x.2) (k.mapped d r)

theorem exec_enumerationDone (r : Nat) (s : State) : exec (.enumerationDone r) s = s.run true fun k =>
    if k.rst.enumerating ∧ flag (k.reg .RST_STAT) 8 = true then k.broughtUp s.env.build r else k := rfl

theorem Block.keepsMap_broughtUp (k : Block) (d : Build) (r : Nat) : (k.mapped d r).keepsMap (k.broughtUp d r) :=
  Block.keepsMap_foldl (fun k (x : Bool × Nat) => k.keepsMap_portTrain d x.1 x.2) _ _

theorem Block.enumerating_broughtUp (k : Block) (d : Build) (r : Nat) : (k.broughtUp d r).rst.enumerating = false := by
  rw [(k.keepsMap_broughtUp d r).1]
  rfl

theorem Block.position_broughtUp (k : Block) {d : Build} (r : Nat) {b : Nat} (hb : b ∈ bricks d) :
    look 0 (k.broughtUp d r).rst.position b = ringPos d b := by
  rw [(k.keepsMap_broughtUp d r).1]
  exact (look_foldl_put 0 (ringPos d) (bricks d) [] b).trans (if_pos hb)

theorem Block.mortar_broughtUp (k : Block) (d : Build) (r : Nat) : (k.broughtUp d r).reg .GLB_MORTAR =
    mkWord [(16, (2 * (bricks d).length + r) % 65536), (0, (bricks d).length)] :=
  (k.keepsMap_broughtUp d r).2.trans (Block.reg_setReg _ .GLB_MORTAR 0 [] _)

/-! ### The measured root clock (R483, R504) -/

theorem gives_frequencyMeasure_near {s : State} {f : Int} (hh : s.blk.held = false) (hf : f.natAbs ≤ 1000) :
    Gives (.frequencyMeasure f) s (s.blk.clockMeasured f) :=
  gives_of_run (exec_frequencyMeasure f s) rfl hh (by simp [Nat.not_lt.2 hf])

theorem gives_frequencyMeasure_far {s : State} {f : Int} (hh : s.blk.held = false) (hf : 1000 < f.natAbs)
    (hw : flag (s.blk.reg .CLK_STAT) 32 = false) :
    Gives (.frequencyMeasure f) s ((s.blk.clockMeasured f).irq 7) :=
  gives_of_run (exec_frequencyMeasure f s) rfl hh (by simp [hf, hw])

theorem Block.irq_clockMeasured_frame (k : Block) (f : Int) : (k.clockMeasured f).irq 7 =
    { k with regs := ((k.clockMeasured f).irq 7).regs, fresh := ((k.clockMeasured f).irq 7).fresh } :=
  Block.only_regs_fresh_trans (k.clockMeasured_frame f) (Block.irq_frame _ 7)

/-- The interrupt does not touch what the measurement wrote. -/
theorem Block.flag_irq_clockMeasured (k : Block) (f : Int) :
    flag (((k.clockMeasured f).irq 7).reg .CLK_STAT) 32 = decide (1000 < f.natAbs) := by
  rw [← k.flag_clockMeasured f, Block.irq, Block.reg_event_other _ _ (by decide)]

theorem Block.regsKept_irq_clockMeasured (k : Block) (f : Int) :
    k.regsKept ((k.clockMeasured f).irq 7) [regAddr .CLK_STAT 0 [], regAddr .GLB_IRQSTAT 0 []] :=
  Block.regsKept_trans (k.regsKept_clockMeasured f (by simp)) (Block.regsKept_irq _ 7 (by simp))

/-! ### The Local Port bridge at a stopped boundary (R495 to R497) -/

/-- LPSTATE after it is written. -/
theorem Block.lpState_setRf (k : Block) (b v : Nat) (hv : v < 4) : (k.setRf .RST_BRK 7 6 b [] v).lpState b = v := by
  rw [Block.lpState, Block.rf_setRf_same _ _ _ _ _ _ _ (by omega) (by omega)]
  exact Nat.mod_eq_of_lt hv

theorem Block.lpState_bump_clkLp (k : Block) (b n : Nat) : (k.bump .CLK_LP 15 0 b [] n).lpState b = k.lpState b := by
  rw [Block.lpState, Block.lpState, Block.rf, Block.rf, Block.bump, Block.reg_setRf_other]
  simp [regAddr, regRow, pageBase, elemOff]

/-- A closed bridge whose cluster is up and not isolated enters RESYNC as its heartbeat resumes. -/
theorem Block.lpResync_resumed {k : Block} {b : Nat} (hl : k.lpState b = 2) (hi : k.isolated b = false)
    (hu : k.rst.clusterUp.contains b = true) : (k.resumed (.localPort b)).lpResync b =
      ((k.resumed (.localPort b)).setRf .RST_BRK 7 6 b [] 3).handshake (.localPort b) :=
  if_pos ⟨hl, hi, hu, k.stopped_resumed _⟩

theorem gives_heartbeatResume_localPort {s : State} {b : Nat} (hr : Ready s b) (hb : lpBuilt s.env.build b = true)
    (hs : s.blk.rst.stopped.contains (.localPort b) = true) (hl : s.blk.lpState b = 2) (hi : s.blk.isolated b = false)
    (hu : s.blk.rst.clusterUp.contains b = true) : Gives (.heartbeatResume (.localPort b)) s
      (((s.blk.resumed (.localPort b)).setRf .RST_BRK 7 6 b [] 3).handshake (.localPort b)) :=
  gives_of_run (exec_heartbeatResume_localPort b s) (by simp [hr.2, hb]) hr.1
    ((if_pos hs).trans (Block.lpResync_resumed hl hi hu))

theorem gives_resyncDone_localPort {s : State} {b : Nat} (hr : Ready s b) (hb : lpBuilt s.env.build b = true)
    (hl : s.blk.lpState b = 3) (hs : s.blk.rst.stopped.contains (.localPort b) = false) :
    Gives (.resyncDone (.localPort b)) s
      (((s.blk.resynced (.localPort b)).setRf .RST_BRK 7 6 b [] 0).bump .CLK_LP 15 0 b) :=
  gives_of_run (exec_resyncDone_localPort b s) (by simp [hr.2, hb]) hr.1 ((if_neg (ne_true_of_eq_false hs)).trans (if_pos hl))

/-- A boundary that is stopped ends no handshake. -/
theorem gives_resyncDone_stopped {s : State} {x : Boundary} (hh : s.blk.held = false)
    (hx : boundaryOk s.env.build x = true) (hs : s.blk.rst.stopped.contains x = true) : Gives (.resyncDone x) s s.blk :=
  match x with
  | .localPort b => gives_of_run (exec_resyncDone_localPort b s) hx hh (if_pos hs)
  | .bridge n => gives_of_run (exec_resyncDone_bridge n s) hx hh (if_pos hs)
  | .managementPort | .lane _ _ | .voltage => gives_of_run (exec_resyncDone_plain rfl rfl s) hx hh (if_pos hs)

/-- Settles O49: each command by what it gives in the case named, and what the block it gives then reads. -/
theorem bringUpAndHeartbeats : Obligations.BringUpAndHeartbeats := by
  unfold Obligations.BringUpAndHeartbeats
  refine ⟨?enum, ?enumerationDone, ?untrained, ?notEnumerating, ?near, ?far, ?stop, ?stopTwice, ?resume, ?resumeLane,
    ?laneLost, ?resumeLocalPort, ?resyncLocalPort, ?resync, ?resyncBridge, ?resyncStopped⟩
  case enum =>
    exact fun s v hh hc hw he => ⟨_, gives_enum hh hc hw he, rfl, rfl, rfl, rfl⟩
  case enumerationDone =>
    intro s r hh he ht
    refine ⟨s.blk.broughtUp s.env.build r, ?_, rfl, s.blk.enumerating_broughtUp _ r,
      fun b hb => s.blk.position_broughtUp r hb, s.blk.mortar_broughtUp _ r⟩
    exact gives_of_run (exec_enumerationDone r s) rfl hh (if_pos ⟨he, ht⟩)
  case untrained =>
    exact fun k d br n h => Block.portTrain_unenumerated h d br n
  case notEnumerating =>
    exact fun s r hh he => gives_of_run (exec_enumerationDone r s) rfl hh (if_neg (by simp [he]))
  case near =>
    intro s f hh hf
    exact ⟨_, gives_frequencyMeasure_near hh hf, s.blk.clockMeasured_frame f,
      s.blk.regsKept_clockMeasured f (by simp), (s.blk.flag_clockMeasured f).trans (by simpa using hf),
      s.blk.rf_clockMeasured hf, s.blk.flt_clockMeasured f⟩
  case far =>
    intro s f hh hf hw
    exact ⟨_, gives_frequencyMeasure_far hh hf hw, s.blk.irq_clockMeasured_frame f, s.blk.regsKept_irq_clockMeasured f,
      (s.blk.flag_irq_clockMeasured f).trans (by simpa using hf), Block.flag_irq _ (by omega)⟩
  case stop =>
    exact fun s x hh hx hw hs => gives_of_run (exec_heartbeatStop x s) hx hh (if_pos (by rw [hw, hs]; rfl))
  case stopTwice =>
    exact fun s x hh hx hs => gives_of_run (exec_heartbeatStop x s) hx hh (if_neg (by rw [hs]; simp))
  case resume =>
    exact fun s x hh hx hp hl hs => ⟨s.blk.resumed x,
      gives_of_run (exec_heartbeatResume_plain hp hl s) hx hh (if_pos hs),
      rfl, s.blk.stopped_resumed x, Block.resync_handshake _ x⟩
  case resumeLane =>
    exact fun s p l hh hp hl hs =>
      gives_of_run (exec_heartbeatResume_lane p l s) (by simp [laneLOk, laneOk, hp, hl]) hh (if_pos hs)
  case laneLost =>
    exact fun k p l hs hl => Block.laneLost_of_stopped hs hl
  case resumeLocalPort =>
    exact fun s b hr hb hs hl hi hu => ⟨_, gives_heartbeatResume_localPort hr hb hs hl hi hu, rfl,
      Block.lpState_setRf _ b 3 (by omega), s.blk.stopped_resumed _⟩
  case resyncLocalPort =>
    exact fun s b hr hb hl hs => ⟨_, gives_resyncDone_localPort hr hb hl hs, rfl,
      (Block.lpState_bump_clkLp _ b 1).trans (Block.lpState_setRf _ b 0 (by omega)), s.blk.resync_resynced _⟩
  case resync =>
    exact fun s x hh hx hp hb hs => ⟨s.blk.resynced x,
      gives_of_run (exec_resyncDone_plain hp hb s) hx hh (if_neg (ne_true_of_eq_false hs)), rfl, rfl, Block.crosses_resynced hs⟩
  case resyncBridge =>
    exact fun s n hh hx hs => ⟨gives_of_run (exec_resyncDone_bridge n s) hx hh (if_neg (ne_true_of_eq_false hs)),
      Block.crosses_resynced hs⟩
  case resyncStopped =>
    exact fun s x hh hx hs => gives_resyncDone_stopped hh hx hs

end Sys2Proof.Machine
end

section
/-!
SUPPORT. The operations that packets meet as they enter, wait and start: the brick of a row and a column, endpoint
entries, receive buffers, places in the chains, scheduled heads and shapers (R90, R91, R113, R150, R152).
-/

namespace Sys2Proof.Machine

/-! ### Commands at a brick, at a port and at an exit -/

theorem State.run_brick {s : State} {b : Nat} (hr : Ready s b) (f : Block → Block) :
    s.run (brickOk s.env.build b) f = .next { s with blk := f s.blk } := by
  rw [hr.2, s.run_next f hr.1]

theorem State.run_port {s : State} {b p : Nat} (hr : Ready s b) (hp : p < 8) (f : Block → Block) :
    s.run (brickOk s.env.build b && decide (p < 8)) f = .next { s with blk := f s.blk } := by
  rw [hr.2, decide_eq_true hp, Bool.and_self, s.run_next f hr.1]

theorem State.run_exit {s : State} {b p : Nat} (hr : Ready s b) (he : isExit s.env.build b p = true)
    (f : Block → Block) :
    s.run (brickOk s.env.build b && isExit s.env.build b p) f = .next { s with blk := f s.blk } := by
  rw [hr.2, he, Bool.and_self, s.run_next f hr.1]

/-! ### Bricks by row and column (R18, R578) -/

theorem brickX_of_row (y : Nat) {x : Nat} (hx : x < 16) : brickX (y * 16 + x) = x := by
  rw [brickX]; omega

theorem brickY_of_row (y : Nat) {x : Nat} (hx : x < 16) : brickY (y * 16 + x) = y := by
  rw [brickY]; omega

/-- The brick at a column and a row of the mesh is one of the die (R578). -/
theorem brickOk_of_row {d : Build} {x y : Nat} (hx : x < d.meshX) (hy : y < d.meshY) (hX : d.meshX ≤ 16)
    (hY : d.meshY ≤ 16) : brickOk d (y * 16 + x) = true := by
  rw [brickOk, brickX_of_row y (by omega), brickY_of_row y (by omega)]
  simp only [hx, hy, decide_true, Bool.and_true, decide_eq_true_eq]
  omega

/-! ### Endpoint entries (R91, R93) -/

/-- The fields of GPD_EPENT are all of access RW: a write of it sets each, and locks none. -/
theorem Block.applyWrite_endpoint (k : Block) (b i : Nat) (v : Word) : k.applyWrite .GPD_EPENT b [i] v =
    ((k.setRf .GPD_EPENT 63 63 b [i] (fld v 63 63)).setRf .GPD_EPENT 53 24 b [i] (fld v 53 24)).setRf .GPD_EPENT 23 0 b
      [i] (fld v 23 0) := rfl

theorem regAddr_endpoint_inj {b i c j : Nat} (hi : i < 512) (hj : j < 512)
    (h : regAddr .GPD_EPENT c [j] = regAddr .GPD_EPENT b [i]) : c = b ∧ j = i := by
  simp only [regAddr, regRow, pageBase, elemOff] at h
  omega

/-- A lookup of this FCLK finds an endpoint entry as it stood before the write (R91). -/
theorem Block.endpointEntry_writeEndpoint (k : Block) (b i c j : Nat) (v : Word) (hi : i < 512) (hj : j < 512) :
    (k.writeEndpoint b i v).endpointEntry c j = k.endpointEntry c j := by
  rw [Block.writeEndpoint, Block.applyWrite_endpoint]
  by_cases h : c = b ∧ j = i
  · obtain ⟨rfl, rfl⟩ := h
    simp [Block.endpointEntry, Block.keepEndpoint, asStood]
  · have haddr : regAddr .GPD_EPENT c [j] ≠ regAddr .GPD_EPENT b [i] := fun e => h (regAddr_endpoint_inj hi hj e)
    have hkey : c * 512 + j ≠ b * 512 + i := by omega
    simp only [Block.endpointEntry, Block.reg_setRf_other _ _ _ _ _ _ haddr, Block.setRf_clk, Block.setRf_gpd,
      Block.keepEndpoint, look_put_other _ _ _ _ hkey]
    rfl

/-! ### Receive buffers, heads and places in the chains (R113, R152) -/

/-- A scheduled packet that is first in a receive buffer enters the router: the hold queue takes it (R113). -/
theorem Block.enterFromBuffer_scheduled {k : Block} {d : Build} {b p n : Nat} {bridge : Bool} {q : Packet}
    {l : List Packet} (hq : k.rxBuffer bridge n = q :: l) (hv : q.vc < 2) :
    k.enterFromBuffer d b p bridge n = ((k.setRxBuffer bridge n l).leaveBuffer bridge n q).enterPort d b p q := by
  have hfirst : k.entersNext b p (q :: l) = some 0 := by
    rw [Block.entersNext, List.findIdx?_cons, decide_eq_true hv]
    rfl
  simp [Block.enterFromBuffer, hq, hfirst]

/-- Where no unit is left to stand, each chain holds none. -/
theorem unitsBehind_zero (l : List (Nat × Nat)) : (unitsBehind 0 l).1 = l.map fun x => (x.1, 0) := by
  induction l with
  | nil => rfl
  | cons x l ih => simp [unitsBehind, ih]

/-- A packet that stands whole in its chain leaves it with all its units, and their places are free. -/
theorem Block.leaveChain_whole {k : Block} {d : Build} {b p : Nat} {x : Chained} {r : List Chained} (hp : p < 8)
    (hc : k.chainOf b p = x :: r) (hw : pktUnits x.pkt ≤ x.units) (hu : 0 < x.units) (hb : x.behind = []) :
    k.leaveChain d b p 0 = (k.setChain b p r).freePlaces d b p x.units := by
  have hleft : pktUnits x.pkt - x.units = 0 := by omega
  have hdiv : (b * 8 + p) / 8 = b := by omega
  have hmod : (b * 8 + p) % 8 = p := by omega
  have hsent : (k.setChain b p r).stillSending d 0 [(b * 8 + p, x.units)] = k.setChain b p r := by
    simp only [Block.stillSending, if_true]
    split <;> rfl
  simp [Block.leaveChain, hc, hb, hleft, hsent, hdiv, hmod, unitsBehind, Nat.ne_of_gt hu]

/-- A head whose units all find places behind one output leaves none in the chains that it stood in. -/
theorem Block.startOn_one {k : Block} {d : Build} {b o : Nat} {h : Head}
    (hu : pktUnits h.pkt ≤ k.unitsTaken d b o h.pkt) :
    k.startOn d b h [o] = (k.sentOn d b h.inp h.idx [o]).cross d b h.inp o h.pkt := by
  have hkeep : pktUnits h.pkt - k.unitsTaken d b o h.pkt = 0 := by omega
  have hnone : ∀ l : List (Nat × Nat), ((unitsBehind 0 l).1.filter fun y => y.2 != 0) = [] := by
    intro l
    rw [unitsBehind_zero, List.filter_map]
    simp
  rw [Block.startOn]
  cases k.leavesBy b h.inp h.idx [o] with
  | none => rfl
  | some x => simp [hkeep, hnone]

/-- The scheduled head of the window's flow starts, when it owes that output alone and may go there. -/
theorem Block.startScheduled_one {k : Block} {d : Build} {b p : Nat} {h : Head}
    (hs : k.scheduledHead b (k.windowNow d b p).inp p (k.windowNow d b p).flow = some h) (ho : h.owed = [p])
    (hw : k.matchesWindow d b p h.inp h.pkt [p] = true) (ht : k.outputTakes d b p h.pkt = true)
    (hh : k.heldIn d b p h = true) : k.startScheduled d b p = k.startOn d b h [p] := by
  simp [Block.startScheduled, hs, ho, hw, ht, hh]

/-! ### Shapers (R145 to R150) -/

/-- The registers stand, and nothing is answered. -/
def Block.keepsRegsAndOut (k n : Block) : Prop := n.regs = k.regs ∧ n.out = k.out

theorem Block.keepsRegsAndOut_trans {k m n : Block} (h : k.keepsRegsAndOut m) (h' : m.keepsRegsAndOut n) :
    k.keepsRegsAndOut n := ⟨h'.1.trans h.1, h'.2.trans h.2⟩

theorem Block.keepsRegsAndOut_ite {k m n : Block} {c : Prop} [Decidable c] (hm : k.keepsRegsAndOut m)
    (hn : k.keepsRegsAndOut n) : k.keepsRegsAndOut (if c then m else n) := by
  split
  · exact hm
  · exact hn

/-- What each step of a fold keeps, the fold keeps. -/
theorem Block.keepsRegsAndOut_foldl {α : Type} {f : Block → α → Block}
    (hf : ∀ (k : Block) x, k.keepsRegsAndOut (f k x)) (l : List α) (k : Block) : k.keepsRegsAndOut (l.foldl f k) := by
  induction l generalizing k with
  | nil => exact ⟨rfl, rfl⟩
  | cons x l ih => exact Block.keepsRegsAndOut_trans (hf k x) (ih _)

/-- Of the block, an offer changes the tags of subscribers alone. -/
theorem Block.keepsRegsAndOut_offerWinner (k : Block) (b i s : Nat) : k.keepsRegsAndOut (k.offerWinner b i s) := by
  simp only [Block.offerWinner]
  exact Block.keepsRegsAndOut_ite ⟨rfl, rfl⟩ ⟨rfl, rfl⟩

/-- Of the block, new heads at an output change their tags alone. -/
theorem Block.keepsRegsAndOut_refreshHeads (k : Block) (b p : Nat) : k.keepsRegsAndOut (k.refreshHeads b p) := by
  refine Block.keepsRegsAndOut_foldl (fun k s => ?_) _ k
  cases k.roundRobin b p s (k.headsFor b p s) with
  | none => exact ⟨rfl, rfl⟩
  | some h =>
    exact Block.keepsRegsAndOut_ite ⟨rfl, rfl⟩ ⟨rfl, rfl⟩

theorem Block.keepsRegsAndOut_refreshTags (k : Block) (b p : Nat) : k.keepsRegsAndOut (k.refreshTags b p) := by
  refine Block.keepsRegsAndOut_trans ?_ (Block.keepsRegsAndOut_refreshHeads _ b p)
  exact Block.keepsRegsAndOut_foldl
    (fun k i => Block.keepsRegsAndOut_foldl (fun k s => k.keepsRegsAndOut_offerWinner b i s) _ k) _ k

theorem Block.reg_refreshTags (k : Block) (b p : Nat) (r : RegName) (pg : Nat) (ix : List Nat) :
    (k.refreshTags b p).reg r pg ix = k.reg r pg ix := by
  rw [Block.reg, (k.keepsRegsAndOut_refreshTags b p).1, ← Block.reg]

/-- The word that a write of `v` leaves in a shaper that held `old` (R150): a reserved RATE, BURST or WEIGHT keeps the
old one (R9). -/
def shaperWord (old v : Word) : Word :=
  let rate := if fld v 48 32 ≤ 65536 then fld v 48 32 else fld old 48 32
  mkWord [(32, rate), (16, if fld v 31 16 = 0 ∧ rate ≠ 0 then fld old 31 16 else fld v 31 16),
    (0, if fld v 7 0 = 0 then fld old 7 0 else fld v 7 0)]

theorem shaperWord_legal {old v : Word} (hr : fld v 48 32 ≤ 65536) (hb : fld v 31 16 ≠ 0) (hw : fld v 7 0 ≠ 0) :
    shaperWord old v = mkWord [(32, fld v 48 32), (16, fld v 31 16), (0, fld v 7 0)] := by
  simp only [shaperWord, if_pos hr, hb, hw, false_and, if_false]

theorem shaperWord_reservedRate {old v : Word} (hr : 65536 < fld v 48 32) (hb : fld v 31 16 ≠ 0)
    (hw : fld v 7 0 ≠ 0) : shaperWord old v = mkWord [(32, fld old 48 32), (16, fld v 31 16), (0, fld v 7 0)] := by
  simp only [shaperWord, if_neg (Nat.not_le.2 hr), hb, hw, false_and, if_false]

theorem Block.reg_writeShaper (k : Block) (r : RegName) (b : Nat) (ix : List Nat) (v : Word) :
    (k.writeShaper r b ix v).reg r b ix = shaperWord (k.reg r b ix) v := by
  rw [← k.reg_refreshTags b (if r = .SHW_SVC then ix.headD 0 else 0), Block.writeShaper]
  generalize k.refreshTags b (if r = .SHW_SVC then ix.headD 0 else 0) = m
  exact m.reg_setReg r b ix (shaperWord (m.reg r b ix) v)

/-- A write of a shaper does not answer by itself. -/
theorem Block.out_writeShaper (k : Block) (r : RegName) (b : Nat) (ix : List Nat) (v : Word) :
    (k.writeShaper r b ix v).out = k.out := by
  rw [← (k.keepsRegsAndOut_refreshTags b (if r = .SHW_SVC then ix.headD 0 else 0)).2, Block.writeShaper]
  generalize k.refreshTags b (if r = .SHW_SVC then ix.headD 0 else 0) = m
  rfl

@[simp] theorem Block.reg_answerWrite_mp (k : Block) (b : Nat) (r : RegName) (pg : Nat) (ix : List Nat) :
    (k.answerWrite b .mp).reg r pg ix = k.reg r pg ix := rfl

@[simp] theorem Block.out_answerWrite_mp (k : Block) (b : Nat) :
    (k.answerWrite b .mp).out = k.out ++ [.mp 0 false] := rfl

end Sys2Proof.Machine
end

section
/-!
The statements about packets: flat identifiers and the lookup, what a router input counts, and how packets enter, wait
and start (R73, R90, R91, R111 to R113, R144, R150, R176, R458, R493).
-/

namespace Sys2Proof.Machine

/-! ### The brick of a flat identifier (R90) -/

/-- The slice ordinal n of a flat identifier, as R90 writes it. -/
def sliceOrdinal (d : Build) (f : Nat) : Nat :=
  (f % 256 ^^^ f / 256 % 256 ^^^ f / 65536 % 256) % (d.meshX * d.meshY)

theorem sliceOrdinal_lt {d : Build} (hx : 0 < d.meshX) (hy : 0 < d.meshY) (f : Nat) :
    sliceOrdinal d f < d.meshX * d.meshY := Nat.mod_lt _ (Nat.mul_pos hx hy)

theorem sliceOf_eq (d : Build) (f : Nat) :
    sliceOf d f = sliceOrdinal d f / d.meshX * 16 + sliceOrdinal d f % d.meshX := by
  simp only [sliceOf, sliceOrdinal, bits, Nat.shiftRight_eq_div_pow, Nat.reducePow, Nat.reduceAdd, Nat.reduceSub,
    Nat.div_one]

/-- Settles O60: the ordinal lies below MESH_X × MESH_Y, so its quotient and remainder by MESH_X are a row and a column
of the mesh. -/
theorem flatIdentifiersNameTheirSlice : Obligations.FlatIdentifiersNameTheirSlice := by
  unfold Obligations.FlatIdentifiersNameTheirSlice
  intro d f hx hX hy hY
  have hrow : sliceOrdinal d f / d.meshX < d.meshY := Nat.div_lt_of_lt_mul (sliceOrdinal_lt hx hy f)
  have hcol : sliceOrdinal d f % d.meshX < d.meshX := Nat.mod_lt _ hx
  rw [sliceOf_eq]
  exact ⟨brickX_of_row _ (by omega), brickY_of_row _ (by omega), brickOk_of_row hcol hrow hX hY⟩

/-! ### What a router input counts (R73, R493) -/

/-- The inputs of an isolated brick count nothing (R493). -/
theorem Block.receiveBeats_isolated {k : Block} {b : Nat} (h : k.isolated b = true) (err : RxError) :
    k.receiveBeats b err = k := if_pos h

/-- Refutes O18: its clause on the beats of a header has every corrected bit counted, in whatever block; but the inputs
of an isolated brick count nothing (R493). The counterexample: brick 0 isolated, one corrected bit, no count before. -/
theorem not_routerDecidesTheHead : ¬ Obligations.RouterDecidesTheHead := by
  unfold Obligations.RouterDecidesTheHead
  rintro ⟨-, -, -, -, hbeats, -⟩
  obtain ⟨-, hcorrected, -⟩ := hbeats { rst.isolated := [0] } 0 1 (by omega)
  rw [Block.receiveBeats_isolated (by decide)] at hcorrected
  have hcount := congrArg (fun k : Block => k.rf .BRK_PKTERR 47 32 0) hcorrected
  exact absurd hcount (by decide)

/-! ### The flat lookup and INGRESS_REWRITE (R91, R176) -/

theorem gives_flatLookup_hit {s : State} {b i : Nat} {p q : Packet} {r : List Packet} {k : Block} (hr : Ready s b)
    (hq : s.blk.rxQueue b 3 = p :: r) (hm : p.rmode = 2) (hc : headerCheck p = .good)
    (hf : (findBelow 512 fun i => flag ((s.blk.setRx b 3 r).endpointEntry b i) 63 &&
      fld ((s.blk.setRx b 3 r).endpointEntry b i) 23 0 == p.dst % 2 ^ 24) = some i)
    (he : (s.blk.setRx b 3 r).enterDie s.env.build b 4
      { p with dst := fld ((s.blk.setRx b 3 r).endpointEntry b i) 53 24, rmode := 1, route := 0 } = (some q, k)) :
    Gives (.flatLookup b) s (k.stageAt b 0 { pkt := resealPacket q, fixed := true }) := by
  show execFlatLookup b s = _
  simp only [execFlatLookup, State.run_brick hr, hq, hm, hc, hf, he, ne_eq, not_true_eq_false, if_false]

theorem gives_flatLookup_miss {s : State} {b : Nat} {p : Packet} {r : List Packet} (hr : Ready s b)
    (hq : s.blk.rxQueue b 3 = p :: r) (hm : p.rmode = 2) (hc : headerCheck p = .good)
    (hf : (findBelow 512 fun i => flag ((s.blk.setRx b 3 r).endpointEntry b i) 63 &&
      fld ((s.blk.setRx b 3 r).endpointEntry b i) 23 0 == p.dst % 2 ^ 24) = none) :
    Gives (.flatLookup b) s (((s.blk.setRx b 3 r).answerError s.env.build b p stDirMiss).postEvent b
      { type := 6, status := stDirMiss, arg0 := p.dst % 2 ^ 24 }) := by
  show execFlatLookup b s = _
  simp only [execFlatLookup, State.run_brick hr, hq, hm, hc, hf, ne_eq, not_true_eq_false, if_false]

theorem gives_ingressRewrite_lane {s : State} {b p n : Nat} (hr : Ready s b) (hb : beyond s.env.build b p = .lane n)
    (hi : s.blk.isolated b = false) :
    Gives (.ingressRewrite b p none) s (s.blk.enterFromBuffer s.env.build b p false n) := by
  have he : isExit s.env.build b p = true := by rw [isExit, hb]
  show execIngressRewrite b p none s = _
  simp only [execIngressRewrite, State.run_exit hr he, hb, hi, Bool.false_eq_true, if_false]

theorem gives_ingressRewrite_bridge {s : State} {b p n : Nat} (q : Packet) (hr : Ready s b)
    (hb : beyond s.env.build b p = .bridge n) (hi : s.blk.isolated b = false) (hu : s.blk.portUp true n = true) :
    Gives (.ingressRewrite b p (some q)) s
      ((s.blk.setRxBuffer true n (s.blk.rxBuffer true n ++ [q])).enterFromBuffer s.env.build b p true n) := by
  have he : isExit s.env.build b p = true := by rw [isExit, hb]
  show execIngressRewrite b p (some q) s = _
  simp only [execIngressRewrite, State.run_exit hr he, hb, hi, hu, Bool.false_eq_true, if_false, if_true]

/-! ### Chains, hold queues and their bounds (R112, R113, R458) -/

theorem gives_headmaxExpiry {s : State} {b p : Nat} {x : Chained} {r : List Chained} (hr : Ready s b) (hp : p < 8)
    (h4 : p ≠ 4) (h5 : p ≠ 5) (hc : s.blk.chainOf b p = x :: r) (hv : 2 ≤ x.pkt.vc) : Gives (.headmaxExpiry b p) s
      (((s.blk.headLost b p 0 x.pkt.vc (x.owed.getD [])).leaveChain s.env.build b p 0).bump .BRK_FLT 31 16 b) := by
  show execHeadmaxExpiry b p s = _
  simp only [execHeadmaxExpiry, State.run_port hr hp, h4, h5, or_self, if_false, hc, Nat.not_lt.2 hv]

theorem gives_missboundExpiry {s : State} {b p : Nat} {x : Chained} {r : List Chained} (hr : Ready s b) (hp : p < 8)
    (h4 : p ≠ 4) (h5 : p ≠ 5) (hc : s.blk.chainOf b p = x :: r) (hv : x.pkt.vc < 2)
    (hm : s.blk.misses s.env.build b p x = true) :
    Gives (.missboundExpiry b p) s ((s.blk.leaveChain s.env.build b p 0).bump .CRS_ERR 63 48 b) := by
  show execMissboundExpiry b p s = _
  simp only [execMissboundExpiry, State.run_port hr hp, h4, h5, or_self, if_false, hc, hv, hm, and_self,
    if_true]

theorem gives_holdQueueRelease {s : State} {b p o : Nat} {q : Packet} {r : List Packet} {os : List Nat} (hr : Ready s b)
    (he : isExit s.env.build b p = true) (hq : look [] s.blk.net.hold (b * 8 + p) = q :: r)
    (ho : s.blk.outputsOf s.env.build b p q = o :: os) (hw : s.blk.inWindow s.env.build b o p q (o :: os) = true)
    (hc : chainUnits (s.blk.chainOf b p) < 4) : Gives (.holdQueueRelease b p) s
      (({ s.blk with net.hold := put [] s.blk.net.hold (b * 8 + p) r }).setChain b p
        (s.blk.chainOf b p ++ [({ pkt := q, units := roomFor (s.blk.chainOf b p) q } : Chained)])) := by
  show execHoldQueueRelease b p s = _
  simp only [execHoldQueueRelease, State.run_exit hr he, hq, ho, hw, hc, decide_true, Bool.and_self, if_true]

theorem gives_holdQueueExpiry {s : State} {b p : Nat} {q : Packet} {r : List Packet} (hr : Ready s b)
    (he : isExit s.env.build b p = true) (hq : look [] s.blk.net.hold (b * 8 + p) = q :: r) :
    Gives (.holdQueueExpiry b p) s
      (({ s.blk with net.hold := put [] s.blk.net.hold (b * 8 + p) r }).bump .CRS_ERR 47 32 b) := by
  show execHoldQueueExpiry b p s = _
  simp only [execHoldQueueExpiry, State.run_exit hr he, hq]

/-! ### Starts on an output (R111, R144) -/

/-- At an output that holds a packet, or of an isolated brick, no packet starts. -/
theorem gives_starts_shut {s : State} {b p : Nat} (hr : Ready s b) (hp : p < 8)
    (h : s.blk.isolated b = true ∨ s.blk.outputFree s.env.build b p = false) :
    Gives (.sharedArbitrate b p) s s.blk ∧ Gives (.scheduledStart b p) s s.blk := by
  have hshut : (s.blk.isolated b || !s.blk.outputFree s.env.build b p) = true := by simpa using h
  constructor
  · show execSharedArbitrate b p s = _
    simp only [execSharedArbitrate, State.run_port hr hp, hshut, if_true]
  · show execScheduledStart b p s = _
    simp only [execScheduledStart, State.run_port hr hp, hshut, if_true]

section
variable {s : State} {b p : Nat} (hr : Ready s b) (hp : p < 8) (hi : s.blk.isolated b = false)
  (hf : s.blk.outputFree s.env.build b p = true)
include hr hp hi hf

/-- A packet to be replayed goes out first, by either command (R428). -/
theorem gives_starts_replay {n : Nat} (hn : s.blk.replays s.env.build b p = some n) :
    Gives (.sharedArbitrate b p) s (s.blk.replayNext s.env.build b p n) ∧
    Gives (.scheduledStart b p) s (s.blk.replayNext s.env.build b p n) := by
  constructor
  · show execSharedArbitrate b p s = _
    simp only [execSharedArbitrate, State.run_port hr hp, hi, hf, hn, Bool.not_true, Bool.or_self,
      Bool.false_eq_true, if_false]
  · show execScheduledStart b p s = _
    simp only [execScheduledStart, State.run_port hr hp, hi, hf, hn, Bool.not_true, Bool.or_self,
      Bool.false_eq_true, if_false]

theorem gives_sharedArbitrate (hn : s.blk.replays s.env.build b p = none)
    (hw : s.blk.windowKind s.env.build b p = .shared ∨ s.blk.windowKind s.env.build b p = .closing) :
    Gives (.sharedArbitrate b p) s
      ((if s.blk.exitDown s.env.build b p then s.blk.dropAtExit s.env.build b p
        else s.blk.arbitrate s.env.build b p).pumpNi s.env b) := by
  have hopen : ¬ (s.blk.windowKind s.env.build b p ≠ .shared ∧ s.blk.windowKind s.env.build b p ≠ .closing) := by
    rintro ⟨hshared, hclosing⟩
    exact hw.elim hshared hclosing
  show execSharedArbitrate b p s = _
  simp only [execSharedArbitrate, State.run_port hr hp, hi, hf, hn, hopen, Bool.not_true, Bool.or_self,
    Bool.false_eq_true, if_false]
  split <;> rfl

theorem gives_scheduledStart (hn : s.blk.replays s.env.build b p = none) :
    Gives (.scheduledStart b p) s ((s.blk.startScheduled s.env.build b p).pumpNi s.env b) := by
  show execScheduledStart b p s = _
  simp only [execScheduledStart, State.run_port hr hp, hi, hf, hn, Bool.not_true, Bool.or_self,
    Bool.false_eq_true, if_false]

end

/-! ### SHAPER_WRITE (R150) -/

theorem gives_shaperWrite_none {s : State} {addr : Nat} (v : Word) (hh : s.blk.held = false)
    (hc : s.blk.crosses .managementPort = true) (ha : shaperAt addr = none) :
    Gives (.shaperWrite addr v) s { s.blk with out := s.blk.out ++ [.mp 0 true] } := by
  show execShaperWrite addr v s = _
  simp only [execShaperWrite, ha, State.access, State.run_next s _ hh, Block.mpShut_mp, hc, Bool.not_true,
    Bool.false_eq_true, if_false, Block.answerNone]

theorem gives_shaperWrite {s : State} {addr b : Nat} {r : RegName} {ix : List Nat} (v : Word) (hr : Ready s b)
    (hc : s.blk.crosses .managementPort = true) (ha : shaperAt addr = some (r, b, ix)) :
    Gives (.shaperWrite addr v) s ((s.blk.writeShaper r b ix v).answerWrite 0 .mp) := by
  show execShaperWrite addr v s = _
  simp only [execShaperWrite, ha, hr.2, State.access_run s 0 .mp _ (by simp [hc]), State.run_next s _ hr.1]

/-- Settles O19: each command by what it gives in the case named, and each operation by what it makes of the block. -/
theorem packetsEnterLeaveAndStart : Obligations.PacketsEnterLeaveAndStart := by
  unfold Obligations.PacketsEnterLeaveAndStart
  refine ⟨?flatHit, ?flatMiss, ?entryStands, ?lane, ?bridge, ?headmax, ?leaves, ?release, ?expiry, ?arbitrate, ?replay,
    ?shut, ?scheduled, ?startOn, ?missbound, ?noShaper, ?shaper, ?reservedRate⟩
  case flatHit =>
    exact fun s b i p q r k hr hq hm hc hf he => gives_flatLookup_hit hr hq hm hc hf he
  case flatMiss =>
    exact fun s b p r hr hq hm hc hf => gives_flatLookup_miss hr hq hm hc hf
  case entryStands =>
    exact fun k b i c j v hi hj _ _ => k.endpointEntry_writeEndpoint b i c j v hi hj
  case lane =>
    intro s b p n q l hr hb hi hq hv
    rw [← Block.enterFromBuffer_scheduled hq hv]
    exact gives_ingressRewrite_lane hr hb hi
  case bridge =>
    exact fun s b p n q hr hb hi hu => gives_ingressRewrite_bridge q hr hb hi hu
  case headmax =>
    exact fun s b p x r hr hp h4 h5 hc hv => gives_headmaxExpiry hr hp h4 h5 hc hv
  case leaves =>
    exact fun k d b p x r hp hc hw hu hb => Block.leaveChain_whole hp hc hw hu hb
  case release =>
    exact fun s b p o q r os hr he _ hq ho hw hc => gives_holdQueueRelease hr he hq ho hw hc
  case expiry =>
    exact fun s b p q r hr he _ hq => gives_holdQueueExpiry hr he hq
  case arbitrate =>
    exact fun s b p hr hp hi hf hn hw => gives_sharedArbitrate hr hp hi hf hn hw
  case replay =>
    exact fun s b p n hr hp hi hf hn => gives_starts_replay hr hp hi hf hn
  case shut =>
    exact fun s b p hr hp h => gives_starts_shut hr hp h
  case scheduled =>
    intro s b p h hr hp hi hf hn v hs ho hw ht hh
    rw [← Block.startScheduled_one hs ho hw ht hh]
    exact gives_scheduledStart hr hp hi hf hn
  case startOn =>
    exact fun k d b o h hu => Block.startOn_one hu
  case missbound =>
    exact fun s b p x r hr hp h4 h5 hc hv hm => gives_missboundExpiry hr hp h4 h5 hc hv hm
  case noShaper =>
    exact fun s addr v hh hc ha => gives_shaperWrite_none v hh hc ha
  case shaper =>
    intro s addr b r ix v hr hc ha hrate hb hw
    refine ⟨_, gives_shaperWrite v hr hc ha, rfl, ?_, ?_⟩
    · rw [Block.reg_answerWrite_mp, Block.reg_writeShaper, shaperWord_legal hrate hb hw]
    · rw [Block.out_answerWrite_mp, Block.out_writeShaper]
  case reservedRate =>
    intro s addr b r ix v hr hc ha hrate hb hw
    refine ⟨_, gives_shaperWrite v hr hc ha, rfl, ?_⟩
    rw [Block.reg_answerWrite_mp, Block.reg_writeShaper, shaperWord_reservedRate hrate hb hw]

end Sys2Proof.Machine
end

section
/-!
SUPPORT. What leaves the course clock, the loader, bring-up, placement and the network alone: registers, counters, events,
faults, streams, trackers, records, channels and requests of memory.
-/

namespace Sys2Proof.Machine

/-- The parts of the block that events, faults, registers, counters, streams, trackers, records and channels leave alone:
the course clock, the loader, bring-up, placement and the network. -/
structure Steady where
  clk : Clock
  img : Loader
  rst : Resets
  gpd : Placement
  net : Network

/-- Those parts of a block. -/
def Block.steady (k : Block) : Steady := ⟨k.clk, k.img, k.rst, k.gpd, k.net⟩

/-- Of the network only what courses run from: the course programs, their active bank and the sequencers. -/
def Steady.course (v : Steady) : Steady :=
  { v with net := { courseProg := v.net.courseProg, bank := v.net.bank, seq := v.net.seq } }

/-- What each step of a fold keeps, the fold keeps. -/
theorem foldl_keeps {α β σ : Type} (g : σ → β) {f : σ → α → σ} (hf : ∀ k x, g (f k x) = g k) (l : List α) (k : σ) :
    g (l.foldl f k) = g k := by
  induction l generalizing k with
  | nil => rfl
  | cons x l ih => exact (ih _).trans (hf k x)

theorem Block.steady_foldl {α : Type} {f : Block → α → Block} (hf : ∀ (k : Block) x, (f k x).steady = k.steady)
    (l : List α) (k : Block) : (l.foldl f k).steady = k.steady := foldl_keeps Block.steady hf l k

theorem Block.course_foldl {α : Type} {f : Block → α → Block}
    (hf : ∀ (k : Block) x, (f k x).steady.course = k.steady.course) (l : List α) (k : Block) :
    (l.foldl f k).steady.course = k.steady.course := foldl_keeps (fun k : Block => k.steady.course) hf l k

@[simp] theorem Steady.course_ite (c : Prop) [Decidable c] (v w : Steady) :
    (if c then v else w).course = if c then v.course else w.course := apply_ite Steady.course c v w

/-! ### What leaves the network alone: registers, counters, events, faults -/

@[simp] theorem Block.steady_ite (c : Prop) [Decidable c] (k n : Block) :
    (if c then k else n).steady = if c then k.steady else n.steady := apply_ite Block.steady c k n

@[simp] theorem Block.steady_setReg (k : Block) (r : RegName) (pg : Nat) (ix : List Nat) (w : Word) :
    (k.setReg r pg ix w).steady = k.steady := rfl

@[simp] theorem Block.steady_setRf (k : Block) (r : RegName) (hi lo pg : Nat) (ix : List Nat) (v : Nat) :
    (k.setRf r hi lo pg ix v).steady = k.steady := rfl

@[simp] theorem Block.steady_bump (k : Block) (r : RegName) (hi lo pg : Nat) (ix : List Nat) (n : Nat) :
    (k.bump r hi lo pg ix n).steady = k.steady := rfl

@[simp] theorem Block.steady_setBit (k : Block) (r : RegName) (i pg : Nat) (ix : List Nat) :
    (k.setBit r i pg ix).steady = k.steady := rfl

@[simp] theorem Block.steady_lockVio (k : Block) : k.lockVio.steady = k.steady := rfl

@[simp] theorem Block.steady_applyWrite (k : Block) (r : RegName) (pg : Nat) (ix : List Nat) (v : Word) :
    (k.applyWrite r pg ix v).steady = k.steady :=
  Block.steady_foldl (fun k f => by dsimp only; split <;> rfl) _ k

@[simp] theorem Block.steady_event (k : Block) (r : RegName) (pg : Nat) (ix : List Nat) (e : Word) :
    (k.event r pg ix e).steady = k.steady := rfl

@[simp] theorem Block.steady_settleLp (k : Block) (b rid : Nat) (w : LpWait) (status : Nat) (data : List Byte) :
    (k.settleLp b rid w status data).steady = k.steady := rfl

@[simp] theorem Block.steady_counterAdd (k : Block) (b c n : Nat) : (k.counterAdd b c n).steady = k.steady := rfl

@[simp] theorem Block.steady_lpiTrigger (k : Block) (b line : Nat) : (k.lpiTrigger b line).steady = k.steady := rfl

@[simp] theorem Block.steady_boxPost (k : Block) (en : BoxEntry) : (k.boxPost en).steady = k.steady := rfl

@[simp] theorem Block.steady_boxEvent (k : Block) (b : Nat) (ev : Event) : (k.boxEvent b ev).steady = k.steady := by
  simp [Block.boxEvent]

theorem Block.steady_flt (k : Block) (v : Faults) : ({ k with flt := v } : Block).steady = k.steady := rfl

@[simp] theorem Block.steady_postEvent (k : Block) (b : Nat) (ev : Event) : (k.postEvent b ev).steady = k.steady := by
  unfold Block.postEvent
  extract_lets v q r _ k₁ k₂ k₃ k₄
  have h₄ : k₄.steady = k.steady := by simp [k₄, k₃, k₂, k₁, Block.steady_flt]
  split
  · rw [Block.steady_ite, Block.steady_boxEvent, ite_self, h₄]
  · exact h₄

@[simp] theorem Block.steady_faultLog (k : Block) (cls kind loc sub : Nat) :
    (k.faultLog cls kind loc sub).steady = k.steady := by
  simp [Block.faultLog, Block.steady_flt]

@[simp] theorem Block.steady_episode (k : Block) : k.episode.steady = k.steady := rfl

@[simp] theorem Block.steady_boxWrite (k : Block) (en : BoxEntry) : (k.boxWrite en).steady = k.steady := by
  simp only [Block.boxWrite, Block.steady_ite, Block.steady_setBit, Block.steady_setRf, ite_self]
  rfl

@[simp] theorem Block.steady_writeOwn (k : Block) (i : Nat) : (k.writeOwn i).steady = k.steady := by
  unfold Block.writeOwn
  split
  · exact Block.steady_boxWrite _ _
  · rfl

@[simp] theorem Block.steady_freezeFor (k : Block) (i : Nat) : (k.freezeFor i).steady = k.steady := by
  unfold Block.freezeFor
  split
  · rfl
  · split
    · exact k.steady_writeOwn i
    · split <;> rfl

@[simp] theorem Block.steady_freezeOn (k : Block) (i : Nat) : (k.freezeOn i).steady = k.steady := by
  simp [Block.freezeOn]

@[simp] theorem Block.steady_permanent (k : Block) (kind loc sub : Nat) :
    (k.permanent kind loc sub).steady = k.steady := by
  simp [Block.permanent]

@[simp] theorem Block.steady_courseEvent (k : Block) (b p : Nat) (dbe : Bool) :
    (k.courseEvent b p dbe).steady = k.steady := k.steady_postEvent ..

/-! ### What leaves the network alone: streams, trackers, records, requests of memory -/

@[simp] theorem Block.steady_setStream (k : Block) (b u : Nat) (v : Stream) : (k.setStream b u v).steady = k.steady := rfl

@[simp] theorem Block.steady_mapStream (k : Block) (b u : Nat) (f : Stream → Stream) :
    (k.mapStream b u f).steady = k.steady := rfl

@[simp] theorem Block.steady_setTracker (k : Block) (b t : Nat) (v : Tracker) :
    (k.setTracker b t v).steady = k.steady := rfl

@[simp] theorem Block.steady_mapTracker (k : Block) (b t : Nat) (f : Tracker → Tracker) :
    (k.mapTracker b t f).steady = k.steady := rfl

@[simp] theorem Block.steady_setSlot (k : Block) (b s : Nat) (v : Slot) : (k.setSlot b s v).steady = k.steady := rfl

@[simp] theorem Block.steady_mapSlot (k : Block) (b s : Nat) (f : Slot → Slot) : (k.mapSlot b s f).steady = k.steady := rfl

@[simp] theorem Block.steady_setRing (k : Block) (b r : Nat) (v : Ring) : (k.setRing b r v).steady = k.steady := rfl

@[simp] theorem Block.steady_memRequest (k : Block) (b : Nat) (q : MemReq) : (k.memRequest b q).steady = k.steady := by
  obtain ⟨t, -, h⟩ | ⟨-, h⟩ := k.memRequest_cases b q <;> rw [h] <;> rfl

@[simp] theorem Block.steady_memAccess (k : Block) (b : Nat) (use : MemUse) (u : List (List (Nat × List Byte)))
    (len : Nat) : (k.memAccess b use u len).steady = k.steady :=
  Block.steady_foldl (fun k _ => k.steady_memRequest b _) u _

@[simp] theorem Block.steady_memIssue (k : Block) (b : Nat) (use : MemUse) (runs : List (Nat × List Byte)) :
    (k.memIssue b use runs).steady = k.steady := k.steady_memAccess ..

@[simp] theorem Block.steady_memFetch (k : Block) (b : Nat) (use : MemUse) (addr len : Nat) :
    (k.memFetch b use addr len).steady = k.steady := k.steady_memAccess ..

@[simp] theorem Block.steady_closeRecord (k : Block) (b : Nat) (x : Record) : (k.closeRecord b x).steady = k.steady := by
  unfold Block.closeRecord
  split <;> rfl

@[simp] theorem Block.steady_loseRecords (k : Block) (b : Nat) (l : List Record) :
    (k.loseRecords b l).steady = k.steady :=
  Block.steady_foldl (fun k x => (Block.steady_closeRecord _ b x).trans (k.steady_bump ..)) l k

@[simp] theorem Block.steady_flushRing (k : Block) (b r : Nat) : (k.flushRing b r).steady = k.steady := by
  simp [Block.flushRing]

@[simp] theorem Block.steady_placeRecords (k : Block) (b r n : Nat) : (k.placeRecords b r n).steady = k.steady := by
  induction n generalizing k with
  | zero => rfl
  | succ n ih =>
    rw [Block.placeRecords]
    split
    · rfl
    · simp [ih]

@[simp] theorem Block.steady_addRecord (k : Block) (b r : Nat) (x : Record) : (k.addRecord b r x).steady = k.steady := by
  simp [Block.addRecord]

@[simp] theorem Block.steady_reportTracker (k : Block) (b t : Nat) (atDest : Bool) :
    (k.reportTracker b t atDest).steady = k.steady := by
  unfold Block.reportTracker
  extract_lets
  simp

@[simp] theorem Block.steady_suspectPath (k : Block) (b : Nat) (v : Tracker) : (k.suspectPath b v).steady = k.steady := by
  simp [Block.suspectPath]

theorem Block.steady_xfr (k : Block) (v : Transfers) : ({ k with xfr := v } : Block).steady = k.steady := rfl

@[simp] theorem Block.steady_answerLp (k : Block) (b t : Nat) (v : Tracker) : (k.answerLp b t v).steady = k.steady := by
  unfold Block.answerLp
  split
  · rfl
  · split <;> simp [Block.steady_xfr]

@[simp] theorem Block.steady_completeTracker (k : Block) (b t status : Nat) :
    (k.completeTracker b t status).steady = k.steady := by
  unfold Block.completeTracker
  extract_lets
  simp +zetaDelta

@[simp] theorem Block.steady_readSource (k : Block) (b t : Nat) (x : ToSend) :
    (k.readSource b t x).steady = k.steady := by
  simp [Block.readSource]

/-! ### What leaves the network alone: channels and rings -/

@[simp] theorem Block.steady_setJob (k : Block) (b t : Nat) (j : GatherJob) : (k.setJob b t j).steady = k.steady := rfl

@[simp] theorem Block.steady_setWaits (k : Block) (b : Nat) (l : List WaitSend) : (k.setWaits b l).steady = k.steady := rfl

@[simp] theorem Block.steady_setChan (k : Block) (b c : Nat) (v : Channel) : (k.setChan b c v).steady = k.steady := rfl

@[simp] theorem Block.steady_abortStream (k : Block) (b s : Nat) : (k.abortStream b s).steady = k.steady := rfl

@[simp] theorem Block.steady_checkGather (k : Block) (b t : Nat) : (k.checkGather b t).steady = k.steady := by
  simp [Block.checkGather]

@[simp] theorem Block.steady_dropResidual (k : Block) (b : Nat) (m : List Byte) :
    (k.dropResidual b m).steady = k.steady :=
  (Block.steady_event _ .SPC_UROW b [] _).trans (k.steady_event .SPC_ERR b [] _)

@[simp] theorem Block.steady_letGo (k : Block) (b t : Nat) : (k.letGo b t).steady = k.steady := rfl

@[simp] theorem Block.steady_stopPosting (k : Block) (b t status : Nat) : (k.stopPosting b t status).steady = k.steady := by
  have hdrop : ∀ (l : List (List Byte)) (k : Block), (l.foldl (fun k m => k.dropResidual b m) k).steady = k.steady :=
    Block.steady_foldl fun k m => k.steady_dropResidual b m
  simp [Block.stopPosting, hdrop]

@[simp] theorem Block.steady_residualFailed (k : Block) (b t status : Nat) (m : List Byte) :
    (k.residualFailed b t status m).steady = k.steady := by
  simp [Block.residualFailed]

@[simp] theorem Block.steady_closePosting (k : Block) (b c : Nat) : (k.closePosting b c).steady = k.steady :=
  Block.steady_foldl (fun k t => by simp) _ k

@[simp] theorem Block.steady_reportSend (k : Block) (b c : Nat) (who : Sender) (status : Nat) :
    (k.reportSend b c who status).steady = k.steady := by
  cases who <;> simp [Block.reportSend]

@[simp] theorem Block.steady_failMsg (k : Block) (b c status : Nat) (m : SentMsg) :
    (k.failMsg b c status m).steady = k.steady := by
  unfold Block.failMsg
  split <;> simp

@[simp] theorem Block.steady_closeChan (k : Block) (b c status : Nat) : (k.closeChan b c status).steady = k.steady := by
  have hfail : ∀ (l : List SentMsg) (k : Block), (l.foldl (fun k m => k.failMsg b c status m) k).steady = k.steady :=
    Block.steady_foldl fun k m => k.steady_failMsg b c status m
  have hreport : ∀ (l : List WaitSend) (k : Block),
      (l.foldl (fun k w => k.reportSend b c w.who stClosed) k).steady = k.steady :=
    Block.steady_foldl fun k w => k.steady_reportSend b c w.who stClosed
  simp [Block.closeChan, hfail, hreport]

@[simp] theorem Block.steady_writeRidx (k : Block) (b r : Nat) (v : Word) : (k.writeRidx b r v).steady = k.steady := by
  simp [Block.writeRidx]

@[simp] theorem Block.steady_disableRing (k : Block) (b r : Nat) : (k.disableRing b r).steady = k.steady :=
  Block.steady_loseRecords _ b _

@[simp] theorem Block.steady_writeRbase (k : Block) (b r : Nat) (v : Word) : (k.writeRbase b r v).steady = k.steady := by
  simp [Block.writeRbase]

end Sys2Proof.Machine
end

section
/-!
SUPPORT. What changes the network but no course program and no sequencer: staging, chains and their places, sources and
reducer slots that go on, fences, and the writes that apply from the next FCLK on (R191, R231).
-/

namespace Sys2Proof.Machine

/-! ### Packets in the network: courses stand -/

@[simp] theorem Block.course_chargeSpray (k : Block) (b inp : Nat) (x : Bool × Nat) (units : Nat) :
    (k.chargeSpray b inp x units).steady.course = k.steady.course := by
  unfold Block.chargeSpray
  split <;> rfl

@[simp] theorem Block.course_chooseExit (k : Block) (d : Build) (b inp : Nat) (p : Packet) :
    (k.chooseExit d b inp p).2.steady.course = k.steady.course := by
  unfold Block.chooseExit
  dsimp only
  split
  · rfl
  · split
    · split <;> rfl
    · split <;> rfl

theorem Block.course_enterDie {k n : Block} {d : Build} {b inp : Nat} {p : Packet} {o : Option Packet}
    (h : k.enterDie d b inp p = (o, n)) : n.steady.course = k.steady.course := by
  have hexit := k.course_chooseExit d b inp p
  unfold Block.enterDie at h
  split at h
  · cases h; rfl
  · split at h
    · cases h; rfl
    · split at h
      · cases h; rfl
      · split at h
        · next x m hx =>
          cases h
          rw [hx] at hexit
          exact (m.course_chargeSpray b inp x (pktUnits p)).trans hexit
        · next m hx =>
          cases h
          rw [hx] at hexit
          exact hexit

@[simp] theorem Block.course_stageAt (k : Block) (b pt : Nat) (x : Staged) :
    (k.stageAt b pt x).steady.course = k.steady.course := rfl

@[simp] theorem Block.course_sendDirect (k : Block) (d : Build) (b : Nat) (p : Packet) :
    (k.sendDirect d b p).steady.course = k.steady.course := by
  unfold Block.sendDirect
  extract_lets
  split
  · next h => exact (Block.course_stageAt ..).trans (Block.course_enterDie h)
  · next h => simpa using Block.course_enterDie h

@[simp] theorem Block.course_answerErrorAt (k : Block) (d : Build) (b ep : Nat) (q : Packet) (status : Nat) :
    (k.answerErrorAt d b ep q status).steady.course = k.steady.course := by
  simp [Block.answerErrorAt]

@[simp] theorem Block.course_answerError (k : Block) (d : Build) (b : Nat) (q : Packet) (status : Nat) :
    (k.answerError d b q status).steady.course = k.steady.course := k.course_answerErrorAt ..

@[simp] theorem Block.course_stageSource (k : Block) (d : Build) (b : Nat) (sub : Option Nat) (p : Packet) :
    (k.stageSource d b sub p).steady.course = k.steady.course := by
  unfold Block.stageSource
  extract_lets
  split
  · next h => exact (Block.course_stageAt ..).trans (Block.course_enterDie h)
  · next h => simpa using Block.course_enterDie h

@[simp] theorem Block.course_offerPart (k : Block) (d : Build) (b s : Nat) (p : Packet) :
    (k.offerPart d b s p).steady.course = k.steady.course := by
  unfold Block.offerPart
  extract_lets
  split
  · next h => exact (Block.course_stageAt ..).trans (Block.course_enterDie h)
  · next h => simpa using Block.course_enterDie h

@[simp] theorem Block.course_niSend (k : Block) (d : Build) (b : Nat) (sub : Option Nat) (p : Packet) :
    (k.niSend d b sub p).steady.course = k.steady.course := by
  unfold Block.niSend
  generalize (if p.op = opMessage then k.chanOwn d b (p.tracker % 1024) else p.dst == coord d b 1) = own
  split
  · rfl
  · split
    · next h => exact (Block.course_stageAt ..).trans (Block.course_enterDie h)
    · next h => simpa using Block.course_enterDie h

/-! ### Places, chains and heads: courses stand -/

@[simp] theorem Block.course_setChain (k : Block) (b p : Nat) (c : List Chained) :
    (k.setChain b p c).steady.course = k.steady.course := rfl

@[simp] theorem Block.course_returnCredits (k : Block) (d : Build) (b p n : Nat) :
    (k.returnCredits d b p n).steady.course = k.steady.course := by
  unfold Block.returnCredits
  split <;> rfl

@[simp] theorem Block.course_freePlaces (k : Block) (d : Build) (b inp n fuel : Nat) :
    (k.freePlaces d b inp n fuel).steady.course = k.steady.course := by
  induction fuel generalizing k b inp n with
  | zero => exact k.course_returnCredits d b inp n
  | succ fuel ih =>
    rw [Block.freePlaces]
    split
    · refine (Block.course_foldl (fun k y => ?_) _ _).trans (by simp)
      split
      · rfl
      · exact ih ..
    · exact k.course_returnCredits d b inp n

@[simp] theorem Block.course_stillSending (k : Block) (d : Build) (left : Nat) (l : List (Nat × Nat)) :
    (k.stillSending d left l).steady.course = k.steady.course := by
  induction l generalizing k left with
  | nil => rfl
  | cons x l ih =>
    rw [Block.stillSending, ih]
    split
    · split <;> rfl
    · rfl

@[simp] theorem Block.course_leaveChain (k : Block) (d : Build) (b inp idx keep : Nat) :
    (k.leaveChain d b inp idx keep).steady.course = k.steady.course := by
  unfold Block.leaveChain
  extract_lets
  split
  · rfl
  · refine (Block.course_foldl (fun k y => ?_) _ _).trans (by simp)
    split
    · rfl
    · exact k.course_freePlaces ..

@[simp] theorem Block.course_setStaged (k : Block) (b inp : Nat) (l : List Staged) :
    (k.setStaged b inp l).steady.course = k.steady.course := rfl

@[simp] theorem Block.course_subLost (k : Block) (b i vc : Nat) (o : Option Nat) :
    (k.subLost b i vc o).steady.course = k.steady.course := by
  cases o with
  | none => rfl
  | some u =>
    rw [Block.subLost]
    extract_lets
    split <;> rfl

@[simp] theorem Block.course_unstage (k : Block) (b inp i : Nat) (x : Staged) :
    (k.unstage b inp i x).steady.course = k.steady.course := by
  simp [Block.unstage]

@[simp] theorem Block.course_headLost (k : Block) (b inp idx vc : Nat) (outs : List Nat) :
    (k.headLost b inp idx vc outs).steady.course = k.steady.course := by
  unfold Block.headLost
  split
  · rfl
  · refine Block.course_foldl (fun k p => ?_) outs k
    split
    · split <;> rfl
    · rfl

/-! ### Sources and reducer slots: courses stand -/

@[simp] theorem Block.course_stagePart (k : Block) (e : Env) (b t : Nat) (x : ToSend) :
    (k.stagePart e b t x).steady.course = k.steady.course := by
  unfold Block.stagePart
  extract_lets
  split
  · simp
  · split
    · rfl
    · rw [Block.course_stageSource]
      split <;> rfl

@[simp] theorem Block.course_issueFrom (k : Block) (e : Env) (b t n : Nat) :
    (k.issueFrom e b t n).steady.course = k.steady.course := by
  induction n generalizing k with
  | zero => rfl
  | succ n ih =>
    rw [Block.issueFrom]
    split
    · rfl
    · split
      · simp [ih]
      · split
        · rfl
        · split <;> simp [ih]

@[simp] theorem Block.course_issueOrder (k : Block) (e : Env) (b : Nat) (l held : List Nat) :
    (k.issueOrder e b l held).steady.course = k.steady.course := by
  induction l generalizing k held with
  | nil => rfl
  | cons t l ih => simp [Block.issueOrder, ih]

theorem Block.course_issueFrom_foldl (k : Block) (e : Env) (b : Nat) (l : List Nat) :
    (l.foldl (fun k t => k.issueFrom e b t 131072) k).steady.course = k.steady.course :=
  Block.course_foldl (fun k t => k.course_issueFrom e b t _) l k

@[simp] theorem Block.course_pumpEngine (k : Block) (e : Env) (b n : Nat) :
    (k.pumpEngine e b n).steady.course = k.steady.course :=
  (Block.course_issueOrder _ e b _ []).trans (k.course_issueFrom_foldl e b _)

@[simp] theorem Block.course_pumpEngines (k : Block) (e : Env) (b : Nat) :
    (k.pumpEngines e b).steady.course = k.steady.course :=
  (Block.course_issueFrom_foldl _ e b _).trans
    (Block.course_foldl (fun k n => k.course_pumpEngine e b n) _ k)

@[simp] theorem Block.course_pumpSlot (k : Block) (d : Build) (b s n : Nat) :
    (k.pumpSlot d b s n).steady.course = k.steady.course := by
  induction n generalizing k with
  | zero => rfl
  | succ n ih =>
    rw [Block.pumpSlot]
    split
    · rfl
    · split
      · rfl
      · split
        · rfl
        · simp [ih]

@[simp] theorem Block.course_pumpSlots (k : Block) (d : Build) (b : Nat) :
    (k.pumpSlots d b).steady.course = k.steady.course :=
  Block.course_foldl (fun k s => k.course_pumpSlot d b s _) _ k

@[simp] theorem Block.course_queuePart (k : Block) (d : Build) (b s : Nat) (x : OutPart) :
    (k.queuePart d b s x).steady.course = k.steady.course :=
  (Block.course_pumpSlot ..).trans (congrArg Steady.course (k.steady_mapSlot b s _))

@[simp] theorem Block.course_sendFault (k : Block) (d : Build) (b s status : Nat) :
    (k.sendFault d b s status).steady.course = k.steady.course := by
  unfold Block.sendFault
  extract_lets
  split <;> simp

@[simp] theorem Block.course_abortSlot (k : Block) (d : Build) (b s status : Nat) :
    (k.abortSlot d b s status).steady.course = k.steady.course := by
  simp [Block.abortSlot]

@[simp] theorem Block.course_startSlot (k : Block) (d : Build) (b s n : Nat) :
    (k.startSlot d b s n).steady.course = k.steady.course := by
  induction n generalizing k with
  | zero => rfl
  | succ n ih =>
    rw [Block.startSlot]
    extract_lets faults
    clear_value faults
    split
    · rfl
    · cases faults <;> simp [ih]

@[simp] theorem Block.course_slotFault (k : Block) (d : Build) (b s status : Nat) :
    (k.slotFault d b s status).steady.course = k.steady.course := by
  simp [Block.slotFault]

@[simp] theorem Block.course_checkFence (k : Block) (d : Build) (b s : Nat) :
    (k.checkFence d b s).steady.course = k.steady.course := by
  simp [Block.checkFence]

@[simp] theorem Block.course_startMsgs (k : Block) (d : Build) (b c n : Nat) :
    (k.startMsgs d b c n).steady.course = k.steady.course := by
  induction n generalizing k with
  | zero => rfl
  | succ n ih =>
    rw [Block.startMsgs]
    split
    · rfl
    · split
      · rfl
      · split <;> simp [ih]

@[simp] theorem Block.course_pumpNi (k : Block) (e : Env) (b : Nat) :
    (k.pumpNi e b).steady.course = k.steady.course :=
  (Block.course_foldl (fun k c => k.course_startMsgs e.build b c 64) _ _).trans (by simp)

/-! ### Fences: courses stand -/

@[simp] theorem Block.course_fenceDrop (k : Block) (d : Build) (b i out : Nat) (q : Packet) :
    (k.fenceDrop d b i out q).steady.course = k.steady.course := by
  unfold Block.fenceDrop
  extract_lets k₁
  have h₁ : k₁.steady.course = k.steady.course := by simp [k₁]
  clear_value k₁
  split
  · exact h₁
  · split
    · exact h₁
    · dsimp only
      split
      · exact h₁
      · rw [Block.course_sendDirect]
        exact h₁

@[simp] theorem Block.course_meetsFence (k : Block) (d : Build) (b p : Nat) (q : Packet) :
    (k.meetsFence d b p q).steady.course = k.steady.course := by
  unfold Block.meetsFence
  split
  · split <;> simp
  · simp

@[simp] theorem Block.course_fenceNext (k : Block) (d : Build) (b inp p : Nat) :
    (k.fenceNext d b inp p).steady.course = k.steady.course := by
  unfold Block.fenceNext
  extract_lets
  split
  · split
    · rfl
    · split <;> simp [apply_ite Steady.course]
  · split
    · rfl
    · split <;> simp [apply_ite Steady.course]

@[simp] theorem Block.course_fenceOutput (k : Block) (d : Build) (b p : Nat) :
    (k.fenceOutput d b p).steady.course = k.steady.course :=
  Block.course_foldl (fun k inp =>
    Block.course_foldl (fun k _ => k.course_fenceNext d b inp p) _ k) _ k

@[simp] theorem Block.course_writeRtctl (k : Block) (e : Env) (b : Nat) (v : Word) :
    (k.writeRtctl e b v).steady.course = k.steady.course := by
  have hcheck : ∀ (l : List Nat) (k : Block),
      (l.foldl (fun k sl => k.checkFence e.build b sl) k).steady.course = k.steady.course :=
    Block.course_foldl fun k sl => k.course_checkFence e.build b sl
  have hfence : ∀ (l : List Nat) (k : Block),
      (l.foldl (fun k p => k.fenceOutput e.build b p) k).steady.course = k.steady.course :=
    Block.course_foldl fun k p => k.course_fenceOutput e.build b p
  simp [Block.writeRtctl, hcheck, hfence]

/-! ### Writes that apply later, and FCLK that pass -/

theorem Block.course_applyWriteLate (k : Block) (e : Env) (w : LateWrite) :
    (k.applyWriteLate e w).steady.course = k.steady.course := by
  cases w <;> simp [Block.applyWriteLate]

/-- The writes that apply from the next FCLK on leave clock, loader, bring-up, placement and courses alone. -/
@[simp] theorem Block.course_applyLate (k : Block) (e : Env) : (k.applyLate e).steady.course = k.steady.course :=
  Block.course_foldl (fun k w => k.course_applyWriteLate e w) k.late _

end Sys2Proof.Machine
end

section
/-!
SUPPORT. What courses read, FCLK that pass, windows that open and the window in force (R97, R104, R107, R118).
-/

namespace Sys2Proof.Machine

/-! ### What courses read (R97, R103, R107) -/

section
variable {k n : Block} (h : n.steady.course = k.steady.course)
include h

theorem Block.clk_of_course : n.clk = k.clk := congrArg Steady.clk h

theorem Block.rst_of_course : n.rst = k.rst := congrArg Steady.rst h

theorem Block.seq_of_course : n.net.seq = k.net.seq := congrArg (fun v : Steady => v.net.seq) h

theorem Block.seqOf_of_course (b p : Nat) : n.seqOf b p = k.seqOf b p := by
  rw [Block.seqOf, Block.seq_of_course h, ← Block.seqOf]

theorem Block.courseOf_of_course (b p : Nat) : n.courseOf b p = k.courseOf b p := by
  have himg : n.img = k.img := congrArg Steady.img h
  have hprog : n.net.courseProg = k.net.courseProg := congrArg (fun v : Steady => v.net.courseProg) h
  have hbank : n.net.bank = k.net.bank := congrArg (fun v : Steady => v.net.bank) h
  simp only [Block.courseOf, himg, hprog, hbank]

theorem Block.traceOf_of_course (b p c : Nat) : n.traceOf b p c = k.traceOf b p c := by
  simp only [Block.traceOf, Block.courseOf_of_course h]

theorem Block.runsCourse_of_course (d : Build) (b p : Nat) : n.runsCourse d b p = k.runsCourse d b p := by
  simp only [Block.runsCourse, Block.courseOf_of_course h, Block.seqOf_of_course h]

end

@[simp] theorem Block.seqOf_setSeq (k : Block) (b p : Nat) (v : Sequencer) : (k.setSeq b p v).seqOf b p = v := by
  simp [Block.seqOf, Block.setSeq]

@[simp] theorem Block.traceOf_setSeq (k : Block) (b p : Nat) (v : Sequencer) (b' p' c : Nat) :
    (k.setSeq b p v).traceOf b' p' c = k.traceOf b' p' c := rfl

/-- An output whose sequencer takes a new place, and neither SAFE nor the default course, runs its program as before. -/
theorem Block.runsCourse_setSeq (k : Block) (d : Build) (b p at_ : Nat) (ahead : Bool) (owed : List (Nat × Nat)) :
    (k.setSeq b p { k.seqOf b p with at_ := at_, ahead := ahead, owed := owed }).runsCourse d b p = k.runsCourse d b p := by
  rw [Block.runsCourse, Block.seqOf_setSeq]
  rfl

/-- In SAFE an output runs no program (R116). -/
theorem Block.runsCourse_safe {k : Block} {b p : Nat} (h : (k.seqOf b p).safe = true) (d : Build) :
    k.runsCourse d b p = false := by
  simp [Block.runsCourse, h]

theorem Block.courseNext_off {k : Block} {d : Build} {b p : Nat} (h : k.runsCourse d b p = false) :
    k.courseNext d b p = none := by
  simp [Block.courseNext, h]

/-- Without a program the closing window is in force (R97, R116). -/
theorem Block.windowKind_off {k : Block} {d : Build} {b p : Nat} (h : k.runsCourse d b p = false) :
    k.windowKind d b p = if k.clk.lhalt && timeTimed d b p then .idle else .closing := by
  simp [Block.windowKind, Block.windowNow, h]

/-- An instruction at which the sequencer stands is in the trace of a program that runs. -/
theorem Block.courseNext_some {k : Block} {d : Build} {b p : Nat} {x : Nat × CourseInstr}
    (h : k.courseNext d b p = some x) :
    k.runsCourse d b p = true ∧ (k.traceNow b p)[(k.seqOf b p).at_]? = some x := by
  rw [Block.courseNext] at h
  split at h
  · next hr => exact ⟨hr, h⟩
  · cases h

/-! ### FCLK that pass (R118, R529) -/

/-- The block without what the trace SRAM writes. -/
def Block.untraced (k : Block) : Block := { k with regs := [], hlth := {} }

theorem Block.untraced_setRf (k : Block) (r : RegName) (hi lo pg : Nat) (ix : List Nat) (v : Nat) :
    (k.setRf r hi lo pg ix v).untraced = k.untraced := rfl

theorem Block.untraced_setBit (k : Block) (r : RegName) (i pg : Nat) (ix : List Nat) :
    (k.setBit r i pg ix).untraced = k.untraced := rfl

theorem Block.untraced_bump (k : Block) (r : RegName) (hi lo pg : Nat) (ix : List Nat) (n : Nat) :
    (k.bump r hi lo pg ix n).untraced = k.untraced := rfl

theorem Block.untraced_hlth (k : Block) (v : Health) : ({ k with hlth := v } : Block).untraced = k.untraced := rfl

theorem Block.untraced_traceStore (k : Block) (m : Nat) (r : List Byte) :
    (k.traceStore m r).untraced = k.untraced := by
  unfold Block.traceStore
  split
  · exact k.untraced_bump ..
  · extract_lets wr old _ k₁
    have h₁ : k₁.untraced = k.untraced := k.untraced_hlth _
    clear_value k₁ wr
    split
    · exact (k₁.untraced_setRf ..).trans h₁
    · split
      · exact (k₁.untraced_setBit ..).trans h₁
      · exact (Block.untraced_setBit ..).trans ((k₁.untraced_setRf ..).trans h₁)

/-- Records that wait reach the trace SRAM; the rest of the block stands. -/
theorem Block.untraced_drainTrace (k : Block) (m : Nat) : (k.drainTrace m).untraced = k.untraced :=
  foldl_keeps Block.untraced (fun k (x : Nat × List Byte) => k.untraced_traceStore (m + 1 + x.1) x.2) _ _

@[simp] theorem Block.steady_drainTrace (k : Block) (m : Nat) : (k.drainTrace m).steady = k.steady := by
  have h := congrArg Block.steady (k.untraced_drainTrace m)
  exact h

/-- The course clock `n` FCLK on, within its course. -/
def Clock.on (c : Clock) (n : Nat) : Clock :=
  { c with cyc := c.cyc + n, now := c.now + n, phase := c.phase + n * c.inc }

/-- FCLK that pass before the boundary move the clock; course programs and sequencers stand. -/
theorem Block.course_pass (k : Block) (e : Env) (n : Nat) :
    (k.pass e n).steady.course = { k.steady.course with clk := k.clk.on (min n (k.clk.toBoundary - 1)) } := by
  have hlate : (if min n (k.clk.toBoundary - 1) = 0 then k else k.applyLate e).steady.course = k.steady.course := by
    simp
  unfold Block.pass
  extract_lets m k₁
  rw [Block.steady_drainTrace]
  calc _ = { k₁.steady.course with clk := k₁.clk.on m } := rfl
    _ = _ := by rw [hlate, Block.clk_of_course hlate]

/-- Where no write is to apply from the next FCLK on, FCLK that pass leave programs and counters alone. -/
theorem Block.prog_pass {k : Block} (h : k.late = []) (e : Env) (n : Nat) : (k.pass e n).prog = k.prog := by
  have hlate : (if min n (k.clk.toBoundary - 1) = 0 then k else k.applyLate e).prog = k.prog := by
    split
    · rfl
    · rw [Block.applyLate, h]; rfl
  have hdrain := fun (k : Block) m => congrArg Block.prog (k.untraced_drainTrace m)
  exact (hdrain _ _).trans hlate

/-- A cycle before the boundary is reached. -/
theorem Block.course_reachCycle {k : Block} {c : Nat} (e : Env) (hc : k.clk.cyc ≤ c)
    (hb : c < k.clk.cyc + k.clk.toBoundary) :
    (k.reachCycle e c).steady.course = { k.steady.course with clk := k.clk.on (c - k.clk.cyc) } := by
  rw [Block.reachCycle, Block.course_pass, Nat.min_eq_left (by omega)]

/-! ### Windows that open (R104, R107) -/

/-- The block when the window at which a sequencer stands has opened: the sequencer goes on, and owes no add. -/
def Block.windowOpened (k : Block) (e : Env) (b p : Nat) : Block :=
  (k.atWindow e b p).setSeq b p { k.seqOf b p with at_ := (k.seqOf b p).at_ + 1, owed := [] }

theorem Block.openWindow_comes {k : Block} {e : Env} {b p : Nat} (h : k.windowComes e.build b p = true) :
    k.openWindow e b p = k.windowOpened e b p := if_pos h

/-- A timed instruction at which the sequencer stands opens its window, by its own command. -/
theorem gives_window {s : State} {b p a : Nat} {i : CourseInstr} (hr : Ready s b) (hp : p < 8)
    (hn : s.blk.courseNext s.env.build b p = some (a, i)) (ht : courseSlots i ≠ none)
    (hc : s.blk.windowComes s.env.build b p = true) :
    Gives (i.command b p) s (s.blk.windowOpened s.env b p) := by
  rw [← Block.openWindow_comes hc]
  cases i with
  | connect inp slots flow mask =>
    show execConnect b p s = _
    simp only [execConnect, State.run_port hr hp, hn]
  | idle slots =>
    show execIdle b p s = _
    simp only [execIdle, State.run_port hr hp, hn]
  | shared slots =>
    by_cases hz : slots = 0
    · rw [CourseInstr.command, if_pos hz]
      show execClosingWindow b p s = _
      simp only [execClosingWindow, State.run_port hr hp, hn, hz, if_true]
    · rw [CourseInstr.command, if_neg hz]
      show execShared b p s = _
      simp only [execShared, State.run_port hr hp, hn, hz, if_false]
  | rep n body => exact absurd rfl ht
  | mark w => exact absurd rfl ht
  | sync c n => exact absurd rfl ht

theorem Block.windowComes_of_lt {k : Block} {d : Build} {b p : Nat} (ht : timeTimed d b p = false)
    (ha : (k.seqOf b p).ahead = false)
    (hb : traceSlots ((k.traceNow b p).take (k.seqOf b p).at_) < k.clk.cyc + k.clk.toBoundary) :
    k.windowComes d b p = true := by
  simp [Block.windowComes, ha, ht, hb]

@[simp] theorem Block.steady_counterAdds (k : Block) (b : Nat) (l : List (Nat × Nat)) :
    (l.foldl (fun k x => k.counterAdd b x.1 x.2) k).steady = k.steady :=
  Block.steady_foldl (fun k x => k.steady_counterAdd b x.1 x.2) l k

theorem Block.course_atWindow {k : Block} {e : Env} {b p : Nat} (ht : timeTimed e.build b p = false)
    (hc : k.clk.cyc ≤ traceSlots ((k.traceNow b p).take (k.seqOf b p).at_))
    (hb : traceSlots ((k.traceNow b p).take (k.seqOf b p).at_) < k.clk.cyc + k.clk.toBoundary) :
    (k.atWindow e b p).steady.course = { k.steady.course with
      clk := k.clk.on (traceSlots ((k.traceNow b p).take (k.seqOf b p).at_) - k.clk.cyc) } := by
  rw [Block.atWindow, Block.steady_counterAdds, ht, ← Block.course_reachCycle e hc hb]
  rfl

/-- One add owed reaches its counter when the window opens (R104). -/
theorem Block.counter_windowOpened {k : Block} {b p c a : Nat} (e : Env) (hl : k.late = [])
    (ho : (k.seqOf b p).owed = [(c, a)]) :
    (k.windowOpened e b p).counter b c = (k.counter b c + a) % 2 ^ 32 := by
  have hopen : ∀ n : Block, n.prog = k.prog → (n.counterAdd b c a).counter b c = (k.counter b c + a) % 2 ^ 32 := by
    intro n hn
    rw [Block.counterAdd, Block.counter_putCounter, Block.counter, hn, ← Block.counter]
  show (k.atWindow e b p).counter b c = _
  rw [Block.atWindow, ho]
  refine hopen _ ?_
  split
  · exact Block.prog_pass hl e _
  · exact Block.prog_pass hl e _

/-! ### The window in force (R107) -/

theorem windowOf_slots (first a : Nat) (i : CourseInstr) :
    (windowOf first a i).map CourseWindow.slots = courseSlots i := by
  cases i <;> rfl

/-- No window opens before its first slot. -/
theorem windowIn_before {pos first : Nat} (h : pos < first) (l : List (Nat × CourseInstr)) :
    windowIn pos first l = none := by
  induction l with
  | nil => rfl
  | cons x l ih =>
    rw [windowIn]
    split
    · exact ih
    · rw [if_pos h]

/-- Without a timed instruction no window opens. -/
theorem windowIn_untimed {l : List (Nat × CourseInstr)} (h : ∀ x ∈ l, courseSlots x.2 = none) (pos first : Nat) :
    windowIn pos first l = none := by
  induction l with
  | nil => rfl
  | cons x l ih =>
    have hx : windowOf first x.1 x.2 = none := by
      simpa [h x (List.mem_cons_self ..)] using windowOf_slots first x.1 x.2
    rw [windowIn, hx]
    exact ih fun y hy => h y (List.mem_cons_of_mem x hy)

/-- A window that has opened is in force in front of all before it. -/
theorem windowIn_append {pos : Nat} {r : List (Nat × CourseInstr)} {w : CourseWindow} (l : List (Nat × CourseInstr))
    (first : Nat) (hpos : first + traceSlots l ≤ pos) (hr : windowIn pos (first + traceSlots l) r = some w) :
    windowIn pos first (l ++ r) = some w := by
  induction l generalizing first with
  | nil => exact hr
  | cons x l ih =>
    have hsum : traceSlots (x :: l) = (courseSlots x.2).getD 0 + traceSlots l := rfl
    have hslots := windowOf_slots first x.1 x.2
    rw [List.cons_append, windowIn]
    split
    · next hx =>
      rw [hx] at hslots
      rw [hsum, ← hslots] at hpos hr
      simp only [Option.map_none, Option.getD_none, Nat.zero_add] at hpos hr
      exact ih first hpos hr
    · next v hx =>
      rw [hx] at hslots
      rw [hsum, ← hslots] at hpos hr
      simp only [Option.map_some, Option.getD_some, ← Nat.add_assoc] at hpos hr
      rw [if_neg (by omega), ih (first + v.slots) hpos hr]

/-- At the first slot of a window it is in force, where no later one opens in that slot. -/
theorem windowIn_start {l : List (Nat × CourseInstr)} {j a : Nat} {i : CourseInstr} {w : CourseWindow}
    (hj : l[j]? = some (a, i)) (hw : windowOf (traceSlots (l.take j)) a i = some w)
    (hlast : w.slots ≠ 0 ∨ ∀ x ∈ l.drop (j + 1), courseSlots x.2 = none) :
    windowIn (traceSlots (l.take j)) 0 l = some w := by
  have hsplit : l = l.take j ++ (a, i) :: l.drop (j + 1) := by
    obtain ⟨hlt, hget⟩ := List.getElem?_eq_some_iff.1 hj
    rw [← hget, ← List.drop_eq_getElem_cons hlt, List.take_append_drop]
  have hnone : windowIn (traceSlots (l.take j)) (traceSlots (l.take j) + w.slots) (l.drop (j + 1)) = none := by
    obtain hpos | hrest := hlast
    · exact windowIn_before (by omega) _
    · exact windowIn_untimed hrest _ _
  have hhere : windowIn (traceSlots (l.take j)) (traceSlots (l.take j)) ((a, i) :: l.drop (j + 1)) = some w := by
    simp [windowIn, hw, hnone]
  generalize hpos : traceSlots (l.take j) = pos at *
  rw [hsplit]
  exact windowIn_append _ 0 (by omega) (by rw [Nat.zero_add, hpos]; exact hhere)

/-- At the cycle at which a window opens, on an FCLK-timed output, it is the one in force. -/
theorem Block.windowNow_of_course {k n : Block} {d : Build} {b p a : Nat} {i : CourseInstr} {w : CourseWindow}
    (ht : timeTimed d b p = false) (hn : k.courseNext d b p = some (a, i))
    (hw : windowOf (traceSlots ((k.traceNow b p).take (k.seqOf b p).at_)) a i = some w)
    (hlast : w.slots ≠ 0 ∨ ∀ x ∈ (k.traceNow b p).drop ((k.seqOf b p).at_ + 1), courseSlots x.2 = none)
    (hruns : n.runsCourse d b p = k.runsCourse d b p) (htrace : n.traceOf b p n.clk.course = k.traceNow b p)
    (hcyc : n.clk.cyc = traceSlots ((k.traceNow b p).take (k.seqOf b p).at_)) : n.windowNow d b p = w := by
  obtain ⟨hk, hat⟩ := Block.courseNext_some hn
  rw [Block.windowNow, hruns, hk, if_pos rfl, htrace, Block.place, ht, hcyc]
  simp [windowIn_start hat hw hlast]

/-- A window that has opened on an FCLK-timed output is in force, at its first slot, where no later one opens there. -/
theorem Block.windowOpened_inForce {k : Block} {e : Env} {b p a : Nat} {i : CourseInstr} {w : CourseWindow}
    (ht : timeTimed e.build b p = false) (hn : k.courseNext e.build b p = some (a, i))
    (ha : (k.seqOf b p).ahead = false)
    (hw : windowOf (traceSlots ((k.traceNow b p).take (k.seqOf b p).at_)) a i = some w)
    (hlast : w.slots ≠ 0 ∨ ∀ x ∈ (k.traceNow b p).drop ((k.seqOf b p).at_ + 1), courseSlots x.2 = none)
    (hc : k.clk.cyc ≤ traceSlots ((k.traceNow b p).take (k.seqOf b p).at_))
    (hb : traceSlots ((k.traceNow b p).take (k.seqOf b p).at_) < k.clk.cyc + k.clk.toBoundary) :
    (k.windowOpened e b p).clk.cyc = traceSlots ((k.traceNow b p).take (k.seqOf b p).at_) ∧
      (k.windowOpened e b p).windowNow e.build b p = w := by
  have hat := Block.course_atWindow ht hc hb
  generalize hstart : traceSlots ((k.traceNow b p).take (k.seqOf b p).at_) = start at hat hc hw ⊢
  have hwith : (k.atWindow e b p).steady.course =
      ({ k with clk := k.clk.on (start - k.clk.cyc) } : Block).steady.course := hat
  have hclk : (k.windowOpened e b p).clk = k.clk.on (start - k.clk.cyc) := Block.clk_of_course hwith
  have hcyc : (k.windowOpened e b p).clk.cyc = start := by
    rw [hclk]
    exact Nat.add_sub_cancel' hc
  have hruns : (k.windowOpened e b p).runsCourse e.build b p = k.runsCourse e.build b p := by
    have hseq : (k.atWindow e b p).seqOf b p = k.seqOf b p := Block.seqOf_of_course hwith b p
    rw [Block.windowOpened, ← hseq, Block.runsCourse_setSeq]
    exact Block.runsCourse_of_course hwith e.build b p
  have htrace : (k.windowOpened e b p).traceOf b p (k.windowOpened e b p).clk.course = k.traceNow b p := by
    rw [hclk, Block.windowOpened, Block.traceOf_setSeq, Block.traceOf_of_course hwith, Block.traceNow, ha]
    rfl
  exact ⟨hcyc, Block.windowNow_of_course ht hn (hstart ▸ hw) hlast hruns htrace (hcyc.trans hstart.symm)⟩

end Sys2Proof.Machine
end

section
/-!
The statement about course instructions and SAFE (R99 to R104, R107, R116).
-/

namespace Sys2Proof.Machine

/-! ### REPEAT (R102) -/

/-- What instruction `i` of a part brings into its trace. -/
def traceStep (part : List (Nat × CourseInstr)) (i : Nat) : List (Nat × CourseInstr) :=
  match part[i]? with
  | some (a, CourseInstr.rep n b) =>
    (List.replicate n ((a, CourseInstr.rep n b) :: (part.drop (i - b)).take b)).flatten ++ [(a, CourseInstr.rep n b)]
  | some x => [x]
  | none => []

theorem traceAt_eq (part : List (Nat × CourseInstr)) : traceAt part = (List.range part.length).flatMap (traceStep part) :=
  rfl

/-- An instruction other than REPEAT comes once. -/
theorem traceStep_plain {part : List (Nat × CourseInstr)} {i : Nat} {x : Nat × CourseInstr} (h : part[i]? = some x)
    (hx : ∀ n b, x.2 ≠ .rep n b) : traceStep part i = [x] := by
  obtain ⟨a, instr⟩ := x
  cases instr with
  | rep n b => exact absurd rfl (hx n b)
  | connect => simp [traceStep, h]
  | idle => simp [traceStep, h]
  | shared => simp [traceStep, h]
  | mark => simp [traceStep, h]
  | sync => simp [traceStep, h]

/-- What each place of a list brings into a row is its element. -/
theorem range_flatMap_eq {α : Type} (l : List α) (f : Nat → List α) (h : ∀ i (hi : i < l.length), f i = [l[i]]) :
    (List.range l.length).flatMap f = l := by
  induction l generalizing f with
  | nil => rfl
  | cons x l ih =>
    have htail : ∀ i (hi : i < l.length), f (i + 1) = [l[i]] := fun i hi => h (i + 1) (Nat.succ_lt_succ hi)
    rw [List.length_cons, List.range_succ_eq_map, List.flatMap_cons, List.flatMap_map, h 0 (by simp)]
    exact congrArg (x :: ·) (ih (fun i => f (i + 1)) htail)

/-- The instructions in front of a REPEAT come as they stand; it runs the body in front of it n more times. -/
theorem traceAt_rep (pre body : List (Nat × CourseInstr)) (a n : Nat) (h : ∀ x ∈ pre ++ body, ∀ m c, x.2 ≠ .rep m c) :
    traceAt (pre ++ body ++ [(a, .rep n body.length)]) =
      pre ++ body ++ (List.replicate n ((a, .rep n body.length) :: body)).flatten ++ [(a, .rep n body.length)] := by
  have hplain : (List.range (pre ++ body).length).flatMap (traceStep (pre ++ body ++ [(a, .rep n body.length)])) =
      pre ++ body := by
    refine range_flatMap_eq _ _ fun i hi => traceStep_plain ?_ (h _ (List.getElem_mem hi))
    rw [List.getElem?_append_left hi, List.getElem?_eq_getElem hi]
  have hrep : traceStep (pre ++ body ++ [(a, .rep n body.length)]) (pre ++ body).length =
      (List.replicate n ((a, .rep n body.length) :: body)).flatten ++ [(a, .rep n body.length)] := by
    simp [traceStep]
  rw [traceAt_eq, List.length_append, List.length_singleton, List.range_succ, List.flatMap_append, hplain,
    List.flatMap_singleton, hrep, List.append_assoc, List.append_assoc]
  simp

/-! ### Commands of courses -/

theorem gives_sync {s : State} {b p a c n : Nat} (hr : Ready s b) (hp : p < 8)
    (hn : s.blk.courseNext s.env.build b p = some (a, .sync c n)) :
    Gives (.sync b p) s (s.blk.setSeq b p { s.blk.seqOf b p with
      owed := (s.blk.seqOf b p).owed ++ [(c, n)], at_ := (s.blk.seqOf b p).at_ + 1 }) := by
  show execSync b p s = _
  simp only [execSync, State.run_port hr hp, hn]

theorem gives_repeatBody {s : State} {b p a n body : Nat} (hr : Ready s b) (hp : p < 8)
    (hn : s.blk.courseNext s.env.build b p = some (a, .rep n body)) :
    Gives (.repeatBody b p) s (s.blk.setSeq b p { s.blk.seqOf b p with at_ := (s.blk.seqOf b p).at_ + 1 }) := by
  show execRepeatBody b p s = _
  simp only [execRepeatBody, State.run_port hr hp, hn, Block.seqOn]

theorem gives_mark {s : State} {b p a : Nat} {w : Bool} (hr : Ready s b) (hp : p < 8)
    (hn : s.blk.courseNext s.env.build b p = some (a, .mark w)) (ha : (s.blk.seqOf b p).ahead = false) :
    Gives (.mark b p) s (s.blk.setSeq b p { s.blk.seqOf b p with at_ := 0, ahead := true }) := by
  show execMark b p s = _
  simp only [execMark, State.run_port hr hp, hn, ha, Bool.false_eq_true, if_false]

/-- Once its MARK is executed an output stands in the trace of the course to come (R103). -/
theorem Block.traceNow_marked (k : Block) (b p : Nat) :
    (k.setSeq b p { k.seqOf b p with at_ := 0, ahead := true }).traceNow b p = k.traceOf b p (k.clk.course + 1) := by
  rw [Block.traceNow, Block.traceOf_setSeq, Block.seqOf_setSeq]
  rfl

/-- An uncorrectable course word puts its output into SAFE with no add owed, and changes no other sequencer (R116). -/
theorem gives_courseSafe_double {s : State} {b p : Nat} (hr : Ready s b) (hp : p < 8) :
    Completes (.courseSafe b p .double) s fun k =>
      k.steady = (s.blk.setSeq b p { s.blk.seqOf b p with safe := true, owed := [] }).steady := by
  refine ⟨_, show execCourseSafe b p .double s = _ from State.run_port hr hp _, ?_⟩
  dsimp only
  simp only [Block.steady_freezeOn, Block.steady_courseEvent, Block.steady_setBit]
  split
  · simp only [Block.steady_permanent, Block.steady_setBit]
    rfl
  · rfl

/-- Settles O20: a window command by the clock that reaches the window and the sequencer that goes on, REPEAT by the
places of the instructions in front of it, and SAFE by the one sequencer that an uncorrectable word changes. -/
theorem courseInstructionsRun : Obligations.CourseInstructionsRun := by
  unfold Obligations.CourseInstructionsRun
  refine ⟨?connect, ?idle, ?shared, ?closing, ?inForce, ?sync, ?owed, ?rep, ?trace, ?mark, ?single, ?double⟩
  case connect =>
    exact fun s b p a i n fl m hr hp hn hc => gives_window hr hp hn (by simp [courseSlots]) hc
  case idle =>
    exact fun s b p a n hr hp hn hc => gives_window hr hp hn (by simp [courseSlots]) hc
  case shared =>
    intro s b p a n hr hp hn hz hc
    have h := gives_window hr hp hn (by simp [courseSlots]) hc
    rwa [CourseInstr.command, if_neg hz] at h
  case closing =>
    exact fun s b p a hr hp hn hc => gives_window hr hp hn (by simp [courseSlots]) hc
  case inForce =>
    intro s b p a i w hr hp ht hn ha l start hw hlast hcyc hb
    have hslots : courseSlots i ≠ none := by
      rw [← windowOf_slots start a i, hw]
      simp
    refine ⟨_, gives_window hr hp hn hslots (Block.windowComes_of_lt ht ha hb), ?_⟩
    exact Block.windowOpened_inForce ht hn ha hw hlast hcyc hb
  case sync =>
    exact fun s b p a c n hr hp hn => gives_sync hr hp hn
  case owed =>
    intro s b p n c a x hr hp hn hc hl ho
    refine ⟨_, gives_window hr hp hn (by simp [courseSlots]) hc, Block.counter_windowOpened s.env hl ho, ?_⟩
    rw [Block.windowOpened, Block.seqOf_setSeq]
  case rep =>
    exact fun s b p a n body hr hp hn => gives_repeatBody hr hp hn
  case trace =>
    exact fun pre body a n h => traceAt_rep pre body a n h
  case mark =>
    exact fun s b p a w hr hp hn ha => ⟨_, gives_mark hr hp hn ha, rfl, s.blk.traceNow_marked b p⟩
  case single =>
    exact fun s b p hr hp => show execCourseSafe b p .single s = _ from State.run_port hr hp _
  case double =>
    intro s b p hr hp
    obtain ⟨k, hk, hsteady⟩ := gives_courseSafe_double hr hp
    have hseq : k.seqOf b p = { s.blk.seqOf b p with safe := true, owed := [] } := by
      rw [Block.seqOf_of_course (congrArg Steady.course hsteady), Block.seqOf_setSeq]
    have hoff : k.runsCourse s.env.build b p = false := Block.runsCourse_safe (by rw [hseq]) _
    exact ⟨k, hk, by rw [hseq], by rw [hseq], Block.courseNext_off hoff, Block.windowKind_off hoff⟩

end Sys2Proof.Machine
end

section
/-!
SUPPORT. What the monitors, the policy and the ports do at a course boundary, and what the boundary does to a sequencer
(R96, R107, R114, R115, R117).
-/

namespace Sys2Proof.Machine

/-! ### What the monitors, the policy and the ports do at a boundary (R432, R512, R519, R531): courses stand -/

@[simp] theorem Block.steady_sampleBrick (k : Block) (slack : List (Nat × Nat × Nat)) (b : Nat) :
    (k.sampleBrick slack b).steady = k.steady := by
  unfold Block.sampleBrick
  extract_lets now k₁ rep worst
  have h₁ : k₁.steady = k.steady := by
    refine Block.steady_foldl (fun k m => ?_) _ k
    dsimp only
    split
    · rw [Block.steady_setRf, Block.steady_setRf]
    · rw [Block.steady_setRf]
  clear_value k₁ worst
  split
  rw [Block.steady_setReg, h₁]

@[simp] theorem Block.steady_policyAct (k : Block) (what arg : Nat) : (k.policyAct what arg).steady = k.steady := by
  rw [Block.policyAct, Block.irq, Block.steady_event, Block.replan, Block.steady_boxPost, Block.planStep,
    Block.steady_setRf]

theorem Block.steady_out (k : Block) (l : List Answer) : ({ k with out := l } : Block).steady = k.steady := rfl

@[simp] theorem Block.steady_requestSupply (k : Block) (steps : Nat) : (k.requestSupply steps).steady = k.steady := by
  rw [Block.requestSupply, Block.steady_out, Block.steady_setBit, Block.steady_setRf]

@[simp] theorem Block.steady_planSegment (k : Block) (i : Nat) (two policy : Bool) :
    (k.planSegment i two policy).steady = k.steady := Block.steady_setBit ..

@[simp] theorem Block.steady_supplyStep (k : Block) : k.supplyStep.steady = k.steady := by
  simp [Block.supplyStep]

@[simp] theorem Block.steady_policyBrick (k : Block) (d : Build) (b : Nat) : (k.policyBrick d b).steady = k.steady := by
  unfold Block.policyBrick
  split
  · rfl
  · extract_lets w
    split
    · split
      · exact k.steady_supplyStep
      · split
        · rfl
        · simp
    · exact k.steady_supplyStep

@[simp] theorem Block.steady_takeSlack (k : Block) (d : Build) (slack : List (Nat × Nat × Nat)) :
    (k.takeSlack d slack).steady = k.steady := by
  have hsample : ∀ (l : List Nat) (k : Block), (l.foldl (fun k b => k.sampleBrick slack b) k).steady = k.steady :=
    Block.steady_foldl fun k b => k.steady_sampleBrick slack b
  have hpolicy : ∀ (l : List Nat) (k : Block), (l.foldl (fun k b => k.policyBrick d b) k).steady = k.steady :=
    Block.steady_foldl fun k b => k.steady_policyBrick d b
  simp [Block.takeSlack, hsample, hpolicy]

@[simp] theorem Block.steady_takeBacklog (k : Block) (d : Build) : (k.takeBacklog d).steady = k.steady := by
  unfold Block.takeBacklog
  split <;> rfl

@[simp] theorem Block.steady_missedSample (k : Block) (d : Build) : (k.missedSample d).steady = k.steady := by
  unfold Block.missedSample
  extract_lets src n v k₁
  have h₁ : k₁.steady = k.steady := rfl
  simp [h₁]

@[simp] theorem Block.steady_countShared (k : Block) (d : Build) (n fclks : Nat) :
    (k.countShared d n fclks).steady = k.steady := by
  unfold Block.countShared
  split <;> rfl

/-- Where no domain's ramp has ended none wakes (R501). -/
theorem Block.wakeDomains_none {k : Block} (h : k.rst.ramped = []) (e : Env) : k.wakeDomains e = k := by
  have hkept : ({ k with rst.ramped := [] } : Block) = k := by rw [← h]
  unfold Block.wakeDomains
  rw [h]
  exact hkept

/-! ### What a boundary does to one sequencer (R107, R114, R115) -/

/-- A course of `fclks` FCLK makes an FCLK-timed output slip (R114). -/
def slips (d : Build) (b p fclks : Nat) : Bool :=
  !timeTimed d b p && (decide (fclks + 8 < courseLen) || decide (courseLen + 8 < fclks))

theorem slips_iff (d : Build) (b p fclks : Nat) :
    slips d b p fclks = true ↔ timeTimed d b p = false ∧ (fclks < 4792 ∨ 4808 < fclks) := by
  have hlen : courseLen = 4800 := rfl
  simp only [slips, Bool.and_eq_true, Bool.not_eq_true', Bool.or_eq_true, decide_eq_true_eq]
  exact and_congr_right fun _ => by omega

theorem slips_timeTimed {d : Build} {b p : Nat} (h : timeTimed d b p = true) (fclks : Nat) :
    slips d b p fclks = false := by
  simp [slips, h]

/-- Within 8 FCLK of the nominal course no output slips. -/
theorem slips_within {fclks : Nat} (hlo : 4792 ≤ fclks) (hhi : fclks ≤ 4808) (d : Build) (b p : Nat) :
    slips d b p fclks = false := by
  rw [Bool.eq_false_iff, ne_eq, slips_iff]
  omega

/-- The slip of an output, if it slips, is shown and posted (R114). -/
def Block.slipped (k : Block) (d : Build) (b p fclks : Nat) : Block :=
  if slips d b p fclks then (k.setBit .CRS_ERR 0 b).courseEvent b p false else k

@[simp] theorem Block.steady_slipped (k : Block) (d : Build) (b p fclks : Nat) :
    (k.slipped d b p fclks).steady = k.steady := by
  simp [Block.slipped]

theorem Block.slipped_none {k : Block} {d : Build} {b p fclks : Nat} (h : slips d b p fclks = false) :
    k.slipped d b p fclks = k := by
  simp [Block.slipped, h]

/-- What the end of course `n` after `fclks` FCLK brings to a sequencer, its slip apart: what of the part had its time is
executed, and a window still to open is cut; one that waits for the boundary goes on with it. -/
def Block.endPart (k : Block) (d : Build) (n fclks b p : Nat) : Block :=
  let v := k.seqOf b p
  if !k.runsCourse d b p then k
  else if v.ahead then k.setSeq b p { v with ahead := false }
  else
    let tr := k.traceOf b p n
    let r := finishTrace (fun c => timeTimed d b p || decide (c < fclks)) (traceSlots (tr.take v.at_)) [] v.owed
      (tr.drop v.at_)
    let k := (r.1.foldl (fun k x => k.counterAdd b x.1 x.2) k).setSeq b p { v with at_ := 0, owed := r.2.1 }
    if r.2.2 then (k.setBit .CRS_ERR 1 b).courseEvent b p false else k

theorem Block.seqBoundary_eq (k : Block) (d : Build) (n fclks b p : Nat) :
    k.seqBoundary d n fclks b p = (k.slipped d b p fclks).endPart d n fclks b p := rfl

theorem Block.endPart_off {k : Block} {d : Build} {b p : Nat} (h : k.runsCourse d b p = false) (n fclks : Nat) :
    k.endPart d n fclks b p = k := by
  simp [Block.endPart, h]

/-- An output that runs no course program has its slip alone. -/
theorem Block.seqBoundary_off {k : Block} {d : Build} {b p : Nat} (h : k.runsCourse d b p = false) (n fclks : Nat) :
    k.seqBoundary d n fclks b p = k.slipped d b p fclks := by
  have hcourse : (k.slipped d b p fclks).steady.course = k.steady.course := by rw [Block.steady_slipped]
  rw [Block.seqBoundary_eq, Block.endPart_off ((Block.runsCourse_of_course hcourse d b p).trans h)]

/-- Without a slip the boundary is the end of the part alone. -/
theorem Block.seqBoundary_unslipped {k : Block} {d : Build} {b p fclks : Nat} (hs : slips d b p fclks = false) (n : Nat) :
    k.seqBoundary d n fclks b p = k.endPart d n fclks b p := by
  rw [Block.seqBoundary_eq, Block.slipped, hs]
  rfl

theorem Block.endPart_ahead {k : Block} {d : Build} {b p : Nat} (h : k.runsCourse d b p = true)
    (ha : (k.seqOf b p).ahead = true) (n fclks : Nat) :
    k.endPart d n fclks b p = k.setSeq b p { k.seqOf b p with ahead := false } := by
  simp [Block.endPart, h, ha]

theorem Block.endPart_executes {k : Block} {d : Build} {b p : Nat} (h : k.runsCourse d b p = true)
    (ht : timeTimed d b p = false) (ha : (k.seqOf b p).ahead = false) (n fclks : Nat) :
    k.endPart d n fclks b p =
      let v := k.seqOf b p
      let tr := k.traceOf b p n
      let r := finishTrace (fun c => decide (c < fclks)) (traceSlots (tr.take v.at_)) [] v.owed (tr.drop v.at_)
      let k₁ := (r.1.foldl (fun k x => k.counterAdd b x.1 x.2) k).setSeq b p { v with at_ := 0, owed := r.2.1 }
      if r.2.2 then (k₁.setBit .CRS_ERR 1 b).courseEvent b p false else k₁ := by
  simp only [Block.endPart, h, ht, ha, Bool.not_true, Bool.false_eq_true, if_false, Bool.false_or]

/-! ### What the boundary leaves of clock, bring-up and network (R96, R117) -/

/-- Those parts without the sequencers. -/
def Steady.noSeq (v : Steady) : Steady := { v with net.seq := [] }

/-- Of those parts the boundary at a sequencer changes that sequencer alone. -/
theorem Block.noSeq_seqBoundary (k : Block) (d : Build) (n fclks b p : Nat) :
    (k.seqBoundary d n fclks b p).steady.noSeq = k.steady.noSeq := by
  have hset : ∀ (k : Block) (v : Sequencer), (k.setSeq b p v).steady.noSeq = k.steady.noSeq := fun _ _ => rfl
  rw [Block.seqBoundary_eq, ← k.steady_slipped d b p fclks]
  generalize k.slipped d b p fclks = k
  unfold Block.endPart
  extract_lets v tr r k₁
  have h₁ : k₁.steady.noSeq = k.steady.noSeq := by rw [hset, Block.steady_counterAdds]
  clear_value k₁
  split
  · rfl
  · split
    · exact hset ..
    · split
      · rw [Block.steady_courseEvent, Block.steady_setBit, h₁]
      · exact h₁

/-- The boundary at every output of every brick of `l`. -/
theorem Block.noSeq_seqBoundaries (k : Block) (d : Build) (n fclks : Nat) (l : List Nat) :
    (l.foldl (fun k b => (List.range 8).foldl (fun k p => k.seqBoundary d n fclks b p) k) k).steady.noSeq =
      k.steady.noSeq :=
  foldl_keeps (fun k : Block => k.steady.noSeq) (fun k b =>
    foldl_keeps (fun k : Block => k.steady.noSeq) (fun k p => k.noSeq_seqBoundary d n fclks b p) _ k) l k

/-- What a boundary measures and decides leaves those parts alone, where no domain is about to wake. -/
theorem Block.steady_measured {k : Block} (h : k.rst.ramped = []) (d : Build) (e : Env)
    (slack : List (Nat × Nat × Nat)) :
    ((((k.missedSample d).wakeDomains e).takeBacklog d).takeSlack d slack).steady = k.steady := by
  have hmissed := k.steady_missedSample d
  have hramped : (k.missedSample d).rst.ramped = [] := (congrArg (fun v : Steady => v.rst.ramped) hmissed).trans h
  rw [Block.steady_takeSlack, Block.steady_takeBacklog, Block.wakeDomains_none hramped, hmissed]

/-- With no TIM_SET held and no domain about to wake, a boundary carries the clock into the next course, ends an injection
stop and begins the counts of a course anew. -/
theorem Block.steady_boundary {k : Block} (hset : k.clk.setHeld = none) (hramped : k.rst.ramped = []) (e : Env)
    (slack : List (Nat × Nat × Nat)) :
    (k.boundary e slack).clk = k.clk.toNext ∧ (k.boundary e slack).net.injStop = false ∧
      (k.boundary e slack).net.sprayS = [] ∧ (k.boundary e slack).gpd.steered = [] := by
  generalize hn : k.boundary e slack = n
  unfold Block.boundary at hn
  extract_lets d c fclks late ended starts _ moved _ _ _ timeSet through _ quiet back occ _ _ counted at hn
  have hended : ended.steady.course = k.steady.course := by rw [Block.steady_countShared, Block.course_applyLate]
  have hmoved : moved.steady = { ended.steady with
      clk := ended.clk.toNext, net := { ended.net with injStop := false } } := Block.steady_drainTrace _ _
  have hclk : moved.clk = k.clk.toNext :=
    (congrArg Steady.clk hmoved).trans (congrArg Clock.toNext (Block.clk_of_course hended))
  have htime : timeSet = moved := by
    have hnone : moved.clk.setHeld = none := by rw [hclk]; exact hset
    simp only [timeSet, hnone]
  have hthrough : through.steady.noSeq = moved.steady.noSeq :=
    (Block.noSeq_seqBoundaries ..).trans (by rw [htime])
  have hstop : through.net.injStop = false :=
    (congrArg (fun v : Steady => v.net.injStop) hthrough).trans (congrArg (fun v : Steady => v.net.injStop) hmoved)
  have hrst : through.rst = k.rst :=
    (congrArg Steady.rst hthrough).trans ((congrArg Steady.rst hmoved).trans (Block.rst_of_course hended))
  have hsteady : n.steady = counted.steady := by
    have hnone : counted.rst.ramped = [] := (congrArg Resets.ramped hrst).trans hramped
    rw [← hn, Block.steady_measured hnone]
  exact ⟨(congrArg Steady.clk hsteady).trans ((congrArg Steady.clk hthrough).trans hclk),
    (congrArg (fun v : Steady => v.net.injStop) hsteady).trans hstop,
    congrArg (fun v : Steady => v.net.sprayS) hsteady, congrArg (fun v : Steady => v.gpd.steered) hsteady⟩

end Sys2Proof.Machine
end

section
/-!
The statement about course boundaries and the drain (R96, R114, R117, R118, R137, R184).
-/

namespace Sys2Proof.Machine

theorem gives_courseBoundary {s : State} (hh : s.blk.held = false) (slack : List (Nat × Nat × Nat)) :
    Gives (.courseBoundary (s.blk.clk.cyc + s.blk.clk.toBoundary) slack) s (s.blk.boundary s.env slack) :=
  gives_of_run (ok := true) (f := fun k => if s.blk.clk.cyc + s.blk.clk.toBoundary = k.clk.cyc + k.clk.toBoundary then
    k.boundary s.env slack else k) rfl rfl hh (if_pos rfl)

theorem gives_courseBoundary_elsewhere {s : State} {fclks : Nat} (hh : s.blk.held = false)
    (hf : fclks ≠ s.blk.clk.cyc + s.blk.clk.toBoundary) (slack : List (Nat × Nat × Nat)) :
    Gives (.courseBoundary fclks slack) s s.blk :=
  gives_of_run (ok := true) (f := fun k => if fclks = k.clk.cyc + k.clk.toBoundary then k.boundary s.env slack else k)
    rfl rfl hh (if_neg hf)

/-- Injection of scheduled packets stops, and CRS_SWAP shows the drain (R137). -/
def Block.draining (k : Block) : Block := ({ k with net.injStop := true } : Block).setRf .CRS_SWAP 63 62 0 [] 2

theorem gives_drainInjectionStop {s : State} (hh : s.blk.held = false) (hw : s.blk.img.written = true)
    (ht : s.blk.net.target ≤ s.blk.clk.course + 1) : Gives .drainInjectionStop s s.blk.draining :=
  gives_of_run (ok := true) (f := fun k => if k.img.written ∧ k.net.target ≤ k.clk.course + 1 then k.draining else k)
    rfl rfl hh (if_pos ⟨hw, ht⟩)

/-- Settles O22: the boundary by what it leaves of clock, network and placement; a sequencer's boundary by its slip and the
end of its part. -/
theorem coursesBeginAtBoundaries : Obligations.CoursesBeginAtBoundaries := by
  unfold Obligations.CoursesBeginAtBoundaries
  refine ⟨?boundary, ?elsewhere, ?drain, ?defaultTimed, ?defaultWithin, ?defaultSlips, ?ahead, ?executes⟩
  case boundary =>
    intro s slack hh hset hramped
    obtain ⟨hclk, hstop, hspray, hsteered⟩ := Block.steady_boundary hset hramped s.env slack
    refine ⟨_, gives_courseBoundary hh slack, rfl, ?_, ?_, ?_, ?_, ?_, hstop, hspray, hsteered⟩
    · rw [hclk]; rfl
    · rw [hclk]; rfl
    · rw [hclk]; exact Nat.mod_lt _ (by decide)
    · rw [hclk]; rfl
    · rw [hclk]; rfl
  case elsewhere =>
    exact fun s fclks slack hh hf => gives_courseBoundary_elsewhere hh hf slack
  case drain =>
    intro s hh hw ht
    exact ⟨_, gives_drainInjectionStop hh hw ht, rfl, rfl, Block.rf_setRf_same _ _ _ _ _ _ _ (by omega) (by omega)⟩
  case defaultTimed =>
    intro k d n fclks b p hoff ht
    rw [Block.seqBoundary_off hoff, Block.slipped_none (slips_timeTimed ht fclks)]
  case defaultWithin =>
    intro k d n fclks b p hoff _ hlo hhi
    rw [Block.seqBoundary_off hoff, Block.slipped_none (slips_within hlo hhi d b p)]
  case defaultSlips =>
    intro k d n fclks b p hoff ht hf
    rw [Block.seqBoundary_off hoff, Block.slipped, if_pos ((slips_iff d b p fclks).2 ⟨ht, hf⟩)]
  case ahead =>
    intro k d n fclks b p hruns ht ha
    rw [Block.seqBoundary_unslipped (slips_timeTimed ht fclks), Block.endPart_ahead hruns ha]
  case executes =>
    intro k d n fclks b p adds owed cut hruns ht hlo hhi ha v tr hfinish
    rw [Block.seqBoundary_unslipped (slips_within hlo hhi d b p), Block.endPart_executes hruns ht ha]
    simp only [v, tr] at hfinish
    simp only [hfinish]
    rfl

end Sys2Proof.Machine
end

section
/-!
SUPPORT. DIRREQ at their receivers (R155, R396, R397): which operation each command serves, the request that meets a full
store and the one seen before, and the pooled frames under firmware's writes (R410).
-/

namespace Sys2Proof.Machine

/-! ### A full request store, and a request seen before (R155, R396) -/

/-- A request that meets a full store is discarded and counted (R155). -/
theorem Block.serveDir_full {k : Block} {d : Build} {b c op : Nat} {p : Packet} {r : List Packet}
    (hg : k.headGood b c c p r) (ho : p.op = opDirReq) (hp : natAt p.payload 0 1 = op)
    (hs : (dirServed c).contains op = true) (ha : dirDepth ≤ k.answering d b c opDirResp)
    (f : Block → Packet → Nat × List Byte × Block) :
    k.serveDir d b c op f = (k.setRx b c r).bump .SHW_ERR 31 16 b := by
  unfold Block.serveDir
  rw [hg.1]
  simp only [ho, hp, hs, ne_eq, not_true_eq_false, false_and, and_false, or_self, if_false, beq_self_eq_true,
    Bool.and_self, Bool.true_or]
  rw [Block.consume_head hg]
  exact if_pos ha

/-- A request seen before gets its stored answer, and `f` is not run again (R396). -/
theorem Block.serveDir_seen {k : Block} {d : Build} {b c op : Nat} {p : Packet} {r : List Packet} {x : DirSeen}
    (hg : k.headGood b c c p r) (ho : p.op = opDirReq) (hp : natAt p.payload 0 1 = op)
    (hs : (dirServed c).contains op = true) (ha : k.answering d b c opDirResp < dirDepth)
    (hx : (look [] k.gpd.seen (b * 8 + c)).find? (fun x => x.src == p.src && x.trk == p.tracker) = some x)
    (f : Block → Packet → Nat × List Byte × Block) :
    k.serveDir d b c op f = (k.setRx b c r).sendDirect d b
      { (k.setRx b c r).response d b c opDirResp 5 0 p with group := 0, cseq := 0, payload := x.answer } := by
  unfold Block.serveDir
  rw [hg.1]
  simp only [ho, hp, hs, ne_eq, not_true_eq_false, false_and, and_false, or_self, if_false, beq_self_eq_true,
    Bool.and_self, Bool.true_or]
  rw [Block.consume_head hg]
  simp only [Block.answering_setRx, Block.setRx_gpd, if_neg (Nat.not_le.2 ha), hx]

/-! ### The commands that serve a DIRREQ (R397) -/

/-- Command `i` serves the DIRREQ of operation `op` at endpoint `c` of brick `b` by `f`. -/
def ServesDir (i : Instr) (b c op : Nat) (f : State → Block → Packet → Nat × List Byte × Block) : Prop :=
  (dirServed c).contains op = true ∧
  ∀ s : State, exec i s = s.run (brickOk s.env.build b) fun k => k.serveDir s.env.build b c op (f s)

/-- Every operation of R397 has a command that serves it. -/
theorem servesDir_of_mem {b c op : Nat} {i : Instr}
    (h : (c, op, i) ∈ [(4, 1, .startMove b), (4, 2, .endMove b), (4, 3, .reserve b), (4, 4, .release b),
      (3, 5, .prepare b), (3, 6, .cancel b), (3, 7, .install b), (4, 8, .movePage b), (3, 9, .report b), (4, 0xA, .flip b),
      (3, 0xB, Instr.refresh b)]) : ∃ f, ServesDir i b c op f := by
  simp only [List.mem_cons, Prod.mk.injEq, List.not_mem_nil, or_false] at h
  obtain ⟨rfl, rfl, rfl⟩ | ⟨rfl, rfl, rfl⟩ | ⟨rfl, rfl, rfl⟩ | ⟨rfl, rfl, rfl⟩ | ⟨rfl, rfl, rfl⟩ | ⟨rfl, rfl, rfl⟩ |
    ⟨rfl, rfl, rfl⟩ | ⟨rfl, rfl, rfl⟩ | ⟨rfl, rfl, rfl⟩ | ⟨rfl, rfl, rfl⟩ | ⟨rfl, rfl, rfl⟩ := h
  all_goals exact ⟨_, by decide, fun _ => rfl⟩

/-- A new request: the service's result and bytes go into the answer, which is remembered and sent (R396). -/
theorem gives_dirNew {s : State} {b c op res : Nat} {p : Packet} {r : List Packet} {i : Instr} {mid : List Byte}
    {k : Block} {f : State → Block → Packet → Nat × List Byte × Block} (hi : ServesDir i b c op f) (hr : Ready s b)
    (hn : s.blk.dirNew s.env.build b c op p r) (hf : f s (s.blk.setRx b c r) p = (res, mid, k)) :
    Gives i s (k.dirReply s.env.build b c (look [] s.blk.gpd.seen (b * 8 + c)) p res mid) :=
  gives_of_run (hi.2 s) hr.2 hr.1 (by rw [Block.serveDir_new hn hi.1, hf])

theorem gives_startMove_granted {s : State} {p : Packet} {r : List Packet} (hr : Ready s 0)
    (hn : s.blk.dirNew s.env.build 0 4 1 p r) (he : flag (s.blk.reg .PLC_POL) 63 = true)
    (hm : s.blk.gpd.active.length < s.blk.rf .PLC_POL 43 40 0) (hg : s.blk.gpd.lastGrant = none)
    (hi : s.blk.img.st = .running) : Gives (.startMove 0) s
      (({ s.blk.setRx 0 4 r with
          gpd.active := s.blk.gpd.active ++ [p.src], gpd.lastGrant := some s.blk.clk.course } : Block).dirReply
        s.env.build 0 4 (look [] s.blk.gpd.seen 4) p dirOk (dirMid p)) := by
  refine gives_dirNew ⟨by decide, fun _ => rfl⟩ hr hn (if_neg ?_)
  simp [he, hm, hg, hi]

theorem gives_startMove_refused {s : State} {b : Nat} {p : Packet} {r : List Packet} (hr : Ready s b)
    (hn : s.blk.dirNew s.env.build b 4 1 p r)
    (h : flag (s.blk.reg .PLC_POL) 63 = false ∨ s.blk.rf .PLC_POL 43 40 0 ≤ s.blk.gpd.active.length ∨
      s.blk.img.st = .checking ∨ s.blk.img.st = .checked ∨ s.blk.img.st = .quiescing ∨ s.blk.img.st = .writing ∨
      ∃ g, s.blk.gpd.lastGrant = some g ∧ s.blk.clk.course < g + s.blk.rf .PLC_POL 55 48 0) :
    Gives (.startMove b) s ((s.blk.setRx b 4 r).dirReply s.env.build b 4 (look [] s.blk.gpd.seen (b * 8 + 4)) p dirRefused
      (dirMid p)) := by
  refine gives_dirNew ⟨by decide, fun _ => rfl⟩ hr hn (if_pos ?_)
  obtain h | h | h | h | h | h | ⟨g, hg, h⟩ := h
  all_goals simp [*]

theorem gives_reserve_taken {s : State} {b i : Nat} {p : Packet} {r : List Packet} (hr : Ready s b)
    (hn : s.blk.dirNew s.env.build b 4 3 p r) (hi : findBelow 64 (fun i => flag (s.blk.pooledFrame i) 63) = some i) :
    Gives (.reserve b) s (((s.blk.setRx b 4 r).takeFrame i).dirReply s.env.build b 4
      (look [] s.blk.gpd.seen (b * 8 + 4)) p dirOk
      (leBytes 4 (fld (s.blk.pooledFrame i) 26 0) ++ leBytes 4 (coord s.env.build (fld (s.blk.pooledFrame i) 34 27) 0))) :=
  gives_dirNew ⟨by decide, fun _ => rfl⟩ hr hn (by simp only [Block.pooledFrame_setRx, hi])

theorem gives_reserve_refused {s : State} {b : Nat} {p : Packet} {r : List Packet} (hr : Ready s b)
    (hn : s.blk.dirNew s.env.build b 4 3 p r) (hi : findBelow 64 (fun i => flag (s.blk.pooledFrame i) 63) = none) :
    Gives (.reserve b) s (((s.blk.setRx b 4 r).bump .PLC_STAT 31 16 0).dirReply s.env.build b 4
      (look [] s.blk.gpd.seen (b * 8 + 4)) p dirRefused (dirMid p)) :=
  gives_dirNew ⟨by decide, fun _ => rfl⟩ hr hn (by simp only [Block.pooledFrame_setRx, hi])

theorem gives_release_pooled {s : State} {b i : Nat} {p : Packet} {r : List Packet} (hr : Ready s b)
    (hn : s.blk.dirNew s.env.build b 4 4 p r)
    (hi : findBelow 64 (fun i => !flag (s.blk.reg .PLC_FRAME 0 [i]) 63) = some i) :
    Gives (.release b) s (((s.blk.setRx b 4 r).setReg .PLC_FRAME 0 [i]
      (mkWord [(63, 1), (27, cBrick (dirCoord p.payload)), (0, dirFrame p.payload)])).dirReply s.env.build b 4
        (look [] s.blk.gpd.seen (b * 8 + 4)) p dirOk (dirMid p)) :=
  gives_dirNew ⟨by decide, fun _ => rfl⟩ hr hn (by simp only [Block.reg_setRx, hi])

theorem gives_prepare_new {s : State} {b i : Nat} {p : Packet} {r : List Packet} (hr : Ready s b)
    (hn : s.blk.dirNew s.env.build b 3 5 p r) (hp : s.blk.pageEntry b p.addr = none)
    (he : s.blk.findEntry b (pageOf p.addr) = none) (hi : findBelow 2048 (fun i => !(s.blk.gpdEntry b i).v) = some i) :
    Gives (.prepare b) s (((s.blk.setRx b 3 r).setGpd b i
      { v := true, st := .moving, base := pageOf p.addr, home := dirCoord p.payload, epoch := dirEpoch p.payload }).dirReply
        s.env.build b 3 (look [] s.blk.gpd.seen (b * 8 + 3)) p dirOk (dirMid p)) := by
  rw [Block.pageEntry] at hp
  exact gives_dirNew ⟨by decide, fun _ => rfl⟩ hr hn
    (by simp only [Block.gpdEntry_setRx, Block.findEntry_setRx, hp, he, hi, Option.isSome_none, Bool.false_eq_true, if_false])

/-- A page that lies in a larger range of the slice is not prepared. -/
theorem gives_prepare_refused {s : State} {b i : Nat} {p : Packet} {r : List Packet} (hr : Ready s b)
    (hn : s.blk.dirNew s.env.build b 3 5 p r) (hp : s.blk.pageEntry b p.addr = none)
    (he : s.blk.findEntry b (pageOf p.addr) = some i) : Gives (.prepare b) s ((s.blk.setRx b 3 r).dirReply s.env.build b 3
      (look [] s.blk.gpd.seen (b * 8 + 3)) p dirRefused (dirMid p)) := by
  rw [Block.pageEntry] at hp
  exact gives_dirNew ⟨by decide, fun _ => rfl⟩ hr hn
    (by simp only [Block.gpdEntry_setRx, Block.findEntry_setRx, hp, he, Option.isSome_some, if_true])

theorem gives_cancel_moving {s : State} {b i : Nat} {p : Packet} {r : List Packet} (hr : Ready s b)
    (hn : s.blk.dirNew s.env.build b 3 6 p r) (hp : s.blk.pageEntry b p.addr = some i)
    (hm : (s.blk.gpdEntry b i).st = .moving) :
    Gives (.cancel b) s (((s.blk.setRx b 3 r).entryState b i .home).dirReply s.env.build b 3
      (look [] s.blk.gpd.seen (b * 8 + 3)) p dirOk (dirMid p)) :=
  gives_dirNew ⟨by decide, fun _ => rfl⟩ hr hn (by simp only [Block.pageEntry_setRx, hp, Block.gpdEntry_setRx, hm, if_true])

theorem gives_install {s : State} {b i : Nat} {p : Packet} {r : List Packet} (hr : Ready s b)
    (hn : s.blk.dirNew s.env.build b 3 7 p r) (hp : s.blk.pageEntry b p.addr = some i) :
    Gives (.install b) s (((s.blk.setRx b 3 r).setGpd b i { s.blk.gpdEntry b i with
      st := .home, home := dirCoord p.payload, frame := dirFrame p.payload, epoch := dirEpoch p.payload
      total := 0, heat := [], age := 0 }).dirReply s.env.build b 3 (look [] s.blk.gpd.seen (b * 8 + 3)) p dirOk
        (dirMid p)) :=
  gives_dirNew ⟨by decide, fun _ => rfl⟩ hr hn (by simp only [Block.pageEntry_setRx, hp, Block.gpdEntry_setRx])

theorem gives_install_refused {s : State} {b : Nat} {p : Packet} {r : List Packet} (hr : Ready s b)
    (hn : s.blk.dirNew s.env.build b 3 7 p r) (hp : s.blk.pageEntry b p.addr = none) :
    Gives (.install b) s ((s.blk.setRx b 3 r).dirReply s.env.build b 3 (look [] s.blk.gpd.seen (b * 8 + 3)) p dirRefused
      (dirMid p)) :=
  gives_dirNew ⟨by decide, fun _ => rfl⟩ hr hn (by simp only [Block.pageEntry_setRx, hp])

theorem gives_refresh {s : State} {b i : Nat} {p : Packet} {r : List Packet} (hr : Ready s b)
    (hn : s.blk.dirNew s.env.build b 3 0xB p r)
    (hi : findBelow 2048 (fun i => (s.blk.gpdEntry b i).v && (s.blk.gpdEntry b i).base == pageOf p.addr) = some i)
    (hh : (s.blk.gpdEntry b i).isHome s.env.build = false) (hst : (s.blk.gpdEntry b i).st = .home)
    (he : epochNewer (dirEpoch p.payload) (s.blk.gpdEntry b i).epoch = true) :
    Gives (.refresh b) s ((((s.blk.setRx b 3 r).setGpd b i { s.blk.gpdEntry b i with
      home := dirCoord p.payload, epoch := dirEpoch p.payload }).bump .GPD_ERR 31 16 b).dirReply s.env.build b 3
        (look [] s.blk.gpd.seen (b * 8 + 3)) p dirOk (dirMid p)) := by
  refine gives_dirNew ⟨by decide, fun _ => rfl⟩ hr hn ?_
  simp only [Block.gpdEntry_setRx, hi]
  exact if_pos (by simp [hh, hst, placementNewer, he])

theorem gives_report {s : State} {b : Nat} {c : Coordinator} {p : Packet} {r : List Packet} (hr : Ready s b)
    (hn : s.blk.dirNew s.env.build b 3 9 p r) (hc : look none s.blk.gpd.coord b = some c) (hstep : c.step = .report)
    (hp : (s.blk.gpdEntry b c.entry).holds (pageOf p.addr) = true) :
    Gives (.report b) s (((s.blk.setRx b 3 r).coordReport s.env b c (natAt p.payload 1 1 == dirOk)).dirReply s.env.build
      b 3 (look [] s.blk.gpd.seen (b * 8 + 3)) p dirOk (dirMid p)) := by
  refine gives_dirNew ⟨by decide, fun _ => rfl⟩ hr hn ?_
  simp only [Block.setRx_gpd, hc]
  exact if_pos ⟨hstep, hp⟩

/-! ### Pooled frames (R410) -/

/-- The fields of PLC_FRAME are all of access RW: a write of it sets each, and locks none. -/
theorem Block.applyWrite_frame (k : Block) (i : Nat) (v : Word) : k.applyWrite .PLC_FRAME 0 [i] v =
    ((k.setRf .PLC_FRAME 63 63 0 [i] (fld v 63 63)).setRf .PLC_FRAME 34 27 0 [i] (fld v 34 27)).setRf .PLC_FRAME 26 0 0
      [i] (fld v 26 0) := rfl

theorem regAddr_frame_inj {i j : Nat} (h : regAddr .PLC_FRAME 0 [j] = regAddr .PLC_FRAME 0 [i]) : j = i := by
  simp only [regAddr, regRow, pageBase, elemOff] at h
  omega

@[simp] theorem Block.reg_writeFrame (k : Block) (i : Nat) (v : Word) (r : RegName) (pg : Nat) (ix : List Nat) :
    (k.writeFrame i v).reg r pg ix = (k.applyWrite .PLC_FRAME 0 [i] v).reg r pg ix := by
  unfold Block.writeFrame
  generalize k.applyWrite .PLC_FRAME 0 [i] v = n
  rfl

@[simp] theorem Block.clk_writeFrame (k : Block) (i : Nat) (v : Word) : (k.writeFrame i v).clk = k.clk := by
  simp [Block.writeFrame, Block.applyWrite_frame]

@[simp] theorem Block.frameOld_writeFrame (k : Block) (i : Nat) (v : Word) : (k.writeFrame i v).gpd.frameOld =
    put ((0 : Nat), (0 : Word)) k.gpd.frameOld i (k.clk.now + 1, k.pooledFrame i) := by
  rw [Block.writeFrame]

/-- RESERVE finds every frame as it stood before firmware's write of its FCLK (R410). -/
theorem Block.pooledFrame_writeFrame (k : Block) (i j : Nat) (v : Word) :
    (k.writeFrame i v).pooledFrame j = k.pooledFrame j := by
  rw [Block.pooledFrame, Block.clk_writeFrame, Block.frameOld_writeFrame, Block.reg_writeFrame]
  by_cases h : j = i
  · subst h
    rw [look_put_same, asStood, if_pos rfl]
  · have haddr : regAddr .PLC_FRAME 0 [j] ≠ regAddr .PLC_FRAME 0 [i] := fun e => h (regAddr_frame_inj e)
    rw [look_put_other _ _ _ _ h, Block.applyWrite_frame]
    simp only [Block.reg_setRf_other _ _ _ _ _ _ haddr, Block.pooledFrame]

/-- A frame of which firmware wrote in this FCLK is taken in what stood there before: its word is firmware's (R410). -/
theorem Block.reg_takeFrame_written {k : Block} {i : Nat}
    (h : (look ((0 : Nat), (0 : Word)) k.gpd.frameOld i).1 = k.clk.now + 1) (r : RegName) (pg : Nat) (ix : List Nat) :
    (k.takeFrame i).reg r pg ix = k.reg r pg ix := by
  rw [Block.takeFrame, if_pos h]
  rfl

/-- A frame that RESERVE takes in the FCLK of firmware's write of it leaves the word that firmware wrote (R410). -/
theorem Block.reg_takeFrame_writeFrame (k : Block) (i : Nat) (v : Word) :
    ((k.writeFrame i v).takeFrame i).reg .PLC_FRAME 0 [i] = (k.applyWrite .PLC_FRAME 0 [i] v).reg .PLC_FRAME 0 [i] := by
  rw [Block.reg_takeFrame_written (by rw [Block.frameOld_writeFrame, look_put_same, Block.clk_writeFrame]),
    Block.reg_writeFrame]

end Sys2Proof.Machine
end

section
/-!
The statement about DIRREQ at a root and at a slice (R155, R396 to R398, R402, R410).
-/

namespace Sys2Proof.Machine

/-- Settles O40: a request seen before and one at a full store whatever its service, a new one by what its service makes
of the block, and the pool by what RESERVE finds and takes under firmware's write. -/
theorem rootsAndSlicesServeMoves : Obligations.RootsAndSlicesServeMoves := by
  unfold Obligations.RootsAndSlicesServeMoves
  refine ⟨?seen, ?full, ?granted, ?startRefused, ?endMove, ?reserve, ?poolEmpty, ?release, ?unwritten, ?written, ?prepare,
    ?prepareRefused, ?cancel, ?install, ?installRefused, ?refresh, ?report⟩
  case seen =>
    intro s b c op p r x i hr hm hg ho hp ha hx
    obtain ⟨f, hserved, he⟩ := servesDir_of_mem hm
    exact gives_of_run (he s) hr.2 hr.1 (Block.serveDir_seen hg ho hp hserved ha hx (f s))
  case full =>
    intro s b c op p r i hr hm hg ho hp ha
    obtain ⟨f, hserved, he⟩ := servesDir_of_mem hm
    exact gives_of_run (he s) hr.2 hr.1 (Block.serveDir_full hg ho hp hserved ha (f s))
  case granted =>
    exact fun s p r hr hn he hm hg hi => gives_startMove_granted hr hn he hm hg hi
  case startRefused =>
    exact fun s b p r hr hn h => gives_startMove_refused hr hn h
  case endMove =>
    exact fun s b p r hr hn => gives_dirNew ⟨by decide, fun _ => rfl⟩ hr hn rfl
  case reserve =>
    exact fun s b i p r hr hn hi => gives_reserve_taken hr hn hi
  case poolEmpty =>
    exact fun s b p r hr hn hi => gives_reserve_refused hr hn hi
  case release =>
    exact fun s b i p r hr hn hi => gives_release_pooled hr hn hi
  case unwritten =>
    exact fun k i h => ⟨if_neg h, if_neg h⟩
  case written =>
    exact fun k i j v _ _ => ⟨k.pooledFrame_writeFrame i j v, k.reg_takeFrame_writeFrame i v⟩
  case prepare =>
    exact fun s b i p r hr hn hp he hi => gives_prepare_new hr hn hp he hi
  case prepareRefused =>
    exact fun s b i p r hr hn hp he => gives_prepare_refused hr hn hp he
  case cancel =>
    exact fun s b i p r hr hn hp hm => gives_cancel_moving hr hn hp hm
  case install =>
    exact fun s b i p r hr hn hp => gives_install hr hn hp
  case installRefused =>
    exact fun s b p r hr hn hp => gives_install_refused hr hn hp
  case refresh =>
    exact fun s b i p r hr hn hi hh hst he => gives_refresh hr hn hi hh hst he
  case report =>
    exact fun s b c p r hr hn hc hstep hp => gives_report hr hn hc hstep hp

end Sys2Proof.Machine
end

section
/-!
The statement about answers and timers at trackers (R212 to R217, R223, R226, R229): the ACK of a part whose collective is
over (R216, R252), at which it fails.
-/

namespace Sys2Proof.Machine

theorem gives_unique {c : Instr} {s : State} {k n : Block} (h : Gives c s k) (h' : Gives c s n) : k = n :=
  congrArg State.blk (Host.Outcome.next.inj (h.symm.trans h'))

/-! ### Answers to a stream (R195, R215 to R217) -/

/-- A good answer to a stream, at the head of the FIFO, leaves it and reaches the rule of its opcode. -/
theorem Block.streamAnswer_head {k : Block} {d : Build} {b op : Nat} {p : Packet} {r : List Packet}
    (hg : k.headGood b 0 1 p r) (ho : p.op = op) (hm : p.group < 0xFC0) (f : Block → Packet → Block) :
    k.streamAnswer d b op f = f (k.setRx b 0 r) p := by
  rw [Block.streamAnswer, hg.1]
  exact (if_pos ⟨ho, hm⟩).trans (Block.consume_head hg)

theorem Tracker.sourceAtWork_over {v : Tracker} (h : v.st = .linger ∨ v.st = .completing) : v.sourceAtWork = false := by
  obtain h | h := h <;> simp [Tracker.sourceAtWork, h]

/-- An answer to a stream that is over comes to what the command does then, and is not counted (R216). -/
theorem Block.answered_over {k : Block} {b : Nat} {p : Packet} (hd : (k.tracker b (p.tracker % 1024)).isDest = false)
    (ho : k.ownAnswer (k.tracker b (p.tracker % 1024)) p = true)
    (hst : (k.tracker b (p.tracker % 1024)).st = .linger ∨ (k.tracker b (p.tracker % 1024)).st = .completing)
    (f ended : Nat → Tracker → Block) :
    k.answered b p f ended = ended (p.tracker % 1024) (k.tracker b (p.tracker % 1024)) := by
  simp [Block.answered, hd, ho, Tracker.sourceAtWork_over hst, hst]

/-- The ACK of a stream that is over is what `lateAck` makes of it: the part of a member is still acknowledged. -/
theorem gives_ack_over {s : State} {b : Nat} {p : Packet} {r : List Packet} (hr : Ready s b)
    (hg : s.blk.headGood b 0 1 p r) (ho : p.op = opAck) (hm : p.group < 0xFC0)
    (hd : (s.blk.tracker b (p.tracker % 1024)).isDest = false)
    (hown : s.blk.ownAnswer (s.blk.tracker b (p.tracker % 1024)) p = true)
    (hst : (s.blk.tracker b (p.tracker % 1024)).st = .linger ∨ (s.blk.tracker b (p.tracker % 1024)).st = .completing) :
    Gives (.ack b) s ((s.blk.setRx b 0 r).lateAck s.env b (p.tracker % 1024) (s.blk.tracker b (p.tracker % 1024)) p) := by
  show execAck b s = _
  rw [execAck, State.run_brick hr, Block.streamAnswer_head hg ho hm,
    Block.answered_over (k := s.blk.setRx b 0 r) hd hown hst]
  rfl

/-! ### Engines with nothing to do (R159, R208) -/

theorem Block.sourcesToGo_none {k : Block} (h : ∀ x ∈ k.xfr.trk, x.2.sourceAtWork = false) (b : Nat) (sel : Tracker → Bool) :
    k.sourcesToGo b sel = [] := by
  have hnone : (k.xfr.trk.filter fun (x : Nat × Tracker) => x.1 / 1024 == b && x.2.sourceAtWork && sel x.2) = [] :=
    List.filter_eq_nil_iff.2 fun x hx => by simp [h x hx]
  rw [Block.sourcesToGo, hnone, List.foldl_nil]

theorem Block.pumpEngine_none {k : Block} (h : ∀ x ∈ k.xfr.trk, x.2.sourceAtWork = false) (ho : k.xfr.order = []) (e : Env)
    (b n : Nat) : k.pumpEngine e b n = k := by
  simp only [Block.pumpEngine, Block.sourcesToGo_none h, List.foldl_nil, ho, look, Block.issueOrder, List.filter_nil]
  show ({ k with xfr.order := [] } : Block) = k
  rw [← ho]

theorem Block.foldl_pumpEngine_none {k : Block} (h : ∀ x ∈ k.xfr.trk, x.2.sourceAtWork = false) (ho : k.xfr.order = [])
    (e : Env) (b : Nat) (l : List Nat) : l.foldl (fun k n => k.pumpEngine e b n) k = k := by
  induction l with
  | nil => rfl
  | cons n l ih => rw [List.foldl_cons, Block.pumpEngine_none h ho, ih]

/-- Where no source is at work and no engine has a transfer in order, no engine goes on. -/
theorem Block.pumpEngines_none {k : Block} (h : ∀ x ∈ k.xfr.trk, x.2.sourceAtWork = false) (ho : k.xfr.order = []) (e : Env)
    (b : Nat) : k.pumpEngines e b = k := by
  rw [Block.pumpEngines, Block.foldl_pumpEngine_none h ho, Block.sourcesToGo_none h, List.foldl_nil]

/-! ### A member whose collective is over (R252) -/

/-- A member's tracker once part `n` is acknowledged: what its record counts stands. -/
def Tracker.partAcked (v : Tracker) (n : Nat) : Tracker := { v.acknowledge [n] with bytes := v.bytes, done := v.done }

/-- Where no engine goes on, the part of a member whose collective is over is acknowledged, and that is all. -/
theorem Block.lateAck_part {k : Block} {b t : Nat} {v : Tracker} {p : Packet} (hv : v.op = .contrib)
    (hl : (ackList p.payload p.pcount).length = p.pcount)
    (hw : ∀ x ∈ (k.setTracker b t (v.partAcked (k.answerUnit v p))).xfr.trk, x.2.sourceAtWork = false)
    (ho : k.xfr.order = []) (e : Env) : k.lateAck e b t v p = k.setTracker b t (v.partAcked (k.answerUnit v p)) := by
  rw [Block.lateAck, if_pos ⟨hv, hl⟩]
  exact Block.pumpEngines_none hw ho e b

/-- A member that lingers, its one part issued and not acknowledged. -/
def overMember : Tracker := { st := .linger, op := .contrib, pcount := 1, issued := 1 }

/-- An ACK that names that part whole: base 1, no bit of the map, and all below the base. -/
def partAck : Packet :=
  sealPacket { op := opAck, vc := 5, dst := 1, pcount := 1, payload := leBytes 4 1 ++ List.replicate 32 0 ++ [1, 0, 0, 0] }

/-- Tracker 0 of brick 0 is that member, and the ACK stands first in the NI's receive FIFO. -/
def overMemberAnswered : State := { blk := (({} : Block).setTracker 0 0 overMember).setRx 0 0 [partAck] }

/-- Refutes O16: its clause on the ACK of a stream in LINGER or COMPLETING says that the packet leaves its FIFO and nothing
else changes; but the part of a member whose collective is over is acknowledged even then, and so leaves the reservation
of R252. The counterexample: a member in LINGER, and the ACK of its one part; b of the tracker goes from 0 to 1. -/
theorem not_answersAndTimersReachTrackers : ¬ Obligations.AnswersAndTimersReachTrackers := by
  unfold Obligations.AnswersAndTimersReachTrackers
  rintro ⟨-, -, -, -, -, -, hover, -⟩
  have hr : Ready overMemberAnswered 0 := by decide
  have hg : overMemberAnswered.blk.headGood 0 0 1 partAck [] := by decide +kernel
  have hown : overMemberAnswered.blk.ownAnswer overMember partAck = true := by decide
  have hacked := gives_ack_over hr hg rfl (by decide) rfl hown (.inl rfl)
  rw [Block.lateAck_part rfl (by decide) (by decide) rfl] at hacked
  have hsame := gives_unique (hover overMemberAnswered 0 partAck [] hr hg rfl (by decide) rfl hown (.inl rfl)) hacked
  exact absurd (congrArg (fun k : Block => (k.tracker 0 0).b) hsame) (by decide)

end Sys2Proof.Machine
end

section
/-!
SUPPORT. Commands at a transfer engine: the descriptor instructions, what each comes to once its descriptor is read, the
claim of a tracker, and FENCE (R203 to R209).
-/

namespace Sys2Proof.Machine

theorem engineOk {s : State} {b en : Nat} (hr : Ready s b) (hen : en < 16) :
    (brickOk s.env.build b && decide (en < 16)) = true := by
  rw [hr.2, decide_eq_true hen]
  rfl

/-! ### The descriptor that an instruction reads (R203, R206) -/

/-- The 64 bytes at (DADDR + STRIDE * k) * 64 of cluster memory, k the iteration index of the instruction at which engine
`en` stands (R36, R203). -/
def Block.descBytes (k : Block) (e : Env) (b en st da : Nat) : List Byte :=
  memRead e.mem b (((da + st * k.iterIndex b en (k.stream b en).pc) * 64) % 2 ^ 48) 64

/-- Everything that a descriptor instruction can do where one stands: it claims the tracker of a good descriptor, or faults
its engine. -/
theorem Block.runDesc_fetched {k : Block} {b en st da : Nat} {o : DescOp} {evt : Bool}
    (hf : k.descFetch b en = some (o, st, da, evt)) (e : Env) (ok : Bool) : k.runDesc e b en ok o =
      if ok && k.lpOpen b && descOk o (k.descBytes e b en st da) && k.startOk e b o (descOf (k.descBytes e b en st da)) then
        k.claim e b en o (descOf (k.descBytes e b en st da)) evt
      else (if ok then k else k.bump .NI_LPERR 47 32 b).failStream e.build b en 0 := by
  rw [Block.runDesc, hf]
  exact if_neg (not_not_intro rfl)

theorem exec_descCommand (o : DescOp) (b en : Nat) (ok : Bool) (s : State) : exec (descCommand o b en ok) s =
    s.run (brickOk s.env.build b && decide (en < 16)) fun k => k.runDesc s.env b en ok o := by
  cases o <;> rfl

section
variable {s : State} {b en st da : Nat} {o : DescOp} {evt : Bool}

/-- A good descriptor whose operation may start claims its tracker. -/
theorem gives_descCommand_claim (hr : Ready s b) (hen : en < 16) (hf : s.blk.descFetch b en = some (o, st, da, evt))
    (hopen : s.blk.lpOpen b = true) (hd : descOk o (s.blk.descBytes s.env b en st da) = true)
    (hs : s.blk.startOk s.env b o (descOf (s.blk.descBytes s.env b en st da)) = true) :
    Gives (descCommand o b en) s (s.blk.claim s.env b en o (descOf (s.blk.descBytes s.env b en st da)) evt) := by
  refine gives_of_run (exec_descCommand o b en true s) (engineOk hr hen) hr.1 ?_
  rw [Block.runDesc_fetched hf, if_pos]
  rw [hopen, hd, hs]
  rfl

/-- A descriptor that is not read, or breaks a rule, starts nothing: the engine faults. -/
theorem gives_descCommand_fault {ok : Bool} (hr : Ready s b) (hen : en < 16)
    (hf : s.blk.descFetch b en = some (o, st, da, evt))
    (hbad : ok = false ∨ s.blk.lpOpen b = false ∨ descOk o (s.blk.descBytes s.env b en st da) = false ∨
      s.blk.startOk s.env b o (descOf (s.blk.descBytes s.env b en st da)) = false) :
    Gives (descCommand o b en ok) s
      ((if ok then s.blk else s.blk.bump .NI_LPERR 47 32 b).failStream s.env.build b en 0) := by
  refine gives_of_run (exec_descCommand o b en ok s) (engineOk hr hen) hr.1 ?_
  rw [Block.runDesc_fetched hf, if_neg]
  obtain h | h | h | h := hbad
  all_goals simp [h]

end

/-! ### The claim of a tracker (R208) -/

theorem Block.claim_idle {k : Block} {b : Nat} {c : Desc} (h : (k.tracker b c.trk).st = .idle) (e : Env) (en : Nat)
    (o : DescOp) (evt : Bool) : k.claim e b en o c evt = (k.startTransfer e b en o c).retire b en evt :=
  if_pos h

theorem Block.claim_busy {k : Block} {b : Nat} {c : Desc} (h : (k.tracker b c.trk).st ≠ .idle) (e : Env) (en : Nat)
    (o : DescOp) (evt : Bool) : k.claim e b en o c evt = k.stay b en .running (.tracker (opOf o) c) :=
  if_neg h

theorem heldOp_opOf (o : DescOp) : heldOp (opOf o) = some o := by
  cases o <;> rfl

/-- The tracker that an engine waits for is IDLE: what the operation asks of the brick is checked again (R208). -/
theorem gives_trackerClaim {s : State} {b en : Nat} {o : DescOp} {c : Desc} (hr : Ready s b) (hen : en < 16)
    (hrun : (s.blk.stream b en).st = .running) (hhold : (s.blk.stream b en).hold = .tracker (opOf o) c)
    (hidle : (s.blk.tracker b c.trk).st = .idle) :
    Gives (.trackerClaim b en) s
      (if s.blk.startOk s.env b o c then s.blk.claim s.env b en o c (wordEvt (s.blk.curWord b en).toNat)
       else s.blk.failStream s.env.build b en 0) := by
  refine gives_of_run (Eq.refl (execTrackerClaim b en s)) (engineOk hr hen) hr.1 ?_
  simp only [hhold, heldOp_opOf]
  exact if_pos ⟨hrun, hidle⟩

/-! ### FENCE (R209) -/

theorem gives_fence {s : State} {b en : Nat} (hr : Ready s b) (hen : en < 16) (hrun : (s.blk.stream b en).st = .running)
    (hhold : (s.blk.stream b en).hold = .none)
    (hf : decodeXfer (s.blk.progWord b en (s.blk.stream b en).pc).toNat = some .fence) :
    Gives (.fence b en) s
      (if s.blk.engineBusy b en then s.blk.stay b en .running .fence
       else s.blk.retire b en (wordEvt (s.blk.progWord b en (s.blk.stream b en).pc).toNat)) :=
  gives_of_run rfl (engineOk hr hen) hr.1 (if_pos ⟨hrun, hhold, hf⟩)

theorem gives_fenceRelease {s : State} {b en : Nat} (hr : Ready s b) (hen : en < 16)
    (hrun : (s.blk.stream b en).st = .running) (hhold : (s.blk.stream b en).hold = .fence)
    (hbusy : s.blk.engineBusy b en = false) :
    Gives (.fenceRelease b en) s (s.blk.retire b en (wordEvt (s.blk.curWord b en).toNat)) :=
  gives_of_run rfl (engineOk hr hen) hr.1 (if_pos ⟨hrun, hhold, hbusy⟩)

end Sys2Proof.Machine
end

section
/-!
The statement about the start of transfers, and what their engines wait for (R203 to R209).
-/

namespace Sys2Proof.Machine

/-- Settles O13: a descriptor instruction and TRACKER_CLAIM by the claim or the fault that each comes to, and a claim by
the state of its tracker. -/
theorem transfersStartAndWait : Obligations.TransfersStartAndWait := by
  unfold Obligations.TransfersStartAndWait
  refine ⟨?read, ?claim, ?unread, ?claimFaults, ?fence, ?release⟩
  case read =>
    intro s b en st da o evt hr hen hf hopen l
    refine ⟨?_, ?_, ?_, ?_⟩
    · intro hd hs hidle
      rw [← Block.claim_idle hidle]
      exact gives_descCommand_claim hr hen hf hopen hd hs
    · intro hd hs hbusy
      rw [← Block.claim_busy hbusy s.env en o evt]
      exact gives_descCommand_claim hr hen hf hopen hd hs
    · exact fun hd => gives_descCommand_fault hr hen hf (.inr (.inr (.inl hd)))
    · exact fun _ hs => gives_descCommand_fault hr hen hf (.inr (.inr (.inr hs)))
  case claim =>
    intro s b en o c hr hen hrun hhold hidle hs
    have hgives := gives_trackerClaim hr hen hrun hhold hidle
    rwa [if_pos hs, Block.claim_idle hidle] at hgives
  case unread =>
    exact fun s b en st da o evt ok hr hen hf hbad => gives_descCommand_fault hr hen hf (hbad.imp_right .inl)
  case claimFaults =>
    intro s b en o c hr hen hrun hhold hidle hs
    have hgives := gives_trackerClaim hr hen hrun hhold hidle
    rwa [hs, if_neg Bool.false_ne_true] at hgives
  case fence =>
    exact fun s b en hr hen hrun hhold hf => gives_fence hr hen hrun hhold hf
  case release =>
    exact fun s b en hr hen hrun hhold hbusy => gives_fenceRelease hr hen hrun hhold hbusy

end Sys2Proof.Machine
end

section
/-!
SUPPORT. The requests of a write to cluster memory (R553): a run of bytes cut where 128-byte units end, one piece in each
unit that it touches.
-/

namespace Sys2Proof.Machine

/-! ### A run cut into units -/

theorem cutRun_nil (n a : Nat) : cutRun n a [] = [] := by
  cases n <;> rfl

theorem cutRun_step {l : List Byte} (h : l ≠ []) (n a : Nat) : cutRun (n + 1) a l =
    (a, l.take (128 - a % 128)) :: cutRun n (a + (128 - a % 128)) (l.drop (128 - a % 128)) := by
  rw [cutRun, List.isEmpty_eq_false_iff.2 h]
  rfl

/-- A run within one unit is one piece. -/
theorem cutRun_within {a : Nat} {l : List Byte} (h : l ≠ []) (hu : a % 128 + l.length ≤ 128) (n : Nat) :
    cutRun (n + 1) a l = [(a, l)] := by
  rw [cutRun_step h, List.take_of_length_le (by omega), List.drop_of_length_le (by omega), cutRun_nil]

theorem cutRun_head_addr {n a : Nat} {l : List Byte} {x : Nat × List Byte} {r : List (Nat × List Byte)}
    (h : cutRun n a l = x :: r) : x.1 = a := by
  cases n with
  | zero => cases h
  | succ n =>
    by_cases hl : l = []
    · rw [hl, cutRun_nil] at h
      cases h
    · rw [cutRun_step hl] at h
      cases h
      rfl

/-- The pieces are the run `l` at address `a`: one for each unit that it touches, each within its unit. -/
def CutsInto (a : Nat) (l : List Byte) (ps : List (Nat × List Byte)) : Prop :=
  ps.length = ceilDiv (a % 128 + l.length) 128 ∧ ps.flatMap Prod.snd = l ∧ ∀ x ∈ ps, x.1 % 128 + x.2.length ≤ 128

theorem cutsInto_nil {a : Nat} (h : a % 128 = 0) : CutsInto a [] [] := by
  simp [CutsInto, h, ceilDiv]

/-- The bytes up to the end of the unit, and the pieces of the rest. -/
theorem cutsInto_cons {a : Nat} {l : List Byte} {ps : List (Nat × List Byte)} (hl : l ≠ [])
    (h : CutsInto (a + (128 - a % 128)) (l.drop (128 - a % 128)) ps) :
    CutsInto a l ((a, l.take (128 - a % 128)) :: ps) := by
  obtain ⟨hlen, hbytes, hfit⟩ := h
  have hpos := List.length_pos_iff.2 hl
  refine ⟨?_, ?_, ?_⟩
  · rw [List.length_cons, hlen, List.length_drop]
    simp only [ceilDiv]
    omega
  · rw [List.flatMap_cons, hbytes]
    exact List.take_append_drop _ l
  · intro x hx
    obtain rfl | hx := List.mem_cons.1 hx
    · simp only [List.length_take]
      omega
    · exact hfit x hx

/-- A run that begins inside a unit must hold a byte: an empty one has no piece. -/
theorem cutRun_cutsInto {n a : Nat} {l : List Byte} (hn : l.length ≤ n) (ha : l ≠ [] ∨ a % 128 = 0) :
    CutsInto a l (cutRun n a l) := by
  induction n generalizing a l with
  | zero =>
    have hl := List.length_eq_zero_iff.1 (Nat.le_zero.1 hn)
    rw [hl, cutRun_nil]
    exact cutsInto_nil (ha.resolve_left (not_not_intro hl))
  | succ n ih =>
    by_cases hl : l = []
    · rw [hl, cutRun_nil]
      exact cutsInto_nil (ha.resolve_left (not_not_intro hl))
    · have hpos := List.length_pos_iff.2 hl
      rw [cutRun_step hl]
      exact cutsInto_cons hl (ih (by rw [List.length_drop]; omega) (.inr (by omega)))

/-- No two pieces of a run lie in one unit. -/
theorem foldr_joinUnit_cutRun (n a : Nat) (l : List Byte) :
    (cutRun n a l).foldr joinUnit [] = (cutRun n a l).map fun x => [x] := by
  induction n generalizing a l with
  | zero => rfl
  | succ n ih =>
    by_cases hl : l = []
    · rw [hl, cutRun_nil]
      rfl
    · rw [cutRun_step hl, List.foldr_cons, ih, List.map_cons]
      cases hr : cutRun n (a + (128 - a % 128)) (l.drop (128 - a % 128)) with
      | nil => rfl
      | cons y r =>
        have hy := cutRun_head_addr hr
        have hunit : y.1 / 128 ≠ a / 128 := by omega
        exact if_neg hunit

theorem unitsOf_run {l : List Byte} (h : l ≠ []) (a : Nat) :
    unitsOf [(a, l)] = (cutRun (l.length + 1) a l).map fun x => [x] := by
  rw [unitsOf, List.flatMap_singleton, foldr_joinUnit_cutRun, cutRun_step h]
  rfl

/-! ### The accesses of the memory master -/

/-- A run within one unit is one request of the whole access. -/
theorem Block.memIssue_within {a : Nat} {l : List Byte} (h : l ≠ []) (hu : a % 128 + l.length ≤ 128) (k : Block) (b : Nat)
    (use : MemUse) : k.memIssue b use [(a, l)] = ({ k with xfr.starts := k.xfr.starts + 1 } : Block).memRequest b
      { runs := [(a, l)], use := use, id := k.xfr.starts, len := l.length } := by
  rw [Block.memIssue, unitsOf_run h, cutRun_within h hu]
  exact k.memAccess_one b use [(a, l)] l.length

/-- A run is written by one request for each unit that it touches, each within its unit (R553). -/
theorem unitsOf_run_pieces {l : List Byte} (h : l ≠ []) (a : Nat) :
    (unitsOf [(a, l)]).length = ceilDiv (a % 128 + l.length) 128 ∧
    (unitsOf [(a, l)]).flatten.flatMap Prod.snd = l ∧
    ∀ u ∈ unitsOf [(a, l)], ∀ x ∈ u, x.1 % 128 + x.2.length ≤ 128 := by
  obtain ⟨hlen, hbytes, hfit⟩ := cutRun_cutsInto (a := a) (Nat.le_succ l.length) (.inl h)
  rw [unitsOf_run h]
  refine ⟨?_, ?_, ?_⟩
  · rw [List.length_map, hlen]
  · rw [← List.flatMap_def, List.flatMap_singleton', hbytes]
  · intro u hu x hx
    obtain ⟨y, hy, rfl⟩ := List.mem_map.1 hu
    rw [List.mem_singleton.1 hx]
    exact hfit y hy

end Sys2Proof.Machine
end

section
/-!
SUPPORT. Data packets at the network interface (R78, R155, R211 to R214, R553 to R556): how a consumer turns a packet
away, what R211 decides, what each decision does with the data, and what follows once the memory master has answered.
-/

namespace Sys2Proof.Machine

/-! ### The packet at the head of a receive FIFO (R78, R84) -/

section
variable {k : Block} {d : Build} {b ep : Nat} {p : Packet} {rule nack : Bool} {f : Block → Block}

theorem Block.consume_badHeader (h : headerCheck p ≠ .good) :
    k.consume d b ep p rule nack f = k.countCheck b (headerCheck p) := by
  rw [Block.consume]
  cases hc : headerCheck p with
  | good => exact absurd hc h
  | badHcrc => rfl
  | illegal => rfl

/-- A packet that its endpoint has no rule for is ILLEGAL. -/
theorem Block.consume_undelivered (hc : headerCheck p = .good) (hd : deliveredRight b ep rule p = false)
    (hs : k.strayEnd b ep p = false) : k.consume d b ep p rule nack f = k.countCheck b .illegal := by
  simp [Block.consume, hc, hd, hs]

theorem Block.consume_stray (hc : headerCheck p = .good) (hs : k.strayEnd b ep p = true) :
    k.consume d b ep p rule nack f = k.answerError d b p stNoRoute := by
  simp [Block.consume, hc, hs]

theorem Block.consume_badPayload (hc : headerCheck p = .good) (hd : deliveredRight b ep rule p = true)
    (hs : k.strayEnd b ep p = false) (hp : payloadOk p = false) :
    k.consume d b ep p rule nack f = if nack then k.sendNack d b ep p else k := by
  simp [Block.consume, hc, hd, hs, hp]

end

theorem Block.rxTake_op {k : Block} {b op : Nat} {p : Packet} {r : List Packet} (h : k.rxQueue b 0 = p :: r)
    (ho : p.op = op) : k.rxTake b 0 [op] = some (p, k.setRx b 0 r) :=
  Block.rxTake_head h (by rw [ho, List.contains_cons, beq_self_eq_true, Bool.true_or])

/-- Command `i` takes a packet of opcode `op` from the head of the NI's receive FIFO to endpoint `ep` of brick `b`, which has
the rule `f` for it where `rule` holds. -/
def TakesHead (i : Instr) (b ep op : Nat) (rule : Packet → Bool) (nack : Bool)
    (f : State → Packet → Block → Block) : Prop :=
  ∀ s : State, exec i s = s.run (brickOk s.env.build b) fun k =>
    match k.rxTake b 0 [op] with
    | none => k
    | some (p, k) => k.consume s.env.build b ep p (rule p) nack (f s p)

theorem gives_takesHead {s : State} {i : Instr} {b ep op : Nat} {rule : Packet → Bool} {nack : Bool} {p : Packet}
    {r : List Packet} {f : State → Packet → Block → Block} {k : Block} (hi : TakesHead i b ep op rule nack f)
    (hr : Ready s b) (hg : s.blk.headGood b 0 ep p r) (ho : p.op = op) (hrule : rule p = true)
    (hk : f s p (s.blk.setRx b 0 r) = k) : Gives i s k := by
  refine gives_of_run (hi s) hr.2 hr.1 ?_
  rw [Block.rxTake_op hg.1 ho]
  dsimp only
  rw [hrule, Block.consume_head hg, hk]

/-- An answer to a stream at work comes to what the command does with it (R216). -/
theorem Block.answered_atWork {k : Block} {b : Nat} {p : Packet} (hd : (k.tracker b (p.tracker % 1024)).isDest = false)
    (ho : k.ownAnswer (k.tracker b (p.tracker % 1024)) p = true)
    (hw : (k.tracker b (p.tracker % 1024)).sourceAtWork = true) (f ended : Nat → Tracker → Block) :
    k.answered b p f ended = f (p.tracker % 1024) (k.tracker b (p.tracker % 1024)) := by
  simp [Block.answered, hd, ho, hw]

/-! ### The commands that take a data packet (R81, R155, R207, R211, R400) -/

section
variable {s : State} {b : Nat} {p : Packet} {r : List Packet}

theorem gives_write_take (hr : Ready s b) (hg : s.blk.headGood b 0 0 p r) (ho : p.op = opWrite)
    (hf : (s.blk.setRx b 0 r).recOf b p.addr .forward = none)
    (hl : (s.blk.setRx b 0 r).recOf b p.addr .logwait = none) :
    Gives (.write b) s ((s.blk.setRx b 0 r).takeData s.env.build b p) :=
  gives_takesHead (fun _ => rfl) hr hg ho (beq_iff_eq.2 ho) (by rw [hf, hl]; rfl)

theorem gives_write_forward {m : Nat} (hr : Ready s b) (hg : s.blk.headGood b 0 0 p r) (ho : p.op = opWrite)
    (hf : (s.blk.setRx b 0 r).recOf b p.addr .forward = some m) :
    Gives (.write b) s ((s.blk.setRx b 0 r).forwardOld s.env.build b m p) :=
  gives_takesHead (fun _ => rfl) hr hg ho (beq_iff_eq.2 ho) (by rw [hf])

theorem gives_chunk (hr : Ready s b) (hg : s.blk.headGood b 0 0 p r) (ho : p.op = opChunk) :
    Gives (.chunk b) s ((s.blk.setRx b 0 r).takeData s.env.build b p) :=
  gives_takesHead (fun _ => rfl) hr hg ho (beq_iff_eq.2 ho) rfl

theorem gives_mcastDelivery (hr : Ready s b) (hg : s.blk.headGood b 0 0 p r) (ho : p.op = opMcast) :
    Gives (.mcastDelivery b) s ((s.blk.setRx b 0 r).takeData s.env.build b p) :=
  gives_takesHead (fun _ => rfl) hr hg ho (beq_iff_eq.2 ho) rfl

/-- The rule of an opcode whose packets have 8 payload bytes. -/
theorem rule_plen8 {op : Nat} (ho : p.op = op) (hl : p.plen = 8) : (p.op == op && p.plen == 8) = true := by
  rw [ho, hl, beq_self_eq_true]
  rfl

/-- A READREQ at the memory of its brick: the request store takes it, or has no room and discards it (R155). -/
theorem gives_readreq (hr : Ready s b) (hg : s.blk.headGood b 0 0 p r) (ho : p.op = opReadReq) (hlen : p.plen = 8)
    (hf : (s.blk.setRx b 0 r).recOf b p.addr .forward = none)
    (hl : (s.blk.setRx b 0 r).recOf b p.addr .logwait = none) :
    Gives (.readreq b) s
      (if requestDepth ≤ (look [] s.blk.xfr.requests b).length + s.blk.answering s.env.build b 0 opReadResp then
        (s.blk.setRx b 0 r).bump .SHW_ERR 47 32 b
      else (({ s.blk.setRx b 0 r with
          xfr.requests := put [] s.blk.xfr.requests b (look [] s.blk.xfr.requests b ++ [p]) } : Block).memFetch b
        (.packet p) (p.addr % 2 ^ 48) (min 8256 (natAt p.payload 0 4)))) :=
  gives_takesHead (fun _ => rfl) hr hg ho (rule_plen8 ho hlen) (by rw [hf, hl]; rfl)

/-- The data of an RLOAD goes to memory where its descriptor says (R207). -/
theorem gives_readresp_rload {v : Tracker} {off len : Nat} (hr : Ready s b) (hg : s.blk.headGood b 0 1 p r)
    (ho : p.op = opReadResp) (hopen : s.blk.lpOpen b = true) (hv : s.blk.tracker b (p.tracker % 1024) = v)
    (hd : v.isDest = false) (hst : v.st = .source) (hop : v.op = .rload) (hcount : p.pcount = v.pcount)
    (hlow : v.b ≤ p.pseq) (hseen : v.seen.contains p.pseq = false) (hissued : p.pseq < v.issued)
    (hpiece : v.pieces.getD p.pseq (0, 0) = (off, len)) (hlen : p.payload.length = len) :
    Gives (.readresp b) s
      ((s.blk.setRx b 0 r).memIssue b (.packet p) [((v.desc.da + off) % 2 ^ 48, p.payload)]) := by
  have hv' : (s.blk.setRx b 0 r).tracker b (p.tracker % 1024) = v := hv
  have hopen' : (s.blk.setRx b 0 r).lpOpen b = true := hopen
  have hown : (s.blk.setRx b 0 r).ownAnswer v p = true := by
    rw [Block.ownAnswer, hop, hcount]
    exact beq_self_eq_true _
  have hwork : v.sourceAtWork = true := by
    rw [Tracker.sourceAtWork, hst]
    rfl
  have hnew : ¬(p.pseq < v.b ∨ v.seen.contains p.pseq = true ∨ v.issued ≤ p.pseq) := by
    rw [hseen]
    simp only [Bool.false_eq_true, false_or]
    omega
  refine gives_takesHead (fun _ => rfl) hr hg ho (beq_iff_eq.2 ho) ?_
  rw [Block.answered_atWork (by rw [hv', hd]) (by rw [hv', hown]) (by rw [hv', hwork]), hv', if_neg hnew, hop]
  simp only [hpiece, hopen', hlen, Bool.not_true, Bool.false_eq_true, if_false, ne_eq, not_true_eq_false]

theorem gives_counter_new {k : Block} (hr : Ready s b) (hg : s.blk.headGood b 0 1 p r) (ho : p.op = opCounter)
    (hlen : p.plen = 8) (ha : (s.blk.setRx b 0 r).arriveOnce b (p.src, p.tracker) = (some true, k)) :
    Gives (.counter b) s
      ((k.counterAdd b (natAt p.payload 0 1) (natAt p.payload 4 4)).ackAlone s.env.build b 1 p) :=
  gives_takesHead (fun _ => rfl) hr hg ho (rule_plen8 ho hlen) (by rw [ha])

theorem gives_counter_known {k : Block} (hr : Ready s b) (hg : s.blk.headGood b 0 1 p r) (ho : p.op = opCounter)
    (hlen : p.plen = 8) (ha : (s.blk.setRx b 0 r).arriveOnce b (p.src, p.tracker) = (some false, k)) :
    Gives (.counter b) s (k.ackAlone s.env.build b 1 p) :=
  gives_takesHead (fun _ => rfl) hr hg ho (rule_plen8 ho hlen) (by rw [ha])

end

/-! ### The decision of R211 -/

section
variable {k : Block} {b : Nat} {p : Packet}

theorem Block.arrival_pool (h : 512 ≤ p.tracker % 1024) : k.arrival b p = .untracked :=
  if_pos (.inl h)

/-- A bound IDLE tracker takes a packet of its first 256. -/
theorem Block.arrival_idle (ht : p.tracker % 1024 < 512) (hb : flag (k.binding b (p.tracker % 1024)) 63 = true)
    (hst : (k.tracker b (p.tracker % 1024)).st = .idle) :
    k.arrival b p = if 256 ≤ p.pseq then .window else .accept := by
  simp [Block.arrival, Nat.not_le.2 ht, hb, hst]

theorem Block.arrival_clash (ht : p.tracker % 1024 < 512) (hst : (k.tracker b (p.tracker % 1024)).st = .dest)
    (ho : (p.src, p.pcount) ≠ ((k.tracker b (p.tracker % 1024)).owner, (k.tracker b (p.tracker % 1024)).pcount)) :
    k.arrival b p = .clash := by
  simp [Block.arrival, Nat.not_le.2 ht, hst, ho]

/-- A tracker in DEST on a packet of its own stream: one that it has is a duplicate, one 256 or more above its lowest
missing is outside the window. -/
theorem Block.arrival_dest (ht : p.tracker % 1024 < 512) (hst : (k.tracker b (p.tracker % 1024)).st = .dest)
    (ho : (p.src, p.pcount) = ((k.tracker b (p.tracker % 1024)).owner, (k.tracker b (p.tracker % 1024)).pcount)) :
    k.arrival b p =
      if p.pseq < (k.tracker b (p.tracker % 1024)).b ∨ (k.tracker b (p.tracker % 1024)).seen.contains p.pseq = true then
        .duplicate
      else if (k.tracker b (p.tracker % 1024)).b + 256 ≤ p.pseq then .window
      else .accept := by
  simp [Block.arrival, Nat.not_le.2 ht, hst, ho]

/-- The packet that a tracker in DEST misses lowest is accepted, all those above being still to come. -/
theorem Block.arrival_next (ht : p.tracker % 1024 < 512) (hst : (k.tracker b (p.tracker % 1024)).st = .dest)
    (ho : (p.src, p.pcount) = ((k.tracker b (p.tracker % 1024)).owner, (k.tracker b (p.tracker % 1024)).pcount))
    (hp : p.pseq = (k.tracker b (p.tracker % 1024)).b) (hs : (k.tracker b (p.tracker % 1024)).seen = []) :
    k.arrival b p = .accept := by
  rw [Block.arrival_dest ht hst ho, hp, hs, if_neg (by simp), if_neg (by omega)]

end

/-! ### What the decision does with the data -/

section
variable {k : Block} {d : Build} {b : Nat} {p : Packet}

theorem Block.takeData_window (h : k.arrival b p = .window) :
    k.takeData d b p = (k.beginDest d b p).bump .TRK_ERR 47 32 b := by
  rw [Block.takeData, h]

theorem Block.takeData_clash (h : k.arrival b p = .clash) : k.takeData d b p = k.clash b p := by
  rw [Block.takeData, h]

theorem Block.takeData_untracked (h : k.arrival b p = .untracked) :
    k.takeData d b p = k.memIssue b (.alone p) [(p.addr % 2 ^ 48, p.payload)] := by
  rw [Block.takeData, h]

theorem Block.takeData_accept (h : k.arrival b p = .accept) :
    k.takeData d b p = (k.beginDest d b p).memIssue b (.packet p) [(p.addr % 2 ^ 48, p.payload)] := by
  rw [Block.takeData, h]

theorem Block.takeData_duplicate (h : k.arrival b p = .duplicate) : k.takeData d b p = k.ackDuplicate d b p := by
  rw [Block.takeData, h]

theorem Block.beginDest_dest (h : (k.tracker b (p.tracker % 1024)).st = .dest) : k.beginDest d b p = k := by
  simp [Block.beginDest, h]

theorem Block.beginDest_idle (h : (k.tracker b (p.tracker % 1024)).st = .idle) :
    k.beginDest d b p = k.setTracker b (p.tracker % 1024)
      { st := .dest, isDest := true, op := if p.op = opMcast then .mcast else .copy, owner := p.src, pcount := p.pcount
        sys := p.op == opMcast || !inPackage d p.src, hdr := { p with payload := [] } } :=
  if_pos h

theorem Block.ackDuplicate_mcast (h : p.op = opMcast) : k.ackDuplicate d b p = k :=
  if_pos h

/-- A duplicate of a stream that is over is answered with the final ACK (R212). -/
theorem Block.ackDuplicate_over (ho : p.op ≠ opMcast) (h : (k.tracker b (p.tracker % 1024)).st ≠ .dest) :
    k.ackDuplicate d b p = k.ackTracked d b p (k.tracker b (p.tracker % 1024)).pcount 0 := by
  simp [Block.ackDuplicate, ho, h]

theorem Block.ackDuplicate_first (ho : p.op ≠ opMcast) (h : (k.tracker b (p.tracker % 1024)).st = .dest)
    (hd : (k.tracker b (p.tracker % 1024)).dupAck = none) :
    k.ackDuplicate d b p = (k.setTracker b (p.tracker % 1024)
      { k.tracker b (p.tracker % 1024) with dupAck := some k.gtime }).ackDest d b (p.tracker % 1024) p := by
  simp [Block.ackDuplicate, ho, h, hd]

/-- Within ACKT of the ACK for a duplicate, no other duplicate is answered (R212). -/
theorem Block.ackDuplicate_within {g : Nat} (ho : p.op ≠ opMcast) (h : (k.tracker b (p.tracker % 1024)).st = .dest)
    (hd : (k.tracker b (p.tracker % 1024)).dupAck = some g)
    (hg : k.gtime < g + k.rf .TRK_CTL 23 16 b * 6553600) : k.ackDuplicate d b p = k := by
  simp [Block.ackDuplicate, ho, h, hd, hg]

/-! ### The data is in memory (R211, R213, R214) -/

theorem Block.noteWrite_other (h : p.op ≠ opWrite) : k.noteWrite b p = k :=
  if_neg h

theorem Block.aloneWritten_write (h : p.op = opWrite) :
    k.aloneWritten d b p false = (k.dirtyChunks b p.addr p.plen).ackAlone d b 1 p := by
  simp [Block.aloneWritten, Block.noteWrite, h, opWrite, opMcast]

end

/-! ### A tracked packet counts (R211, R212) -/

/-- A destination's tracker once it has counted a packet. -/
def Tracker.counted (v : Tracker) (p : Packet) : Tracker :=
  let seen := v.seen ++ [p.pseq]
  let nb := lowestFree v.b seen (seen.length + 1)
  { v with
    seen := seen.filter (fun s => decide (nb ≤ s)), b := nb, done := v.done + 1, bytes := v.bytes + p.plen
    ackDue := v.ackDue + 1, hdr := { p with payload := [] } }

/-- The packet that a tracker missed lowest is counted, all those above being still to come. -/
theorem Tracker.counted_next {v : Tracker} {p : Packet} (hp : p.pseq = v.b) (hs : v.seen = []) : v.counted p =
    { v with b := v.b + 1, done := v.done + 1, bytes := v.bytes + p.plen, ackDue := v.ackDue + 1,
             hdr := { p with payload := [] } } := by
  have hb : lowestFree v.b [v.b] 2 = v.b + 1 := by simp [lowestFree]
  simp [Tracker.counted, hp, hs, hb]

/-- What follows once tracker `t` has counted a packet, and is `w`: the ACK that is due, and its end at the count. -/
def Block.afterCount (k : Block) (d : Build) (b t : Nat) (w : Tracker) : Block :=
  let n := k.setTracker b t w
  let all := decide (w.done = w.pcount)
  let owed := (n.ackStands b (n.response d b 1 opAck 5 0 w.hdr)).isSome
  let n := if all || decide (64 ≤ w.ackDue) || owed then n.ackDest d b t w.hdr else n
  if all then n.completeTracker b t stOk else n

theorem Block.countArrival_new {k : Block} {b : Nat} {p : Packet} (hst : (k.tracker b (p.tracker % 1024)).st = .dest)
    (ho : (p.src, p.pcount) = ((k.tracker b (p.tracker % 1024)).owner, (k.tracker b (p.tracker % 1024)).pcount))
    (hp : (k.tracker b (p.tracker % 1024)).b ≤ p.pseq) (hs : (k.tracker b (p.tracker % 1024)).seen.contains p.pseq = false)
    (d : Build) :
    k.countArrival d b p = k.afterCount d b (p.tracker % 1024) ((k.tracker b (p.tracker % 1024)).counted p) := by
  rw [Block.countArrival]
  refine if_neg ?_
  rw [hs]
  simp [hst, ho, hp]

section
variable {k : Block} {d : Build} {b t : Nat} {w : Tracker}

theorem Block.afterCount_quiet (hd : w.done ≠ w.pcount) (ha : w.ackDue < 64)
    (hs : k.ackStands b (k.response d b 1 opAck 5 0 w.hdr) = none) : k.afterCount d b t w = k.setTracker b t w := by
  have hs' : (k.setTracker b t w).ackStands b ((k.setTracker b t w).response d b 1 opAck 5 0 w.hdr) = none := hs
  simp [Block.afterCount, hd, Nat.not_le.2 ha, hs']

theorem Block.afterCount_last (hd : w.done = w.pcount) :
    k.afterCount d b t w = ((k.setTracker b t w).ackDest d b t w.hdr).completeTracker b t stOk := by
  simp [Block.afterCount, hd]

end

theorem Block.dataWritten_accepted {k : Block} {b : Nat} {p : Packet} (ho : p.op ≠ opWrite)
    (ha : k.arrival b p = .accept) (d : Build) : k.dataWritten d b p false = k.countArrival d b p := by
  rw [Block.dataWritten, if_neg Bool.false_ne_true, Block.noteWrite_other ho]
  dsimp only
  rw [ha]

/-! ### The memory master's answers (R554, R556) -/

/-- The block once a request of brick `b` has failed: a read and a write are counted apart (R556). -/
def Block.countFailure (k : Block) (b : Nat) (q : MemReq) : Block :=
  k.bump .NI_LPERR (if q.isRead then 47 else 63) (if q.isRead then 32 else 48) b

theorem Block.countFailure_eq (k : Block) (b : Nat) (q : MemReq) :
    k.countFailure b q = if q.isRead then k.bump .NI_LPERR 47 32 b else k.bump .NI_LPERR 63 48 b := by
  rw [Block.countFailure]
  cases q.isRead <;> rfl

section
variable {s : State} {b tag : Nat} {q : MemReq}

theorem State.runMem_tag {s : State} {b tag : Nat} (hr : Ready s b) (ht : tag < 1024)
    (f : List Host.Cell × Block → List Host.Cell × Block) :
    s.runMem (brickOk s.env.build b && decide (tag < 1024)) f =
      .next { s with env := { s.env with mem := (f (s.env.mem, s.blk)).1 }, blk := (f (s.env.mem, s.blk)).2 } := by
  simp [State.runMem, hr.1, hr.2, ht]

/-- A request is answered without an error: its bytes are in memory, and with the last request of its access comes what the
access was for. -/
theorem exec_lpmResponse_ok (hr : Ready s b) (ht : tag < 1024) (hq : s.blk.memReq b tag = some q) :
    ∃ t, exec (.lpmResponse b tag false) s = .next t ∧
      t.blk = if (s.blk.memAnswered b tag).accessOpen b q.id then s.blk.memAnswered b tag
        else (s.blk.memAnswered b tag).memResponse { s.env with mem := writeRuns s.env.mem b q.runs } b q q.bad := by
  show ∃ t, execLpmResponse b tag false s = .next t ∧ _
  rw [execLpmResponse, State.runMem_tag hr ht]
  refine ⟨_, rfl, ?_⟩
  simp only [hq, Bool.not_false, Bool.false_or, if_true, Bool.false_eq_true, if_false]
  exact apply_ite Prod.snd _ _ _

/-- A request is answered with an error: it is counted, and the access fails with its last answer. -/
theorem exec_lpmResponse_err (hr : Ready s b) (ht : tag < 1024) (hq : s.blk.memReq b tag = some q) :
    ∃ t, exec (.lpmResponse b tag true) s = .next t ∧
      t.blk = if ((s.blk.memAnswered b tag).countFailure b q).accessOpen b q.id then
          ((s.blk.memAnswered b tag).countFailure b q).failAccess b q.id
        else ((s.blk.memAnswered b tag).countFailure b q).memResponse s.env b q true := by
  show ∃ t, execLpmResponse b tag true s = .next t ∧ _
  rw [execLpmResponse, State.runMem_tag hr ht]
  refine ⟨_, rfl, ?_⟩
  simp only [hq, Bool.not_true, Bool.true_or, if_true, Bool.false_eq_true, if_false, ← Block.countFailure_eq]
  exact apply_ite Prod.snd _ _ _

end

section
variable {k : Block} {b t : Nat} {q : MemReq}

/-- A source whose read fails ends with PROGRAM_FAULT (R556). -/
theorem Block.memResponse_source_err (hu : q.use = .source t) (hid : (k.tracker b t).reading = some q.id) (e : Env) :
    k.memResponse e b q true = ((k.completeTracker b t stProgramFault).issue e b t).settle e b t := by
  rw [Block.memResponse, hu]
  exact (if_neg (not_not_intro hid)).trans (if_pos rfl)

/-- The data of the packet that a source stages next are there: it is staged, and the source goes on. -/
theorem Block.memResponse_source_ok {x : ToSend} {r : List ToSend} (hu : q.use = .source t)
    (hid : (k.tracker b t).reading = some q.id) (ht : (k.tracker b t).todo = x :: r)
    (hx : (k.tracker b t).stillWanted x = true) (e : Env) : k.memResponse e b q false =
      (((k.setTracker b t { k.tracker b t with todo := r, reading := none }).stagePart e b t x).issue e b t).settle
        e b t := by
  have harrived : k.sourceArrived e b t =
      (k.setTracker b t { k.tracker b t with todo := r, reading := none }).stagePart e b t x := by
    rw [Block.sourceArrived, ht]
    exact if_pos hx
  rw [Block.memResponse, hu, ← harrived]
  exact (if_neg (not_not_intro hid)).trans (if_neg Bool.false_ne_true)

end

end Sys2Proof.Machine
end

section
/-!
The statement about data packets at the network interface (R155, R211 to R214, R553 to R556).
-/

namespace Sys2Proof.Machine

/-- Settles O15: each command by what it gives in the case named, each decision of R211 by the packets that meet it and by
what it does with the data, and each answer of the memory master by what it brings. -/
theorem dataPacketsAreTakenByTheirTracker : Obligations.DataPacketsAreTakenByTheirTracker := by
  unfold Obligations.DataPacketsAreTakenByTheirTracker
  refine ⟨?write, ?writeForward, ?chunk, ?mcast, ?readreq, ?readreqFull, ?readresp, ?counterNew, ?counterKnown,
    ?badHeader, ?undelivered, ?stray, ?badPayload, ?untracked, ?idleAccepts, ?clash, ?duplicate, ?window, ?idleWindow,
    ?takeWindow, ?takeClash, ?takeUntracked, ?takeAccept, ?takeDuplicate, ?oneUnit, ?units, ?aloneWritten, ?failed,
    ?counted, ?answered, ?sourceRead⟩
  case write => exact fun s b p r hr hg ho hf hl => gives_write_take hr hg ho hf hl
  case writeForward => exact fun s b m p r hr hg ho hf => gives_write_forward hr hg ho hf
  case chunk => exact fun s b p r hr hg ho => gives_chunk hr hg ho
  case mcast => exact fun s b p r hr hg ho => gives_mcastDelivery hr hg ho
  case readreq =>
    intro s b p r hr hg ho hlen hf hl hroom
    have hgives := gives_readreq hr hg ho hlen hf hl
    rwa [if_neg (Nat.not_le.2 hroom)] at hgives
  case readreqFull =>
    intro s b p r hr hg ho hlen hf hl hfull
    have hgives := gives_readreq hr hg ho hlen hf hl
    rwa [if_pos hfull] at hgives
  case readresp =>
    exact fun s b p r off len hr hg ho hopen hd hst hop hcount hlow hseen hissued hpiece hlen =>
      gives_readresp_rload hr hg ho hopen rfl hd hst hop hcount hlow hseen hissued hpiece hlen
  case counterNew => exact fun s b p r k hr hg ho hlen ha => gives_counter_new hr hg ho hlen ha
  case counterKnown => exact fun s b p r k hr hg ho hlen ha => gives_counter_known hr hg ho hlen ha
  case badHeader => exact fun k d b ep p rule nack f hc => Block.consume_badHeader hc
  case undelivered => exact fun k d b ep p rule nack f hc hd hs => Block.consume_undelivered hc hd hs
  case stray => exact fun k d b ep p rule nack f hc hs => Block.consume_stray hc hs
  case badPayload => exact fun k d b ep p rule nack f hc hd hs hp => Block.consume_badPayload hc hd hs hp
  case untracked => exact fun k b p h => Block.arrival_pool h
  case idleAccepts =>
    exact fun k b p ht hb hst hp => (Block.arrival_idle ht hb hst).trans (if_neg (Nat.not_le.2 hp))
  case clash => exact fun k b p ht hst ho => Block.arrival_clash ht hst ho
  case duplicate =>
    exact fun k b p ht hst ho hp => (Block.arrival_dest ht hst ho).trans (if_pos (.inl hp))
  case window =>
    intro k b p ht hst ho hs hp
    rw [Block.arrival_dest ht hst ho, hs, if_neg (by simp; omega), if_pos hp]
  case idleWindow => exact fun k b p ht hb hst hp => (Block.arrival_idle ht hb hst).trans (if_pos hp)
  case takeWindow => exact fun k d b p h => Block.takeData_window h
  case takeClash => exact fun k d b p h => Block.takeData_clash h
  case takeUntracked => exact fun k d b p h => Block.takeData_untracked h
  case takeAccept =>
    intro k d b p h t runs
    refine ⟨fun hst => ?_, fun hst => ?_⟩
    · rw [Block.takeData_accept h, Block.beginDest_dest hst]
    · rw [Block.takeData_accept h, Block.beginDest_idle hst]
  case takeDuplicate =>
    intro k d b p h t v
    rw [Block.takeData_duplicate h]
    exact ⟨fun ho => Block.ackDuplicate_mcast ho, fun ho hst => Block.ackDuplicate_over ho hst,
      fun ho hst hd => Block.ackDuplicate_first ho hst hd, fun g ho hst hd hg => Block.ackDuplicate_within ho hst hd hg⟩
  case oneUnit => exact fun k b a use l hl hu => Block.memIssue_within hl hu k b use
  case units => exact fun a l hl => unitsOf_run_pieces hl a
  case aloneWritten => exact fun k d b p ho => Block.aloneWritten_write ho
  case failed => exact fun k d b p => ⟨rfl, rfl⟩
  case counted =>
    intro k d b p ho t v w ht hst hown hp hs
    have hcounts : k.dataWritten d b p false = k.afterCount d b t w := by
      rw [Block.dataWritten_accepted (by rw [ho]; decide) (Block.arrival_next ht hst hown hp hs),
        Block.countArrival_new hst hown (Nat.le_of_eq hp.symm) (by rw [hs]; rfl), Tracker.counted_next hp hs]
    rw [hcounts]
    exact ⟨fun hd ha hstands => Block.afterCount_quiet hd (Nat.succ_lt_succ ha) hstands,
      fun hd => Block.afterCount_last hd⟩
  case answered =>
    exact fun s b tag q hr ht hq => ⟨exec_lpmResponse_ok hr ht hq, exec_lpmResponse_err hr ht hq⟩
  case sourceRead =>
    exact fun k e b t q x r hu hid ht =>
      ⟨Block.memResponse_source_err hu hid e, fun hx => Block.memResponse_source_ok hu hid ht hx e⟩

end Sys2Proof.Machine
end

section
/-!
The statement about writes of ring registers (R222, R231, R237, R238): FCLK that pass while a trace record waits for its
SRAM (R529), at which it fails.
-/

namespace Sys2Proof.Machine

/-- The trace is on, its SRAM has been written in this MCLK, and a record reaches the root: it waits for the next MCLK
(R529). -/
def traceWaiting : Block := (({ hlth.sramAt := 1 } : Block).setBit .PRB_TCTL 63).traceWrite [1]

/-- Refutes O17: its clause on the FCLK that pass says that, but for the writes of the FCLK before, nothing changes then
except the course clock; but a trace record that waits is written to its SRAM in the MCLK that comes (R529). The
counterexample: one record waits, four FCLK pass, and none waits any more. -/
theorem not_ringRegistersAreWritten : ¬ Obligations.RingRegistersAreWritten := by
  unfold Obligations.RingRegistersAreWritten
  rintro ⟨-, -, hpass, -⟩
  have hsame := hpass traceWaiting {} 4 (by decide) (by decide +kernel)
  have hdrained : (traceWaiting.pass {} 4).hlth.traceBuf = [] := by decide +kernel
  have hwaits : traceWaiting.hlth.traceBuf = [[1]] := by decide +kernel
  rw [hsame] at hdrained
  exact List.cons_ne_nil _ _ (hwaits.symm.trans hdrained)

end Sys2Proof.Machine
end

section
/-!
The statement about the record order of SORT and MERGE (R257, R258).
-/

namespace Sys2Proof.Machine

/-- Of two records at most one precedes the other. -/
theorem recBefore_asymm {kt : Nat} {desc : Bool} {a b : List Byte} (h : recBefore kt desc a b = true) :
    recBefore kt desc b a = false := by
  unfold recBefore at *
  grind

theorem insertRec_perm (kt : Nat) (desc : Bool) (r : List Byte) (l : List (List Byte)) :
    (insertRec kt desc r l).Perm (r :: l) := by
  induction l with
  | nil => exact .refl _
  | cons x t ih =>
    rw [insertRec]
    split
    · exact (ih.cons x).trans (.swap r x t)
    · exact .refl _

/-- A list is in order where its tail is, and the first record of the tail does not precede its head. -/
theorem recsSorted_cons {kt : Nat} {desc : Bool} {x : List Byte} {l : List (List Byte)} :
    recsSorted kt desc (x :: l) = true ↔ (∀ y ∈ l.head?, recBefore kt desc y x = false) ∧ recsSorted kt desc l = true := by
  cases l <;> simp [recsSorted]

/-- The first record after an insertion is the one inserted, or was first before. -/
theorem head_insertRec {kt : Nat} {desc : Bool} {r y : List Byte} {l : List (List Byte)}
    (h : y ∈ (insertRec kt desc r l).head?) : y = r ∨ y ∈ l.head? := by
  cases l with
  | nil => exact .inl (Option.some.inj h).symm
  | cons x t =>
    rw [insertRec] at h
    split at h
    · exact .inr h
    · exact .inl (Option.some.inj h).symm

theorem recsSorted_insertRec {kt : Nat} {desc : Bool} {r : List Byte} {l : List (List Byte)}
    (h : recsSorted kt desc l = true) : recsSorted kt desc (insertRec kt desc r l) = true := by
  induction l with
  | nil => rfl
  | cons x t ih =>
    obtain ⟨hx, ht⟩ := recsSorted_cons.1 h
    rw [insertRec]
    split
    · next hb =>
      refine recsSorted_cons.2 ⟨fun y hy => ?_, ih ht⟩
      obtain rfl | hy := head_insertRec hy
      · exact recBefore_asymm hb
      · exact hx y hy
    · next hb =>
      refine recsSorted_cons.2 ⟨fun y hy => ?_, h⟩
      obtain rfl := Option.some.inj hy
      exact Bool.eq_false_iff.2 hb

/-- A record that the first of a list does not precede is inserted before it. -/
theorem insertRec_of_sorted {kt : Nat} {desc : Bool} {x : List Byte} {l : List (List Byte)}
    (h : ∀ y ∈ l.head?, recBefore kt desc y x = false) : insertRec kt desc x l = x :: l := by
  cases l with
  | nil => rfl
  | cons y t => simp [insertRec, h y rfl]

/-- Settles O30: insertion keeps the records and their order, and puts a record that is in its place where it was; sorting
is insertion, record after record. -/
theorem sortOrdersTheRecords : Obligations.SortOrdersTheRecords := by
  unfold Obligations.SortOrdersTheRecords
  intro kt desc l
  induction l with
  | nil => exact ⟨.refl _, rfl, fun _ => rfl⟩
  | cons x t ih =>
    obtain ⟨hperm, hsorted, hfix⟩ := ih
    have hstep : sortRecs kt desc (x :: t) = insertRec kt desc x (sortRecs kt desc t) := rfl
    rw [hstep]
    refine ⟨(insertRec_perm ..).trans (hperm.cons x), recsSorted_insertRec hsorted, fun h => ?_⟩
    obtain ⟨hx, ht⟩ := recsSorted_cons.1 h
    rw [hfix ht, insertRec_of_sorted hx]

end Sys2Proof.Machine
end

section
/-!
SUPPORT. Integer codes and their operations (R256, R275, R281, R282, R287): a code as a two's complement number, clipping,
the saturating sum, and the greatest and least operand.
-/

namespace Sys2Proof.Machine

/-! ### Codes in two's complement (R275) -/

theorem two_pow_pred_int {w : Nat} (hw : 0 < w) : (2 : Int) ^ w = 2 ^ (w - 1) * 2 := by
  exact_mod_cast (Nat.two_pow_pred_mul_two hw).symm

theorem two_pow_pos_int (n : Nat) : (0 : Int) < 2 ^ n := by
  exact_mod_cast Nat.two_pow_pos n

theorem two_pow_mono_int {m n : Nat} (h : m ≤ n) : (2 : Int) ^ m ≤ 2 ^ n := by
  exact_mod_cast Nat.pow_le_pow_right (n := 2) (by decide) h

/-- `z` is the value of a code of `w` bits. -/
def FitsBits (w : Nat) (z : Int) : Prop := -(2 : Int) ^ (w - 1) ≤ z ∧ z < (2 : Int) ^ (w - 1)

theorem FitsBits.mono {v w : Nat} {z : Int} (h : FitsBits v z) (hvw : v ≤ w) : FitsBits w z := by
  have hp : (2 : Int) ^ (v - 1) ≤ 2 ^ (w - 1) := two_pow_mono_int (Nat.sub_le_sub_right hvw 1)
  obtain ⟨hl, hu⟩ := h
  exact ⟨by omega, by omega⟩

theorem ofSigned_lt (w : Nat) (z : Int) : ofSigned w z < 2 ^ w := by
  have hp := two_pow_pos_int w
  rw [ofSigned, Int.toNat_lt (Int.emod_nonneg z (Ne.symm (Int.ne_of_lt hp)))]
  exact_mod_cast Int.emod_lt_of_pos z hp

theorem toSigned_fits {w : Nat} (hw : 0 < w) (c : Nat) : FitsBits w (toSigned w c) := by
  have hc := Nat.mod_lt c (Nat.two_pow_pos w)
  have hn : ((2 ^ (w - 1) : Nat) : Int) = 2 ^ (w - 1) := by norm_cast
  rw [FitsBits, toSigned, two_pow_pred_int hw, ← hn]
  rw [← Nat.two_pow_pred_mul_two hw] at hc ⊢
  split <;> omega

/-- A number that fits comes back from its code. -/
theorem toSigned_ofSigned {w : Nat} {z : Int} (hw : 0 < w) (h : FitsBits w z) : toSigned w (ofSigned w z) = z := by
  obtain ⟨hl, hu⟩ := h
  have hn : ((2 ^ (w - 1) : Nat) : Int) = 2 ^ (w - 1) := by norm_cast
  have h2 := two_pow_pred_int hw
  have hcode : ofSigned w z = if 0 ≤ z then z.toNat else (z + 2 ^ w).toNat := by
    rw [ofSigned]
    split
    · rw [Int.emod_eq_of_lt (by omega) (by omega)]
    · rw [← Int.add_emod_right, Int.emod_eq_of_lt (by omega) (by omega)]
  rw [toSigned, Nat.mod_eq_of_lt (ofSigned_lt w z), hcode]
  split <;> split <;> omega

/-- A code comes back from its number. -/
theorem ofSigned_toSigned {w c : Nat} (hc : c < 2 ^ w) : ofSigned w (toSigned w c) = c := by
  have hmod : ((c : Nat) : Int) % 2 ^ w = c := by
    exact_mod_cast congrArg Nat.cast (Nat.mod_eq_of_lt hc)
  rw [ofSigned, toSigned, Nat.mod_eq_of_lt hc]
  split
  · rw [hmod, Int.toNat_natCast]
  · rw [Int.sub_emod_right, hmod, Int.toNat_natCast]

/-! ### Clipping (R282, R287) -/

theorem clip_fits (w : Nat) (z : Int) : FitsBits w (clip w z).1 := by
  have hp := two_pow_pos_int (w - 1)
  rw [FitsBits, clip]
  split
  · exact ⟨Int.le_refl _, by omega⟩
  · split
    · exact ⟨by omega, by omega⟩
    · exact ⟨by omega, by omega⟩

/-- What fits is left as it is, and nothing else is. -/
theorem clip_exact_iff {w : Nat} {z : Int} : (clip w z).2 = false ↔ FitsBits w z := by
  rw [FitsBits, clip]
  split
  · simp; omega
  · split
    · simp; omega
    · simp; omega

theorem clip_of_fits {w : Nat} {z : Int} (h : FitsBits w z) : clip w z = (z, false) := by
  obtain ⟨hl, hu⟩ := h
  rw [clip, if_neg (by omega), if_neg (by omega)]

theorem clip_eq_iff {w : Nat} {z : Int} : (clip w z).1 = z ↔ FitsBits w z :=
  ⟨fun h => h ▸ clip_fits w z, fun h => congrArg Prod.fst (clip_of_fits h)⟩

/-- Clipping to more bits first changes nothing. -/
theorem clip_clip {v w : Nat} (z : Int) (hwv : w ≤ v) : (clip w (clip v z).1).1 = (clip w z).1 := by
  have hp : (2 : Int) ^ (w - 1) ≤ 2 ^ (v - 1) := two_pow_mono_int (Nat.sub_le_sub_right hwv 1)
  have h0 := two_pow_pos_int (w - 1)
  simp only [clip]
  grind

/-! ### The flags of integer addition (R299) -/

/-- An integer addition raises nothing, or OVERFLOW and SATURATED. -/
def clipFlags (cl : Bool) : Nat := if cl then flOverflow ||| flSaturated else 0

theorem clipFlags_or (x y : Bool) : clipFlags x ||| clipFlags y = clipFlags (x || y) := by
  cases x <;> cases y <;> rfl

theorem clipFlags_cases (x : Bool) : clipFlags x = 0 ∨ clipFlags x = flOverflow ||| flSaturated := by
  cases x
  · exact .inl rfl
  · exact .inr rfl

theorem clipFlags_eq_zero {x : Bool} : clipFlags x = 0 ↔ x = false := by
  cases x <;> decide

/-! ### The saturating sum (R282, R287) -/

/-- One addition: the sum so far and its flags, and the next operand. -/
def addStep (w : Nat) (acc : Int × Nat) (y : Int) : Int × Nat :=
  ((clip w (acc.1 + y)).1, acc.2 ||| clipFlags (clip w (acc.1 + y)).2)

theorem addInts_cons (w : Nat) (v : Int) (r : List Int) : addInts w (v :: r) = r.foldl (addStep w) (v, 0) := rfl

/-- One more operand is added last. -/
theorem addInts_snoc (w : Nat) {l : List Int} (y : Int) (h : l ≠ []) : addInts w (l ++ [y]) =
    ((clip w ((addInts w l).1 + y)).1, (addInts w l).2 ||| clipFlags (clip w ((addInts w l).1 + y)).2) := by
  cases l with
  | nil => exact absurd rfl h
  | cons v r =>
    rw [List.cons_append, addInts_cons, addInts_cons, List.foldl_append, List.foldl_cons, List.foldl_nil]
    rfl

theorem addStep_foldl_flags (w : Nat) (r : List Int) {acc : Int × Nat} (h : ∃ x, acc.2 = clipFlags x) :
    ∃ x, (r.foldl (addStep w) acc).2 = clipFlags x := by
  induction r generalizing acc with
  | nil => exact h
  | cons y r ih =>
    obtain ⟨x, hx⟩ := h
    refine ih ⟨x || (clip w (acc.1 + y)).2, ?_⟩
    rw [addStep, hx, clipFlags_or]

theorem addInts_flags (w : Nat) (l : List Int) : ∃ x, (addInts w l).2 = clipFlags x := by
  cases l with
  | nil => exact ⟨false, rfl⟩
  | cons v r => exact addStep_foldl_flags w r ⟨false, rfl⟩

/-! ### One element of ADD, MAX and MIN (R256, R281, R282) -/

/-- The number that an operand of an integer format holds. -/
def codeInt (x : Nat × Nat) : Int := toSigned ((intBits x.1).getD 8) x.2

/-- An integer format is no float format. -/
theorem floatFmt_of_intBits {f w : Nat} (h : intBits f = some w) : floatFmt f = none := by
  unfold intBits at h
  split at h <;> cases h <;> rfl

theorem intBits_pos {f w : Nat} (h : intBits f = some w) : 0 < w := by
  unfold intBits at h
  split at h <;> cases h <;> decide

theorem intBits_of_range {f : Nat} (hl : 5 ≤ f) (hu : f ≤ 8) : intBits f = some (8 * fmtSize f) := by
  obtain rfl | rfl | rfl | rfl : f = 5 ∨ f = 6 ∨ f = 7 ∨ f = 8 := by omega
  all_goals rfl

theorem codeInt_fits {x : Nat × Nat} {w : Nat} (hi : (intBits x.1).isSome = true) (hw : (intBits x.1).getD 8 ≤ w) :
    FitsBits w (codeInt x) := by
  obtain ⟨v, hv⟩ := Option.isSome_iff_exists.1 hi
  rw [hv, Option.getD_some] at hw
  rw [codeInt, hv, Option.getD_some]
  exact (toSigned_fits (intBits_pos hv) x.2).mono hw

theorem addElem_int {fo w : Nat} (hw : intBits fo = some w) (xs : List (Nat × Nat)) : addElem fo xs =
    (ofSigned w (clip w (addInts (max 32 w) (xs.map codeInt)).1).1,
      (addInts (max 32 w) (xs.map codeInt)).2 ||| clipFlags (clip w (addInts (max 32 w) (xs.map codeInt)).1).2) := by
  rw [addElem, floatFmt_of_intBits hw, hw]
  rfl

theorem addElem_int_fits {fo w : Nat} (hw : intBits fo = some w) (xs : List (Nat × Nat)) :
    (addElem fo xs).1 < 2 ^ w ∧ ((addElem fo xs).2 = 0 ∨ (addElem fo xs).2 = flOverflow ||| flSaturated) := by
  obtain ⟨x, hx⟩ := addInts_flags (max 32 w) (xs.map codeInt)
  rw [addElem_int hw, hx, clipFlags_or]
  exact ⟨ofSigned_lt .., clipFlags_cases _⟩

/-- The sum of two operands is exact where it fits, and else the nearer bound. -/
theorem addElem_two {fo w : Nat} (hw : intBits fo = some w) (x y : Nat × Nat) :
    toSigned w (addElem fo [x, y]).1 = (clip w (codeInt x + codeInt y)).1 ∧
    ((addElem fo [x, y]).2 = 0 ↔ FitsBits w (codeInt x + codeInt y)) := by
  have hsum : addInts (max 32 w) [codeInt x, codeInt y] =
      ((clip (max 32 w) (codeInt x + codeInt y)).1, clipFlags (clip (max 32 w) (codeInt x + codeInt y)).2) := by
    refine (addInts_snoc _ (l := [codeInt x]) _ (List.cons_ne_nil _ _)).trans ?_
    exact congrArg (Prod.mk _) (Nat.zero_or _)
  rw [addElem_int hw, List.map_cons, List.map_cons, List.map_nil, hsum, clipFlags_or,
    toSigned_ofSigned (intBits_pos hw) (clip_fits _ _), clip_clip _ (Nat.le_max_right ..)]
  refine ⟨rfl, ?_⟩
  rw [clipFlags_eq_zero, Bool.or_eq_false_iff]
  constructor
  · rintro ⟨hv, hc⟩
    rwa [clip_of_fits (clip_exact_iff.1 hv), clip_exact_iff] at hc
  · intro h
    have hv := h.mono (Nat.le_max_right 32 w)
    rw [clip_of_fits hv]
    exact ⟨rfl, clip_exact_iff.2 h⟩

/-- The greatest (`mx`) or least of some operands. -/
def pickInts (mx : Bool) (v : Int) (r : List Int) : Int := r.foldl (if mx then max else min) v

theorem pickInts_spec (mx : Bool) (v : Int) (r : List Int) :
    pickInts mx v r ∈ v :: r ∧ ∀ x ∈ v :: r, if mx then x ≤ pickInts mx v r else pickInts mx v r ≤ x := by
  cases mx with
  | true => exact List.max?_eq_some_iff.1 List.max?_cons'
  | false => exact List.min?_eq_some_iff.1 List.min?_cons'

theorem pickElem_int {fo w : Nat} (hw : intBits fo = some w) (mx : Bool) (x : Nat × Nat) (r : List (Nat × Nat)) :
    pickElem mx fo (x :: r) = (ofSigned w (pickInts mx (codeInt x) (r.map codeInt)), 0) := by
  rw [pickElem, floatFmt_of_intBits hw, hw]
  rfl

theorem pickElem_int_fits {fo w : Nat} (hw : intBits fo = some w) (mx : Bool) (l : List (Nat × Nat)) :
    (pickElem mx fo l).1 < 2 ^ w ∧ (pickElem mx fo l).2 = 0 := by
  cases l with
  | nil =>
    rw [pickElem, floatFmt_of_intBits hw]
    exact ⟨Nat.two_pow_pos w, rfl⟩
  | cons x r =>
    rw [pickElem_int hw]
    exact ⟨ofSigned_lt .., rfl⟩

/-- Where every operand fits the result, the result is the greatest or least of them, exactly. -/
theorem pickElem_int_exact {fo w : Nat} (hw : intBits fo = some w) (mx : Bool) {l : List (Nat × Nat)} (hl : l ≠ [])
    (hfit : ∀ x ∈ l, FitsBits w (codeInt x)) :
    (∃ x ∈ l, codeInt x = toSigned w (pickElem mx fo l).1) ∧
    (∀ x ∈ l, if mx then codeInt x ≤ toSigned w (pickElem mx fo l).1 else toSigned w (pickElem mx fo l).1 ≤ codeInt x) := by
  obtain ⟨v, r, rfl⟩ := List.exists_cons_of_ne_nil hl
  obtain ⟨hmem, hbound⟩ := pickInts_spec mx (codeInt v) (r.map codeInt)
  rw [← List.map_cons] at hmem hbound
  obtain ⟨x, hx, hxz⟩ := List.mem_map.1 hmem
  rw [pickElem_int hw, toSigned_ofSigned (intBits_pos hw) (hxz ▸ hfit x hx)]
  exact ⟨⟨x, hx, hxz⟩, fun y hy => hbound _ (List.mem_map_of_mem hy)⟩

/-! ### A combining instruction (R256, R260) -/

section
variable {k k' : Block} {b sl dst fo fi m op : Nat} {add : Bool} {f : Nat → List (Nat × Nat) → Nat × Nat}

/-- The operands of a combining instruction: the bytes of each buffer, A's in the format of the result, the others' in that
of the input. -/
def Block.combineOps (k : Block) (b sl j fo fi m : Nat) : List (List Byte × Nat) :=
  (maskBufs (k.slotWord b sl).nch m).map fun c => ((k.slot b sl).buf ((k.slot b sl).set j) c, if c = 7 then fo else fi)

/-- Legal operands give a result for each element up to the longest operand. -/
theorem Block.combine_legal {j : Nat} (hcur : (k.slot b sl).cur = some j) (hdst : (k.slotWord b sl).hasBuf dst = true)
    (hall : (maskBufs (k.slotWord b sl).nch m).all (k.slotWord b sl).hasBuf = true)
    (htwo : 2 ≤ (maskBufs (k.slotWord b sl).nch m).length) (hok : combineOk add fo fi = true) :
    k.combine b sl dst fo fi m op add f =
      some (⟨dst, fo, op, (List.range (countOf (k.slotWord b sl) (k.combineOps b sl j fo fi m))).map fun e =>
          f fo (rowAt (k.readAll (countOf (k.slotWord b sl) (k.combineOps b sl j fo fi m))
            (k.combineOps b sl j fo fi m)).1 e)⟩,
        (k.readAll (countOf (k.slotWord b sl) (k.combineOps b sl j fo fi m)) (k.combineOps b sl j fo fi m)).2) := by
  have hlegal : ¬(!(k.slotWord b sl).hasBuf dst || !(maskBufs (k.slotWord b sl).nch m).all (k.slotWord b sl).hasBuf ||
      decide ((maskBufs (k.slotWord b sl).nch m).length < 2) || !combineOk add fo fi) = true := by
    simp [hdst, hall, hok, Nat.not_lt.2 htwo]
  rw [Block.combine, hcur]
  exact if_neg hlegal

/-- Every element of a result is what the operation makes of some row of operands. -/
theorem Block.combine_res {c : Computed} (h : k.combine b sl dst fo fi m op add f = some (c, k')) {x : Nat × Nat}
    (hx : x ∈ c.res) : ∃ row, x = f fo row := by
  unfold Block.combine at h
  extract_lets at h
  split at h
  · cases h
  · split at h
    · cases h
    · cases h
      obtain ⟨e, -, rfl⟩ := List.mem_map.1 hx
      exact ⟨_, rfl⟩

end

end Sys2Proof.Machine
end

section
/-!
The statement about what ADD, MAX and MIN of integers compute (R256, R260, R281, R282, R287).
-/

namespace Sys2Proof.Machine

/-- Settles O29: the three instructions by the rows of their operands, and one element by the value of its codes. -/
theorem integerArithmeticIsExactOrClipped : Obligations.IntegerArithmeticIsExactOrClipped := by
  unfold Obligations.IntegerArithmeticIsExactOrClipped
  refine ⟨?legal, ?fits, ?two, ?clipped, ?exact, ?pick, ?clip, ?toOf, ?ofTo⟩
  case legal =>
    intro k b sl j dst fo fi m hcur w v names hdst hall htwo ops n xs k'
    exact ⟨fun hok => Block.combine_legal hcur hdst hall htwo hok, fun hok => Block.combine_legal hcur hdst hall htwo hok,
      fun hok => Block.combine_legal hcur hdst hall htwo hok⟩
  case fits =>
    intro k k' b sl dst fo fi m c hl hu
    have hw := intBits_of_range hl hu
    refine ⟨fun h x hx => ?_, fun h x hx => ?_⟩
    · obtain ⟨row, rfl⟩ := Block.combine_res h hx
      exact addElem_int_fits hw row
    · obtain h | h := h
      · obtain ⟨row, rfl⟩ := Block.combine_res h hx
        exact pickElem_int_fits hw true row
      · obtain ⟨row, rfl⟩ := Block.combine_res h hx
        exact pickElem_int_fits hw false row
  case two =>
    exact fun fo f g w x y hw _ _ _ _ => addElem_two hw (f, x) (g, y)
  case clipped =>
    intro w l y hl hc
    rw [addInts_snoc w y hl, hc]
    exact ⟨rfl, rfl⟩
  case exact =>
    intro w l y hl hc
    rw [addInts_snoc w y hl, hc, clip_of_fits (clip_exact_iff.1 hc)]
    exact ⟨rfl, Nat.or_zero _⟩
  case pick =>
    intro mx fo w l hl hw hfmt
    obtain ⟨hmem, hbound⟩ := pickElem_int_exact hw mx hl fun x hx => codeInt_fits (hfmt x hx).1 (hfmt x hx).2
    exact ⟨hmem, hbound, (pickElem_int_fits hw mx l).2⟩
  case clip =>
    intro w z hw
    obtain ⟨hl, hu⟩ := clip_fits w z
    exact ⟨hl, hu, clip_exact_iff.trans clip_eq_iff.symm⟩
  case toOf => exact fun w z hw hl hu => toSigned_ofSigned hw ⟨hl, hu⟩
  case ofTo => exact fun w c _ hc => ofSigned_toSigned hc

end Sys2Proof.Machine
end

section
/-!
SUPPORT. How a reducer instruction runs where its stream stands at it, and what the residue check of a lane finds (R254,
R255, R297, R298).
-/

namespace Sys2Proof.Machine

/-! ### An instruction at which a slot's stream stands (R255, R498) -/

section
variable {s : State} {b sl : Nat} {i : RdcInstr} {evt : Bool} {x : Instr} {ok : Bool} {sel : RdcInstr → Bool}

theorem slotOk (hr : Ready s b) (hsl : sl < 64) : (brickOk s.env.build b && decide (sl < 64)) = true := by
  rw [hr.2, decide_eq_true hsl]
  rfl

theorem State.run_slot (hr : Ready s b) (hsl : sl < 64) (f : Block → Block) :
    s.run (brickOk s.env.build b && decide (sl < 64)) f = .next { s with blk := f s.blk } := by
  rw [slotOk hr hsl, s.run_next f hr.1]

/-- The fetched instruction has its effect, or faults its stream where it has none. -/
theorem Block.rdcStep_fetched {k : Block} (hf : k.rdcFetch b sl = some (i, evt)) (hs : sel i = true) (d : Build)
    (f : Block → RdcInstr → Bool → Option Block) :
    k.rdcStep d b sl sel f = (f k i evt).getD (k.failStream d b (0x100 + sl) 0) := by
  rw [Block.rdcStep, hf]
  refine (if_pos hs).trans ?_
  cases f k i evt <;> rfl

/-- A command that runs the instruction of a slot's stream completes with the effect of the instruction. -/
theorem gives_rdcStep {f : Block → RdcInstr → Bool → Option Block} {k : Block}
    (he : exec x s = s.run ok fun k => k.rdcStep s.env.build b sl sel f) (hok : ok = true) (hr : Ready s b)
    (hf : s.blk.rdcFetch b sl = some (i, evt)) (hs : sel i = true) (hk : f s.blk i evt = some k) : Gives x s k :=
  gives_of_run he hok hr.1 (by rw [Block.rdcStep_fetched hf hs, hk]; rfl)

/-- Where the instruction has no effect, its stream faults (R255). -/
theorem gives_rdcStep_fault {f : Block → RdcInstr → Bool → Option Block}
    (he : exec x s = s.run ok fun k => k.rdcStep s.env.build b sl sel f) (hok : ok = true) (hr : Ready s b)
    (hf : s.blk.rdcFetch b sl = some (i, evt)) (hs : sel i = true) (hk : f s.blk i evt = none) :
    Gives x s (s.blk.failStream s.env.build b (0x100 + sl) 0) :=
  gives_of_run he hok hr.1 (by rw [Block.rdcStep_fetched hf hs, hk]; rfl)

end

/-! ### The arithmetic instructions (R267, R297, R298) -/

theorem exec_arith {i : RdcInstr} {b sl : Nat} {r : Residue} {x : Instr} (ha : i.isArith = true)
    (hx : i.command b sl r = some x) : ∃ sel : RdcInstr → Bool, sel i = true ∧ ∀ s : State, exec x s =
      s.run (brickOk s.env.build b && decide (sl < 64) && residueOk r) fun k => k.arithStep s.env.build b sl sel r := by
  cases i <;> cases ha <;> cases hx <;> exact ⟨_, by rfl, fun _ => rfl⟩

section
variable {s : State} {b sl j : Nat} {i : RdcInstr} {evt : Bool} {r : Residue} {x : Instr}

/-- What an arithmetic instruction does once it has computed `c`: the mismatches of the first execution `m1` and of the
second `m2` are counted, and the result is stored unless the second has one. -/
def Block.arithEnd (k : Block) (d : Build) (b sl j : Nat) (evt : Bool) (c : Computed) (m1 m2 : List LaneSeen) : Block :=
  if m2.isEmpty then
    (((k.mismatchAll b sl c.op m1 false).mismatchAll b sl c.op m2 true).storeResult b sl j c).retire b (0x100 + sl) evt
  else (((k.mismatchAll b sl c.op m1 false).mismatchAll b sl c.op m2 true).freezeOn 8).slotFault d b sl stResidue

theorem Block.mismatchAll_nil (k : Block) (b sl op : Nat) (second : Bool) : k.mismatchAll b sl op [] second = k := rfl

theorem Block.arithEnd_once (k : Block) (d : Build) (b sl j : Nat) (evt : Bool) (c : Computed) (m1 : List LaneSeen) :
    k.arithEnd d b sl j evt c m1 [] =
      ((k.mismatchAll b sl c.op m1 false).storeResult b sl j c).retire b (0x100 + sl) evt := by
  rw [Block.arithEnd, Block.mismatchAll_nil]
  exact if_pos rfl

theorem Block.arithEnd_twice (k : Block) (d : Build) (b sl j : Nat) (evt : Bool) (c : Computed) (m1 : List LaneSeen)
    {m2 : List LaneSeen} (h : m2 ≠ []) : k.arithEnd d b sl j evt c m1 m2 =
      (((k.mismatchAll b sl c.op m1 false).mismatchAll b sl c.op m2 true).freezeOn 8).slotFault d b sl stResidue :=
  if_neg (by rwa [List.isEmpty_iff])

theorem gives_arith {k : Block} {c : Computed} {m2 : List LaneSeen} (hr : Ready s b) (hsl : sl < 64) (ha : i.isArith = true)
    (hf : s.blk.rdcFetch b sl = some (i, evt)) (hcur : (s.blk.slot b sl).cur = some j) (hres : residueOk r = true)
    (hc : s.blk.compute b sl i = some (c, k)) (hx : i.command b sl r = some x)
    (hm2 : (if (mismatches i r.first).isEmpty then [] else mismatches i r.second) = m2) :
    Gives x s (k.arithEnd s.env.build b sl j evt c (mismatches i r.first) m2) := by
  obtain ⟨sel, hs, he⟩ := exec_arith ha hx
  refine gives_rdcStep (he s) (by rw [slotOk hr hsl, hres]; rfl) hr hf hs ?_
  simp only [hc, hcur, hm2]
  rfl

theorem gives_arith_fault (hr : Ready s b) (hsl : sl < 64) (ha : i.isArith = true)
    (hf : s.blk.rdcFetch b sl = some (i, evt)) (hres : residueOk r = true) (hc : s.blk.compute b sl i = none)
    (hx : i.command b sl r = some x) : Gives x s (s.blk.failStream s.env.build b (0x100 + sl) 0) := by
  obtain ⟨sel, hs, he⟩ := exec_arith ha hx
  refine gives_rdcStep_fault (he s) (by rw [slotOk hr hsl, hres]; rfl) hr hf hs ?_
  simp only [hc]

end

/-! ### Residues modulo 3 (R297) -/

/-- A power of 2 is 1 or 2 modulo 3. -/
theorem two_pow_mod_three (n : Nat) : 2 ^ n % 3 = 1 ∨ 2 ^ n % 3 = 2 := by
  induction n with
  | zero => exact .inl rfl
  | succ n ih => rw [Nat.pow_succ]; omega

/-- A flipped lowest bit adds or takes 1. -/
theorem xor_one_eq (q : Nat) : q ^^^ 1 = q + 1 ∨ (q ^^^ 1) + 1 = q := by
  have hdiv : (q ^^^ 1) / 2 = q / 2 := by
    have h := Nat.xor_div_two_pow (a := q) (b := 1) (n := 1)
    rw [Nat.pow_one] at h
    exact h.trans (Nat.xor_zero _)
  have hodd := Nat.xor_mod_two_eq_one (a := q) (b := 1)
  omega

/-- A flipped bit adds or takes its weight. -/
theorem xor_two_pow (x n : Nat) : x ^^^ 2 ^ n = x + 2 ^ n ∨ (x ^^^ 2 ^ n) + 2 ^ n = x := by
  have hx := Nat.div_add_mod x (2 ^ n)
  have hdiv : (x ^^^ 2 ^ n) / 2 ^ n = x / 2 ^ n ^^^ 1 := by
    rw [Nat.xor_div_two_pow, Nat.div_self (Nat.two_pow_pos n)]
  have hmod : (x ^^^ 2 ^ n) % 2 ^ n = x % 2 ^ n := by rw [Nat.xor_mod_two_pow, Nat.mod_self, Nat.xor_zero]
  have hy := Nat.div_add_mod (x ^^^ 2 ^ n) (2 ^ n)
  rw [hdiv, hmod] at hy
  obtain h | h := xor_one_eq (x / 2 ^ n)
  · rw [h, Nat.mul_add, Nat.mul_one] at hy
    omega
  · rw [← h, Nat.mul_add, Nat.mul_one] at hx
    omega

/-- The sum of an adder and its carry meet the residue of the operands: 2^64 is 1 modulo 3. -/
theorem laneMismatch_adder {a b : Nat} (ha : a < 2 ^ 64) (hb : b < 2 ^ 64) :
    laneMismatch (.adder a b ((a + b) % 2 ^ 64) (decide (2 ^ 64 ≤ a + b))) = false := by
  rw [laneMismatch, bne_eq_false_iff_eq]
  simp only [residue3, b2n, decide_eq_true_eq]
  split <;> omega

/-- A flipped bit of the sum is a mismatch. -/
theorem laneMismatch_adder_flipped {a b : Nat} (ha : a < 2 ^ 64) (hb : b < 2 ^ 64) (n : Nat) :
    laneMismatch (.adder a b (((a + b) % 2 ^ 64) ^^^ 2 ^ n) (decide (2 ^ 64 ≤ a + b))) = true := by
  have hgood := laneMismatch_adder ha hb
  have hflip := xor_two_pow ((a + b) % 2 ^ 64) n
  have hp := two_pow_mod_three n
  rw [laneMismatch, bne_eq_false_iff_eq] at hgood
  rw [laneMismatch, bne_iff_ne]
  simp only [residue3] at *
  omega

theorem laneMismatch_product (a b : Nat) : laneMismatch (.product a b (a * b)) = false := by
  rw [laneMismatch, bne_eq_false_iff_eq]
  exact (Nat.mul_mod a b 3).symm

/-- A power of 2 added to a product is a mismatch. -/
theorem laneMismatch_product_off (a b n : Nat) : laneMismatch (.product a b (a * b + 2 ^ n)) = true := by
  have hp := two_pow_mod_three n
  have hgood := Nat.mul_mod a b 3
  rw [laneMismatch, bne_iff_ne]
  simp only [residue3]
  omega

/-! ### The record instructions (R258) -/

theorem exec_record {i : RdcInstr} {b sl : Nat} {x : Instr} (hi : i.isRecord = true) (hx : i.command b sl {} = some x) :
    ∃ (sel : RdcInstr → Bool) (f : Block → RdcInstr → Option Block), sel i = true ∧
      (∀ k, f k i = k.recResult b sl i) ∧ ∀ s : State, exec x s =
        s.run (brickOk s.env.build b && decide (sl < 64)) fun k => k.recStep s.env.build b sl sel f := by
  cases i <;> cases hi <;> cases hx <;> exact ⟨_, _, by rfl, fun _ => by rfl, fun _ => rfl⟩

section
variable {s : State} {b sl : Nat} {i : RdcInstr} {evt : Bool} {x : Instr}

theorem gives_record {k : Block} (hr : Ready s b) (hsl : sl < 64) (hi : i.isRecord = true)
    (hf : s.blk.rdcFetch b sl = some (i, evt)) (hk : s.blk.recResult b sl i = some k) (hx : i.command b sl {} = some x) :
    Gives x s (k.retire b (0x100 + sl) evt) := by
  obtain ⟨sel, f, hs, heff, he⟩ := exec_record hi hx
  exact gives_rdcStep (he s) (slotOk hr hsl) hr hf hs (by rw [heff, hk]; rfl)

theorem gives_record_fault (hr : Ready s b) (hsl : sl < 64) (hi : i.isRecord = true)
    (hf : s.blk.rdcFetch b sl = some (i, evt)) (hk : s.blk.recResult b sl i = none) (hx : i.command b sl {} = some x) :
    Gives x s (s.blk.failStream s.env.build b (0x100 + sl) 0) := by
  obtain ⟨sel, f, hs, heff, he⟩ := exec_record hi hx
  exact gives_rdcStep_fault (he s) (slotOk hr hsl) hr hf hs (by rw [heff, hk]; rfl)

end

end Sys2Proof.Machine
end

section
/-!
The statement about what reducer instructions compute (R255, R256, R258, R267, R279 to R298).
-/

namespace Sys2Proof.Machine

/-- Settles O28: an arithmetic instruction by the mismatches of its two executions, the check of a lane by residues modulo 3,
and a record instruction by its effect. -/
theorem reducerInstructionsCompute : Obligations.ReducerInstructionsCompute := by
  unfold Obligations.ReducerInstructionsCompute
  refine ⟨?arith, ?adder, ?adderFlipped, ?product, ?productOff, ?record⟩
  case arith =>
    intro s b sl j i evt r hr hsl ha hf hcur hres u
    refine ⟨?_, ?_, ?_, fun x hc hx => gives_arith_fault hr hsl ha hf hres hc hx⟩
    · intro c k x hc _ hx h1
      have hgives := gives_arith hr hsl ha hf hcur hres hc hx (m2 := []) (by rw [h1]; rfl)
      rwa [h1, Block.arithEnd_once, Block.mismatchAll_nil] at hgives
    · intro c k x hc _ hx h1 h2
      rw [← Block.arithEnd_once]
      exact gives_arith hr hsl ha hf hcur hres hc hx (by rw [h2, ite_self])
    · intro c k x hc _ hx h1 h2
      rw [← Block.arithEnd_twice _ _ _ _ j evt _ _ h2]
      exact gives_arith hr hsl ha hf hcur hres hc hx (if_neg (by rwa [List.isEmpty_iff]))
  case adder =>
    intro a b r ha hb hsum
    rw [hsum]
    exact laneMismatch_adder ha hb
  case adderFlipped => exact fun a b n ha hb _ => laneMismatch_adder_flipped ha hb n
  case product => exact fun a b => laneMismatch_product a b
  case productOff => exact fun a b n => laneMismatch_product_off a b n
  case record =>
    intro s b sl i evt hr hsl hi hf
    exact ⟨fun k x hk hx => gives_record hr hsl hi hf hk hx, fun x hk hx => gives_record_fault hr hsl hi hf hk hx⟩

end Sys2Proof.Machine
end

section
/-!
SUPPORT. The instructions that bind a set, send from it and dispatch from it: what each comes to in the cases of R253, R254,
R258 and R264.
-/

namespace Sys2Proof.Machine

/-! ### SEGIN (R253, R254) -/

section
variable {k : Block} {b sl m p e : Nat} {adv xw endj evt : Bool}

theorem SlotWord.segin_legal {w : SlotWord} (hmode : w.still = true ∨ (p = 0 ∧ xw = false))
    (hbuf : (maskChildren w.nch m).all w.hasBuf = true) :
    (!w.still && (p != 0 || xw) || !(maskChildren w.nch m).all w.hasBuf) = false := by
  rw [hbuf]
  obtain h | ⟨rfl, rfl⟩ := hmode
  · rw [h]; rfl
  · cases w.still <;> rfl

/-- Where its operands are legal and no FINAL set was sent before, a SEGIN binds the set that is ready. -/
theorem Block.segin_ready {j : Nat} (hmode : (k.slotWord b sl).still = true ∨ (p = 0 ∧ xw = false))
    (hbuf : (maskChildren (k.slotWord b sl).nch m).all (k.slotWord b sl).hasBuf = true)
    (hfin : adv = true → (k.slot b sl).finalOut = false)
    (hready : (k.slot b sl).seginReady (k.slotWord b sl).nch adv xw m p = some j) (d : Build) :
    k.segin d b sl (.segin adv xw endj m p e) evt = some (k.seginGo b sl j p evt) := by
  rw [Block.segin]
  dsimp only
  rw [SlotWord.segin_legal hmode hbuf, if_neg Bool.false_ne_true, if_neg (by simpa using hfin), hready]

/-- A SEGIN that advances waits for its set, and no set is current. -/
theorem Block.segin_advance_waits (hmode : (k.slotWord b sl).still = true ∨ (p = 0 ∧ xw = false))
    (hbuf : (maskChildren (k.slotWord b sl).nch m).all (k.slotWord b sl).hasBuf = true)
    (hfin : (k.slot b sl).finalOut = false)
    (hready : (k.slot b sl).seginReady (k.slotWord b sl).nch true xw m p = none) (d : Build) :
    k.segin d b sl (.segin true xw endj m p e) evt =
      some (((k.mapSlot b sl fun v => { v with cur := none }).stay b (0x100 + sl) .waiting
        (.segin (k.slot b sl).next)).checkFence d b sl) := by
  rw [Block.segin]
  dsimp only
  rw [SlotWord.segin_legal hmode hbuf, if_neg Bool.false_ne_true, hfin, Bool.and_false, if_neg Bool.false_ne_true, hready]
  rfl

/-- A SEGIN that does not advance has nothing to bind without a current set, and waits. -/
theorem Block.segin_unbound_waits (hmode : (k.slotWord b sl).still = true ∨ (p = 0 ∧ xw = false))
    (hbuf : (maskChildren (k.slotWord b sl).nch m).all (k.slotWord b sl).hasBuf = true)
    (hcur : (k.slot b sl).cur = none) (d : Build) :
    k.segin d b sl (.segin false xw endj m p e) evt =
      some ((k.stay b (0x100 + sl) .waiting (.segin (k.slot b sl).next)).checkFence d b sl) := by
  have hready : (k.slot b sl).seginReady (k.slotWord b sl).nch false xw m p = none := by
    rw [Slot.seginReady, if_neg Bool.false_ne_true, hcur]
  rw [Block.segin]
  dsimp only
  rw [SlotWord.segin_legal hmode hbuf, if_neg Bool.false_ne_true, Bool.false_and, if_neg Bool.false_ne_true, hready, hcur]
  rfl

theorem exec_segin (s : State) : exec (.segin b sl) s = s.run (brickOk s.env.build b && decide (sl < 64)) fun k =>
    k.rdcStep s.env.build b sl (fun i => match i with
      | .segin .. => true
      | _ => false) fun k i evt => k.segin s.env.build b sl i evt := rfl

end

/-- A stream that waits in SEGIN goes on when its set is ready. -/
theorem gives_seginSatisfied {s : State} {b sl j m p e : Nat} {adv xw endj : Bool} (hr : Ready s b) (hsl : sl < 64)
    (hst : (s.blk.stream b (0x100 + sl)).st = .waiting) (hhold : (s.blk.stream b (0x100 + sl)).hold ≠ .none)
    (hword : decodeRdc (s.blk.curWord b (0x100 + sl)).toNat = some (.segin adv xw endj m p e))
    (hready : (s.blk.slot b sl).seginReady (s.blk.slotWord b sl).nch adv xw m p = some j) :
    Gives (.seginSatisfied b sl) s (s.blk.seginGo b sl j p (wordEvt (s.blk.curWord b (0x100 + sl)).toNat)) := by
  show execSeginSatisfied b sl s = _
  rw [execSeginSatisfied, State.run_slot hr hsl]
  dsimp only
  rw [if_neg (by simp [hst, hhold]), hword]
  dsimp only
  rw [hready]

/-! ### SEGOUT (R254, R264) -/

section
variable {k : Block} {b sl j src fmt flow cseq n af first : Nat} {down hold sh recs final evt : Bool} {t : List Byte}
  {ps : List Packet}

/-- The part that a SEGOUT queues: its packets `ps`, of sequence `cseq` and segment `n`, sent from set `j`. -/
def Block.segoutPart (k : Block) (b sl j src cseq n : Nat) (down hold : Bool) (ps : List Packet) : OutPart :=
  { pkts := ps, cseq := cseq, seg := (k.slotWord b sl).segField n (k.slot b sl).phase, seqk := n, set := some j
    emits := !hold, down := down, fromA := src == 7 }

/-- A SEGOUT whose part can be built merges the trailer's flags, queues the part and retires. -/
theorem Block.segout_sent {d : Build} (hcur : (k.slot b sl).cur = some j)
    (hroot : down = true → (k.slotWord b sl).root = true) (hbuf : (k.slotWord b sl).hasBuf src = true)
    (hrecs : recs = true → (k.slotWord b sl).recs = true) (ht : k.combineTrailer b sl j = some (t, final, af, first))
    (htag : ((k.slot b sl).set j).tag = some (cseq, n))
    (hps : (k.mergeGflag b sl af first).buildPart d b sl (if down then opResult else if recs then opDispatch else opContrib)
      (if sh then 2 else 1) flow ((k.slotWord b sl).segField n (k.slot b sl).phase) cseq ((k.slot b sl).set j).member
      (if down then .down else .parent)
      ((k.slotWord b sl).partData recs fmt ((k.slot b sl).buf ((k.slot b sl).set j) src) ++ t) = some ps) :
    k.segout d b sl (.segout down hold sh recs src fmt flow) evt =
      some (((if hold then k.mergeGflag b sl af first else (k.mergeGflag b sl af first).willEmit b sl final).queuePart d b sl
        (k.segoutPart b sl j src cseq n down hold ps)).retire b (0x100 + sl) evt) := by
  have hlegal : ¬(down && !(k.slotWord b sl).root || !(k.slotWord b sl).hasBuf src ||
      recs && !(k.slotWord b sl).recs) = true := by
    simp only [hbuf, Bool.not_true, Bool.or_false, Bool.or_eq_true, Bool.and_eq_true, Bool.not_eq_true']
    rintro (⟨h, h'⟩ | ⟨h, h'⟩)
    · exact absurd (hroot h) (Bool.eq_false_iff.1 h')
    · exact absurd (hrecs h) (Bool.eq_false_iff.1 h')
  rw [Block.segout]
  dsimp only
  rw [hcur]
  dsimp only
  rw [if_neg hlegal, ht]
  dsimp only
  rw [htag, Option.getD_some]
  dsimp only
  rw [hps]
  rfl

end

/-! ### EMIT (R258) -/

/-- Without a current set EMIT has nothing to send. -/
theorem Block.emitOp_unbound {k : Block} {b sl : Nat} (h : (k.slot b sl).cur = none) (d : Build) (src n j : Nat) (evt : Bool) :
    k.emitOp d b sl (.emit src n j) evt = none := by
  rw [Block.emitOp, Block.recOperands, h]

theorem exec_emit (b sl : Nat) (s : State) : exec (.emit b sl) s =
    s.run (brickOk s.env.build b && decide (sl < 64)) fun k =>
      k.rdcStep s.env.build b sl (fun i => match i with
        | .emit .. => true
        | _ => false) fun k i evt => k.emitOp s.env.build b sl i evt := rfl

end Sys2Proof.Machine
end

section
/-!
The statement about sets that are bound and parts that are sent (R253, R254, R258, R264).
-/

namespace Sys2Proof.Machine

/-- Settles O31: SEGIN by whether its set is ready, SEGOUT by the part it builds, and EMIT by what it makes of the slot. -/
theorem segmentsEnterAndLeave : Obligations.SegmentsEnterAndLeave := by
  unfold Obligations.SegmentsEnterAndLeave
  refine ⟨?bind, ?advWaits, ?unbound, ?satisfied, ?segout, ?emit, ?emitUnbound⟩
  case bind =>
    intro s b sl j m p e adv xw endj evt hr hsl hf hmode hbuf hfin hready
    exact gives_rdcStep (exec_segin s) (slotOk hr hsl) hr hf rfl (Block.segin_ready hmode hbuf hfin hready _)
  case advWaits =>
    intro s b sl m p e xw endj evt hr hsl hf hmode hbuf hfin hready
    exact gives_rdcStep (exec_segin s) (slotOk hr hsl) hr hf rfl (Block.segin_advance_waits hmode hbuf hfin hready _)
  case unbound =>
    intro s b sl m p e xw endj evt hr hsl hf hmode hbuf hcur
    exact gives_rdcStep (exec_segin s) (slotOk hr hsl) hr hf rfl (Block.segin_unbound_waits hmode hbuf hcur _)
  case satisfied =>
    exact fun s b sl j m p e adv xw endj hr hsl hst hhold hword hready =>
      gives_seginSatisfied hr hsl hst hhold hword hready
  case segout =>
    intro s b sl j src fmt flow af first cseq n down hold sh recs evt final t ps hr hsl hf hcur hroot hbuf hrecs ht w v htag
      k seg hps
    exact gives_rdcStep (x := .segout b sl) rfl (slotOk hr hsl) hr hf rfl
      (Block.segout_sent hcur hroot hbuf hrecs ht htag hps)
  case emit =>
    exact fun s b sl src n j evt k hr hsl hf hk => gives_rdcStep (exec_emit b sl s) (slotOk hr hsl) hr hf rfl hk
  case emitUnbound =>
    intro s b sl src n j evt hr hsl hf hcur
    exact gives_rdcStep_fault (exec_emit b sl s) (slotOk hr hsl) hr hf rfl (Block.emitOp_unbound hcur ..)

end Sys2Proof.Machine
end

section
/-!
SUPPORT. RESULT and DISPATCH at the network interface (R314, R318): what a good packet at the head of the FIFO comes to, by
the trackers that collect it.
-/

namespace Sys2Proof.Machine

/-! ### RESULT_DELIVERY (R314) -/

section
variable {s : State} {b : Nat} {p : Packet} {r : List Packet}

/-- The trackers of brick `b` that take a RESULT packet. -/
def Block.resultTakers (k : Block) (b : Nat) (p : Packet) : List Nat :=
  (List.range 1024).filter fun t =>
    (k.tracker b t).collects p.group p.cseq && k.takesResults b p.group (k.tracker b t).desc.member

theorem still_data {k : Block} (h : k.groupStill p.group = true → p.seg % 2 = 1) :
    ¬(k.groupStill p.group && p.seg % 2 == 0) = true := by
  simp only [Bool.and_eq_true, beq_iff_eq, not_and]
  intro hstill
  rw [h hstill]
  decide

/-- In still mode a RESULT of phase 0 is for no member. -/
theorem gives_resultDelivery_phase0 (hr : Ready s b) (hg : s.blk.headGood b 0 1 p r) (ho : p.op = opResult)
    (hstill : (s.blk.setRx b 0 r).groupStill p.group = true) (hseg : p.seg % 2 = 0) :
    Gives (.resultDelivery b) s (s.blk.setRx b 0 r) :=
  gives_takesHead (fun _ => rfl) hr hg ho (beq_iff_eq.2 ho) (if_pos (by rw [hstill, hseg]; rfl))

/-- Every tracker that collects a RESULT packet takes it. -/
theorem gives_resultDelivery_taken (hr : Ready s b) (hg : s.blk.headGood b 0 1 p r) (ho : p.op = opResult)
    (hphase : (s.blk.setRx b 0 r).groupStill p.group = true → p.seg % 2 = 1)
    (hts : (s.blk.setRx b 0 r).resultTakers b p ≠ []) :
    Gives (.resultDelivery b) s ((((s.blk.setRx b 0 r).resultTakers b p).foldl (fun k t => k.takeResult b t
      (if (s.blk.setRx b 0 r).groupStill p.group then p.seg / 2 else p.seg) p) (s.blk.setRx b 0 r)).pumpEngines s.env b) :=
  gives_takesHead (fun _ => rfl) hr hg ho (beq_iff_eq.2 ho)
    ((if_neg (still_data hphase)).trans (if_neg (by rwa [List.isEmpty_iff])))

/-- Where no tracker is at work, a RESULT is for a member that the group does not have. -/
theorem gives_resultDelivery_stray (hr : Ready s b) (hg : s.blk.headGood b 0 1 p r) (ho : p.op = opResult)
    (hphase : (s.blk.setRx b 0 r).groupStill p.group = true → p.seg % 2 = 1) (htrk : s.blk.xfr.trk = []) :
    Gives (.resultDelivery b) s ((s.blk.setRx b 0 r).bump .GRP_ERR 63 48 b) := by
  have hidle : ∀ t, (s.blk.setRx b 0 r).tracker b t = {} := fun t => by
    rw [Block.tracker_setRx, Block.tracker, htrk, look_nil]
  refine gives_takesHead (fun _ => rfl) hr hg ho (beq_iff_eq.2 ho) ((if_neg (still_data hphase)).trans ?_)
  simp only [hidle]
  rw [if_pos (by simp [Tracker.collects]), if_neg (by simp)]

/-! ### DISPATCH_DELIVERY (R318) -/

/-- The destination tracker that the group of a DISPATCH names. -/
def Block.runTracker (k : Block) (p : Packet) : Nat := fld (k.descWord p.group 1) 39 30

/-- The tracker is the destination of the group and sequence of a DISPATCH. -/
def Tracker.ofRun (v : Tracker) (p : Packet) : Bool :=
  v.op == .reducerPart && v.desc.group == p.group && v.desc.cseq == p.cseq

theorem Tracker.ofRun_iff {v : Tracker} : v.ofRun p = true ↔
    v.op = .reducerPart ∧ v.desc.group = p.group ∧ v.desc.cseq = p.cseq := by
  simp [Tracker.ofRun, and_assoc]

/-- What a DISPATCH part at EP 0 comes to: no route without a valid group whose tracker is bound or ends; the start of an IDLE
tracker; a part taken, or acknowledged again; an event at any other tracker. -/
def Block.takeDispatch (k : Block) (d : Build) (b : Nat) (p : Packet) : Block :=
  let t := k.runTracker p
  let v := k.tracker b t
  if !k.descValid p.group || (!flag (k.binding b t) 63 &&
      !(v.ofRun p && (v.st == .linger || v.st == .completing))) then
    (k.bump .GRP_ERR 47 32 b).answerError d b p stNoRoute
  else if v.st = .idle then
    (k.setTracker b t
      { st := .collect, op := .reducerPart, isDest := true, sys := true, owner := p.src, gtime := k.gtime
        desc := { group := p.group, cseq := p.cseq } }).takeRun d b t p
  else if v.st = .collect ∧ v.ofRun p = true then k.takeRun d b t p
  else if (v.st = .linger ∨ v.st = .completing) ∧ v.ofRun p = true then k.ackRun d b p
  else (k.bump .TRK_ERR 63 48 b).postEvent b { type := 0xB, source := t, arg0 := p.src, arg1 := p.pseq }

theorem gives_dispatchDelivery (hr : Ready s b) (hg : s.blk.headGood b 0 0 p r) (ho : p.op = opDispatch) :
    Gives (.dispatchDelivery b) s ((s.blk.setRx b 0 r).takeDispatch s.env.build b p) :=
  gives_takesHead (fun _ => rfl) hr hg ho (beq_iff_eq.2 ho) rfl

end

section
variable {k : Block} {d : Build} {b : Nat} {p : Packet}

theorem Block.takeDispatch_noGroup (hv : k.descValid p.group = false) :
    k.takeDispatch d b p = (k.bump .GRP_ERR 47 32 b).answerError d b p stNoRoute :=
  if_pos (by rw [hv]; rfl)

/-- An unbound tracker that does not end takes no run. -/
theorem Block.takeDispatch_unbound (hb : flag (k.binding b (k.runTracker p)) 63 = false)
    (hst : (k.tracker b (k.runTracker p)).st = .collect) :
    k.takeDispatch d b p = (k.bump .GRP_ERR 47 32 b).answerError d b p stNoRoute :=
  if_pos (by simp [hb, hst])

/-- The first run of a group starts its bound tracker. -/
theorem Block.takeDispatch_idle (hv : k.descValid p.group = true) (hb : flag (k.binding b (k.runTracker p)) 63 = true)
    (hst : (k.tracker b (k.runTracker p)).st = .idle) :
    k.takeDispatch d b p = (k.setTracker b (k.runTracker p)
      { st := .collect, op := .reducerPart, isDest := true, sys := true, owner := p.src, gtime := k.gtime
        desc := { group := p.group, cseq := p.cseq } }).takeRun d b (k.runTracker p) p := by
  simp [Block.takeDispatch, hv, hb, hst]

theorem Block.takeDispatch_collect (hv : k.descValid p.group = true) (hb : flag (k.binding b (k.runTracker p)) 63 = true)
    (hst : (k.tracker b (k.runTracker p)).st = .collect) (hrun : (k.tracker b (k.runTracker p)).ofRun p = true) :
    k.takeDispatch d b p = k.takeRun d b (k.runTracker p) p := by
  simp [Block.takeDispatch, hv, hb, hst, hrun]

/-- A part for a tracker that has what it waits for is acknowledged, bound or not. -/
theorem Block.takeDispatch_over (hv : k.descValid p.group = true)
    (hst : (k.tracker b (k.runTracker p)).st = .linger ∨ (k.tracker b (k.runTracker p)).st = .completing)
    (hrun : (k.tracker b (k.runTracker p)).ofRun p = true) : k.takeDispatch d b p = k.ackRun d b p := by
  obtain h | h := hst <;> simp [Block.takeDispatch, hv, h, hrun]

/-- A bound tracker that does other work clashes with the run. -/
theorem Block.takeDispatch_clash (hv : k.descValid p.group = true) (hb : flag (k.binding b (k.runTracker p)) 63 = true)
    (hst : (k.tracker b (k.runTracker p)).st ≠ .idle) (hrun : (k.tracker b (k.runTracker p)).ofRun p = false) :
    k.takeDispatch d b p = (k.bump .TRK_ERR 63 48 b).postEvent b
      { type := 0xB, source := k.runTracker p, arg0 := p.src, arg1 := p.pseq } := by
  simp [Block.takeDispatch, hv, hb, hst, hrun]

end

end Sys2Proof.Machine
end

section
/-!
The statement about RESULT and DISPATCH at the network interface (R251, R314, R318).
-/

namespace Sys2Proof.Machine

/-- Settles O33: a RESULT by the trackers that collect it, a DISPATCH by the tracker that its group names. -/
theorem groupPartsReachTheirTrackers : Obligations.GroupPartsReachTheirTrackers := by
  unfold Obligations.GroupPartsReachTheirTrackers
  refine ⟨?taken, ?phase0, ?stray, ?noGroup, ?starts, ?ofRun, ?clash⟩
  case taken =>
    intro s b p r hr hg ho k n ts hphase hts
    exact gives_resultDelivery_taken hr hg ho hphase hts
  case phase0 => exact fun s b p r hr hg ho hstill hseg => gives_resultDelivery_phase0 hr hg ho hstill hseg
  case stray => exact fun s b p r hr hg ho htrk hphase => gives_resultDelivery_stray hr hg ho hphase htrk
  case noGroup =>
    intro s b p r hr hg ho k hv
    rw [← Block.takeDispatch_noGroup hv]
    exact gives_dispatchDelivery hr hg ho
  case starts =>
    intro s b p r hr hg ho k t hv hb hst c v
    have hgives : Gives (.dispatchDelivery b) s (k.takeDispatch s.env.build b p) := gives_dispatchDelivery hr hg ho
    rwa [Block.takeDispatch_idle hv hb hst] at hgives
  case ofRun =>
    intro s b p r hr hg ho k t hv hop hgroup hcseq
    have hrun : (k.tracker b t).ofRun p = true := Tracker.ofRun_iff.2 ⟨hop, hgroup, hcseq⟩
    have hgives : Gives (.dispatchDelivery b) s (k.takeDispatch s.env.build b p) := gives_dispatchDelivery hr hg ho
    refine ⟨fun hst hb => ?_, fun hst hb => ?_, fun hst => ?_⟩
    · rwa [Block.takeDispatch_collect hv hb hst hrun] at hgives
    · rwa [Block.takeDispatch_unbound hb hst] at hgives
    · rwa [Block.takeDispatch_over hv hst hrun] at hgives
  case clash =>
    intro s b p r hr hg ho k t hv hb hst hop
    have hother : (k.tracker b t).ofRun p = false :=
      Bool.eq_false_iff.2 fun h => hop (Tracker.ofRun_iff.1 h).1
    have hgives : Gives (.dispatchDelivery b) s (k.takeDispatch s.env.build b p) := gives_dispatchDelivery hr hg ho
    rwa [Block.takeDispatch_clash hv hb hst hother] at hgives

end Sys2Proof.Machine
end

section
/-!
SUPPORT. Filing at the reducer (R244, R249, R271): the rows of R249's table, and a write of RDC_SLOT in the FCLK in which a
packet starts the slot's stream.
-/

namespace Sys2Proof.Machine

/-! ### Packets at port C (R249, R251, R253) -/

theorem gives_fileHead {s : State} {c : Instr} {b op : Nat} {p : Packet} {r : List Packet}
    (he : exec c s = s.run (brickOk s.env.build b) fun k => k.fileHead s.env.build b op) (hr : Ready s b)
    (hg : s.blk.headGood b 2 2 p r) (ho : p.op = op) :
    Gives c s ((s.blk.setRx b 2 r).fileArriving s.env.build b p) := by
  have htake : s.blk.rxTake b 2 [op] = some (p, s.blk.setRx b 2 r) := Block.rxTake_head hg.1 (by simp [ho])
  refine gives_of_run he hr.2 hr.1 ?_
  rw [Block.fileHead, htake]
  dsimp only
  rw [beq_iff_eq.2 ho, Block.consume_head hg]

/-- A good answer at the head of port C's FIFO reaches the slot that its TRACKER names. -/
theorem gives_reducerAnswer {s : State} {c : Instr} {b op : Nat} {p : Packet} {r : List Packet} {k : Block}
    {f : Block → Nat → Packet → Block}
    (he : exec c s = s.run (brickOk s.env.build b) fun k => k.reducerAnswer s.env.build b op f) (hr : Ready s b)
    (hg : s.blk.headGood b 2 2 p r) (ho : p.op = op) (hk : f (s.blk.setRx b 2 r) (p.tracker % 1024) p = k) :
    Gives c s k := by
  have htake : s.blk.rxTake b 2 [op] = some (p, s.blk.setRx b 2 r) := Block.rxTake_head hg.1 (by simp [ho])
  refine gives_of_run he hr.2 hr.1 ?_
  rw [Block.reducerAnswer, htake]
  dsimp only
  rw [beq_iff_eq.2 ho, Block.consume_head hg, hk]

/-! ### A write of RDC_SLOT in the FCLK of a start (R271) -/

/-- Whatever no stored register has a part in, a write to a register keeps. -/
theorem Block.applyWrite_keeps {β : Type} (g : Block → β)
    (hg : ∀ (k : Block) (r : RegName) (pg : Nat) (ix : List Nat) (w : Word), g (k.setReg r pg ix w) = g k) (k : Block)
    (r : RegName) (pg : Nat) (ix : List Nat) (v : Word) : g (k.applyWrite r pg ix v) = g k := by
  refine foldl_keeps g (fun k f => ?_) (regFields r) k
  dsimp only
  split
  · exact (hg ..).trans (hg ..)
  · exact hg ..

theorem Block.fileArriving_quiet {k : Block} (h : k.rdc.slotOld.1 ≠ k.clk.now + 1) (d : Build) (b : Nat) (p : Packet) :
    k.fileArriving d b p = k.filePacket d b p := by
  rw [Block.fileArriving, Block.slotsBefore, if_neg h]
  rfl

section
variable {k : Block} {b sl : Nat}

theorem Block.writeSlot_idle (hi : k.slotIdle b sl = true) (v : Word) :
    k.writeSlot b sl v = (k.keepSlot b sl).applyWrite .RDC_SLOT b [sl] v :=
  if_pos hi

/-- The first write of an idle slot's word in an FCLK keeps the word from before. -/
theorem Block.slotsBefore_writeSlot (hq : k.rdc.slotOld.1 ≠ k.clk.now + 1) (hi : k.slotIdle b sl = true) (v : Word) :
    (k.writeSlot b sl v).slotsBefore = [(b * 64 + sl, k.reg .RDC_SLOT b [sl])] := by
  have hrdc := (k.keepSlot b sl).applyWrite_keeps (·.rdc) (fun _ _ _ _ _ => rfl) .RDC_SLOT b [sl] v
  have hclk := (k.keepSlot b sl).applyWrite_keeps (·.clk) (fun _ _ _ _ _ => rfl) .RDC_SLOT b [sl] v
  rw [Block.writeSlot_idle hi, Block.slotsBefore, hrdc, hclk, Block.keepSlot, Block.slotsBefore, if_neg hq]
  exact if_pos rfl

theorem Block.stream_writeSlot (hi : k.slotIdle b sl = true) (v : Word) (c u : Nat) :
    (k.writeSlot b sl v).stream c u = k.stream c u := by
  rw [Block.writeSlot_idle hi]
  exact (k.keepSlot b sl).applyWrite_keeps (·.stream c u) (fun _ _ _ _ _ => rfl) .RDC_SLOT b [sl] v

theorem Block.not_running_of_slotIdle (hi : k.slotIdle b sl = true) : (k.stream b (0x100 + sl)).st ≠ .running := by
  intro h
  simp [Block.slotIdle, h] at hi

/-- The packet starts the slot with the word from before: the write is discarded and sets LOCKVIO. -/
theorem Block.fileArriving_written {d : Build} {v : Word} {p : Packet} (hq : k.rdc.slotOld.1 ≠ k.clk.now + 1)
    (hsl : sl < 64) (hi : k.slotIdle b sl = true)
    (hrun : ((((k.writeSlot b sl v).setReg .RDC_SLOT b [sl] (k.reg .RDC_SLOT b [sl])).filePacket d b p).stream b
      (0x100 + sl)).st = .running) :
    (k.writeSlot b sl v).fileArriving d b p =
      (((k.writeSlot b sl v).setReg .RDC_SLOT b [sl] (k.reg .RDC_SLOT b [sl])).filePacket d b p).lockVio := by
  have hslot : (b * 64 + sl) % 64 = sl := by omega
  have hbrick : (b * 64 + sl) / 64 = b := by omega
  rw [Block.fileArriving, Block.slotsBefore_writeSlot hq hi]
  simp only [List.findSome?_cons, hslot]
  rw [if_pos ⟨hbrick, by rw [Block.stream_writeSlot hi]; exact Block.not_running_of_slotIdle hi, hrun⟩]
  rfl

end

/-! ### The order of sequences (R246) -/

theorem seqBefore_self (o : Nat) : seqBefore o o = false := by
  have h : (o + 2 ^ 16 - o % 2 ^ 16) % 2 ^ 16 = 0 := by omega
  rw [seqBefore, h]
  rfl

/-- The sequence after OPEN is not before it. -/
theorem seqBefore_next {o : Nat} (h : o < 2 ^ 16) : seqBefore ((o + 1) % 2 ^ 16) o = false := by
  have hx : (o + 2 ^ 16 - (o + 1) % 2 ^ 16 % 2 ^ 16) % 2 ^ 16 = 2 ^ 16 - 1 := by omega
  rw [seqBefore, hx]
  rfl

theorem seqNext_ne (o : Nat) : (o + 1) % 2 ^ 16 ≠ o := by omega

/-! ### The table of R249 -/

/-- The segment of a packet: still mode has two phases in each. -/
def SlotWord.segOf (w : SlotWord) (p : Packet) : Nat := if w.still then p.seg / 2 else p.seg

/-- The phase of a packet. -/
def SlotWord.phaseOf (w : SlotWord) (p : Packet) : Nat := if w.still then p.seg % 2 else 0

/-- Segment `n` of sequence `cseq` has been emitted already: its set has, or has none and NEXT is past it. -/
def Slot.hasEmitted (v : Slot) (cseq n : Nat) : Bool :=
  cseq == v.openSeq && (match v.tagged cseq n with
    | some i => (v.set i).emitted
    | none => decide (n < v.next))

section
variable {v : Slot} {cseq n : Nat}

theorem Slot.hasEmitted_tagged {i : Nat} (ho : cseq = v.openSeq) (ht : v.tagged cseq n = some i) :
    v.hasEmitted cseq n = (v.set i).emitted := by
  rw [Slot.hasEmitted, beq_iff_eq.2 ho, ht, Bool.true_and]

theorem Slot.hasEmitted_passed (ho : cseq = v.openSeq) (ht : v.tagged cseq n = none) (hn : n < v.next) :
    v.hasEmitted cseq n = true := by
  rw [Slot.hasEmitted, beq_iff_eq.2 ho, ht, Bool.true_and]
  exact decide_eq_true hn

theorem Slot.hasEmitted_ahead (ho : cseq = v.openSeq) (ht : v.tagged cseq n = none) (hn : v.next ≤ n) :
    v.hasEmitted cseq n = false := by
  rw [Slot.hasEmitted, beq_iff_eq.2 ho, ht, Bool.true_and]
  exact decide_eq_false (Nat.not_lt.2 hn)

theorem Slot.hasEmitted_other (ho : cseq ≠ v.openSeq) : v.hasEmitted cseq n = false := by
  rw [Slot.hasEmitted, beq_eq_false_iff_ne.2 ho, Bool.false_and]

end

/-- A packet is placed under a part key in the set with its tag, or in a free one; with none it is counted. -/
def Block.fileInSet (k : Block) (d : Build) (b sl key : Nat) (p : Packet) : Block :=
  let w := k.slotWord b sl
  let v := k.slot b sl
  match v.tagged p.cseq (w.segOf p) with
  | some i => (k.placePacket b sl i key p).startSlot d b sl 8
  | none =>
    match findBelow (w.depth + 1) fun i => (v.set i).tag.isNone with
    | some i =>
      ((k.setSlot b sl (v.setSet i { tag := some (p.cseq, w.segOf p) })).placePacket b sl i key p).startSlot d b sl 8
    | none => k.bump .RDC_ERR 47 32 b

section
variable {k : Block} {d : Build} {b sl key : Nat} {p : Packet}

theorem Block.fileInSet_tagged {i : Nat} (ht : (k.slot b sl).tagged p.cseq ((k.slotWord b sl).segOf p) = some i) :
    k.fileInSet d b sl key p = (k.placePacket b sl i key p).startSlot d b sl 8 := by
  rw [Block.fileInSet, ht]

theorem Block.fileInSet_fresh {i : Nat} (ht : (k.slot b sl).tagged p.cseq ((k.slotWord b sl).segOf p) = none)
    (hfree : (findBelow ((k.slotWord b sl).depth + 1) fun i => ((k.slot b sl).set i).tag.isNone) = some i) :
    k.fileInSet d b sl key p = ((k.setSlot b sl ((k.slot b sl).setSet i
      { tag := some (p.cseq, (k.slotWord b sl).segOf p) })).placePacket b sl i key p).startSlot d b sl 8 := by
  rw [Block.fileInSet, ht]
  dsimp only
  rw [hfree]

theorem Block.fileInSet_full (ht : (k.slot b sl).tagged p.cseq ((k.slotWord b sl).segOf p) = none)
    (hfree : (findBelow ((k.slotWord b sl).depth + 1) fun i => ((k.slot b sl).set i).tag.isNone) = none) :
    k.fileInSet d b sl key p = k.bump .RDC_ERR 47 32 b := by
  rw [Block.fileInSet, ht]
  dsimp only
  rw [hfree]

end

section
variable {k : Block} {d : Build} {b sl : Nat} {p : Packet}

theorem Block.filePacket_noSlot (h : k.slotOfGroup b p.group = none) :
    k.filePacket d b p = (k.bump .RDC_ERR 63 48 b).answerErrorAt d b 2 p stNoRoute := by
  rw [Block.filePacket]
  dsimp only
  rw [h]

variable (hs : k.slotOfGroup b p.group = some sl)
include hs

theorem Block.filePacket_noChild (ho : p.op ≠ opResult) (hc : k.childSlot b p.group p.inPort = none) :
    k.filePacket d b p = (k.bump .RDC_ERR 63 48 b).answerErrorAt d b 2 p stNoRoute := by
  rw [Block.filePacket]
  dsimp only
  rw [hs]
  dsimp only
  rw [if_pos (by simp [ho, hc])]

/-- A packet of a child: before OPEN or emitted it is acknowledged, beyond the sequence after OPEN it is counted. -/
theorem Block.filePacket_child {c : Nat} (ho : p.op ≠ opResult) (hc : k.childSlot b p.group p.inPort = some c) :
    k.filePacket d b p =
      if seqBefore p.cseq (k.slot b sl).openSeq || (k.slot b sl).hasEmitted p.cseq ((k.slotWord b sl).segOf p) then
        k.ackPart d b p
      else if p.cseq ≠ (k.slot b sl).openSeq ∧ p.cseq ≠ ((k.slot b sl).openSeq + 1) % 2 ^ 16 then k.bump .RDC_ERR 47 32 b
      else k.fileInSet d b sl (c * 2 + (k.slotWord b sl).phaseOf p) p := by
  rw [Block.filePacket]
  dsimp only
  rw [hs]
  simp only [beq_eq_false_iff_ne.2 ho, hc, Option.isNone_some, Bool.not_false, Bool.and_false, Bool.false_and,
    Bool.false_eq_true, if_false, Option.getD_some]
  rfl

/-- A packet of a part that is over is acknowledged. -/
theorem Block.filePacket_child_done {c : Nat} (ho : p.op ≠ opResult) (hc : k.childSlot b p.group p.inPort = some c)
    (he : seqBefore p.cseq (k.slot b sl).openSeq = true ∨
      (k.slot b sl).hasEmitted p.cseq ((k.slotWord b sl).segOf p) = true) : k.filePacket d b p = k.ackPart d b p := by
  rw [Block.filePacket_child hs ho hc, if_pos (Bool.or_eq_true_iff.2 he)]

/-- A packet of a sequence beyond the one after OPEN is counted. -/
theorem Block.filePacket_child_far {c : Nat} (ho : p.op ≠ opResult) (hc : k.childSlot b p.group p.inPort = some c)
    (hb : seqBefore p.cseq (k.slot b sl).openSeq = false) (hne : p.cseq ≠ (k.slot b sl).openSeq)
    (hnn : p.cseq ≠ ((k.slot b sl).openSeq + 1) % 2 ^ 16) : k.filePacket d b p = k.bump .RDC_ERR 47 32 b := by
  rw [Block.filePacket_child hs ho hc, hb, Slot.hasEmitted_other hne, Bool.or_false, if_neg Bool.false_ne_true,
    if_pos ⟨hne, hnn⟩]

/-- A packet of OPEN whose segment has not been emitted is filed. -/
theorem Block.filePacket_child_open {c : Nat} (ho : p.op ≠ opResult) (hc : k.childSlot b p.group p.inPort = some c)
    (hq : p.cseq = (k.slot b sl).openSeq)
    (he : (k.slot b sl).hasEmitted p.cseq ((k.slotWord b sl).segOf p) = false) :
    k.filePacket d b p = k.fileInSet d b sl (c * 2 + (k.slotWord b sl).phaseOf p) p := by
  have hbefore : seqBefore p.cseq (k.slot b sl).openSeq = false := by rw [hq, seqBefore_self]
  rw [Block.filePacket_child hs ho hc, hbefore, he, Bool.or_false, if_neg Bool.false_ne_true, if_neg fun h => h.1 hq]

/-- A packet of the sequence after OPEN is filed. -/
theorem Block.filePacket_child_next {c : Nat} (ho : p.op ≠ opResult) (hc : k.childSlot b p.group p.inPort = some c)
    (hopen : (k.slot b sl).openSeq < 2 ^ 16) (hq : p.cseq = ((k.slot b sl).openSeq + 1) % 2 ^ 16) :
    k.filePacket d b p = k.fileInSet d b sl (c * 2 + (k.slotWord b sl).phaseOf p) p := by
  have hbefore : seqBefore p.cseq (k.slot b sl).openSeq = false := by rw [hq, seqBefore_next hopen]
  have hother : p.cseq ≠ (k.slot b sl).openSeq := by
    rw [hq]
    exact seqNext_ne _
  rw [Block.filePacket_child hs ho hc, hbefore, Slot.hasEmitted_other hother, Bool.or_false, if_neg Bool.false_ne_true,
    if_neg fun h => h.2 hq]

/-- A RESULT that the slot does not expect. -/
theorem Block.filePacket_result_stray (ho : p.op = opResult)
    (hw : (k.slotWord b sl).still = false ∨ (k.slotWord b sl).root = true) :
    k.filePacket d b p = k.bump .RDC_ERR 63 48 b := by
  rw [Block.filePacket]
  dsimp only
  rw [hs]
  dsimp only
  rw [if_neg (by simp [ho]), if_pos (by simpa [ho] using hw)]

section
variable (ho : p.op = opResult) (hstill : (k.slotWord b sl).still = true) (hroot : (k.slotWord b sl).root = false)
include ho hstill hroot

/-- A RESULT of another sequence than OPEN is discarded. -/
theorem Block.filePacket_result_other (hc : p.cseq ≠ (k.slot b sl).openSeq) : k.filePacket d b p = k := by
  rw [Block.filePacket]
  dsimp only
  rw [hs]
  dsimp only
  rw [if_neg (by simp [ho]), if_neg (by simp [hstill, hroot]), if_pos (by simp [ho, hc])]

/-- A RESULT of OPEN: a fault segment ends OPEN, phase 1 is discarded, and X takes phase 0. -/
theorem Block.filePacket_result_open (hc : p.cseq = (k.slot b sl).openSeq) :
    k.filePacket d b p =
      if faultPacket p = true then
        (((k.mapSlot b sl Slot.releaseOpen).abortStream b sl).mapSlot b sl Slot.advance).startSlot d b sl 8
      else if p.seg % 2 = 1 then k
      else if (k.slot b sl).hasEmitted p.cseq ((k.slotWord b sl).segOf p) then k
      else k.fileInSet d b sl 14 p := by
  have hbefore : seqBefore p.cseq (k.slot b sl).openSeq = false := by rw [hc, seqBefore_self]
  have hwindow : ¬(p.cseq ≠ (k.slot b sl).openSeq ∧ p.cseq ≠ ((k.slot b sl).openSeq + 1) % 2 ^ 16) := fun h => h.1 hc
  rw [Block.filePacket]
  dsimp only
  rw [hs]
  dsimp only
  rw [if_neg (by simp [ho]), if_neg (by simp [hstill, hroot]), if_neg (by simp [hc]), hbefore, if_neg hwindow]
  simp only [beq_iff_eq.2 ho, Bool.true_and, if_true, beq_iff_eq, Bool.false_or]
  rfl

variable (hc : p.cseq = (k.slot b sl).openSeq) (hf : faultPacket p = false) (hp : p.seg % 2 = 0)
include hc hf hp

theorem Block.filePacket_result_done
    (he : (k.slot b sl).hasEmitted p.cseq ((k.slotWord b sl).segOf p) = true) : k.filePacket d b p = k := by
  rw [Block.filePacket_result_open hs ho hstill hroot hc, hf, if_neg Bool.false_ne_true, if_neg (by omega), if_pos he]

theorem Block.filePacket_result_filed
    (he : (k.slot b sl).hasEmitted p.cseq ((k.slotWord b sl).segOf p) = false) :
    k.filePacket d b p = k.fileInSet d b sl 14 p := by
  rw [Block.filePacket_result_open hs ho hstill hroot hc, hf, if_neg Bool.false_ne_true, if_neg (by omega), he,
    if_neg Bool.false_ne_true]

end

end

end Sys2Proof.Machine
end

section
/-!
SUPPORT. Parts on their way from the reducer (R215, R251, R253, R321): what leaves with a part's last packet, and what its
answers and timers come to.
-/

namespace Sys2Proof.Machine

/-! ### A packet that is sent leaves the reducers alone (R174, R251) -/

theorem Block.chargeSpray_rdc (k : Block) (b inp : Nat) (x : Bool × Nat) (units : Nat) :
    (k.chargeSpray b inp x units).rdc = k.rdc := by
  unfold Block.chargeSpray
  split <;> rfl

theorem Block.chooseExit_rdc (k : Block) (d : Build) (b inp : Nat) (p : Packet) :
    (k.chooseExit d b inp p).2.rdc = k.rdc := by
  unfold Block.chooseExit
  dsimp only
  split
  · rfl
  · split
    · split <;> rfl
    · split <;> rfl

theorem Block.enterDie_rdc (k : Block) (d : Build) (b inp : Nat) (p : Packet) :
    (k.enterDie d b inp p).2.rdc = k.rdc := by
  have hexit := k.chooseExit_rdc d b inp p
  unfold Block.enterDie
  split
  · rfl
  · split
    · rfl
    · split
      · rfl
      · split
        · next x m hx =>
          rw [hx] at hexit
          exact (m.chargeSpray_rdc b inp x (pktUnits p)).trans hexit
        · next m hx =>
          rw [hx] at hexit
          exact hexit

theorem Block.sendDirect_rdc (k : Block) (d : Build) (b : Nat) (p : Packet) : (k.sendDirect d b p).rdc = k.rdc := by
  unfold Block.sendDirect
  extract_lets pt
  have henter := k.enterDie_rdc d b (4 + pt) p
  split
  · next h =>
    rw [h] at henter
    exact henter
  · next h =>
    rw [h] at henter
    dsimp only
    split <;> exact henter

theorem Block.ackPart_rdc (k : Block) (d : Build) (b : Nat) (p : Packet) : (k.ackPart d b p).rdc = k.rdc := by
  rw [Block.ackPart, Block.sendAck]
  dsimp only
  split
  · rfl
  · exact Block.sendDirect_rdc ..

@[simp] theorem Block.slot_mapSlot (k : Block) (b s : Nat) (f : Slot → Slot) :
    (k.mapSlot b s f).slot b s = f (k.slot b s) := by
  rw [Block.mapSlot, Block.slot_setSlot]

/-! ### What the last packet of a part brings (R251, R253, R254) -/

@[simp] theorem Slot.set_setSet (v : Slot) (i : Nat) (x : BufSet) : (v.setSet i x).set i = x := by
  simp [Slot.set, Slot.setSet]

/-- The parts that a slot sends, and those that have gone down the tree. -/
def Slot.sent (v : Slot) : List OutPart × List (Nat × Nat × Nat) := (v.out, v.downs)

@[simp] theorem Slot.sent_setSet (v : Slot) (i : Nat) (x : BufSet) : (v.setSet i x).sent = v.sent := rfl

@[simp] theorem Slot.sent_free (v : Slot) (i : Nat) : (v.free i).sent = v.sent := by
  unfold Slot.free
  dsimp only
  split <;> rfl

@[simp] theorem Slot.sent_partOver (v : Slot) (x : OutPart) : (v.partOver x).sent = v.sent := by
  unfold Slot.partOver
  split
  · rfl
  · split
    · rfl
    · exact Slot.sent_free ..

/-- A set whose A is held is not freed. -/
theorem Slot.free_held {v : Slot} {i : Nat} (h : (v.set i).aHeld = true) : v.free i = v := by
  simp [Slot.free, h]

/-- The set of children that are acknowledged, as far as they are complete. -/
def BufSet.ackComplete (x : BufSet) : BufSet :=
  { x with parts := x.parts.map fun e => if e.2.complete then (e.1, { e.2 with acked := true }) else e }

/-- The acknowledgements change, of the slot, the set alone. -/
theorem Block.slot_ackChildren (k : Block) (d : Build) (b s i : Nat) : (k.ackChildren d b s i).slot b s =
    (k.slot b s).setSet i ((k.slot b s).set i).ackComplete := by
  have hacks := foldl_keeps (fun (k : Block) => k.rdc) (fun k (e : Nat × Part) => k.ackPart_rdc d b e.2.head)
    (((k.slot b s).set i).children.filter fun e => e.2.complete && !e.2.acked) k
  have hslot := congrArg (fun m : Reducers => look {} m.slots (b * 64 + s)) hacks
  rw [Block.ackChildren, Block.slot_mapSlot]
  exact congrArg (fun v : Slot => v.setSet i ((k.slot b s).set i).ackComplete) hslot

/-- A slot once the last packet of its one part has left: the part stays until it is answered, or is over where it went down
the tree. -/
def Slot.left (v : Slot) (x : OutPart) : Slot :=
  if x.down then { v with out := [], downs := v.downs ++ [(x.cseq, x.seg, x.pkts.length)] }
  else { v with out := [{ x with gone := true }] }

theorem Slot.left_up {v : Slot} {x : OutPart} (h : x.down = false) :
    v.left x = { v with out := [{ x with gone := true }] } :=
  if_neg (Bool.eq_false_iff.1 h)

theorem Slot.left_down {v : Slot} {x : OutPart} (h : x.down = true) :
    v.left x = { v with out := [], downs := v.downs ++ [(x.cseq, x.seg, x.pkts.length)] } :=
  if_pos h

/-- What becomes of the set of a part that has left: it is emitted unless HOLD, and a part down the tree is over. -/
def Slot.emitSet (w : Slot) (i : Nat) (x : OutPart) : Slot :=
  let y := w.set i
  let w := w.setSet i
    (if x.emits then { y with emitted := true, bufs := keepKeys y.bufs (fun c => decide (7 ≤ c)) } else y)
  (if x.down then w.partOver x else w).free i

section
variable {k : Block} {d : Build} {b sl : Nat} {x : OutPart}

/-- The last packet of the one part that a slot sends has left. -/
theorem Block.partLeft_one (hout : (k.slot b sl).out = [x]) (ho : x.offered = true) (hg : x.gone = false) :
    k.partLeft d b sl x = match x.set with
      | none => k.setSlot b sl ((k.slot b sl).left x)
      | some i => if !(k.slot b sl).sentFrom i x then k.setSlot b sl ((k.slot b sl).left x)
        else ((k.setSlot b sl ((k.slot b sl).left x)).ackChildren d b sl i).mapSlot b sl fun w => w.emitSet i x := by
  cases hd : x.down <;> cases hset : x.set <;>
    simp [Block.partLeft, Slot.left, Slot.emitSet, hout, ho, hg, hd, hset]

@[simp] theorem Slot.sent_emitSet (w : Slot) (i : Nat) (x : OutPart) : (w.emitSet i x).sent = w.sent := by
  rw [Slot.emitSet, Slot.sent_free]
  split
  · rw [Slot.sent_partOver, Slot.sent_setSet]
  · rw [Slot.sent_setSet]

theorem Block.sent_partLeft (hout : (k.slot b sl).out = [x]) (ho : x.offered = true) (hg : x.gone = false) :
    ((k.partLeft d b sl x).slot b sl).sent = ((k.slot b sl).left x).sent := by
  rw [Block.partLeft_one hout ho hg]
  split
  · rw [Block.slot_setSlot]
  · split
    · rw [Block.slot_setSlot]
    · rw [Block.slot_mapSlot, Slot.sent_emitSet, Block.slot_ackChildren, Slot.sent_setSet, Block.slot_setSlot]

/-- The set of a part that has gone up the tree without HOLD is emitted, and its A is held until the part is answered. -/
theorem Block.set_partLeft_held {i : Nat} (hout : (k.slot b sl).out = [x]) (ho : x.offered = true) (hg : x.gone = false)
    (hd : x.down = false) (hset : x.set = some i) (htag : ((k.slot b sl).set i).tag = some (x.cseq, x.seqk))
    (he : x.emits = true) (ha : ((k.slot b sl).set i).aHeld = true) :
    (((k.partLeft d b sl x).slot b sl).set i).emitted = true ∧ (((k.partLeft d b sl x).slot b sl).set i).aHeld = true := by
  have hfrom : (k.slot b sl).sentFrom i x = true := by simp [Slot.sentFrom, hset, htag]
  have hleft : ((k.slot b sl).left x).set i = (k.slot b sl).set i := by
    rw [Slot.left_up hd]
    rfl
  rw [Block.partLeft_one hout ho hg, hset]
  dsimp only
  rw [hfrom, Bool.not_true, if_neg Bool.false_ne_true, Block.slot_mapSlot, Block.slot_ackChildren,
    Block.slot_setSlot, hleft, Slot.emitSet]
  simp only [hd, he, Bool.false_eq_true, if_false, if_true, Slot.set_setSet]
  rw [Slot.free_held (by rw [Slot.set_setSet]; exact ha), Slot.set_setSet]
  exact ⟨rfl, ha⟩

end

/-- The last packet of the one part that a slot sends has left input C. -/
theorem gives_segmentEmitted {s : State} {b sl : Nat} {x : OutPart} (hr : Ready s b) (hsl : sl < 64)
    (hout : (s.blk.slot b sl).out = [x]) (ho : x.offered = true) (hg : x.gone = false) (hl : x.left = [])
    (hstage : (s.blk.stagedAt b 5).any (fun y => y.sub == some (1040 + sl) && y.pkt.cseq == x.cseq && y.pkt.seg == x.seg) =
      false) :
    Gives (.segmentEmitted b sl) s (s.blk.partLeft s.env.build b sl x) := by
  show execSegmentEmitted b sl s = _
  rw [execSegmentEmitted, State.run_slot hr hsl]
  simp [hout, ho, hg, hl, hstage]

/-! ### Answers to a part (R251, R253, R321) -/

/-- A slot without parts has nothing to stage. -/
theorem Block.pumpSlot_idle {k : Block} {b sl : Nat} (h : (k.slot b sl).out = []) (d : Build) (n : Nat) :
    k.pumpSlot d b sl n = k := by
  cases n with
  | zero => rfl
  | succ n =>
    rw [Block.pumpSlot, h]
    rfl

/-- The one part of a slot is answered, and no set waits for it. -/
theorem Block.partDone_unset {k : Block} {b sl : Nat} {x : OutPart} (hout : (k.slot b sl).out = [x]) (hset : x.set = none)
    (d : Build) : k.partDone d b sl 0 = k.setSlot b sl { k.slot b sl with out := [] } := by
  have hover : ∀ v : Slot, v.partOver x = v := fun v => by rw [Slot.partOver, hset]
  have hidle : ((k.setSlot b sl { k.slot b sl with out := [] }).slot b sl).out = [] := by rw [Block.slot_setSlot]
  rw [Block.partDone, hout]
  dsimp only [List.getElem?_cons_zero, List.eraseIdx_cons_zero]
  rw [hover, Block.pumpSlot_idle hidle]

section
variable {s : State} {b i : Nat} {p : Packet} {r : List Packet}

theorem gives_segmentAck (hr : Ready s b) (hg : s.blk.headGood b 2 2 p r) (ho : p.op = opAck)
    (hi : (s.blk.slot b (p.tracker % 1024)).out.findIdx? (answersPart p) = some i)
    (hl : (ackList p.payload p.pcount).length = p.pcount) :
    Gives (.segmentAck b) s ((s.blk.setRx b 2 r).partDone s.env.build b (p.tracker % 1024) i) :=
  gives_reducerAnswer rfl hr hg ho (by rw [Block.slot_setRx, hi]; exact if_pos hl)

theorem gives_segmentAck_stray (hr : Ready s b) (hg : s.blk.headGood b 2 2 p r) (ho : p.op = opAck)
    (hi : (s.blk.slot b (p.tracker % 1024)).out.findIdx? (answersPart p) = none) :
    Gives (.segmentAck b) s (s.blk.setRx b 2 r) :=
  gives_reducerAnswer rfl hr hg ho (by rw [Block.slot_setRx, hi])

/-- An ERROR of a part up the tree faults OPEN with its status. -/
theorem gives_segmentError_up (hr : Ready s b) (hg : s.blk.headGood b 2 2 p r) (ho : p.op = opError)
    (hi : (s.blk.slot b (p.tracker % 1024)).out.findIdx? (answersPart p) = some i) :
    Gives (.segmentError b) s (((s.blk.setRx b 2 r).partDone s.env.build b (p.tracker % 1024) i).slotFault s.env.build b
      (p.tracker % 1024) (statusOf p.status)) :=
  gives_reducerAnswer rfl hr hg ho (by rw [Block.slot_setRx, hi])

theorem gives_segmentError_down (hr : Ready s b) (hg : s.blk.headGood b 2 2 p r) (ho : p.op = opError)
    (hi : (s.blk.slot b (p.tracker % 1024)).out.findIdx? (answersPart p) = none)
    (hd : (s.blk.slot b (p.tracker % 1024)).answersDown p = true) :
    Gives (.segmentError b) s (((s.blk.setRx b 2 r).mapSlot b (p.tracker % 1024) fun v => v.forgetDown p).slotFault
      s.env.build b (p.tracker % 1024) (statusOf p.status)) :=
  gives_reducerAnswer rfl hr hg ho (by rw [Block.slot_setRx, hi]; exact if_pos hd)

/-- The part is NACKed. -/
def Slot.nackPart (v : Slot) (i : Nat) : Slot := { v with out := v.out.modify i fun x => { x with nacked := true } }

theorem gives_segmentNack (hr : Ready s b) (hg : s.blk.headGood b 2 2 p r) (ho : p.op = opNack)
    (hi : (s.blk.slot b (p.tracker % 1024)).out.findIdx? (answersPart p) = some i) :
    Gives (.segmentNack b) s (((s.blk.setRx b 2 r).mapSlot b (p.tracker % 1024) fun v => v.nackPart i).resendOrFail
      s.env.build b (p.tracker % 1024) i) :=
  gives_reducerAnswer rfl hr hg ho (by rw [Block.slot_setRx, hi]; rfl)

end

/-! ### Parts that are sent again (R215, R251) -/

section
variable {k : Block} {d : Build} {b sl i : Nat} {x : OutPart}

theorem Block.resendOrFail_again (hx : (k.slot b sl).out[i]? = some x) (hn : x.resent < 4) :
    k.resendOrFail d b sl i = k.resendPart d b sl i := by
  rw [Block.resendOrFail, hx]
  exact if_pos hn

/-- A NACKed part of OPEN that was sent again four times faults the collective. -/
theorem Block.resendOrFail_exhausted (hx : (k.slot b sl).out[i]? = some x) (hn : 4 ≤ x.resent) (hnack : x.nacked = true)
    (hc : x.cseq = (k.slot b sl).openSeq) : k.resendOrFail d b sl i = k.slotFault d b sl stCrcResend := by
  rw [Block.resendOrFail, hx]
  exact (if_neg (Nat.not_lt.2 hn)).trans (if_pos ⟨hnack, hc⟩)

theorem Block.resendOrFail_quiet (hx : (k.slot b sl).out[i]? = some x) (hn : 4 ≤ x.resent) (hnack : x.nacked = false) :
    k.resendOrFail d b sl i = k := by
  rw [Block.resendOrFail, hx]
  exact (if_neg (Nat.not_lt.2 hn)).trans (if_neg (by simp [hnack]))

theorem Slot.nackPart_get {v : Slot} (hx : v.out[i]? = some x) : (v.nackPart i).out[i]? = some { x with nacked := true } := by
  simp [Slot.nackPart, hx]

end

theorem gives_segmentResendTimer {s : State} {b sl : Nat} (hr : Ready s b) (hsl : sl < 64) (seg : Nat) :
    Gives (.segmentResendTimer b sl seg) s
      (((s.blk.slot b sl).out.filter fun x => x.gone && !x.down && x.seg == seg && x.left.isEmpty).foldl
        (fun k x => k.resendStanding s.env.build b sl x) s.blk) := by
  show execSegmentResendTimer b sl seg s = _
  rw [execSegmentResendTimer, State.run_slot hr hsl]

/-- One part is due: the timer resends it as it stands. -/
theorem gives_segmentResendTimer_one {s : State} {b sl seg i : Nat} {x : OutPart} (hr : Ready s b) (hsl : sl < 64)
    (hdue : (s.blk.slot b sl).out.filter (fun x => x.gone && !x.down && x.seg == seg && x.left.isEmpty) = [x])
    (hi : (s.blk.slot b sl).out.findIdx? (· == x) = some i) :
    Gives (.segmentResendTimer b sl seg) s (s.blk.resendOrFail s.env.build b sl i) := by
  have hgives := gives_segmentResendTimer hr hsl seg
  rwa [hdue, List.foldl_cons, List.foldl_nil, Block.resendStanding, hi] at hgives

/-- The lowest missing packet of each part that a child has begun is NACKed. -/
theorem gives_reducerHoleTimer {s : State} {b sl : Nat} (hr : Ready s b) (hsl : sl < 64) (child : Nat) :
    Gives (.reducerHoleTimer b sl child) s
      (((s.blk.slot b sl).sets.flatMap fun e =>
        (e.2.children.filter fun f => f.1 / 2 == child && !f.2.complete && !f.2.placed.isEmpty).map Prod.snd).foldl
        (fun k x => k.sendNack s.env.build b 2 { x.head with pseq := x.missing }) s.blk) := by
  show execReducerHoleTimer b sl child s = _
  rw [execReducerHoleTimer, State.run_slot hr hsl]

end Sys2Proof.Machine
end

section
/-!
The statement about segment packets at the reducer, and the answers and timers of parts (R215, R249, R251, R253, R271, R321).
-/

namespace Sys2Proof.Machine

/-- Settles O27: filing by the rows of R249's table, a part that leaves by its slot, and answers and timers by the part that
they name. -/
theorem segmentPacketsAreFiledAndAnswered : Obligations.SegmentPacketsAreFiledAndAnswered := by
  unfold Obligations.SegmentPacketsAreFiledAndAnswered
  refine ⟨?contrib, ?result, ?dispatch, ?quiet, ?written, ?table, ?emitted, ?held, ?ack, ?ackUnset, ?ackStray, ?errorUp,
    ?errorDown, ?nack, ?resends, ?resendsOne, ?hole⟩
  case contrib => exact fun s b p r hr hg ho => gives_fileHead (c := .contribFile b) rfl hr hg ho
  case result => exact fun s b p r hr hg ho => gives_fileHead (c := .resultAtReducer b) rfl hr hg ho
  case dispatch => exact fun s b p r hr hg ho => gives_fileHead (c := .dispatchFile b) rfl hr hg ho
  case quiet => exact fun k d b p hq => Block.fileArriving_quiet hq d b p
  case written =>
    intro k d b sl v p hq hsl hi old hrun
    exact Block.fileArriving_written hq hsl hi hrun
  case table =>
    intro k d b p child
    refine ⟨Block.filePacket_noSlot, ?_⟩
    intro sl hs w v n
    refine ⟨?noChild, ?stray, ?otherSeq, ?fault, ?phase1, ?resTagged, ?resUntagged, ?before, ?done, ?tagged, ?fresh, ?full,
      ?passed, ?nextTagged, ?nextFresh, ?nextFull, ?far⟩
    case noChild => exact fun ho hc => Block.filePacket_noChild hs ho hc
    case stray => exact fun ho hw => Block.filePacket_result_stray hs ho hw
    case otherSeq => exact fun ho hst hrt hc => Block.filePacket_result_other hs ho hst hrt hc
    case fault =>
      exact fun ho hst hrt hc hf => (Block.filePacket_result_open hs ho hst hrt hc).trans (if_pos hf)
    case phase1 =>
      exact fun ho hst hrt hc hf hp => (Block.filePacket_result_open hs ho hst hrt hc).trans
        ((if_neg (Bool.eq_false_iff.1 hf)).trans (if_pos hp))
    case resTagged =>
      exact fun i ho hst hrt hc hf hp ht =>
        ⟨fun he => Block.filePacket_result_done hs ho hst hrt hc hf hp ((Slot.hasEmitted_tagged hc ht).trans he),
          fun he => (Block.filePacket_result_filed hs ho hst hrt hc hf hp ((Slot.hasEmitted_tagged hc ht).trans he)).trans
            (Block.fileInSet_tagged ht)⟩
    case resUntagged =>
      exact fun ho hst hrt hc hf hp ht =>
        ⟨fun hn => Block.filePacket_result_done hs ho hst hrt hc hf hp (Slot.hasEmitted_passed hc ht hn),
          fun i hn hfree => (Block.filePacket_result_filed hs ho hst hrt hc hf hp (Slot.hasEmitted_ahead hc ht hn)).trans
            (Block.fileInSet_fresh ht hfree),
          fun hn hfree => (Block.filePacket_result_filed hs ho hst hrt hc hf hp (Slot.hasEmitted_ahead hc ht hn)).trans
            (Block.fileInSet_full ht hfree)⟩
    case before => exact fun c ho hc hb => Block.filePacket_child_done hs ho hc (.inl hb)
    case done =>
      exact fun c i ho hc hq ht he =>
        Block.filePacket_child_done hs ho hc (.inr ((Slot.hasEmitted_tagged hq ht).trans he))
    case tagged =>
      exact fun c i ho hc hq ht he =>
        (Block.filePacket_child_open hs ho hc hq ((Slot.hasEmitted_tagged hq ht).trans he)).trans
          (Block.fileInSet_tagged ht)
    case fresh =>
      exact fun c i ho hc hq ht hn hfree =>
        (Block.filePacket_child_open hs ho hc hq (Slot.hasEmitted_ahead hq ht hn)).trans (Block.fileInSet_fresh ht hfree)
    case full =>
      exact fun c ho hc hq ht hn hfree =>
        (Block.filePacket_child_open hs ho hc hq (Slot.hasEmitted_ahead hq ht hn)).trans (Block.fileInSet_full ht hfree)
    case passed =>
      exact fun c ho hc hq ht hn => Block.filePacket_child_done hs ho hc (.inr (Slot.hasEmitted_passed hq ht hn))
    case nextTagged =>
      exact fun c i ho hc hopen hq ht =>
        (Block.filePacket_child_next hs ho hc hopen hq).trans (Block.fileInSet_tagged ht)
    case nextFresh =>
      exact fun c i ho hc hopen hq ht hfree =>
        (Block.filePacket_child_next hs ho hc hopen hq).trans (Block.fileInSet_fresh ht hfree)
    case nextFull =>
      exact fun c ho hc hopen hq ht hfree =>
        (Block.filePacket_child_next hs ho hc hopen hq).trans (Block.fileInSet_full ht hfree)
    case far => exact fun c ho hc hb hne hnn => Block.filePacket_child_far hs ho hc hb hne hnn
  case emitted =>
    intro s b sl x hr hsl hout ho hg hl hstage
    have hsent := Block.sent_partLeft (d := s.env.build) hout ho hg
    refine ⟨_, gives_segmentEmitted hr hsl hout ho hg hl hstage, rfl, fun hd => ?_, fun hd => ?_⟩
    · rw [Slot.left_up hd] at hsent
      exact congrArg Prod.fst hsent
    · rw [Slot.left_down hd] at hsent
      exact ⟨congrArg Prod.fst hsent, congrArg Prod.snd hsent⟩
  case held =>
    intro s b sl i x hr hsl hout ho hg hl hd hset htag he ha _ hstage
    have hsent := Block.sent_partLeft (d := s.env.build) hout ho hg
    obtain ⟨hemitted, hheld⟩ := Block.set_partLeft_held (d := s.env.build) hout ho hg hd hset htag he ha
    refine ⟨_, gives_segmentEmitted hr hsl hout ho hg hl hstage, hemitted, hheld, ?_⟩
    rw [Slot.left_up hd] at hsent
    exact congrArg Prod.fst hsent
  case ack => exact fun s b i p r hr hg ho hi hl => gives_segmentAck hr hg ho hi hl
  case ackUnset =>
    intro s b p r x hr hg ho hout hx hset hl
    have hi : (s.blk.slot b (p.tracker % 1024)).out.findIdx? (answersPart p) = some 0 := by
      rw [hout, List.findIdx?_cons, hx]
      rfl
    have hgives := gives_segmentAck hr hg ho hi hl
    rwa [Block.partDone_unset (k := s.blk.setRx b 2 r) hout hset] at hgives
  case ackStray => exact fun s b p r hr hg ho hi => gives_segmentAck_stray hr hg ho hi
  case errorUp => exact fun s b i p r hr hg ho hi => gives_segmentError_up hr hg ho hi
  case errorDown => exact fun s b p r hr hg ho hi hd => gives_segmentError_down hr hg ho hi hd
  case nack =>
    intro s b i x p r hr hg ho hi hx k
    have hgives := gives_segmentNack hr hg ho hi
    have hslot := (s.blk.setRx b 2 r).slot_mapSlot b (p.tracker % 1024) fun v => v.nackPart i
    have hx' := (congrArg (fun v : Slot => v.out[i]?) hslot).trans (Slot.nackPart_get hx)
    have hopen := congrArg Slot.openSeq hslot
    refine ⟨fun hn => ?_, fun hn hc => ?_⟩
    · rwa [Block.resendOrFail_again hx' hn] at hgives
    · rwa [Block.resendOrFail_exhausted hx' hn rfl (hc.trans hopen.symm)] at hgives
  case resends => exact fun s b sl seg hr hsl => gives_segmentResendTimer hr hsl seg
  case resendsOne =>
    intro s b sl seg i x hr hsl hdue hi hx
    have hgives := gives_segmentResendTimer_one hr hsl hdue hi
    refine ⟨fun hn => ?_, fun hn hnack hc => ?_, fun hn hnack => ?_⟩
    · rwa [Block.resendOrFail_again hx hn] at hgives
    · rwa [Block.resendOrFail_exhausted hx hn hnack hc] at hgives
    · rwa [Block.resendOrFail_quiet hx hn hnack] at hgives
  case hole =>
    intro s b sl child l hr hsl hl
    rw [← hl]
    exact gives_reducerHoleTimer hr hsl child

end Sys2Proof.Machine
end

section
/-!
The statement about the phases of sparse operands (R330, R331, R339, R342, R343): COMPRESS_SCAN_DONE while the source of the
scan pass is still being read (R334).
-/

namespace Sys2Proof.Machine

/-- While its source is still being read, a scan pass is not over (R334). -/
theorem gives_compressScanDone_reading {s : State} {b t : Nat} (hr : Ready s b) (ht : s.blk.scanning b = some t)
    (hreads : s.blk.scanReads b t = true) : Gives (.compressScanDone b) s s.blk := by
  have he : exec (.compressScanDone b) s = execCompressScanDone b s := rfl
  rw [Gives, he, execCompressScanDone, State.run_brick hr, ht]
  dsimp only
  rw [if_pos hreads]

/-- A STORE.C on tracker 512, of one block of 64 values of four bytes (R331). -/
def oneBlockStore : Desc := { trk := 512, entry := 1, len := 256, opx := List.replicate 16 0 }

/-- Engine 0 of brick 0 has just started that STORE.C, and the source of its scan pass, all zeros, is being read. -/
def scanUnderway : State := { blk := ({} : Block).startTransfer {} 0 0 .storeC oneBlockStore }

/-- Refutes O39: its clause on COMPRESS_SCAN_DONE says that the command ends the scan pass of the STORE.C whose turn it is,
in whatever state; but the pass is not over while its source is being read (R334), and the command then changes nothing.
The counterexample: a STORE.C just started, its read underway. The clause gives its tracker a PCOUNT of 1, and it keeps 0. -/
theorem not_sparsePhasesFollow : ¬ Obligations.SparsePhasesFollow := by
  unfold Obligations.SparsePhasesFollow
  rintro ⟨hscan, -⟩
  have hr : Ready scanUnderway 0 := by decide +kernel
  have hturn : scanUnderway.blk.scanning 0 = some 512 := by decide +kernel
  have hreads : scanUnderway.blk.scanReads 0 512 = true := by decide +kernel
  have hover := hscan scanUnderway 0 512 [(0, 144)] hr hturn (by decide +kernel) (by decide +kernel)
  have hsame := gives_unique (gives_compressScanDone_reading hr hturn hreads) hover
  exact absurd (congrArg (fun k : Block => (k.tracker 0 512).pcount) hsame) (by decide +kernel)

end Sys2Proof.Machine
end

section
/-!
SUPPORT. Messages at their queue (R368, R372): the message at the head of the NI's receive FIFO, what a queue makes of it
case by case, and what an answer adds to the packets staged at an injection point (R154, R159).
-/

namespace Sys2Proof.Machine

/-! ### The message at the head of the NI's receive FIFO -/

/-- A good message leaves the FIFO and reaches the rule for it, steered or not. -/
theorem Block.messageHead_head {k : Block} {b : Nat} {p : Packet} {r : List Packet} {steered : Bool}
    (hg : k.headGood b 0 1 p r) (ho : p.op = opMessage) (hs : p.steer = steered) (d : Build)
    (f : Block → Packet → Block) : k.messageHead d b steered f = f (k.setRx b 0 r) p := by
  rw [Block.messageHead, hg.1]
  exact (if_pos ⟨ho, hs⟩).trans (Block.consume_head hg)

theorem gives_message {s : State} {b : Nat} {p : Packet} {r : List Packet} (hr : Ready s b)
    (hg : s.blk.headGood b 0 1 p r) (ho : p.op = opMessage) (hs : p.steer = false) :
    Gives (.message b) s ((s.blk.setRx b 0 r).takeMessage s.env.build b p) := by
  show execMessage b s = _
  rw [execMessage, State.run_brick hr, Block.messageHead_head hg ho hs]

theorem gives_steeredMessage {s : State} {b : Nat} {p : Packet} {r : List Packet} (hr : Ready s b)
    (hg : s.blk.headGood b 0 1 p r) (ho : p.op = opMessage) (hs : p.steer = true) :
    Gives (.steeredMessage b) s ((s.blk.setRx b 0 r).takeSteered s.env.build b p) := by
  show execSteeredMessage b s = _
  rw [execSteeredMessage, State.run_brick hr, Block.messageHead_head hg ho hs]

/-! ### A message of a channel at its queue (R368) -/

/-- The grant entry is the one of the channel that sent `p`. -/
abbrev fromChannel (p : Packet) (g : Grant) : Bool := g.brick == p.src / 8 && g.chan == p.tracker % 1024

section
variable {k : Block} {b : Nat} {p : Packet} (hq : p.group < 64)
include hq

/-- A queue with V = 0 answers with CLOSED. -/
theorem Block.takeMessage_invalid (hv : flag (k.reg .MQ_QCFG b [p.group]) 63 = false) (d : Build) :
    k.takeMessage d b p = (k.bump .MQ_ERR 47 32 b).answerMessage d b opError 7 stClosed p [] := by
  rw [Block.takeMessage, Nat.mod_eq_of_lt hq, hv]
  rfl

variable (hv : flag (k.reg .MQ_QCFG b [p.group]) 63 = true)
include hv

/-- A message of another epoch than the queue's is answered with STALE_EPOCH. -/
theorem Block.takeMessage_stale (he : p.cseq ≠ (k.queue b p.group).epoch) (d : Build) :
    k.takeMessage d b p = (k.bump .MQ_ERR 63 48 b).answerMessage d b opError 7 stStaleEpoch p [] := by
  rw [Block.takeMessage, Nat.mod_eq_of_lt hq, hv]
  exact if_pos he

variable (he : p.cseq = (k.queue b p.group).epoch)
include he

/-- A message of a channel without a grant is answered with CLOSED. -/
theorem Block.takeMessage_ungranted (hf : (k.queue b p.group).grants.find? (fromChannel p) = none) (d : Build) :
    k.takeMessage d b p = (k.bump .MQ_ERR 47 32 b).answerMessage d b opError 7 stClosed p [] := by
  simp only [Block.takeMessage, Nat.mod_eq_of_lt hq, hv, he, hf, Bool.not_true, Bool.false_eq_true, if_false, ne_eq,
    not_true_eq_false]

variable {g : Grant} (hf : (k.queue b p.group).grants.find? (fromChannel p) = some g)
include hf

/-- A message that the queue has taken already is acknowledged again. -/
theorem Block.takeMessage_taken (hb : before16 p.pseq g.next = true) (d : Build) :
    k.takeMessage d b p = k.ackChannel d b p g.next := by
  simp only [Block.takeMessage, Nat.mod_eq_of_lt hq, hv, he, hf, hb, Bool.not_true, Bool.false_eq_true, if_false, ne_eq,
    not_true_eq_false, if_true]

variable (hb : before16 p.pseq g.next = false)
include hb

/-- A message ahead of its turn is NACKed where its grant has not been NACKed yet. -/
theorem Block.takeMessage_ahead (hn : p.pseq ≠ g.next) (ht : g.nackAt = none) (d : Build) :
    k.takeMessage d b p =
      (k.setQueue b p.group { k.queue b p.group with
        grants := (k.queue b p.group).grants.map fun x => if fromChannel p x then { x with nackAt := some k.gtime } else x
        }).answerMessage d b opNack 5 0 { p with pseq := g.next } [] := by
  simp only [Block.takeMessage, Nat.mod_eq_of_lt hq, hv, he, hf, hb, hn, ht, Bool.not_true, Bool.false_eq_true, if_false,
    ne_eq, not_true_eq_false, not_false_eq_true, if_true]

/-- Within TRK_CTL.HOLE of that NACK it is passed over. -/
theorem Block.takeMessage_nacked {t : Nat} (hn : p.pseq ≠ g.next) (ht : g.nackAt = some t)
    (hw : k.within t (k.rf .TRK_CTL 31 24 b) = true) (d : Build) : k.takeMessage d b p = k := by
  simp only [Block.takeMessage, Nat.mod_eq_of_lt hq, hv, he, hf, hb, hn, ht, hw, Bool.not_true, Bool.false_eq_true,
    if_false, ne_eq, not_true_eq_false, not_false_eq_true, if_true]

/-- The next message of a grant without a reserved slot is counted. -/
theorem Block.takeMessage_unreserved (hn : p.pseq = g.next) (hres : g.res = 0) (d : Build) :
    k.takeMessage d b p = k.bump .MQ_ERR 31 16 b := by
  rw [hn] at hb
  simp only [Block.takeMessage, Nat.mod_eq_of_lt hq, hv, he, hf, hb, hn, hres, Bool.not_true, Bool.false_eq_true, if_false,
    ne_eq, not_true_eq_false, if_true]

/-- The next message of a grant with a reserved slot commits. -/
theorem Block.takeMessage_next (hn : p.pseq = g.next) (hres : 0 < g.res) (d : Build) :
    k.takeMessage d b p =
      (k.commitMsg b p.group (messageOf p) fun v => { v with
        grants := v.grants.map fun x =>
          if fromChannel p x then { x with next := (x.next + 1) % 2 ^ 16, res := x.res - 1 } else x }).ackChannel
            d b p ((p.pseq + 1) % 2 ^ 16) := by
  rw [hn] at hb ⊢
  simp only [Block.takeMessage, Nat.mod_eq_of_lt hq, hv, he, hf, hb, hn, Nat.ne_of_gt hres, Bool.not_true,
    Bool.false_eq_true, if_false, ne_eq, not_true_eq_false]

end

theorem before16_self (a : Nat) : before16 a a = false := by simp [before16]

/-! ### A steered message at the chosen queue (R372) -/

/-- The entry of the arrival history for a steered message: its sender, and its channel with the sequence number. -/
abbrev steeredKey (p : Packet) : Nat × Nat := (p.src, p.tracker + 2 ^ 18 * (1 + p.pseq))

/-- An arrival that the history does not know, and has room for, is recorded (R225). -/
theorem Block.arriveOnce_new {k : Block} {b : Nat} {key : Nat × Nat} (hk : (k.history b).contains key = false)
    (hroom : (k.history b).length < 64) :
    k.arriveOnce b key = (some true, { k with xfr.history := put [] k.xfr.history b (k.history b ++ [key]) }) := by
  rw [Block.arriveOnce, hk]
  exact if_neg (Nat.not_le.2 hroom)

section
variable {k : Block} {b : Nat} {p : Packet} (hq : p.group < 64)
include hq

theorem Block.takeSteered_invalid (hv : flag (k.reg .MQ_QCFG b [p.group]) 63 = false) (d : Build) :
    k.takeSteered d b p = (k.bump .MQ_ERR 47 32 b).answerMessage d b opError 7 stClosed p [] := by
  rw [Block.takeSteered, Nat.mod_eq_of_lt hq, hv]
  rfl

variable (hv : flag (k.reg .MQ_QCFG b [p.group]) 63 = true)
include hv

/-- A steered message that the history knows is acknowledged again. -/
theorem Block.takeSteered_known (hk : (k.history b).contains (steeredKey p) = true) (d : Build) :
    k.takeSteered d b p = k.sendAck d b 1 p ((p.pseq + 1) % 2 ^ 16) 0 true := by
  rw [Block.takeSteered, Nat.mod_eq_of_lt hq, hv]
  exact if_pos hk

variable (hk : (k.history b).contains (steeredKey p) = false)
include hk

/-- Without a free slot, or without STEEROK, the sender gets WOULD_BLOCK. -/
theorem Block.takeSteered_refused
    (hno : (k.queue b p.group).free = 0 ∨ flag (k.reg .MQ_QCFG b [p.group]) 61 = false) (d : Build) :
    k.takeSteered d b p = k.answerError d b p stWouldBlock := by
  have hrefuse : (!flag (k.reg .MQ_QCFG b [p.group]) 61 || decide ((k.queue b p.group).free = 0)) = true := by
    obtain h | h := hno <;> simp [h]
  simp only [Block.takeSteered, Nat.mod_eq_of_lt hq, hv, hk, hrefuse, Bool.not_true, Bool.false_eq_true, if_false, if_true]

theorem Block.takeSteered_new (hroom : (k.history b).length < 64) (hok : flag (k.reg .MQ_QCFG b [p.group]) 61 = true)
    (hfree : 0 < (k.queue b p.group).free) (d : Build) :
    k.takeSteered d b p =
      ((({ k with xfr.history := put [] k.xfr.history b (k.history b ++ [steeredKey p]) } : Block).commitMsg b p.group
        (messageOf p) id).sendAck d b 1 p ((p.pseq + 1) % 2 ^ 16) 0 true) := by
  simp only [Block.takeSteered, Nat.mod_eq_of_lt hq, hv, hk, hok, Nat.ne_of_gt hfree, Block.arriveOnce_new hk hroom,
    Bool.not_true, Bool.false_eq_true, if_false, decide_false, Bool.or_self]

end

/-! ### What an answer adds to the staged packets (R143, R154, R174) -/

theorem Block.chargeSpray_stage (k : Block) (b inp : Nat) (x : Bool × Nat) (units : Nat) :
    (k.chargeSpray b inp x units).net.stage = k.net.stage := by
  unfold Block.chargeSpray
  split <;> rfl

theorem Block.chooseExit_stage (k : Block) (d : Build) (b inp : Nat) (p : Packet) :
    (k.chooseExit d b inp p).2.net.stage = k.net.stage := by
  unfold Block.chooseExit
  dsimp only
  split
  · rfl
  · split
    · split <;> rfl
    · split <;> rfl

theorem Block.enterDie_stage {k m : Block} {d : Build} {b inp : Nat} {p : Packet} {o : Option Packet}
    (h : k.enterDie d b inp p = (o, m)) : m.net.stage = k.net.stage := by
  have hexit := k.chooseExit_stage d b inp p
  suffices (k.enterDie d b inp p).2.net.stage = k.net.stage by rwa [h] at this
  unfold Block.enterDie
  split
  · rfl
  · split
    · rfl
    · split
      · rfl
      · split
        · next x n hx =>
          rw [hx] at hexit
          exact (n.chargeSpray_stage b inp x (pktUnits p)).trans hexit
        · next n hx =>
          rw [hx] at hexit
          exact hexit

/-- At every injection point `n` stages what `k` stages, with one packet at most behind it. -/
def Block.stagesOneMore (k n : Block) : Prop :=
  ∀ i, ∃ l : List Staged, l.length ≤ 1 ∧ look [] n.net.stage i = look [] k.net.stage i ++ l

theorem Block.stagesOneMore_same {k n : Block} (h : n.net.stage = k.net.stage) : k.stagesOneMore n :=
  fun i => ⟨[], Nat.zero_le 1, by rw [h, List.append_nil]⟩

theorem Block.stagesOneMore_stageAt {k m : Block} (h : m.net.stage = k.net.stage) (b pt : Nat) (x : Staged) :
    k.stagesOneMore (m.stageAt b pt x) := by
  intro i
  rw [Block.stageAt, ← h]
  by_cases hi : i = b * 2 + pt
  · exact ⟨[x], Nat.le_refl 1, by rw [look_put, if_pos hi, hi]⟩
  · exact ⟨[], Nat.zero_le 1, by rw [look_put, if_neg hi, List.append_nil]⟩

theorem Block.stagesOneMore_sendDirect {k m : Block} (h : m.net.stage = k.net.stage) (d : Build) (b : Nat) (p : Packet) :
    k.stagesOneMore (m.sendDirect d b p) := by
  unfold Block.sendDirect
  extract_lets pt
  split
  · next hx => exact Block.stagesOneMore_stageAt ((Block.enterDie_stage hx).trans h) _ _ _
  · next n hx =>
    have hn : (n.bump .BRK_RTERR 15 0 b).net.stage = k.net.stage := (Block.enterDie_stage hx).trans h
    dsimp only
    split
    · exact Block.stagesOneMore_same hn
    · exact Block.stagesOneMore_stageAt hn _ _ _

theorem Block.stagesOneMore_answerError {k m : Block} (h : m.net.stage = k.net.stage) (d : Build) (b : Nat) (p : Packet)
    (status : Nat) : k.stagesOneMore (m.answerError d b p status) := by
  unfold Block.answerError Block.answerErrorAt
  split
  · exact Block.stagesOneMore_same h
  · exact Block.stagesOneMore_sendDirect h _ _ _

theorem Block.stagesOneMore_niSend (k : Block) (d : Build) (b : Nat) (sub : Option Nat) (p : Packet) :
    k.stagesOneMore (k.niSend d b sub p) := by
  unfold Block.niSend
  generalize (if p.op = opMessage then k.chanOwn d b (p.tracker % 1024) else p.dst == coord d b 1) = own
  split
  · exact Block.stagesOneMore_same rfl
  · split
    · next hx => exact Block.stagesOneMore_stageAt (Block.enterDie_stage hx) _ _ _
    · next n hx =>
      have hn : (n.bump .BRK_RTERR 15 0 b).net.stage = k.net.stage := Block.enterDie_stage (m := n) hx
      exact Block.stagesOneMore_answerError hn _ _ _ _

/-! ### One ACK to a channel waits at most (R154, R368) -/

/-- The ACK that is brought up to date stays at its place. -/
theorem Block.stage_renewAck {k : Block} {b i : Nat} (hi : i < (look [] k.net.stage (b * 2)).length) (r : Packet) :
    ∃ y, look [] (k.renewAck b i r).net.stage (b * 2) = (look [] k.net.stage (b * 2)).set i y := by
  rw [Block.renewAck, List.getElem?_eq_getElem hi]
  exact ⟨_, look_put_same ..⟩

/-- What takes the place of an element that `f` names leaves no more of them. -/
theorem countP_set_le {α : Type} {f : α → Bool} {l : List α} {i : Nat} (hi : i < l.length) (h : f l[i] = true)
    (y : α) : (l.set i y).countP f ≤ l.countP f := by
  have hpos : 0 < l.countP f := List.countP_pos_iff.2 ⟨l[i], List.getElem_mem hi, h⟩
  rw [List.countP_set hi, if_pos h]
  split <;> omega

/-- Of the ACKs to the channel of a message at most one is staged, still when the next is owed. -/
theorem Block.ackChannel_one {k : Block} {b : Nat} {p : Packet}
    (h : (look [] k.net.stage (b * 2)).countP (ackFor p) ≤ 1) (d : Build) (base : Nat) :
    (look [] (k.ackChannel d b p base).net.stage (b * 2)).countP (ackFor p) ≤ 1 := by
  unfold Block.ackChannel
  split
  · next i hi =>
    obtain ⟨hlt, hack, -⟩ := List.findIdx?_eq_some_iff_getElem.1 hi
    obtain ⟨y, hy⟩ := Block.stage_renewAck hlt { k.response d b 1 opAck 5 0 p with payload := ackBody base 0 true }
    rw [hy]
    exact Nat.le_trans (countP_set_le hlt hack y) h
  · next hnone =>
    obtain ⟨l, hl, hstage⟩ := k.stagesOneMore_niSend d b none
      { k.response d b 1 opAck 5 0 p with payload := ackBody base 0 true } (b * 2)
    have hnow : (look [] k.net.stage (b * 2)).countP (ackFor p) = 0 :=
      List.countP_eq_zero.2 fun x hx => Bool.eq_false_iff.1 (List.findIdx?_eq_none_iff.1 hnone x hx)
    rw [Block.answerMessage, hstage, List.countP_append, hnow, Nat.zero_add]
    exact Nat.le_trans List.countP_le_length hl

end Sys2Proof.Machine
end

section
/-!
The statement about messages at their queues (R368, R372).
-/

namespace Sys2Proof.Machine

/-- Settles O34: a message by the case that its queue, its grant and its sequence number make, a steered one by the history
and the queue, and the ACKs to a channel by what stands staged already. -/
theorem messagesCommitInOrder : Obligations.MessagesCommitInOrder := by
  unfold Obligations.MessagesCommitInOrder
  refine ⟨?next, ?taken, ?ungranted, ?ahead, ?stale, ?invalid, ?steered, ?steeredOther, ?oneAck⟩
  case next =>
    intro s b p r g hr hg ho hs hq k mine hv he hf _ hn hres
    rw [← Block.takeMessage_next (k := k) hq hv he hf (hn ▸ before16_self _) hn.symm hres]
    exact gives_message hr hg ho hs
  case taken =>
    intro s b p r g hr hg ho hs hq k hv he hf hb
    rw [← Block.takeMessage_taken (k := k) hq hv he hf hb]
    exact gives_message hr hg ho hs
  case ungranted =>
    intro s b p r hr hg ho hs hq k hv he hf
    rw [← Block.takeMessage_ungranted (k := k) hq hv he hf]
    exact gives_message hr hg ho hs
  case ahead =>
    intro s b p r g hr hg ho hs hq k mine hv he hf hb
    have hgives := gives_message hr hg ho hs
    refine ⟨fun hn ht => ?_, fun t hn ht hw => ?_, fun hn hres => ?_⟩
    · rwa [Block.takeMessage_ahead (k := k) hq hv he hf hb hn ht] at hgives
    · rwa [Block.takeMessage_nacked (k := k) hq hv he hf hb hn ht hw] at hgives
    · rwa [Block.takeMessage_unreserved (k := k) hq hv he hf hb hn hres] at hgives
  case stale =>
    intro s b p r hr hg ho hs hq k hv he
    rw [← Block.takeMessage_stale (k := k) hq hv he]
    exact gives_message hr hg ho hs
  case invalid =>
    intro s b p r hr hg ho hs hq k hv
    rw [← Block.takeMessage_invalid (k := k) hq hv]
    exact gives_message hr hg ho hs
  case steered =>
    intro s b p r hr hg ho hs hq k key hv hk hroom hok hfree
    rw [← Block.takeSteered_new (k := k) hq hv hk hroom hok hfree]
    exact gives_steeredMessage hr hg ho hs
  case steeredOther =>
    intro s b p r hr hg ho hs hq k key
    have hgives := gives_steeredMessage hr hg ho hs
    refine ⟨fun hv hk hno => ?_, fun hv hk => ?_, fun hv => ?_⟩
    · rwa [Block.takeSteered_refused (k := k) hq hv hk hno] at hgives
    · rwa [Block.takeSteered_known (k := k) hq hv hk] at hgives
    · rwa [Block.takeSteered_invalid (k := k) hq hv] at hgives
  case oneAck =>
    intro k d b base p h
    rw [← List.countP_eq_length_filter] at h ⊢
    exact Block.ackChannel_one h d base

end Sys2Proof.Machine
end

section
/-!
SUPPORT. Sends and channel registers (R359, R365, R366, R550): accesses through an open port, what a send comes to, the
sender that waits longest, and a write of MQ_CHCFG.
-/

namespace Sys2Proof.Machine

/-! ### Commands at an element of a brick, and accesses through an open port (R490, R495, R497) -/

theorem State.run_below {s : State} {b i n : Nat} (hr : Ready s b) (hi : i < n) (f : Block → Block) :
    s.run (brickOk s.env.build b && decide (i < n)) f = .next { s with blk := f s.blk } := by
  rw [hr.2, decide_eq_true hi, Bool.and_self, s.run_next f hr.1]

theorem Block.mpShut_open {k : Block} {d : Build} {b : Nat} {via : Via} (h : k.viaOpen d b via = true) :
    k.mpShut via = false := by
  cases via with
  | mp =>
    have hc : k.crosses .managementPort = true := h
    rw [Block.mpShut_mp, hc]
    rfl
  | lp rid tag => rfl

/-- An access to a register that is there, through an open port, has its effect. -/
theorem gives_access {c : Instr} {s : State} {ok : Bool} {b : Nat} {via : Via} {f : Block → Block}
    (he : exec c s = s.access ok b via fun k => if k.viaOpen s.env.build b via then f k else k) (hok : ok = true)
    (hh : s.blk.held = false) (ho : s.blk.viaOpen s.env.build b via = true) : Gives c s (f s.blk) := by
  subst hok
  exact gives_of_run (he.trans (State.access_run s b via _ (Block.mpShut_open ho))) rfl hh (if_pos ho)

@[simp] theorem Block.respond_mq (k : Block) (b rid tag status : Nat) (data : List Byte) :
    (k.respond b rid tag status data).mq = k.mq := by
  unfold Block.respond
  dsimp only
  split <;> rfl

@[simp] theorem Block.respond_regs (k : Block) (b rid tag status : Nat) (data : List Byte) :
    (k.respond b rid tag status data).regs = k.regs := by
  unfold Block.respond
  dsimp only
  split <;> rfl

@[simp] theorem Block.answerWrite_mq (k : Block) (b : Nat) (via : Via) : (k.answerWrite b via).mq = k.mq := by
  cases via with
  | mp => rfl
  | lp rid tag => exact Block.respond_mq ..

@[simp] theorem Block.answerWrite_regs (k : Block) (b : Nat) (via : Via) : (k.answerWrite b via).regs = k.regs := by
  cases via with
  | mp => rfl
  | lp rid tag => exact Block.respond_regs ..

/-- A request that is not legal is answered with PROGRAM_FAULT and counted. -/
theorem Block.badRequest_free {k : Block} {b rid : Nat} (h : look [] k.xfr.lpDue (b * 64 + rid % 64) = []) (tag : Nat) :
    k.badRequest b rid tag =
      { k.bump .NI_LPERR 31 16 b with out := k.out ++ [.lp b rid tag stProgramFault []] } := by
  rw [Block.badRequest, Block.answerStatus, Block.respond_free tag stProgramFault [] (by rwa [Block.bump_xfr]),
    Block.bump_out]

@[simp] theorem Block.badRequest_mq (k : Block) (b rid tag : Nat) : (k.badRequest b rid tag).mq = k.mq := by
  rw [Block.badRequest, Block.answerStatus, Block.respond_mq, Block.bump_mq]

/-- A refused request is answered with the status alone. -/
theorem Block.answerStatus_free {k : Block} {b rid : Nat} (h : look [] k.xfr.lpDue (b * 64 + rid % 64) = [])
    (tag status : Nat) : k.answerStatus b rid tag status = { k with out := k.out ++ [.lp b rid tag status []] } :=
  Block.respond_free tag status [] h

/-! ### MQ_SEND at the Local Port (R366, R550) -/

section
variable {s : State} {b rid : Nat} {l : List Byte}

theorem gives_mqSend (hr : Ready s b) (hs : s.blk.lpServes s.env.build b rid = true) (hl : l.length = 64) (tag : Nat) :
    Gives (.mqSend b rid tag l) s (s.blk.sendBytes s.env.build b (.lp rid tag) l) := by
  show execMqSend b rid tag l s = _
  rw [execMqSend, State.run_brick hr, hs, if_neg (by simp), if_neg (not_not_intro hl)]

theorem gives_mqSend_badLength (hr : Ready s b) (hs : s.blk.lpServes s.env.build b rid = true) (hl : l.length ≠ 64)
    (tag : Nat) : Gives (.mqSend b rid tag l) s (s.blk.badRequest b rid tag) := by
  show execMqSend b rid tag l s = _
  rw [execMqSend, State.run_brick hr, hs, if_neg (by simp), if_pos hl]

end

/-! ### What a send comes to (R355, R365) -/

section
variable {k : Block} {b c : Nat} {data : List Byte} (hd : 0 < natAt data 2 1)
include hd

/-- A send on a closed channel is refused. -/
theorem Block.trySend_closed (hst : (k.chan b c).st = .closed) (d : Build) (who : Sender) (addr : Nat) (tryOnly : Bool) :
    k.trySend d b c who data addr tryOnly = k.refuseSend b c who stClosed := by
  simp only [Block.trySend, Nat.ne_of_gt hd, hst, beq_self_eq_true, Bool.or_true, if_true, if_false]

variable (hon : k.chanOn b c = true) (hst : (k.chan b c).st ≠ .closed)
include hon hst

/-- A send is accepted where the channel accepts one and no other sender waits on it. -/
theorem Block.trySend_accepted (ha : k.chanAccepts b c = true) (hw : (k.waits b).any (fun w => w.chan == c) = false)
    (d : Build) (who : Sender) (addr : Nat) (tryOnly : Bool) :
    k.trySend d b c who data addr tryOnly = (k.oweSend b c who).acceptMsg d b c who data addr := by
  simp only [Block.trySend, Nat.ne_of_gt hd, hon, beq_eq_false_iff_ne.2 hst, ha, hw, Bool.not_true, Bool.not_false,
    Bool.or_self, Bool.and_self, Bool.false_eq_true, if_false, if_true]

/-- Where the channel accepts none now, a send with TRY is refused, and another waits. -/
theorem Block.trySend_blocked (ha : k.chanAccepts b c = false) (d : Build) (who : Sender) (addr : Nat) (tryOnly : Bool) :
    k.trySend d b c who data addr tryOnly =
      if tryOnly then k.refuseSend b c who stWouldBlock
      else (k.oweSend b c who).setWaits b (k.waits b ++ [{ chan := c, who := who, data := data, addr := addr }]) := by
  simp only [Block.trySend, Nat.ne_of_gt hd, hon, beq_eq_false_iff_ne.2 hst, ha, Bool.not_true, Bool.false_and,
    Bool.or_self, Bool.false_eq_true, if_false]

end

/-! ### The sender that has waited longest (R365) -/

theorem gives_sendAccept {s : State} {b c : Nat} {w : WaitSend} (hr : Ready s b) (hc : c < 1024)
    (hw : (s.blk.waits b).find? (fun w => w.chan == c) = some w) (ha : s.blk.chanAccepts b c = true) :
    Gives (.sendAccept b c) s
      ((s.blk.setWaits b ((s.blk.waits b).erase w)).acceptMsg s.env.build b c w.who w.data w.addr) := by
  show execSendAccept b c s = _
  rw [execSendAccept, State.run_below hr hc, hw]
  dsimp only
  rw [if_pos ha]

/-- The first element that `f` names is the first that `f` and `g` name, where `g` names it. -/
theorem find?_and {α : Type} {f g : α → Bool} {l : List α} {x : α} (h : l.find? f = some x) (hg : g x = true) :
    l.find? (fun y => f y && g y) = some x := by
  obtain ⟨hf, as, bs, hl, has⟩ := List.find?_eq_some_iff_append.1 h
  refine List.find?_eq_some_iff_append.2 ⟨by rw [hf, hg]; rfl, as, bs, hl, fun a ha => ?_⟩
  rw [Bool.not_and, has a ha, Bool.true_or]

theorem gives_sendBlockExpiry_lp {s : State} {b c rid tag : Nat} {w : WaitSend} (hr : Ready s b) (hc : c < 1024)
    (hw : (s.blk.waits b).find? (fun w => w.chan == c) = some w) (hwho : w.who = .lp rid tag) :
    Gives (.sendBlockExpiry b c) s
      (((s.blk.setWaits b ((s.blk.waits b).erase w)).postEvent b
        { type := 0xC, status := stWouldBlock, source := c, arg0 := (s.blk.chan b c).next }).settleLp
          b rid (.send c) stWouldBlock []) := by
  show execSendBlockExpiry b c s = _
  rw [execSendBlockExpiry, State.run_below hr hc, find?_and hw (by rw [hwho])]
  dsimp only
  rw [hwho]
  rfl

/-! ### A write of MQ_CHCFG (R359, R371) -/

/-- The state that a write of `v` to MQ_CHCFG gives a channel that is not in use: a steered one is open at once. -/
def chanWritten (v : Word) : Channel := { st := if flag v 63 && flag v 62 then .opened else .idle }

theorem Block.writeChcfg_free {k : Block} {b c : Nat} (hst : (k.chan b c).st ≠ .opened) (hu : (k.chan b c).unacked = [])
    (v : Word) : k.writeChcfg b c v = (k.applyWrite .MQ_CHCFG b [c] v).setChan b c (chanWritten v) :=
  if_pos ⟨hst, List.isEmpty_iff.2 hu⟩

theorem Block.writeChcfg_inUse {k : Block} {b c : Nat} (h : (k.chan b c).st = .opened ∨ (k.chan b c).unacked ≠ [])
    (v : Word) : k.writeChcfg b c v = k.lockVio := by
  refine if_neg fun hfree => ?_
  obtain ⟨hst, hu⟩ := hfree
  exact h.elim hst fun hne => hne (List.isEmpty_iff.1 hu)

theorem gives_mqChcfgWrite {s : State} {via : Via} {b c : Nat} (hr : Ready s b)
    (ho : s.blk.viaOpen s.env.build b via = true) (hc : c < 1024) (v : Word) :
    Gives (.mqChcfgWrite via b c v) s ((s.blk.writeChcfg b c v).answerWrite b via) := by
  have he : exec (.mqChcfgWrite via b c v) s = s.access (brickOk s.env.build b && decide (c < 1024)) b via fun k =>
      if k.viaOpen s.env.build b via then (k.writeChcfg b c v).answerWrite b via else k := rfl
  exact gives_access he (by rw [hr.2, decide_eq_true hc]; rfl) hr.1 ho

end Sys2Proof.Machine
end

section
/-!
The statement about sends and channel registers (R359, R365, R366, R550).
-/

namespace Sys2Proof.Machine

/-- Settles O36: a send by what its channel allows, a waiting sender by what its command does with the one that has waited
longest, and a write of MQ_CHCFG by the channel's being in use or not. -/
theorem sendsAreAcceptedOrWait : Obligations.SendsAreAcceptedOrWait := by
  unfold Obligations.SendsAreAcceptedOrWait
  refine ⟨?accepted, ?blocked, ?badLength, ?closed, ?accept, ?expiry, ?free, ?inUse⟩
  case accepted =>
    intro s b rid tag l hr hs hl hd c hon hst ha hw
    have hopen : (s.blk.chan b c).st ≠ .closed := by rw [hst]; decide
    have hgives := gives_mqSend hr hs hl tag
    rwa [Block.sendBytes, Block.trySend_accepted hd hon hopen ha hw] at hgives
  case blocked =>
    intro s b rid tag l hr hs hl hd c hon hst ha
    have hgives := gives_mqSend hr hs hl tag
    rwa [Block.sendBytes, Block.trySend_blocked hd hon hst ha] at hgives
  case badLength =>
    intro s b rid tag l hr hs hl hdue
    exact ⟨_, gives_mqSend_badLength hr hs hl tag, rfl, congrArg Block.out (Block.badRequest_free hdue tag),
      Block.badRequest_mq ..⟩
  case closed =>
    intro s b rid tag l hr hs hl hd hst hdue
    have hgives := gives_mqSend hr hs hl tag
    rw [Block.sendBytes, Block.trySend_closed hd hst] at hgives
    exact ⟨_, hgives, rfl, congrArg Block.out (Block.answerStatus_free hdue tag stClosed), Block.respond_mq ..⟩
  case accept => exact fun s b c w hr hc hw ha => gives_sendAccept hr hc hw ha
  case expiry => exact fun s b c rid tag w hr hc hw hwho => gives_sendBlockExpiry_lp hr hc hw hwho
  case free =>
    intro s via b c v hr ho hc hst hu
    have hgives := gives_mqChcfgWrite hr ho hc v
    rw [Block.writeChcfg_free hst hu] at hgives
    have hchan : ((((s.blk.applyWrite .MQ_CHCFG b [c] v).setChan b c (chanWritten v)).answerWrite b via).chan b c) =
        chanWritten v := by
      rw [Block.chan, Block.answerWrite_mq]
      exact Block.chan_setChan ..
    exact ⟨_, hgives, by rw [hchan], hchan, (Block.answerWrite_regs ..).trans (Block.setChan_regs ..)⟩
  case inUse =>
    intro s via b c v hr ho hc huse
    rw [← Block.writeChcfg_inUse huse v]
    exact gives_mqChcfgWrite hr ho hc v

end Sys2Proof.Machine
end

section
/-!
SUPPORT. Credits and the channels they feed (R361 to R364, R370): what leaves queues and channels alone, what a channel that
closes becomes, what a CREDIT does in each state of its channel, and a write of MQ_GRANT.
-/

namespace Sys2Proof.Machine

/-! ### What leaves queues and channels alone: events, faults, records, requests of memory -/

@[simp] theorem Block.mq_ite (c : Prop) [Decidable c] (k n : Block) :
    (if c then k else n).mq = if c then k.mq else n.mq := apply_ite Block.mq c k n

theorem Block.mq_foldl {α : Type} {f : Block → α → Block} (hf : ∀ (k : Block) x, (f k x).mq = k.mq) (l : List α)
    (k : Block) : (l.foldl f k).mq = k.mq := foldl_keeps Block.mq hf l k

@[simp] theorem Block.event_mq (k : Block) (r : RegName) (pg : Nat) (ix : List Nat) (e : Word) :
    (k.event r pg ix e).mq = k.mq := rfl

@[simp] theorem Block.settleLp_mq (k : Block) (b rid : Nat) (w : LpWait) (status : Nat) (data : List Byte) :
    (k.settleLp b rid w status data).mq = k.mq := rfl

@[simp] theorem Block.lpiTrigger_mq (k : Block) (b line : Nat) : (k.lpiTrigger b line).mq = k.mq := rfl

@[simp] theorem Block.boxPost_mq (k : Block) (en : BoxEntry) : (k.boxPost en).mq = k.mq := rfl

@[simp] theorem Block.boxEvent_mq (k : Block) (b : Nat) (ev : Event) : (k.boxEvent b ev).mq = k.mq := by
  simp [Block.boxEvent]

@[simp] theorem Block.postEvent_mq (k : Block) (b : Nat) (ev : Event) : (k.postEvent b ev).mq = k.mq := by
  unfold Block.postEvent
  extract_lets v q r _ k₁ k₂ k₃ k₄
  have h₄ : k₄.mq = k.mq := by simp [k₄, k₃, k₂, k₁]
  split
  · rw [Block.mq_ite, Block.boxEvent_mq, ite_self, h₄]
  · exact h₄

@[simp] theorem Block.faultLog_mq (k : Block) (cls kind loc sub : Nat) : (k.faultLog cls kind loc sub).mq = k.mq := by
  simp [Block.faultLog]

@[simp] theorem Block.suspectPath_mq (k : Block) (b : Nat) (v : Tracker) : (k.suspectPath b v).mq = k.mq := by
  simp [Block.suspectPath]

@[simp] theorem Block.answerLp_mq (k : Block) (b t : Nat) (v : Tracker) : (k.answerLp b t v).mq = k.mq := by
  unfold Block.answerLp
  split
  · rfl
  · split <;> simp

@[simp] theorem Block.memRequest_mq (k : Block) (b : Nat) (q : MemReq) : (k.memRequest b q).mq = k.mq := by
  obtain ⟨t, -, h⟩ | ⟨-, h⟩ := k.memRequest_cases b q <;> rw [h]

@[simp] theorem Block.memIssue_mq (k : Block) (b : Nat) (use : MemUse) (runs : List (Nat × List Byte)) :
    (k.memIssue b use runs).mq = k.mq :=
  Block.mq_foldl (fun k _ => k.memRequest_mq b _) (unitsOf runs) _

@[simp] theorem Block.closeRecord_mq (k : Block) (b : Nat) (x : Record) : (k.closeRecord b x).mq = k.mq := by
  unfold Block.closeRecord
  split <;> rfl

@[simp] theorem Block.loseRecords_mq (k : Block) (b : Nat) (l : List Record) : (k.loseRecords b l).mq = k.mq :=
  Block.mq_foldl (fun k x => (Block.closeRecord_mq _ b x).trans (k.bump_mq ..)) l k

@[simp] theorem Block.flushRing_mq (k : Block) (b r : Nat) : (k.flushRing b r).mq = k.mq := by
  simp [Block.flushRing]

@[simp] theorem Block.placeRecords_mq (k : Block) (b r n : Nat) : (k.placeRecords b r n).mq = k.mq := by
  induction n generalizing k with
  | zero => rfl
  | succ n ih =>
    rw [Block.placeRecords]
    split
    · rfl
    · simp [ih]

@[simp] theorem Block.reportTracker_mq (k : Block) (b t : Nat) (atDest : Bool) :
    (k.reportTracker b t atDest).mq = k.mq := by
  unfold Block.reportTracker
  extract_lets
  simp [Block.addRecord]

@[simp] theorem Block.completeTracker_mq (k : Block) (b t status : Nat) : (k.completeTracker b t status).mq = k.mq := by
  unfold Block.completeTracker
  extract_lets
  simp +zetaDelta

@[simp] theorem Block.reportSend_mq (k : Block) (b c : Nat) (who : Sender) (status : Nat) :
    (k.reportSend b c who status).mq = k.mq := by
  cases who <;> simp [Block.reportSend]

@[simp] theorem Block.checkGather_mq (k : Block) (b t : Nat) : (k.checkGather b t).mq = k.mq := by
  simp [Block.checkGather]

@[simp] theorem Block.dropResidual_mq (k : Block) (b : Nat) (m : List Byte) : (k.dropResidual b m).mq = k.mq :=
  (Block.event_mq _ .SPC_UROW b [] _).trans (k.event_mq .SPC_ERR b [] _)

/-! ### A channel that closes (R343, R370) -/

/-- A GATHER that stops posting lets go of the messages that its channel has taken; the channels are else as they were. -/
theorem Block.stopPosting_chans (k : Block) (b t status : Nat) :
    (k.stopPosting b t status).mq.chan = (k.letGo b t).mq.chan := by
  have hdrop : ∀ (l : List (List Byte)) (k : Block), (l.foldl (fun k m => k.dropResidual b m) k).mq = k.mq :=
    Block.mq_foldl fun k m => k.dropResidual_mq b m
  simp [Block.stopPosting, hdrop]

/-- A channel with nothing unacknowledged stands as it is when a GATHER on it stops posting. -/
theorem Block.chan_stopPosting {k : Block} {b t : Nat} (hu : (k.chan b (k.job b t).chan).unacked = []) (status : Nat) :
    (k.stopPosting b t status).chan b (k.job b t).chan = k.chan b (k.job b t).chan := by
  have hmap : ∀ f : SentMsg → SentMsg, { k.chan b (k.job b t).chan with
      unacked := (k.chan b (k.job b t).chan).unacked.map f } = k.chan b (k.job b t).chan := fun f => by
    rw [hu, List.map_nil, ← hu]
  rw [Block.chan, Block.stopPosting_chans, Block.letGo]
  exact (look_put_same ..).trans (hmap _)

/-- So it does when it closes, and each GATHER on it stops posting. -/
theorem Block.chan_closePosting {k : Block} {b c : Nat} (hu : (k.chan b c).unacked = []) :
    (k.closePosting b c).chan b c = k.chan b c := by
  refine List.foldlRecOn (motive := fun m : Block => m.chan b c = k.chan b c) _ _ rfl fun m hm t _ => ?_
  dsimp only
  split
  · next hposts =>
    simp only [Bool.and_eq_true, beq_iff_eq] at hposts
    obtain ⟨⟨-, rfl⟩, -⟩ := hposts
    exact (Block.chan_stopPosting (by rw [hm, hu]) stClosed).trans hm
  · exact hm

/-- A channel that closes with nothing unacknowledged keeps its epoch, its limit and its next sequence number. -/
theorem Block.chan_closeChan {k : Block} {b c : Nat} (hu : (k.chan b c).unacked = []) (status : Nat) :
    (k.closeChan b c status).chan b c = { k.chan b c with st := .closed } := by
  have hreport : ∀ (l : List WaitSend) (k : Block), (l.foldl (fun k w => k.reportSend b c w.who stClosed) k).mq = k.mq :=
    Block.mq_foldl fun k w => k.reportSend_mq b c w.who stClosed
  have hset := k.chan_setChan b c { k.chan b c with st := .closed, unacked := [] }
  rw [Block.closeChan, hu, List.foldl_nil, Block.chan, hreport, Block.setWaits_mq_chan]
  refine (Block.chan_closePosting (congrArg Channel.unacked hset)).trans (hset.trans ?_)
  rw [← hu]

theorem Block.chan_openChan (k : Block) (b c epoch limit : Nat) : (k.openChan b c epoch limit).chan b c =
    { k.chan b c with st := .opened, epoch := epoch, next := 0, limit := limit } := k.chan_setChan ..

/-! ### A CREDIT at its channel (R362) -/

theorem gives_credit {s : State} {b : Nat} {p : Packet} {r : List Packet} (hr : Ready s b)
    (hg : s.blk.headGood b 0 1 p r) (ho : p.op = opCredit) :
    Gives (.credit b) s (((s.blk.setRx b 0 r).takeCredit b (p.tracker % 1024) p).pumpGathers s.env b) :=
  gives_takesHead (f := fun s p k => (k.takeCredit b (p.tracker % 1024) p).pumpGathers s.env b) (fun _ => rfl) hr hg ho
    (beq_iff_eq.2 ho) rfl

section
variable {k : Block} {b c : Nat} {p : Packet}

/-- A CREDIT at a steered channel, or not from the channel's queue, is counted. -/
theorem Block.takeCredit_stray
    (h : k.chanSteer b c = true ∨ p.src ≠ k.chanDst b c ∨ p.group % 64 ≠ k.rf .MQ_CHCFG 48 43 b [c]) :
    k.takeCredit b c p = k.bump .MQ_ERR 7 0 b :=
  if_pos (by obtain h | h | h := h <;> simp [h])

variable (hs : k.chanSteer b c = false) (hd : p.src = k.chanDst b c) (hq : p.group % 64 = k.rf .MQ_CHCFG 48 43 b [c])
include hs hd hq

/-- An idle channel is opened by a GRANT. -/
theorem Block.takeCredit_idle (hst : (k.chan b c).st = .idle) : k.takeCredit b c p =
    if natAt p.payload 2 1 = 1 then k.openChan b c p.cseq (natAt p.payload 0 2) else k := by
  simp [Block.takeCredit, hs, hd, hq, hst]

/-- At an open channel a GRANT raises the limit, or reopens it under a newer epoch; a REVOKE that is not older closes it. -/
theorem Block.takeCredit_opened (hst : (k.chan b c).st = .opened) : k.takeCredit b c p =
    if natAt p.payload 2 1 = 1 then
      if p.cseq = (k.chan b c).epoch then
        k.setChan b c { k.chan b c with
          limit := if serialLe 16 (k.chan b c).limit (natAt p.payload 0 2) then natAt p.payload 0 2
            else (k.chan b c).limit }
      else if epochNewer p.cseq (k.chan b c).epoch then
        (k.closeChan b c stStaleEpoch).openChan b c p.cseq (natAt p.payload 0 2)
      else k
    else if natAt p.payload 2 1 = 2 ∧ (p.cseq = (k.chan b c).epoch ∨ epochNewer p.cseq (k.chan b c).epoch = true) then
      k.closeChan b c stStaleEpoch
    else k := by
  simp [Block.takeCredit, hs, hd, hq, hst]

/-- A closed channel is opened by a GRANT of a newer epoch. -/
theorem Block.takeCredit_closed (hst : (k.chan b c).st = .closed) : k.takeCredit b c p =
    if natAt p.payload 2 1 = 1 ∧ epochNewer p.cseq (k.chan b c).epoch = true then
      k.openChan b c p.cseq (natAt p.payload 0 2)
    else k := by
  simp [Block.takeCredit, hs, hd, hq, hst]

/-- A channel that is not open takes nothing but a GRANT. -/
theorem Block.takeCredit_notGrant (hst : (k.chan b c).st ≠ .opened) (hop : natAt p.payload 2 1 ≠ 1) :
    k.takeCredit b c p = k := by
  cases h : (k.chan b c).st with
  | idle => exact (Block.takeCredit_idle hs hd hq h).trans (if_neg hop)
  | opened => exact absurd h hst
  | closed => exact (Block.takeCredit_closed hs hd hq h).trans (if_neg fun hgrant => hop hgrant.1)

end

/-! ### Reserved slots and the CREDITs that tell of them (R363, R364) -/

theorem gives_mqGrant {s : State} {via : Via} {b : Nat} (hr : Ready s b) (ho : s.blk.viaOpen s.env.build b via = true)
    (v : Word) : Gives (.mqGrant via b v) s ((s.blk.writeGrant s.env.build b v).answerWrite b via) := by
  have he : exec (.mqGrant via b v) s = s.access (brickOk s.env.build b) b via fun k =>
      if k.viaOpen s.env.build b via then (k.writeGrant s.env.build b v).answerWrite b via else k := rfl
  exact gives_access he hr.2 hr.1 ho

/-- The grant entry is the one of the channel that a word written to MQ_GRANT names. -/
abbrev grantOf (w : Word) (g : Grant) : Bool := g.brick == fld w 36 10 && g.chan == fld w 46 37

/-- The slots that a word written to MQ_GRANT adds at a queue: no more than are free, and none where AMOUNT is reserved. -/
abbrev grantAdds (w : Word) (v : RxQueue) : Nat := if 32 < fld w 59 54 then 0 else min (fld w 59 54) v.free

section
variable {k : Block} {b : Nat} {w : Word}

/-- The first grant of a queue makes its entry. -/
theorem Block.writeGrant_first (h : (k.queue b (fld w 52 47)).grants = []) (d : Build) : k.writeGrant d b w =
    (k.setQueue b (fld w 52 47) { k.queue b (fld w 52 47) with
      grants := [{ brick := fld w 36 10, chan := fld w 46 37, renew := flag w 53
                   res := grantAdds w (k.queue b (fld w 52 47)) }] }).creditsOut d b (fld w 52 47) (grantOf w) := by
  simp [Block.writeGrant, h]

/-- A grant to a channel that has an entry adds to it. -/
theorem Block.writeGrant_again (h : (k.queue b (fld w 52 47)).grants.any (grantOf w) = true) (d : Build) :
    k.writeGrant d b w =
      (k.setQueue b (fld w 52 47) { k.queue b (fld w 52 47) with
        grants := (k.queue b (fld w 52 47)).grants.map fun g =>
          if grantOf w g then { g with res := g.res + grantAdds w (k.queue b (fld w 52 47)), renew := flag w 53 } else g
        }).creditsOut d b (fld w 52 47) (grantOf w) := if_pos h

/-- Where sixteen other channels have entries, a grant is counted. -/
theorem Block.writeGrant_full (h : (k.queue b (fld w 52 47)).grants.any (grantOf w) = false)
    (hfull : 16 ≤ (k.queue b (fld w 52 47)).grants.length) (d : Build) : k.writeGrant d b w = k.bump .MQ_ERR 15 8 b :=
  (if_neg (Bool.eq_false_iff.1 h)).trans (if_neg (Nat.not_lt.2 hfull))

end

theorem gives_creditBatch {s : State} {b q : Nat} (hr : Ready s b) (hq : q < 64) :
    Gives (.creditBatch b q) s (s.blk.creditsOut s.env.build b q fun g => before16 g.told (g.next + g.res)) := by
  show execCreditBatch b q s = _
  rw [execCreditBatch, State.run_below hr hq]

theorem gives_creditRefresh {s : State} {b q : Nat} (hr : Ready s b) (hq : q < 64) :
    Gives (.creditRefresh b q) s (s.blk.creditsOut s.env.build b q fun g => decide (0 < g.res)) := by
  show execCreditRefresh b q s = _
  rw [execCreditRefresh, State.run_below hr hq]

end Sys2Proof.Machine
end

section
/-!
The statement about credits (R361 to R364).
-/

namespace Sys2Proof.Machine

/-- Settles O37: a CREDIT by the state of its channel and the age of its epoch, and a write of MQ_GRANT by the queue's grant
entries. -/
theorem creditsOpenAndFeedChannels : Obligations.CreditsOpenAndFeedChannels := by
  unfold Obligations.CreditsOpenAndFeedChannels
  refine ⟨?credit, ?opens, ?raises, ?old, ?reopens, ?revoke, ?closedOpens, ?closes, ?opened, ?stray, ?grant, ?first,
    ?again, ?batch, ?refresh⟩
  case credit => exact fun s b p r hr hg ho => gives_credit hr hg ho
  case opens =>
    intro k b c p hs _ hd hq hop hst
    exact (Block.takeCredit_idle hs hd hq hst).trans (if_pos hop)
  case raises =>
    intro k b c p hs _ hd hq hop hst he hle
    rw [Block.takeCredit_opened hs hd hq hst, if_pos hop, if_pos he, if_pos hle]
  case old =>
    intro k b c p hs _ hd hq _ hst hold
    exact (Block.takeCredit_closed hs hd hq hst).trans (if_neg fun hnew => Bool.eq_false_iff.1 hold hnew.2)
  case reopens =>
    intro k b c p hs hd hq hop hst he
    refine ⟨fun hnew => ?_, fun hold => ?_⟩
    · rw [Block.takeCredit_opened hs hd hq hst, if_pos hop, if_neg he, if_pos hnew]
    · rw [Block.takeCredit_opened hs hd hq hst, if_pos hop, if_neg he, if_neg (Bool.eq_false_iff.1 hold)]
  case revoke =>
    intro k b c p hs hd hq hop
    have hgrant : natAt p.payload 2 1 ≠ 1 := by omega
    refine ⟨fun hst he => ?_, fun hst he hold => ?_, fun hst => Block.takeCredit_notGrant hs hd hq hst hgrant⟩
    · rw [Block.takeCredit_opened hs hd hq hst, if_neg hgrant, if_pos ⟨hop, he⟩]
    · have hstale : ¬(p.cseq = (k.chan b c).epoch ∨ epochNewer p.cseq (k.chan b c).epoch = true) :=
        not_or.2 ⟨he, Bool.eq_false_iff.1 hold⟩
      rw [Block.takeCredit_opened hs hd hq hst, if_neg hgrant, if_neg fun h => hstale h.2]
  case closedOpens =>
    intro k b c p hs hd hq hop hst hnew
    exact (Block.takeCredit_closed hs hd hq hst).trans (if_pos ⟨hop, hnew⟩)
  case closes =>
    intro k b c hu _ status
    rw [Block.chan_closeChan hu]
    exact ⟨rfl, hu, rfl⟩
  case opened =>
    intro k b c epoch limit
    rw [Block.chan_openChan]
    exact ⟨rfl, rfl, rfl, rfl⟩
  case stray => exact fun k b c p h => Block.takeCredit_stray h
  case grant => exact fun s via b v hr ho => gives_mqGrant hr ho v
  case first => exact fun k d b w h => Block.writeGrant_first h d
  case again =>
    exact fun k d b w => ⟨fun h => Block.writeGrant_again h d, fun h hfull => Block.writeGrant_full h hfull d⟩
  case batch => exact fun s b q hr hq => gives_creditBatch hr hq
  case refresh => exact fun s b q hr hq => gives_creditRefresh hr hq

end Sys2Proof.Machine
end

section
/-!
SUPPORT. The old home, the slice's entries and PLC_LOG (R392, R397 to R401, R409, R412): the end of a copy round, the
leases, firmware's commit of an entry, and reads of the log.
-/

namespace Sys2Proof.Machine

/-! ### Move records and entries -/

@[simp] theorem Block.moveRec_setRec (k : Block) (b r : Nat) (v : MoveRec) : (k.setRec b r v).moveRec b r = v := by
  simp [Block.moveRec, Block.setRec]

@[simp] theorem Block.gpdEntry_setGpd (k : Block) (b i : Nat) (v : GpdEntry) : (k.setGpd b i v).gpdEntry b i = v := by
  simp [Block.gpdEntry, Block.setGpd]

theorem Block.gpdEntry_setGpd_other (k : Block) {b i c j : Nat} (v : GpdEntry) (h : c * 2048 + j ≠ b * 2048 + i) :
    (k.setGpd b i v).gpdEntry c j = k.gpdEntry c j :=
  look_put_other _ _ _ _ h

/-! ### Moves at the old home (R397, R399, R401) -/

theorem gives_movePage {s : State} {b i : Nat} {p : Packet} {r : List Packet} (hr : Ready s b)
    (hn : s.blk.dirNew s.env.build b 4 8 p r) (hi : findBelow 4 (fun r => (s.blk.moveRec b r).st == .free) = some i) :
    Gives (.movePage b) s ((((s.blk.setRx b 4 r).setRec b i
      { st := .copy, addr := p.addr / 2 ^ 21 * 2 ^ 21, frame := dirFrame p.payload
        nframe := natAt p.payload 16 4 % 2 ^ 27, newHome := dirCoord p.payload, coordTo := p.src / 8 * 8 + 3
        dirty := 2 ^ 32 - 1, todo := List.range 32 }).pumpChunks s.env b i 4).dirReply s.env.build b 4
      (look [] s.blk.gpd.seen (b * 8 + 4)) p dirOk (dirMid p)) :=
  gives_dirNew ⟨by decide, fun _ => rfl⟩ hr hn (by simp only [Block.moveRec_setRx, hi])

theorem gives_flip {s : State} {b i : Nat} {p : Packet} {r : List Packet} (hr : Ready s b)
    (hn : s.blk.dirNew s.env.build b 4 0xA p r)
    (hi : findBelow 4 (fun r => (s.blk.moveRec b r).st == .forward && (s.blk.moveRec b r).addr / 2 ^ 21 == p.addr / 2 ^ 21) =
      some i) :
    Gives (.flip b) s (((s.blk.setRx b 4 r).setRec b i { s.blk.moveRec b i with flipped := true }).dirReply
      s.env.build b 4 (look [] s.blk.gpd.seen (b * 8 + 4)) p dirOk (dirMid p)) :=
  gives_dirNew ⟨by decide, fun _ => rfl⟩ hr hn (by simp only [Block.moveRec_setRx, hi])

/-- A round of which no chunk is left: a clean page goes to FORWARD once its frame is not busy, a dirty one is copied
again or, after the last round, the move aborts (R399). -/
theorem gives_copyRoundDone {s : State} {b r : Nat} (hr : Ready s b) (hlt : r < 4) (hst : (s.blk.moveRec b r).st = .copy)
    (htodo : (s.blk.moveRec b r).todo = []) (hflight : (s.blk.moveRec b r).flight = []) :
    Gives (.copyRoundDone b r) s
      (if (s.blk.moveRec b r).dirty = 0 then
        if s.blk.frameBusy b (s.blk.moveRec b r).frame then s.blk
        else (s.blk.setRec b r { s.blk.moveRec b r with st := .forward }).sendReport s.env b (s.blk.moveRec b r) dirOk
      else if s.blk.rf .PLC_POL 59 56 0 < (s.blk.moveRec b r).round + 1 then
        (s.blk.setRec b r {}).sendReport s.env b (s.blk.moveRec b r) dirAborted
      else (s.blk.setRec b r { s.blk.moveRec b r with
        round := (s.blk.moveRec b r).round + 1
        todo := (List.range 32).filter fun c => (s.blk.moveRec b r).dirty.testBit c }).pumpChunks s.env b r 4) := by
  have hover : ¬((s.blk.moveRec b r).st ≠ .copy ∨ (s.blk.moveRec b r).todo ≠ [] ∨ (s.blk.moveRec b r).flight ≠ []) := by
    simp [hst, htodo, hflight]
  show execCopyRoundDone b r s = _
  rw [execCopyRoundDone, State.run_below hr hlt]
  dsimp only
  rw [if_neg hover]

/-! ### The log of old frames (R401, R409) -/

theorem Block.logFrame_room {k : Block} (h : k.gpd.log.length < 64) (b f : Nat) :
    k.logFrame b f = (true, { k with gpd.log := k.gpd.log ++ [(b, f)] }) := if_pos h

theorem Block.logFrame_full {k : Block} (h : k.gpd.log.length = 64) (b f : Nat) : k.logFrame b f = (false, k) :=
  if_neg (by omega)

/-- A forward lease ends after the FLIP: the frame enters the log where it has room (R401). -/
theorem gives_forwardLeaseExpiry_logged {s : State} {b r : Nat} (hr : Ready s b) (hlt : r < 4)
    (hst : (s.blk.moveRec b r).st = .forward) (hf : (s.blk.moveRec b r).flipped = true) (hl : s.blk.gpd.log.length < 64) :
    Gives (.forwardLeaseExpiry b r) s
      (({ s.blk with gpd.log := s.blk.gpd.log ++ [(b, (s.blk.moveRec b r).frame)] } : Block).setRec b r {}) := by
  show execForwardLeaseExpiry b r s = _
  rw [execForwardLeaseExpiry, State.run_below hr hlt]
  dsimp only
  rw [if_pos ⟨hst, hf⟩, Block.logFrame_room hl]

theorem gives_forwardLeaseExpiry_waits {s : State} {b r : Nat} (hr : Ready s b) (hlt : r < 4)
    (hst : (s.blk.moveRec b r).st = .forward) (hf : (s.blk.moveRec b r).flipped = true) (hl : s.blk.gpd.log.length = 64) :
    Gives (.forwardLeaseExpiry b r) s (s.blk.setRec b r { s.blk.moveRec b r with st := .logwait }) := by
  show execForwardLeaseExpiry b r s = _
  rw [execForwardLeaseExpiry, State.run_below hr hlt]
  dsimp only
  rw [if_pos ⟨hst, hf⟩, Block.logFrame_full hl]

theorem gives_logwaitRelease {s : State} {b r : Nat} (hr : Ready s b) (hlt : r < 4)
    (hst : (s.blk.moveRec b r).st = .logwait) (hl : s.blk.gpd.log.length < 64) :
    Gives (.logwaitRelease b r) s
      (({ s.blk with gpd.log := s.blk.gpd.log ++ [(b, (s.blk.moveRec b r).frame)] } : Block).setRec b r {}) := by
  show execLogwaitRelease b r s = _
  rw [execLogwaitRelease, State.run_below hr hlt]
  dsimp only
  rw [if_pos hst, Block.logFrame_room hl]

/-- A read of PLC_LOG answers the oldest record, or zero, and pops it (R409). -/
theorem gives_plcLogPop {s : State} (hh : s.blk.held = false) (hc : s.blk.crosses .managementPort = true) :
    Gives .plcLogPop s (s.blk.popPlcLog.2.answerRead 0 .mp s.blk.popPlcLog.1) := by
  have he : exec .plcLogPop s = s.access true 0 .mp fun k => k.popPlcLog.2.answerRead 0 .mp k.popPlcLog.1 := rfl
  exact gives_of_run (he.trans (State.access_run s 0 .mp _ (by simp [hc]))) rfl hh rfl

/-! ### Entries of a slice (R392, R398, R412) -/

theorem gives_entryLeaseExpiry {s : State} {b i : Nat} (hr : Ready s b) (hi : i < 2048)
    (hst : (s.blk.gpdEntry b i).st = .forwarding) :
    Gives (.entryLeaseExpiry b i) s (s.blk.setGpd b i { s.blk.gpdEntry b i with st := .home }) := by
  show execEntryLeaseExpiry b i s = _
  rw [execEntryLeaseExpiry, State.run_below hr hi, if_pos hst]
  rfl

/-- Firmware commits entry `i`; the lookups of this FCLK find what stood there (R392). -/
def Block.commitEntry (k : Block) (b i : Nat) (x : GpdEntry) : Block :=
  { k.setGpd b i x with
    gpd.entryOld := put ((0 : Nat), ({} : GpdEntry)) k.gpd.entryOld (b * 2048 + i) (k.clk.now + 1, k.seenEntry b i) }

@[simp] theorem Block.gpdEntry_commitEntry (k : Block) (b i : Nat) (x : GpdEntry) :
    (k.commitEntry b i x).gpdEntry b i = x := k.gpdEntry_setGpd b i x

/-- A commit changes no lookup of its FCLK (R392). -/
theorem Block.seenEntry_commitEntry (k : Block) (b i c j : Nat) (x : GpdEntry) :
    (k.commitEntry b i x).seenEntry c j = k.seenEntry c j := by
  show asStood k.clk.now
    (look ((0 : Nat), ({} : GpdEntry))
      (put ((0 : Nat), ({} : GpdEntry)) k.gpd.entryOld (b * 2048 + i) (k.clk.now + 1, k.seenEntry b i)) (c * 2048 + j))
    ((k.setGpd b i x).gpdEntry c j) = k.seenEntry c j
  by_cases h : c * 2048 + j = b * 2048 + i
  · rw [h, look_put_same, asStood, if_pos rfl, Block.seenEntry, Block.seenEntry, Block.gpdEntry, Block.gpdEntry, h]
  · rw [look_put_other _ _ _ _ h, k.gpdEntry_setGpd_other x h, Block.seenEntry]

/-- The entry that the staged words and `v` as word 2 make (R412). -/
def Block.stagedEntry (k : Block) (b : Nat) (v : Word) : GpdEntry :=
  gpdOfWords (look (0, 0) k.gpd.staged b).1 (look (0, 0) k.gpd.staged b).2 v

/-- A write of word 2 of GPD_DATA commits the entry, but refuses one that a move holds or that names a move (R398, R412). -/
theorem Block.writeGpdData_word2 {k : Block} {b : Nat} (hw : k.rf .GPD_SEL 13 11 b = 2) (v : Word) :
    k.writeGpdData b v =
      if (k.gpdEntry b (k.rf .GPD_SEL 10 0 b)).st = .moving ∨ (k.stagedEntry b v).st = .moving ∨
        (k.stagedEntry b v).st = .forwarding then k.lockVio
      else k.commitEntry b (k.rf .GPD_SEL 10 0 b) (k.stagedEntry b v) := by
  simp only [Block.writeGpdData, hw]
  rfl

theorem gives_gpdCommit {s : State} {b : Nat} (hr : Ready s b) (hc : s.blk.crosses .managementPort = true) (v : Word) :
    Gives (.gpdCommit b v) s ((s.blk.writeGpdData b v).answerWrite b .mp) := by
  show execGpdCommit b v s = _
  rw [execGpdCommit, hr.2, State.access_run s b .mp _ (by simp [hc]), State.run_next s _ hr.1]

theorem gives_gpdCommit_commits {s : State} {b : Nat} {v : Word} (hr : Ready s b)
    (hc : s.blk.crosses .managementPort = true) (hw : s.blk.rf .GPD_SEL 13 11 b = 2)
    (hold : (s.blk.gpdEntry b (s.blk.rf .GPD_SEL 10 0 b)).st ≠ .moving) (hmoving : (s.blk.stagedEntry b v).st ≠ .moving)
    (hforwarding : (s.blk.stagedEntry b v).st ≠ .forwarding) :
    Gives (.gpdCommit b v) s
      ((s.blk.commitEntry b (s.blk.rf .GPD_SEL 10 0 b) (s.blk.stagedEntry b v)).answerWrite b .mp) := by
  have hgives := gives_gpdCommit hr hc v
  rwa [Block.writeGpdData_word2 hw, if_neg (not_or.2 ⟨hold, not_or.2 ⟨hmoving, hforwarding⟩⟩)] at hgives

theorem gives_gpdCommit_refused {s : State} {b : Nat} (hr : Ready s b) (hc : s.blk.crosses .managementPort = true)
    (hw : s.blk.rf .GPD_SEL 13 11 b = 2) (hold : (s.blk.gpdEntry b (s.blk.rf .GPD_SEL 10 0 b)).st = .moving) (v : Word) :
    Gives (.gpdCommit b v) s (s.blk.lockVio.answerWrite b .mp) := by
  have hgives := gives_gpdCommit hr hc v
  rwa [Block.writeGpdData_word2 hw, if_pos (.inl hold)] at hgives

end Sys2Proof.Machine
end

section
/-!
The statement about the old home of a page (R397 to R401, R409, R412).
-/

namespace Sys2Proof.Machine

/-- Settles O41: a round's end by what is dirty and how many rounds there were, a lease's end by the room in the log, and a
commit by the entry that it meets. -/
theorem oldHomesMoveTheirPages : Obligations.OldHomesMoveTheirPages := by
  unfold Obligations.OldHomesMoveTheirPages
  refine ⟨?move, ?flip, ?busy, ?forward, ?abort, ?again, ?logged, ?waits, ?released, ?entryLease, ?commit, ?locked, ?pop,
    ?empty⟩
  case move => exact fun s b i p r hr hn hi => gives_movePage hr hn hi
  case flip => exact fun s b i p r hr hn hi => gives_flip hr hn hi
  case busy =>
    intro s b r hr hlt hst htodo hflight hclean hbusy
    have hgives := gives_copyRoundDone hr hlt hst htodo hflight
    rwa [if_pos hclean, if_pos hbusy] at hgives
  case forward =>
    intro s b r hr hlt hst htodo hflight hclean hidle
    have hgives := gives_copyRoundDone hr hlt hst htodo hflight
    rwa [if_pos hclean, if_neg (Bool.eq_false_iff.1 hidle)] at hgives
  case abort =>
    intro s b r hr hlt hst htodo hflight hdirty hlast
    have hgives := gives_copyRoundDone hr hlt hst htodo hflight
    rwa [if_neg hdirty, if_pos (Nat.lt_succ_of_le hlast)] at hgives
  case again =>
    intro s b r hr hlt hst htodo hflight hdirty hmore
    have hgives := gives_copyRoundDone hr hlt hst htodo hflight
    rwa [if_neg hdirty, if_neg (Nat.not_lt.2 hmore)] at hgives
  case logged =>
    exact fun s b r hr hlt hst hf hl =>
      ⟨_, gives_forwardLeaseExpiry_logged hr hlt hst hf hl, rfl, Block.moveRec_setRec .., rfl⟩
  case waits =>
    exact fun s b r hr hlt hst hf hl =>
      ⟨_, gives_forwardLeaseExpiry_waits hr hlt hst hf hl, rfl, by rw [Block.moveRec_setRec], rfl⟩
  case released =>
    exact fun s b r hr hlt hst hl => ⟨_, gives_logwaitRelease hr hlt hst hl, rfl, Block.moveRec_setRec .., rfl⟩
  case entryLease =>
    intro s b i hr hi hst
    exact ⟨_, gives_entryLeaseExpiry hr hi hst, by rw [Block.gpdEntry_setGpd], Block.gpdEntry_setGpd ..,
      fun j hj => s.blk.gpdEntry_setGpd_other _ (by omega)⟩
  case commit =>
    intro s b v hr hc hw i x hold hmoving hforwarding
    exact ⟨_, gives_gpdCommit_commits hr hc hw hold hmoving hforwarding, rfl, s.blk.gpdEntry_commitEntry b i x,
      fun c j => s.blk.seenEntry_commitEntry b i c j x, rfl, rfl, rfl⟩
  case locked => exact fun s b v hr hc hw hold => gives_gpdCommit_refused hr hc hw hold v
  case pop =>
    intro s b f r hh hc hlog
    have hgives := gives_plcLogPop hh hc
    simp only [Block.popPlcLog, hlog] at hgives
    exact ⟨_, hgives, rfl, rfl, rfl⟩
  case empty =>
    intro s hh hc hlog
    have hgives := gives_plcLogPop hh hc
    simp only [Block.popPlcLog, hlog] at hgives
    exact ⟨_, hgives, rfl, hlog, rfl⟩

end Sys2Proof.Machine
end

section
/-!
The statement about the directory and the coordinators (R390 to R404): the lookup of a page that stood in MOVING before a
commit of its FCLK (R392, R394), at which it fails.
-/

namespace Sys2Proof.Machine

/-- Entry 0 of brick 0 holds page 0 in HOME; the lookups of this FCLK find it as it stood before, in MOVING (R392). -/
def homeSeenMoving : Block :=
  { ({} : Block).setGpd 0 0 { v := true, st := .home } with
    gpd.entryOld := [(0, (1, { v := true, st := .moving }))] }

/-- Refutes O42: its clause on a page whose entry is found in MOVING says that the packet goes on to its frame and nothing
else changes; but heat is counted by the state in which the entry stands (R394), not by the one that the lookup finds
(R392). The counterexample: an entry in HOME that the lookups of this FCLK still find in MOVING, and a READREQ for its
page; TOTAL of the entry goes from 0 to 1. No commit makes such a block, since it refuses an entry in MOVING (R398); but
the clause speaks of every block. -/
theorem not_directoryAndCoordinators : ¬ Obligations.DirectoryAndCoordinators := by
  unfold Obligations.DirectoryAndCoordinators
  rintro ⟨-, -, -, hmoving, -⟩
  have hsame := hmoving homeSeenMoving {} 0 0 { op := opReadReq } (by decide +kernel) (by decide) (by decide) (by decide)
  have hcounted : ((homeSeenMoving.lookupDirectory {} 0 { op := opReadReq }).gpdEntry 0 0).total = 1 := by decide +kernel
  rw [hsame] at hcounted
  exact absurd hcounted (by decide +kernel)

end Sys2Proof.Machine
end

section
/-!
SUPPORT. What a command of the table does to the machine around the block: which commands leave a held block as it is, and
what of surroundings and queue stands (R484, R546, R553, R566).
-/

namespace Sys2Proof.Machine

/-! ### The three ways in which a command answers -/

/-- The outcome `o` in state `s` is that of a command which acts on the block alone, and not while the block is held. -/
def RunsOn (s : State) (o : Host.Outcome State Fault Refusal) : Prop := ∃ ok k, o = s.run ok fun _ => k

theorem RunsOn.held {s : State} {o : Host.Outcome State Fault Refusal} (h : RunsOn s o) (hh : s.blk.held = true) :
    o = .next s := by
  obtain ⟨ok, k, rfl⟩ := h
  simp [State.run, hh]

theorem RunsOn.next {s : State} {o : Host.Outcome State Fault Refusal} (h : RunsOn s o) :
    ∃ k, o = .next { s with blk := k } := by
  obtain ⟨ok, k, rfl⟩ := h
  exact ⟨_, rfl⟩

set_option smartUnfolding false in
/-- Every command but those that reach a held block and the memory master's answer acts on the block alone, while it is not
held. -/
theorem runsOn_exec {c : Instr} (s : State) (hr : c.reachesReset = false)
    (hm : ∀ b tag err, c ≠ .lpmResponse b tag err) : RunsOn s (exec c s) := by
  cases c with
  | coldReset | coldResetRelease | warmReset | warmResetRelease | rootckLoss | rootckReturn | wsBypass | wsExtest | wsIntest
  | mbistRun | mbistRead => cases hr
  | lpmResponse b tag err => exact absurd rfl (hm b tag err)
  | _ =>
    conv => arg 2; whnf
    exact ⟨_, _, rfl⟩

/-- A command that reaches a held block changes the block alone. -/
theorem gives_of_reachesReset {c : Instr} (s : State) (hr : c.reachesReset = true) : ∃ k, Gives c s k := by
  cases c with
  | coldReset | coldResetRelease | warmReset | warmResetRelease | rootckLoss | rootckReturn | wsBypass | wsExtest | wsIntest
  | mbistRun | mbistRead => exact ⟨_, rfl⟩
  | _ => cases hr

/-- Every command but the memory master's answer changes the block alone. -/
theorem gives_of_ne_lpmResponse {c : Instr} (s : State) (hm : ∀ b tag err, c ≠ .lpmResponse b tag err) :
    ∃ k, Gives c s k := by
  cases hr : c.reachesReset with
  | false => exact (runsOn_exec s hr hm).next
  | true => exact gives_of_reachesReset s hr

/-! ### The memory master's answer (R554) -/

theorem exec_lpmResponse_held {s : State} (b tag : Nat) (err : Bool) (hh : s.blk.held = true) :
    exec (.lpmResponse b tag err) s = .next s := by
  show execLpmResponse b tag err s = _
  simp [execLpmResponse, State.runMem, hh]

/-- The memory master's answer writes the bytes of the request that it answers, or none. -/
theorem exec_lpmResponse_mem (b tag : Nat) (err : Bool) (s : State) :
    ∃ m k, exec (.lpmResponse b tag err) s = .next { s with env := { s.env with mem := m }, blk := k } ∧
      (m = s.env.mem ∨ ∃ q, s.blk.memReq b tag = some q ∧ m = writeRuns s.env.mem b q.runs) := by
  refine ⟨_, _, rfl, ?_⟩
  split
  · cases hq : s.blk.memReq b tag with
    | none => simp [hq]
    | some q => cases err <;> simp [hq, apply_ite Prod.fst]
  · exact .inl rfl

/-- A run that is written changes no byte but its own. -/
theorem memByte_writeRuns_other (b : Nat) (l : List (Nat × List Byte)) (m : List Host.Cell) (key : Nat)
    (h : ∀ r ∈ l, ∀ i < r.2.length, key ≠ memKey b (r.1 + i)) : memByte (writeRuns m b l) key = memByte m key := by
  induction l generalizing m with
  | nil => rfl
  | cons x r ih =>
    rw [writeRuns, ih _ fun y hy => h y (.tail _ hy)]
    exact memByte_memWrite_other b x.2 m x.1 key (h x (.head _))

/-- The memory after the answer to a request: its bytes are written, with an error none. -/
theorem exec_lpmResponse_env {s : State} {b tag : Nat} {q : MemReq} (hr : Ready s b) (ht : tag < 1024)
    (hq : s.blk.memReq b tag = some q) (err : Bool) :
    ∃ t, exec (.lpmResponse b tag err) s = .next t ∧ t.pending = s.pending ∧
      t.env = { s.env with mem := if err then s.env.mem else writeRuns s.env.mem b q.runs } := by
  show ∃ t, execLpmResponse b tag err s = .next t ∧ _
  rw [execLpmResponse, State.runMem_tag hr ht]
  refine ⟨_, rfl, rfl, ?_⟩
  simp only [hq, apply_ite Prod.fst, ite_self]

end Sys2Proof.Machine
end

section
/-!
The statements about the machine as a whole.
-/

namespace Sys2Proof.Machine

/-- Settles O3: a command other than the memory master's answer changes the block alone, and the answer the block and the
memory. -/
theorem onlyResponsesWriteMemory : Obligations.OnlyResponsesWriteMemory := by
  unfold Obligations.OnlyResponsesWriteMemory
  intro c s t h
  by_cases hm : ∀ b tag err, c ≠ .lpmResponse b tag err
  · obtain ⟨k, hk⟩ := gives_of_ne_lpmResponse s hm
    cases hk.symm.trans h
    exact ⟨rfl, rfl, fun _ => rfl⟩
  · push Not at hm
    obtain ⟨b, tag, err, rfl⟩ := hm
    obtain ⟨m, k, hk, -⟩ := exec_lpmResponse_mem b tag err s
    cases hk.symm.trans h
    exact ⟨rfl, rfl, fun hm => absurd rfl (hm b tag err)⟩

/-- A command keeps the canonical form of cluster memory. -/
theorem exec_keeps_wf {c : Instr} {s t : State} (h : exec c s = .next t) (hw : Memory.wf s.env.mem = true) :
    Memory.wf t.env.mem = true := by
  by_cases hm : ∀ b tag err, c ≠ .lpmResponse b tag err
  · rw [(onlyResponsesWriteMemory c s t h).2.2 hm]
    exact hw
  · push Not at hm
    obtain ⟨b, tag, err, rfl⟩ := hm
    obtain ⟨m, k, hk, hmem⟩ := exec_lpmResponse_mem b tag err s
    cases hk.symm.trans h
    obtain rfl | ⟨q, -, rfl⟩ := hmem
    · exact hw
    · exact Memory.wf_writeRuns b q.runs s.env.mem hw

/-- Settles O5: no command changes the build, the memory master's answer alone writes memory, and it writes runs, which keeps
the form; an FCLK with no command changes the block alone. -/
theorem stepKeepsBuildAndMemoryForm : Obligations.StepKeepsBuildAndMemoryForm := by
  unfold Obligations.StepKeepsBuildAndMemoryForm
  rintro ⟨e, k, pending⟩ t ⟨hbuild, hmem⟩ h
  cases pending with
  | nil =>
    cases h
    exact ⟨hbuild, hmem⟩
  | cons c r =>
    have hb := (onlyResponsesWriteMemory c ⟨e, k, r⟩ t h).1
    exact ⟨by rw [hb]; exact hbuild, exec_keeps_wf h hmem⟩

/-- Settles O7: the answer without an error writes the request's runs, and a run changes no byte but its own. -/
theorem responseWritesItsRequestOnly : Obligations.ResponseWritesItsRequestOnly := by
  unfold Obligations.ResponseWritesItsRequestOnly
  intro s b tag q hr ht hq
  constructor
  · obtain ⟨t, ht, hp, he⟩ := exec_lpmResponse_env hr ht hq false
    refine ⟨t, ht, he, hp, fun key hkey => ?_⟩
    rw [he]
    exact memByte_writeRuns_other b q.runs s.env.mem key hkey
  · obtain ⟨t, ht, hp, he⟩ := exec_lpmResponse_env hr ht hq true
    exact ⟨t, ht, he, hp⟩

/-- Settles O2: a command that does not reach a held block is one that acts while the block is not held, or the memory
master's answer, which does the same. -/
theorem heldBlockKeepsStill : Obligations.HeldBlockKeepsStill := by
  unfold Obligations.HeldBlockKeepsStill
  intro c s hh hr
  by_cases hm : ∀ b tag err, c ≠ .lpmResponse b tag err
  · exact (runsOn_exec s hr hm).held hh
  · push Not at hm
    obtain ⟨b, tag, err, rfl⟩ := hm
    exact exec_lpmResponse_held b tag err hh

/-- Settles O4: each command answers a next state, which `OnlyResponsesWriteMemory` says has its queue and its build. -/
theorem everyCommandCompletes : Obligations.EveryCommandCompletes := by
  unfold Obligations.EveryCommandCompletes
  intro c s
  have hnext : ∃ t, exec c s = .next t := by
    by_cases hm : ∀ b tag err, c ≠ .lpmResponse b tag err
    · obtain ⟨k, hk⟩ := gives_of_ne_lpmResponse s hm
      exact ⟨_, hk⟩
    · push Not at hm
      obtain ⟨b, tag, err, rfl⟩ := hm
      obtain ⟨m, k, hk, -⟩ := exec_lpmResponse_mem b tag err s
      exact ⟨_, hk⟩
  obtain ⟨t, ht⟩ := hnext
  obtain ⟨hbuild, hpending, -⟩ := onlyResponsesWriteMemory c s t ht
  exact ⟨t, ht, hpending, hbuild⟩

/-- Settles O6: the build of the reset state passes the build tool's checks, and no byte is listed. -/
theorem resetMeetsBuildAndMemoryForm : Obligations.ResetMeetsBuildAndMemoryForm := by
  unfold Obligations.ResetMeetsBuildAndMemoryForm
  exact ⟨by decide +kernel, rfl⟩

/-- Settles O1: a step is the front command on the queue's rest; on an empty queue a held block stands still, and another
takes the FCLK of the boundary or another one. -/
theorem stepRunsFrontCommand : Obligations.StepRunsFrontCommand := by
  unfold Obligations.StepRunsFrontCommand
  refine ⟨fun _ _ _ => rfl, ?_, ?_, ?_⟩
  · intro s hp hh hb
    simp [step, State.idle, Block.tick, hp, hh, hb]
  · intro s hp hh hb
    simp [step, State.idle, Block.tick, hp, hh, hb]
  · intro s hp hh
    have hidle : s.idle = s := by simp [State.idle, hh]
    simp [step, hp, hidle]

end Sys2Proof.Machine
end

section
/-!
SUPPORT. Accesses through the Management Port, single bits of registers, the addresses of registers, and what a fold of
register writes leaves.
-/

namespace Sys2Proof.Machine

/-! ### Accesses through the Management Port (R490, R497) -/

/-- An access to a register that is there, through a Management Port that crosses, has its effect. -/
theorem gives_mp {c : Instr} {s : State} {ok : Bool} {b : Nat} {f : Block → Block} {k : Block}
    (he : exec c s = s.access ok b .mp f) (hok : ok = true) (hh : s.blk.held = false)
    (hc : s.blk.crosses .managementPort = true) (hk : f s.blk = k) : Gives c s k := by
  subst hok
  exact gives_of_run (he.trans (State.access_run s b .mp f (by rw [Block.mpShut_mp, hc]; rfl))) rfl hh hk

@[simp] theorem Block.rf_answerWrite_mp (k : Block) (b : Nat) (r : RegName) (hi lo pg : Nat) (ix : List Nat) :
    (k.answerWrite b .mp).rf r hi lo pg ix = k.rf r hi lo pg ix := rfl

/-! ### Bits and fields of registers -/

theorem Block.flag_setBit_same (k : Block) (r : RegName) {i : Nat} (pg : Nat) (ix : List Nat) (hi : i < 64) :
    flag ((k.setBit r i pg ix).reg r pg ix) i = true :=
  k.flag_setRf_same r i pg ix true hi

theorem Block.flag_setRf_other (k : Block) (r : RegName) (hi lo pg : Nat) (ix : List Nat) (v j : Nat) (h : lo ≤ hi + 1)
    (hh : hi < 64) (hd : j < lo ∨ hi < j) :
    flag ((k.setRf r hi lo pg ix v).reg r pg ix) j = flag (k.reg r pg ix) j := by
  have hf := k.rf_setRf_other r hi lo pg ix v j j h hh hd
  rw [Block.rf, Block.rf] at hf
  rw [flag_eq_fld, flag_eq_fld, hf]

/-- A field that is set to a value that fits it. -/
theorem Block.rf_setRf_fits (k : Block) (r : RegName) (hi lo pg : Nat) (ix : List Nat) {v : Nat} (h : lo ≤ hi + 1)
    (hh : hi < 64) (hv : v < 2 ^ (hi + 1 - lo)) : (k.setRf r hi lo pg ix v).rf r hi lo pg ix = v :=
  (k.rf_setRf_same r hi lo pg ix v h hh).trans (Nat.mod_eq_of_lt hv)

/-- A field of a register at another address stands. -/
theorem Block.rf_setRf_ne (k : Block) {r r' : RegName} (hi lo pg : Nat) (ix : List Nat) (v i j : Nat) {pg' : Nat}
    {ix' : List Nat} (h : regAddr r' pg' ix' ≠ regAddr r pg ix) :
    (k.setRf r hi lo pg ix v).rf r' i j pg' ix' = k.rf r' i j pg' ix' := by
  rw [Block.rf, k.reg_setRf_other hi lo pg ix v h, Block.rf]

theorem Block.rf_lt (k : Block) (r : RegName) (hi lo pg : Nat) (ix : List Nat) :
    k.rf r hi lo pg ix < 2 ^ (hi + 1 - lo) :=
  Nat.mod_lt _ (Nat.two_pow_pos _)

theorem Block.regsKept_setReg (k : Block) (r : RegName) (pg : Nat) (ix : List Nat) (w : Word) {l : List Nat}
    (hl : regAddr r pg ix ∈ l) : k.regsKept (k.setReg r pg ix w) l :=
  fun _ _ _ hr => k.reg_setReg_other w fun e => hr (e ▸ hl)

/-- Blocks with one set of register words read alike. -/
theorem Block.reg_congr {k n : Block} (h : n.regs = k.regs) (r : RegName) (pg : Nat) (ix : List Nat) :
    n.reg r pg ix = k.reg r pg ix := by
  rw [Block.reg, Block.reg, h]

theorem Block.regsKept_of_regs {k n : Block} (h : n.regs = k.regs) (l : List Nat) : k.regsKept n l :=
  fun r pg ix _ => Block.reg_congr h r pg ix

/-! ### Blocks that agree in every group -/

theorem Block.ext_groups {k n : Block} (hregs : k.regs = n.regs) (hclk : k.clk = n.clk) (hprog : k.prog = n.prog)
    (himg : k.img = n.img) (hnet : k.net = n.net) (hxfr : k.xfr = n.xfr) (hrdc : k.rdc = n.rdc) (hflt : k.flt = n.flt)
    (hmq : k.mq = n.mq) (hspc : k.spc = n.spc) (hgpd : k.gpd = n.gpd) (hhlth : k.hlth = n.hlth) (hlnk : k.lnk = n.lnk)
    (hrst : k.rst = n.rst) (hfresh : k.fresh = n.fresh) (hlate : k.late = n.late) (hout : k.out = n.out)
    (hfree : k.free = n.free) : k = n := by
  cases k
  cases n
  simp_all

/-! ### Folds of writes -/

/-- What each step of a fold changes lies in `l`, and so does what the fold changes. -/
theorem Block.regsKept_foldl {α : Type} {f : Block → α → Block} {l : List Nat} {xs : List α}
    (hf : ∀ (k : Block), ∀ x ∈ xs, k.regsKept (f k x) l) (k : Block) : k.regsKept (xs.foldl f k) l := by
  induction xs generalizing k with
  | nil => exact fun _ _ _ _ => rfl
  | cons x xs ih =>
    exact Block.regsKept_trans (hf k x (.head _)) (ih (fun k y hy => hf k y (.tail _ hy)) (f k x))

/-- A fold whose steps change registers alone changes registers alone. -/
theorem Block.only_regs_foldl {α : Type} {f : Block → α → Block}
    (hf : ∀ (k : Block) x, f k x = { k with regs := (f k x).regs })
    (xs : List α) (k : Block) : xs.foldl f k = { k with regs := (xs.foldl f k).regs } := by
  induction xs generalizing k with
  | nil => rfl
  | cons x xs ih => exact Block.only_regs_trans (hf k x) (ih (f k x))

/-- A fold that makes `g` of its place at each member of the list, and leaves the others': `g` of a member stands. -/
theorem foldl_sets {α σ : Type} (P : σ → α → Prop) {f : σ → α → σ} (hset : ∀ k x, P (f k x) x)
    (hkeep : ∀ k x y, P k x → P (f k y) x) {xs : List α} {x : α} (hx : x ∈ xs) (k : σ) : P (xs.foldl f k) x := by
  have hstay : ∀ (l : List α) k, P k x → P (l.foldl f k) x := fun l => by
    induction l with
    | nil => exact fun _ h => h
    | cons y l ih => exact fun k h => ih _ (hkeep k x y h)
  induction xs generalizing k with
  | nil => cases hx
  | cons y l ih =>
    rcases List.mem_cons.1 hx with rfl | hl
    · exact hstay l _ (hset k x)
    · exact ih hl _

end Sys2Proof.Machine
end

section
/-!
The statement about the wrapper and self-test (R503, R506, R507, R568).
-/

namespace Sys2Proof.Machine

/-- The words of the self-test map for the bricks `bad` that failed. -/
def bistWord (bad : List Nat) (i : Nat) : Word :=
  BitVec.ofNat 64 ((bad.filter fun b => b / 64 == i).map fun b => 2 ^ (b % 64)).sum

/-- The block with the self-test map of the bricks `bad`. -/
def Block.bistMapped (k : Block) (bad : List Nat) : Block :=
  (List.range 4).foldl (fun k i => k.setReg .RST_BISTMAP 0 [i] (bistWord bad i)) k

/-- The block when self-test is done with the bricks `bad` that failed. -/
def Block.tested (k : Block) (bad : List Nat) : Block :=
  (({ k.bistMapped bad with rst.testing := false, rst.testHeld := false } : Block).setRf .RST_STAT 23 16 0 []
    (min 255 bad.length)).setBit .RST_STAT 8

theorem exec_mbistDone (l : List Nat) (s : State) : exec (.mbistDone l) s = s.run true fun k =>
    if k.rst.testing || (!flag (k.reg .RST_STAT) 8 && !k.rst.testHeld && k.rf .CLK_STAT 33 32 == 0) then
      k.tested ((bricks s.env.build).filter fun b => l.contains b)
    else k := rfl

theorem regAddr_bistMap_ne_stat (i : Nat) : regAddr .RST_BISTMAP 0 [i] ≠ regAddr .RST_STAT 0 [] := by
  simp [regAddr, regRow, pageBase, elemOff]; omega

theorem regAddr_bistMap_ne {i j : Nat} (h : i ≠ j) : regAddr .RST_BISTMAP 0 [i] ≠ regAddr .RST_BISTMAP 0 [j] := by
  simp [regAddr, regRow, pageBase, elemOff]; omega

theorem Block.reg_bistMapped (k : Block) (bad : List Nat) {i : Nat} (hi : i < 4) :
    (k.bistMapped bad).reg .RST_BISTMAP 0 [i] = bistWord bad i := by
  refine foldl_sets (fun (k : Block) i => k.reg .RST_BISTMAP 0 [i] = bistWord bad i) (fun k i => k.reg_setReg ..)
    (fun k i j h => ?_) (List.mem_range.2 hi) k
  by_cases hij : i = j
  · subst hij
    exact k.reg_setReg ..
  · exact (k.reg_setReg_other _ (regAddr_bistMap_ne hij)).trans h

theorem Block.reg_tested_map (k : Block) (bad : List Nat) {i : Nat} (hi : i < 4) :
    (k.tested bad).reg .RST_BISTMAP 0 [i] = bistWord bad i := by
  rw [Block.tested, Block.setBit, Block.reg_setRf_other _ _ _ _ _ _ (regAddr_bistMap_ne_stat i),
    Block.reg_setRf_other _ _ _ _ _ _ (regAddr_bistMap_ne_stat i)]
  exact k.reg_bistMapped bad hi

theorem Block.regsKept_tested (k : Block) (bad : List Nat) : k.regsKept (k.tested bad)
    (regAddr .RST_STAT 0 [] :: (List.range 4).map fun i => regAddr .RST_BISTMAP 0 [i]) := by
  have hmap : k.regsKept (k.bistMapped bad)
      (regAddr .RST_STAT 0 [] :: (List.range 4).map fun i => regAddr .RST_BISTMAP 0 [i]) :=
    Block.regsKept_foldl (fun k i hi => k.regsKept_setReg .RST_BISTMAP 0 [i] (bistWord bad i)
      (.tail _ (List.mem_map_of_mem (f := fun i => regAddr .RST_BISTMAP 0 [i]) hi))) k
  exact Block.regsKept_trans hmap (Block.regsKept_trans (Block.regsKept_setRf _ _ _ _ _ _ _ (.head _))
    (Block.regsKept_setRf _ _ _ _ _ _ _ (.head _)))

theorem Block.tested_frame (k : Block) (bad : List Nat) :
    k.tested bad = { k with rst := (k.tested bad).rst, regs := (k.tested bad).regs } := by
  obtain ⟨regs, hmap⟩ : ∃ regs, k.bistMapped bad = { k with regs := regs } :=
    ⟨_, Block.only_regs_foldl (fun _ _ => rfl) _ k⟩
  rw [Block.tested, hmap]
  apply Block.ext_groups <;> simp

theorem Block.rf_tested_failed (k : Block) (bad : List Nat) :
    (k.tested bad).rf .RST_STAT 23 16 = min 255 bad.length := by
  rw [Block.tested, Block.setBit, Block.rf_setRf_other _ _ _ _ _ _ _ _ _ (by omega) (by omega) (by omega),
    Block.rf_setRf_fits _ _ _ _ _ _ (by omega) (by omega) (by omega)]

/-- Settles O52: each command by what it leaves, and the end of a self-test by the map and the status it writes. -/
theorem wrapperAndSelfTest : Obligations.WrapperAndSelfTest := by
  unfold Obligations.WrapperAndSelfTest
  refine ⟨fun s => ⟨_, rfl, rfl⟩, fun s => ⟨_, rfl, rfl⟩, fun s => ⟨_, rfl, rfl⟩, fun s => ⟨_, rfl, rfl, rfl, rfl, rfl⟩,
    fun s => ⟨_, rfl, rfl, rfl, rfl, rfl⟩, ?done, ?doneBefore, ?noClock⟩
  case done =>
    intro s l hh ht
    refine ⟨s.blk.tested _, gives_of_run (exec_mbistDone l s) rfl hh (if_pos (by rw [ht]; rfl)), s.blk.tested_frame _,
      s.blk.regsKept_tested _, ?_, ?_, Block.flag_setBit_same _ _ _ _ (by omega), s.blk.rf_tested_failed _,
      fun i hi => s.blk.reg_tested_map _ hi⟩
    · rfl
    · rfl
  case doneBefore =>
    exact fun s l hh ht hd => gives_of_run (exec_mbistDone l s) rfl hh (if_neg (by simp [ht, hd]))
  case noClock =>
    exact fun s l hh ht hc => gives_of_run (exec_mbistDone l s) rfl hh (if_neg (by simp [ht, hc]))

end Sys2Proof.Machine
end

section
/-!
The statement about resets and the root clock (R484, R491, R492, R505, R566).
-/

namespace Sys2Proof.Machine

/-! ### The black box at a reset (R533, R537) -/

/-- The block with an entry in the box at NEXT, before NEXT moves on. -/
def Block.boxed (k : Block) (en : BoxEntry) : Block :=
  { k with flt.box := put none k.flt.box (k.rf .BBX_STAT 11 0) (some en), hlth.sramAt := k.mclk + 1 }

/-- Before the last place of the box, NEXT moves on by one. -/
theorem Block.boxWrite_next {k : Block} (h : k.rf .BBX_STAT 11 0 ≠ 4095) (en : BoxEntry) :
    k.boxWrite en = (k.boxed en).setRf .BBX_STAT 11 0 0 [] (k.rf .BBX_STAT 11 0 + 1) := if_neg h

/-- From the last place of the box, NEXT returns to the first. -/
theorem Block.boxWrite_last {k : Block} (h : k.rf .BBX_STAT 11 0 = 4095) (en : BoxEntry) :
    k.boxWrite en = ((k.boxed en).setRf .BBX_STAT 11 0 0 [] 0).setBit .BBX_STAT 12 := if_pos h

/-- An entry that is written changes the box, its status word and the MCLK in which the SRAM was written. -/
theorem Block.boxWrite_frame (k : Block) (en : BoxEntry) : k.boxWrite en =
    { k with regs := (k.boxWrite en).regs, flt := (k.boxed en).flt, hlth.sramAt := k.mclk + 1 } := by
  by_cases h : k.rf .BBX_STAT 11 0 = 4095
  · rw [Block.boxWrite_last h]
    apply Block.ext_groups <;> simp [Block.boxed]
  · rw [Block.boxWrite_next h]
    apply Block.ext_groups <;> simp [Block.boxed]

theorem Block.resetEntry_frame (k : Block) (cause : Nat) : k.resetEntry cause =
    { k with regs := (k.resetEntry cause).regs, flt := (k.resetEntry cause).flt, hlth := (k.resetEntry cause).hlth } := by
  by_cases h : flag (k.reg .BBX_STAT) 63 = true
  · have he : k.resetEntry cause = k.bump .BBX_STAT 31 24 0 := if_pos h
    rw [he]
    apply Block.ext_groups <;> simp
  · have he : k.resetEntry cause = k.boxWrite { gtime := k.gtime, kind := 4, arg0 := cause } := if_neg h
    rw [he, Block.boxWrite_frame]

/-- The block that a warm reset makes before it writes the cause and the first entry of the black box. -/
def Block.warmed (k : Block) (d : Build) : Block :=
  { regs := resetRegs d (fun _ => true) k.regs
    mq := { queue := k.raisedQueues d }
    lnk := { eq := k.lnk.eq }
    flt := { box := k.flt.box, freezing := k.flt.freezing }
    rst := {
      warmHeld := k.rst.warmHeld
      wrapper := k.rst.wrapper
      rootLost := k.rst.rootLost
      clusterUp := k.rst.clusterUp
      resync := [.managementPort] }
    out := k.out
    free := k.free }

/-- A warm reset with no grant to revoke and no lane settings to tell. -/
theorem Block.warmReset_quiet {k : Block} (d : Build) (hq : k.mq.queue = []) (he : k.lnk.eq = []) :
    k.warmReset d 1 = (((k.warmed d).setRf .RST_STAT 5 4 0 [] 1).setBit .RST_STAT 8).resetEntry 1 := by
  have hg : k.allGrants = [] := by rw [Block.allGrants, hq]; rfl
  have hl : ((((k.warmed d).setRf .RST_STAT 5 4 0 [] 1).setBit .RST_STAT 8).resetEntry 1).lnk.eq = [] := by
    rw [Block.resetEntry_frame]
    exact he
  unfold Block.warmReset
  rw [hg]
  show List.foldl _ ((((k.warmed d).setRf .RST_STAT 5 4 0 [] 1).setBit .RST_STAT 8).resetEntry 1)
    ((((k.warmed d).setRf .RST_STAT 5 4 0 [] 1).setBit .RST_STAT 8).resetEntry 1).lnk.eq = _
  rw [hl]
  rfl

/-- Settles O48: each reset by the block it leaves, a warm reset with nothing to tell by the parts that it makes anew. -/
theorem resetsLeaveResetValues : Obligations.ResetsLeaveResetValues := by
  unfold Obligations.ResetsLeaveResetValues
  refine ⟨?cold, ?coldRelease, ?warm, ?warmInCold, ?warmRelease, ?warmWrite, ?loss, ?back, ?noLoss, ?leaves⟩
  case cold =>
    exact fun s => ⟨s.blk.coldReset, rfl, rfl, rfl, rfl, rfl, rfl, rfl, rfl, rfl, rfl, rfl, rfl, rfl, rfl, rfl⟩
  case coldRelease =>
    intro s t hc
    have he : exec (.coldResetRelease t) s = s.runAlways fun k =>
      if k.rst.coldHeld then { k with rst.coldHeld := false, rst.testHeld := t } else k := rfl
    exact ⟨{ s.blk with rst.coldHeld := false, rst.testHeld := t }, by rw [Gives, he, State.runAlways, if_pos hc],
      rfl, rfl, rfl, rfl⟩
  case warm =>
    intro s hc
    have he : exec .warmReset s = s.runAlways fun k => if k.rst.coldHeld then { k with rst.warmHeld := true } else
      ({ k with rst.warmHeld := true } : Block).warmReset s.env.build 1 := rfl
    rw [Gives, he, State.runAlways, if_neg (ne_true_of_eq_false hc)]
  case warmInCold =>
    intro s hc
    have he : exec .warmReset s = s.runAlways fun k => if k.rst.coldHeld then { k with rst.warmHeld := true } else
      ({ k with rst.warmHeld := true } : Block).warmReset s.env.build 1 := rfl
    exact ⟨{ s.blk with rst.warmHeld := true }, by rw [Gives, he, State.runAlways, if_pos hc], rfl, rfl, rfl⟩
  case warmRelease =>
    exact fun s => ⟨{ s.blk with rst.warmHeld := false }, rfl, rfl, rfl, rfl, rfl⟩
  case warmWrite =>
    intro s v hh hc hv
    have he : exec (.warm v) s = s.access true 0 .mp fun k => (k.writeRstCtl s.env.build v).answerRstCtl v := rfl
    exact gives_mp he rfl hh hc (by rw [Block.answerRstCtl, if_pos hv, Block.writeRstCtl, if_pos hv])
  case loss =>
    intro s hl hc
    have he : exec .rootckLoss s = s.runAlways fun k => if k.rst.rootLost ∨ k.rst.coldHeld then k else
      (({ k with rst.rootLost := true } : Block).setBit .CLK_STAT 33).irq 7 := rfl
    refine ⟨((({ s.blk with rst.rootLost := true } : Block)).setBit .CLK_STAT 33).irq 7, ?_, rfl, rfl, ?_, ?_⟩
    · rw [Gives, he, State.runAlways, if_neg (by simp [hl, hc])]
    · rw [Block.irq, Block.reg_event_other _ _ (by decide)]
      exact Block.flag_setBit_same _ .CLK_STAT 0 [] (by omega)
    · simp [Block.held]
  case back =>
    intro s hl
    have he : exec .rootckReturn s = s.runAlways fun k =>
      if k.rst.rootLost then ({ k with rst.rootLost := false } : Block).warmReset s.env.build 3 else k := rfl
    rw [Gives, he, State.runAlways, if_pos hl]
  case noLoss =>
    intro s hl
    have he : exec .rootckReturn s = s.runAlways fun k =>
      if k.rst.rootLost then ({ k with rst.rootLost := false } : Block).warmReset s.env.build 3 else k := rfl
    rw [Gives, he, State.runAlways, if_neg (ne_true_of_eq_false hl)]
  case leaves =>
    intro k d hq he _
    rw [Block.warmReset_quiet d hq he, Block.resetEntry_frame]
    simp [Block.warmed]

end Sys2Proof.Machine
end

section
/-!
The statement about the Local Port bridges and the compute domains (R495, R496, R498 to R502, R508).
-/

namespace Sys2Proof.Machine

/-! ### The Local Port bridge (R495, R496, R508) -/

theorem Block.lpToClosed_open {k : Block} {b : Nat} (h : k.lpState b ≠ 2) (e : Env) (reset : Bool) :
    k.lpToClosed e b reset = k.closeBridge e b := if_pos h

/-- A bridge that is closed already has its queues reset by a Local Port reset (R356). -/
theorem Block.lpToClosed_closed {k : Block} {b : Nat} (h : k.lpState b = 2) (e : Env) :
    k.lpToClosed e b true = (List.range 64).foldl (fun k q => k.resetQueue e.build b q) k :=
  if_neg (not_not_intro h)

/-- The cluster of brick `b` is out of reset and powered. -/
def Block.powered (k : Block) (b : Nat) : Block :=
  { k with rst.clusterUp := (k.rst.clusterUp.filter fun (x : Nat) => x != b) ++ [b] }

/-- The cluster of brick `b` is in reset, or not powered. -/
def Block.unpowered (k : Block) (b : Nat) : Block :=
  { k with rst.clusterUp := k.rst.clusterUp.filter fun (x : Nat) => x != b }

theorem Block.clusterUp_powered (k : Block) (b : Nat) : (k.powered b).rst.clusterUp.contains b = true := by
  simp [Block.powered]

theorem Block.handshake_setRf (k : Block) (r : RegName) (hi lo pg : Nat) (ix : List Nat) (v : Nat) (x : Boundary) :
    (k.setRf r hi lo pg ix v).handshake x = (k.handshake x).setRf r hi lo pg ix v := rfl

/-- A powered cluster's bridge that is closed, of a brick that is not isolated, enters RESYNC if its heartbeat is seen. -/
theorem Block.lpResync_powered {k : Block} {b : Nat} (hl : k.lpState b = 2) (hi : k.isolated b = false)
    (hs : k.rst.stopped.contains (.localPort b) = false) :
    (k.powered b).lpResync b = ((k.powered b).setRf .RST_BRK 7 6 b [] 3).handshake (.localPort b) :=
  if_pos ⟨hl, hi, k.clusterUp_powered b, hs⟩

/-- One that is not closed, or isolated, or whose heartbeat is not seen, stays as it is. -/
theorem Block.lpResync_stays {k : Block} {b : Nat}
    (h : k.lpState b ≠ 2 ∨ k.isolated b = true ∨ k.rst.stopped.contains (.localPort b) = true) : k.lpResync b = k :=
  if_neg fun ⟨hl, hi, _, hs⟩ => by
    rcases h with h | h | h
    · exact h hl
    · exact Bool.false_ne_true (hi.symm.trans h)
    · exact Bool.false_ne_true (hs.symm.trans h)

section
variable {s : State} {b : Nat}

theorem State.run_localPort (hr : Ready s b) (hb : lpBuilt s.env.build b = true) (f : Block → Block) :
    s.run (brickOk s.env.build b && lpBuilt s.env.build b) f = .next { s with blk := f s.blk } := by
  rw [hr.2, hb, Bool.and_self, s.run_next f hr.1]

theorem gives_lpReset (hr : Ready s b) (hb : lpBuilt s.env.build b = true) :
    Gives (.lpReset b) s ((s.blk.unpowered b).lpToClosed s.env b true) :=
  State.run_localPort hr hb fun k => (k.unpowered b).lpToClosed s.env b true

theorem gives_powerDownRequest (hr : Ready s b) (hb : lpBuilt s.env.build b = true) :
    Gives (.powerDownRequest b) s (if s.blk.lpState b = 0 then s.blk.setRf .RST_BRK 7 6 b [] 1 else s.blk) :=
  State.run_localPort hr hb fun k => if k.lpState b = 0 then k.setRf .RST_BRK 7 6 b [] 1 else k

theorem gives_lpClosingDone (hr : Ready s b) (hb : lpBuilt s.env.build b = true) :
    Gives (.lpClosingDone b) s
      (if s.blk.lpState b = 1 ∧ s.blk.lpDrained b = true then (s.blk.unpowered b).closeBridge s.env b else s.blk) :=
  State.run_localPort hr hb fun k =>
    if k.lpState b = 1 ∧ k.lpDrained b = true then (k.unpowered b).closeBridge s.env b else k

theorem gives_powerUp (hr : Ready s b) (hb : lpBuilt s.env.build b = true) :
    Gives (.powerUp b) s ((s.blk.powered b).lpResync b) :=
  State.run_localPort hr hb fun k => (k.powered b).lpResync b

/-- A Local Port reset that firmware writes, and nothing else, of a brick that is not isolated. -/
theorem gives_lprst {v : Word} (hr : Ready s b) (hc : s.blk.crosses .managementPort = true)
    (hb : lpBuilt s.env.build b = true) (h0 : flag v 0 = false) (h1 : flag v 1 = true) (h2 : flag v 2 = false)
    (hi : (s.blk.lpToClosed s.env b true).isolated b = false) :
    Gives (.lprst b v) s ((s.blk.lpToClosed s.env b true).answerWrite b .mp) := by
  have he : exec (.lprst b v) s = s.access (brickOk s.env.build b) b .mp fun k =>
    (k.writeRstBrk s.env b v).answerWrite b .mp := rfl
  refine gives_mp he hr.2 hr.1 hc (congrArg (Block.answerWrite · b .mp) ?_)
  simp [Block.writeRstBrk, h0, h1, h2, hb, hi]

end

/-! ### The compute domain (R498 to R502) -/

section
variable {k : Block} {b : Nat} {v : Word}

theorem Block.writePwrBrk_close (hs : k.rf .PWR_BRK 9 8 b = 0) (hv : flag v 0 = true) (e : Env) :
    k.writePwrBrk e b v = (k.setRf .PWR_BRK 0 0 b [] 1).closeCompute e b := by
  have ho := k.rf_setRf_other .PWR_BRK 0 0 b [] 1 9 8 (by omega) (by omega) (by omega)
  simp [Block.writePwrBrk, hv, b2n, ho, hs]

/-- CGATE is cleared while the domain is OFF: it wakes. -/
theorem Block.writePwrBrk_wake (hs : k.rf .PWR_BRK 9 8 b = 2) (hv : flag v 0 = false) (e : Env) :
    k.writePwrBrk e b v = (k.setRf .PWR_BRK 0 0 b [] 0).setRf .PWR_BRK 9 8 b [] 3 := by
  have ho := k.rf_setRf_other .PWR_BRK 0 0 b [] 0 9 8 (by omega) (by omega) (by omega)
  simp [Block.writePwrBrk, hv, b2n, ho, hs]

/-- CGATE is cleared while the domain closes: it closes first. -/
theorem Block.writePwrBrk_closing (hs : k.rf .PWR_BRK 9 8 b = 1) (hv : flag v 0 = false) (e : Env) :
    k.writePwrBrk e b v = k.setRf .PWR_BRK 0 0 b [] 0 := by
  have ho := k.rf_setRf_other .PWR_BRK 0 0 b [] 0 9 8 (by omega) (by omega) (by omega)
  simp [Block.writePwrBrk, hv, b2n, ho, hs]

end

section
variable {s : State} {b : Nat}

theorem gives_computeGate (v : Word) (hr : Ready s b) (hc : s.blk.crosses .managementPort = true) :
    Gives (.computeGate b v) s ((s.blk.writePwrBrk s.env b v).answerWrite b .mp) := by
  have he : exec (.computeGate b v) s = s.access (brickOk s.env.build b) b .mp fun k =>
    (k.writePwrBrk s.env b v).answerWrite b .mp := rfl
  exact gives_mp he hr.2 hr.1 hc rfl

theorem gives_computeUngate (v : Word) (hr : Ready s b) (hc : s.blk.crosses .managementPort = true) :
    Gives (.computeUngate b v) s ((s.blk.writePwrBrk s.env b v).answerWrite b .mp) := by
  have he : exec (.computeUngate b v) s = s.access (brickOk s.env.build b) b .mp fun k =>
    (k.writePwrBrk s.env b v).answerWrite b .mp := rfl
  exact gives_mp he hr.2 hr.1 hc rfl

/-- The end of CLOSING: OFF, or WAKING where CGATE reads 0. -/
def Block.computeClosed (k : Block) (b : Nat) : Block :=
  (k.loseCompute b).setRf .PWR_BRK 9 8 b [] (if flag (k.reg .PWR_BRK b) 0 then 2 else 3)

theorem gives_computeClosingDone (hr : Ready s b) (hs : s.blk.rf .PWR_BRK 9 8 b = 1) (hi : s.blk.computeIdle b = true) :
    Gives (.computeClosingDone b) s (s.blk.computeClosed b) := by
  have he : exec (.computeClosingDone b) s = s.run (brickOk s.env.build b) fun k =>
    if k.rf .PWR_BRK 9 8 b = 1 ∧ k.computeIdle b = true then k.computeClosed b else k := rfl
  exact gives_of_run he hr.2 hr.1 (if_pos ⟨hs, hi⟩)

theorem gives_wakingDone (hr : Ready s b) : Gives (.wakingDone b) s
    (if s.blk.rf .PWR_BRK 9 8 b = 3 ∧ s.blk.rst.ramped.contains b = false then
      { s.blk with rst.ramped := s.blk.rst.ramped ++ [b] } else s.blk) :=
  State.run_brick hr fun k =>
    if k.rf .PWR_BRK 9 8 b = 3 ∧ k.rst.ramped.contains b = false then { k with rst.ramped := k.rst.ramped ++ [b] } else k

end

/-- What one slot loses with its compute domain (R500, R501). -/
def Block.loseSlot (k : Block) (b sl : Nat) : Block :=
  let k := k.setSlot b sl { openSeq := (k.slot b sl).openSeq }
  if (k.slotWord b sl).v && (k.stream b (0x100 + sl)).st != .stopped then
    k.setStream b (0x100 + sl) { st := .halted }
  else k

theorem Block.loseSlot_frame (k : Block) (b sl : Nat) : k.loseSlot b sl =
    { k with rdc.slots := (k.loseSlot b sl).rdc.slots, prog.streams := (k.loseSlot b sl).prog.streams } := by
  unfold Block.loseSlot
  dsimp only
  split <;> rfl

theorem Block.slot_loseSlot (k : Block) (b sl i : Nat) :
    (k.loseSlot b sl).slot b i = if i = sl then { openSeq := (k.slot b sl).openSeq } else k.slot b i := by
  have hset : (k.loseSlot b sl).slot b i = (k.setSlot b sl { openSeq := (k.slot b sl).openSeq }).slot b i := by
    unfold Block.loseSlot
    dsimp only
    split <;> rfl
  rw [hset, Block.slot, Block.setSlot, look_put]
  by_cases h : i = sl
  · simp [h]
  · rw [if_neg h, if_neg (by omega)]
    rfl

theorem Block.loseCompute_frame (k : Block) (b : Nat) : k.loseCompute b =
    { k with rdc.slots := (k.loseCompute b).rdc.slots, prog.streams := (k.loseCompute b).prog.streams } := by
  suffices h : ∀ (l : List Nat) (k : Block), l.foldl (fun k sl => k.loseSlot b sl) k =
      { k with rdc.slots := (l.foldl (fun k sl => k.loseSlot b sl) k).rdc.slots,
               prog.streams := (l.foldl (fun k sl => k.loseSlot b sl) k).prog.streams } from h _ k
  intro l
  induction l with
  | nil => exact fun _ => rfl
  | cons sl l ih =>
    intro k
    rw [List.foldl_cons, ih (k.loseSlot b sl), k.loseSlot_frame]

/-- A slot that loses its state keeps its OPEN value and no set. -/
theorem Block.slot_loseCompute (k : Block) (b : Nat) {sl : Nat} (h : sl < 64) :
    ((k.loseCompute b).slot b sl).openSeq = (k.slot b sl).openSeq ∧ ((k.loseCompute b).slot b sl).sets = [] := by
  constructor
  · refine foldl_keeps (fun k : Block => (k.slot b sl).openSeq) (fun k i => ?_) _ k
    show ((k.loseSlot b i).slot b sl).openSeq = _
    rw [Block.slot_loseSlot]
    split
    · next h => rw [h]
    · rfl
  · refine foldl_sets (fun (k : Block) i => (k.slot b i).sets = []) (f := fun k i => k.loseSlot b i) (fun k i => ?_)
      (fun k i j hi => ?_) (List.mem_range.2 h) k
    · rw [Block.slot_loseSlot, if_pos rfl]
    · rw [Block.slot_loseSlot]
      split
      · rfl
      · exact hi

theorem Block.regs_loseCompute (k : Block) (b : Nat) : (k.loseCompute b).regs = k.regs := by
  rw [k.loseCompute_frame]

theorem Block.computeClosed_frame (k : Block) (b : Nat) : k.computeClosed b = { k with
    regs := (k.computeClosed b).regs, rdc.slots := (k.computeClosed b).rdc.slots
    prog.streams := (k.computeClosed b).prog.streams } := by
  have hlose := k.loseCompute_frame b
  rw [Block.computeClosed, Block.setRf_frame]
  generalize k.loseCompute b = n at hlose ⊢
  rw [hlose]

theorem Block.regsKept_computeClosed (k : Block) (b : Nat) : k.regsKept (k.computeClosed b) [regAddr .PWR_BRK b []] :=
  Block.regsKept_trans (Block.regsKept_of_regs (k.regs_loseCompute b) _) (Block.regsKept_setRf _ _ _ _ _ _ _ (.head _))

theorem Block.rf_computeClosed (k : Block) (b : Nat) :
    (k.computeClosed b).rf .PWR_BRK 9 8 b = if flag (k.reg .PWR_BRK b) 0 then 2 else 3 := by
  have hfits : (if flag (k.reg .PWR_BRK b) 0 then 2 else 3) < 2 ^ (9 + 1 - 8) := by split <;> omega
  rw [Block.computeClosed, Block.rf_setRf_fits _ _ _ _ _ _ (by omega) (by omega) hfits]

theorem Block.slot_computeClosed (k : Block) (b sl : Nat) : (k.computeClosed b).slot b sl = (k.loseCompute b).slot b sl := by
  rw [Block.slot, Block.computeClosed, Block.setRf_rdc, Block.slot]

/-- Settles O50: each command by what it gives in the case named, and what the block it gives then reads. -/
theorem localPortAndComputeDomains : Obligations.LocalPortAndComputeDomains := by
  unfold Obligations.LocalPortAndComputeDomains
  refine ⟨?reset, ?resetClosed, ?lprst, ?down, ?downElse, ?closed, ?closing, ?upElse, ?up, ?gate, ?ungateOff,
    ?ungateClosing, ?off, ?ramp, ?awake⟩
  case reset =>
    intro s b hr hb hl k
    have h := gives_lpReset hr hb
    rwa [Block.lpToClosed_open (k := s.blk.unpowered b) hl] at h
  case resetClosed =>
    intro s b hr hb hl k
    have h := gives_lpReset hr hb
    rwa [Block.lpToClosed_closed (k := s.blk.unpowered b) hl] at h
  case lprst =>
    exact fun s b v hr hc hb h0 h1 h2 hi => gives_lprst hr hc hb h0 h1 h2 hi
  case down =>
    intro s b hr hb hl
    have h := gives_powerDownRequest hr hb
    rw [if_pos hl] at h
    have hs := s.blk.lpState_setRf b 1 (by omega)
    exact ⟨_, h, rfl, hs, by rw [Block.lpOpen, ← Block.lpState, hs]; rfl, rfl⟩
  case downElse =>
    intro s b hr hb hl
    have h := gives_powerDownRequest hr hb
    rwa [if_neg hl] at h
  case closed =>
    intro s b hr hb hl hd k
    have h := gives_lpClosingDone hr hb
    rwa [if_pos ⟨hl, hd⟩] at h
  case closing =>
    intro s b hr hb hl hd
    have h := gives_lpClosingDone hr hb
    rwa [if_neg (by simp [hd])] at h
  case upElse =>
    intro s b hr hb hl
    have h := gives_powerUp hr hb
    rw [Block.lpResync_stays (k := s.blk.powered b) hl] at h
    exact ⟨_, h, rfl, s.blk.clusterUp_powered b, rfl⟩
  case up =>
    intro s b hr hb hl hi hs
    have h := gives_powerUp hr hb
    rw [Block.lpResync_powered hl hi hs, Block.handshake_setRf] at h
    refine ⟨_, h, ?_, ?_, Block.lpState_setRf _ b 3 (by omega), ?_⟩
    · rw [Block.setRf_rst]
      rfl
    · rw [Block.setRf_rst]
      rfl
    · rw [Block.setRf_rst]
      exact Block.resync_handshake _ _
  case gate =>
    intro s b v hr hc hv hs
    have h := gives_computeGate v hr hc
    rwa [Block.writePwrBrk_close hs hv] at h
  case ungateOff =>
    intro s b v hr hc hv hs
    have h := gives_computeUngate v hr hc
    rw [Block.writePwrBrk_wake hs hv] at h
    refine ⟨_, h, rfl, ?_, ?_, by simp [Block.answerWrite]⟩
    · rw [Block.rf_answerWrite_mp, Block.rf_setRf_fits _ _ _ _ _ _ (by omega) (by omega) (by omega)]
    · rw [Block.rf_answerWrite_mp, Block.rf_setRf_other _ _ _ _ _ _ _ _ _ (by omega) (by omega) (by omega),
        Block.rf_setRf_fits _ _ _ _ _ _ (by omega) (by omega) (by omega)]
  case ungateClosing =>
    intro s b v hr hc hv hs
    have h := gives_computeUngate v hr hc
    rw [Block.writePwrBrk_closing hs hv] at h
    refine ⟨_, h, rfl, ?_, ?_, by simp [Block.answerWrite]⟩
    · rw [Block.rf_answerWrite_mp, Block.rf_setRf_other _ _ _ _ _ _ _ _ _ (by omega) (by omega) (by omega), hs]
    · rw [Block.rf_answerWrite_mp, Block.rf_setRf_fits _ _ _ _ _ _ (by omega) (by omega) (by omega)]
  case off =>
    intro s b hr hs hi
    refine ⟨_, gives_computeClosingDone hr hs hi, s.blk.computeClosed_frame b, s.blk.regsKept_computeClosed b,
      s.blk.rf_computeClosed b, fun sl hsl => ?_⟩
    rw [Block.slot_computeClosed]
    exact s.blk.slot_loseCompute b hsl
  case ramp =>
    intro s b hr hs hn
    have h := gives_wakingDone hr
    rw [if_pos ⟨hs, hn⟩] at h
    exact ⟨_, h, rfl, rfl, rfl⟩
  case awake =>
    intro s b hr hs
    have h := gives_wakingDone hr
    rwa [if_neg fun h => hs h.1] at h

end Sys2Proof.Machine
end

section
/-!
The statement about the isolation of bricks (R493, R494).
-/

namespace Sys2Proof.Machine

/-! ### A write of RST_BRK -/

section
variable {k : Block} {e : Env} {b : Nat} {v : Word}

/-- A brick into which an output still leads is not isolated: the refusal is shown. -/
theorem Block.writeRstBrk_unfenced (h0 : flag v 0 = true) (h1 : flag v 1 = false) (h2 : flag v 2 = false)
    (hs : flag (k.reg .RST_BRK b) 0 = false) (hf : k.fencedIn e.build b = false) :
    k.writeRstBrk e b v = k.setBit .RST_BRK 2 b := by
  simp [Block.writeRstBrk, h0, h1, h2, hs, hf]

theorem Block.writeRstBrk_isolate (h0 : flag v 0 = true) (h1 : flag v 1 = false) (h2 : flag v 2 = false)
    (hs : flag (k.reg .RST_BRK b) 0 = false) (hf : k.fencedIn e.build b = true) (hi : k.isolated b = false) :
    k.writeRstBrk e b v = k.isolate e b := by
  simp [Block.writeRstBrk, h0, h1, h2, hs, hf, hi]

/-- An isolated brick that is released leaves isolation at the next boundary. -/
theorem Block.writeRstBrk_release (h0 : flag v 0 = false) (h1 : flag v 1 = false) (h2 : flag v 2 = false)
    (hi : k.isolated b = true) (hl : k.rst.leaving.contains b = false) :
    k.writeRstBrk e b v = ({ k with rst.leaving := k.rst.leaving ++ [b] } : Block).setRf .RST_BRK 0 0 b [] 0 := by
  have hl' : b ∉ k.rst.leaving := by simpa using hl
  simp [Block.writeRstBrk, h0, h1, h2, hi, hl']

end

/-! ### Empty links -/

theorem look_dropBehind (p : Nat → Bool) (m : Store (List Chained)) (key : Nat) : look [] (dropBehind p m) key =
    (look [] m key).map fun (x : Chained) => { x with behind := x.behind.filter fun y => !p y.1 } := by
  induction m with
  | nil => rfl
  | cons e m ih =>
    by_cases h : e.1 = key
    · simp [dropBehind, look, h]
    · simpa [dropBehind, look, h] using ih

theorem look_put_nil (m : Store (List Chained)) {i j : Nat} (h : look [] m j = []) : look [] (put [] m i []) j = [] := by
  rw [look_put]
  split
  · rfl
  · exact h

/-- Both ends of a link that is emptied have an empty chain. -/
theorem Block.chain_emptyLink (k : Block) (b o c i : Nat) :
    look [] (k.emptyLink b o c i).net.chain (b * 8 + o) = [] ∧ look [] (k.emptyLink b o c i).net.chain (c * 8 + i) = [] := by
  constructor
  · simp only [Block.emptyLink, Block.setCredits, Block.setChain, look_dropBehind, look_put_nil _ (look_put_same ..),
      List.map_nil]
  · simp only [Block.emptyLink, Block.setCredits, Block.setChain, look_dropBehind, look_put_same, List.map_nil]

theorem exec_isolationExit (b : Nat) (s : State) : exec (.isolationExit b) s = s.run (brickOk s.env.build b) fun k =>
    if k.clk.cyc = 0 ∧ k.rst.leaving.contains b = true then
      (portsOf s.env.build b).foldl (fun k x => k.portTrain s.env.build x.1 x.2)
        ((linksOf s.env.build b).foldl (fun k x => k.emptyLink b x.1 x.2.1 x.2.2)
          { k with
            rst.isolated := k.rst.isolated.filter fun (x : Nat) => x != b
            rst.leaving := k.rst.leaving.filter fun (x : Nat) => x != b })
    else k := rfl

/-- Settles O51: the branches of a write of RST_BRK and of the exit, and the chains of a link that is emptied. -/
theorem bricksAreIsolatedAndReleased : Obligations.BricksAreIsolatedAndReleased := by
  unfold Obligations.BricksAreIsolatedAndReleased
  refine ⟨?refused, ?isolate, ?release, ?leave, ?stay, fun k b o c i => k.chain_emptyLink b o c i⟩
  case refused =>
    intro s b v hr hc h0 h1 h2 hs hf
    have he : exec (.isolate b v) s = s.access (brickOk s.env.build b) b .mp fun k =>
      (k.writeRstBrk s.env b v).answerWrite b .mp := rfl
    refine ⟨_, gives_mp he hr.2 hr.1 hc (by rw [Block.writeRstBrk_unfenced h0 h1 h2 hs hf]), rfl, ?_, rfl, rfl⟩
    exact Block.flag_setBit_same s.blk .RST_BRK b [] (by omega)
  case isolate =>
    intro s b v hr hc h0 h1 h2 hs hf hi
    have he : exec (.isolate b v) s = s.access (brickOk s.env.build b) b .mp fun k =>
      (k.writeRstBrk s.env b v).answerWrite b .mp := rfl
    exact gives_mp he hr.2 hr.1 hc (by rw [Block.writeRstBrk_isolate h0 h1 h2 hs hf hi])
  case release =>
    intro s b v hr hc h0 h1 h2 hi hl
    have he : exec (.isolateRelease b v) s = s.access (brickOk s.env.build b) b .mp fun k =>
      (k.writeRstBrk s.env b v).answerWrite b .mp := rfl
    refine ⟨_, gives_mp he hr.2 hr.1 hc (by rw [Block.writeRstBrk_release h0 h1 h2 hi hl]), rfl, ?_, hi, ?_⟩
    · show (s.blk.rst.leaving ++ [b]).contains b = true
      simp
    · exact Block.flag_setRf_same _ .RST_BRK 0 b [] false (by omega)
  case leave =>
    exact fun s b hr hcyc hl => gives_of_run (exec_isolationExit b s) hr.2 hr.1 (if_pos ⟨hcyc, hl⟩)
  case stay =>
    exact fun s b hr hl => gives_of_run (exec_isolationExit b s) hr.2 hr.1
      (if_neg fun ⟨_, h⟩ => Bool.false_ne_true (hl.symm.trans h))

end Sys2Proof.Machine
end

section
/-!
The statement about the supply and the segments (R520, R521, R523).
-/

namespace Sys2Proof.Machine

/-! ### The regulator's answer (R521) -/

/-- ACKED takes STEPS, PEND clears, and the supply settles. -/
def Block.supplyAcked (k : Block) : Block :=
  { (k.setRf .AGE_VREQ 0 0 0 [] 0).setRf .AGE_VREQ 7 4 0 [] (k.rf .AGE_VREQ 11 8) with hlth.settling := true }

/-- LOWCNT of every brick is 0. -/
def Block.lowCntZero (k : Block) (d : Build) : Block := (bricks d).foldl (fun k b => k.setRf .AGE_MARGIN 42 40 b [] 0) k

theorem exec_vreqAck (v : Nat) (s : State) : exec (.vreqAck v) s = s.run true fun k =>
    if flag (k.reg .AGE_VREQ) 0 then k.supplyAcked.lowCntZero s.env.build else k := rfl

theorem regAddr_ageVreq_ne_ageMargin (b : Nat) : regAddr .AGE_VREQ 0 [] ≠ regAddr .AGE_MARGIN b [] := by
  simp [regAddr, regRow, pageBase, elemOff]; omega

theorem Block.lowCntZero_only_regs (k : Block) (d : Build) : k.lowCntZero d = { k with regs := (k.lowCntZero d).regs } := by
  unfold Block.lowCntZero
  exact Block.only_regs_foldl (fun _ _ => Block.setRf_frame ..) _ k

theorem Block.reg_ageVreq_lowCntZero (k : Block) (d : Build) : (k.lowCntZero d).reg .AGE_VREQ = k.reg .AGE_VREQ :=
  foldl_keeps (fun k : Block => k.reg .AGE_VREQ)
    (fun k b => k.reg_setRf_other _ _ _ _ _ (regAddr_ageVreq_ne_ageMargin b)) _ k

theorem Block.regsKept_lowCntZero (k : Block) (d : Build) (l : List Nat) : k.regsKept (k.lowCntZero d)
    (l ++ (bricks d).map fun b => regAddr .AGE_MARGIN b []) :=
  Block.regsKept_foldl (fun k b hb => k.regsKept_setRf .AGE_MARGIN 42 40 b [] 0
    (List.mem_append_right _ (List.mem_map_of_mem (f := fun b => regAddr .AGE_MARGIN b []) hb))) k

theorem Block.rf_lowCntZero (k : Block) (d : Build) {b : Nat} (hb : b ∈ bricks d) :
    (k.lowCntZero d).rf .AGE_MARGIN 42 40 b = 0 := by
  refine foldl_sets (fun (k : Block) b => k.rf .AGE_MARGIN 42 40 b = 0)
    (fun k b => k.rf_setRf_fits _ _ _ _ _ (by omega) (by omega) (by omega)) (fun k b c h => ?_) hb k
  by_cases hbc : b = c
  · subst hbc
    exact k.rf_setRf_fits _ _ _ _ _ (by omega) (by omega) (by omega)
  · refine (k.rf_setRf_ne _ _ _ _ _ _ _ ?_).trans h
    simp [regAddr, regRow, pageBase, elemOff]
    omega

theorem Block.supplyAcked_frame (k : Block) :
    k.supplyAcked = { k with regs := k.supplyAcked.regs, hlth.settling := true } := by
  apply Block.ext_groups <;> simp [Block.supplyAcked]

theorem Block.regsKept_supplyAcked (k : Block) {l : List Nat} (h : regAddr .AGE_VREQ 0 [] ∈ l) :
    k.regsKept k.supplyAcked l :=
  Block.regsKept_trans (k.regsKept_setRf .AGE_VREQ 0 0 0 [] 0 h) (Block.regsKept_setRf _ .AGE_VREQ 7 4 0 [] _ h)

/-- What the regulator's answer leaves in AGE_VREQ. -/
theorem Block.ageVreq_supplyAcked (k : Block) : flag (k.supplyAcked.reg .AGE_VREQ) 0 = false ∧
    k.supplyAcked.rf .AGE_VREQ 7 4 = k.rf .AGE_VREQ 11 8 ∧ k.supplyAcked.rf .AGE_VREQ 11 8 = k.rf .AGE_VREQ 11 8 := by
  have hlt := k.rf_lt .AGE_VREQ 11 8 0 []
  refine ⟨?_, ?_, ?_⟩
  · exact (Block.flag_setRf_other _ .AGE_VREQ 7 4 0 [] _ 0 (by omega) (by omega) (by omega)).trans
      (k.flag_setRf_same .AGE_VREQ 0 0 [] false (by omega))
  · exact Block.rf_setRf_fits _ .AGE_VREQ 7 4 0 [] (by omega) (by omega) (by omega)
  · exact (Block.rf_setRf_other _ .AGE_VREQ 7 4 0 [] _ 11 8 (by omega) (by omega) (by omega)).trans
      (k.rf_setRf_other .AGE_VREQ 0 0 0 [] 0 11 8 (by omega) (by omega) (by omega))

/-! ### Writes of AGE_VREQ and AGE_PLAN, and the change at the boundary (R520, R523) -/

theorem Block.writeVreq_down {k : Block} {v : Word} (hv : flag v 1 = true) (hn : 0 < k.rf .AGE_VREQ 11 8)
    (hp : flag (k.reg .AGE_VREQ) 0 = false) (hr : k.regulatorShut = false) : k.writeVreq v =
    (k.requestSupply (k.rf .AGE_VREQ 11 8 - 1)).firmwarePlan (k.rf .AGE_VREQ 11 8 - 1) :=
  if_pos (by simp [hv, hn, hp, hr])

theorem Block.writeVreq_stays {k : Block} {v : Word} (h : flag v 1 = false ∨ k.rf .AGE_VREQ 11 8 = 0 ∨
    flag (k.reg .AGE_VREQ) 0 = true ∨ k.regulatorShut = true) : k.writeVreq v = k :=
  if_neg (by rcases h with h | h | h | h <;> simp [h])

theorem Block.writePlan_unbuilt {d : Build} {i : Nat} (h : segmentBuilt d i = false) (k : Block) (v : Word) :
    k.writePlan d i v = k :=
  if_pos (by rw [h]; rfl)

theorem Block.writePlan_change {k : Block} {d : Build} {i : Nat} {v : Word} (hb : segmentBuilt d i = true)
    (hn : look none k.hlth.planNext i = none) (hv : flag v 0 ≠ flag (k.reg .AGE_PLAN 0 [i]) 0) :
    k.writePlan d i v = (k.planSegment i (flag v 0) false).firmwarePlan i := by
  simp [Block.writePlan, hb, hn, hv]

/-- A segment that changes its mode at the boundary. -/
def Block.segmentChanged (k : Block) (i : Nat) (two : Bool) : Block :=
  (({ k with hlth.planNext := put none k.hlth.planNext i none } : Block).setRf .AGE_PLAN 1 1 0 [i] 0).setRf
    .AGE_PLAN 0 0 0 [i] (b2n two)

theorem exec_segmentModeChange (i : Nat) (s : State) : exec (.segmentModeChange i) s = s.run (decide (i < 24)) fun k =>
    match look none k.hlth.planNext i with
    | none => k
    | some (two, _, at_) => if k.clk.cyc = 0 ∧ at_ < k.clk.now then k.segmentChanged i two else k := rfl

theorem Block.segmentChanged_frame (k : Block) (i : Nat) (two : Bool) : k.segmentChanged i two =
    { k with regs := (k.segmentChanged i two).regs, hlth.planNext := (k.segmentChanged i two).hlth.planNext } := by
  apply Block.ext_groups <;> simp [Block.segmentChanged]

theorem Block.regsKept_segmentChanged (k : Block) (i : Nat) (two : Bool) :
    k.regsKept (k.segmentChanged i two) [regAddr .AGE_PLAN 0 [i]] :=
  Block.regsKept_trans (Block.regsKept_setRf { k with hlth.planNext := put none k.hlth.planNext i none } .AGE_PLAN 1 1 0 [i]
    0 (.head _)) (Block.regsKept_setRf _ .AGE_PLAN 0 0 0 [i] (b2n two) (.head _))

theorem Block.agePlan_segmentChanged (k : Block) (i : Nat) (two : Bool) :
    flag ((k.segmentChanged i two).reg .AGE_PLAN 0 [i]) 0 = two ∧
      flag ((k.segmentChanged i two).reg .AGE_PLAN 0 [i]) 1 = false := by
  constructor
  · exact Block.flag_setRf_same _ .AGE_PLAN 0 0 [i] two (by omega)
  · exact (Block.flag_setRf_other _ .AGE_PLAN 0 0 0 [i] _ 1 (by omega) (by omega) (by omega)).trans
      (Block.flag_setRf_same _ .AGE_PLAN 1 0 [i] false (by omega))

/-- Settles O53: the regulator's answer, and the branches of the writes and of the change at a boundary. -/
theorem supplyAndSegmentsChange : Obligations.SupplyAndSegmentsChange := by
  unfold Obligations.SupplyAndSegmentsChange
  refine ⟨?ack, ?noAck, ?settled, ?down, ?downElse, ?plan, ?planElse, ?change, ?changeElse⟩
  case ack =>
    intro s v hh hp
    obtain ⟨hpend, hacked, hsteps⟩ := s.blk.ageVreq_supplyAcked
    have hreg := s.blk.supplyAcked.reg_ageVreq_lowCntZero s.env.build
    refine ⟨_, gives_of_run (exec_vreqAck v s) rfl hh (if_pos hp), ?_, ?_, ?_, ?_, ?_, ?_,
      fun b hb => Block.rf_lowCntZero _ _ hb⟩
    · rw [Block.lowCntZero_only_regs, Block.supplyAcked_frame]
    · exact Block.regsKept_trans (s.blk.regsKept_supplyAcked (.head _))
        (s.blk.supplyAcked.regsKept_lowCntZero s.env.build [regAddr .AGE_VREQ 0 []])
    · rw [hreg, hpend]
    · rw [Block.rf, hreg, ← Block.rf, hacked]
    · rw [Block.lowCntZero_only_regs]
      rfl
    · rw [Block.rf, hreg, ← Block.rf, hsteps]
  case noAck =>
    exact fun s v hh hp => gives_of_run (exec_vreqAck v s) rfl hh (if_neg (ne_true_of_eq_false hp))
  case settled =>
    intro s hh
    have he : exec .settleExpiry s = s.run true fun k => { k with hlth.settling := false } := rfl
    exact ⟨_, gives_of_run he rfl hh rfl, rfl, rfl, rfl⟩
  case down =>
    intro s v hh hc hv hn hp hr
    have he : exec (.down v) s = s.access true 0 .mp fun k => (k.writeVreq v).answerWrite 0 .mp := rfl
    exact gives_mp he rfl hh hc (by rw [Block.writeVreq_down hv hn hp hr])
  case downElse =>
    intro s v hh hc h
    have he : exec (.down v) s = s.access true 0 .mp fun k => (k.writeVreq v).answerWrite 0 .mp := rfl
    exact gives_mp he rfl hh hc (by rw [Block.writeVreq_stays h])
  case plan =>
    intro s i v hh hc hi hb hn hv
    have he : exec (.agePlanWrite i v) s = s.access (decide (i < 24)) 0 .mp fun k =>
      (k.writePlan s.env.build i v).answerWrite 0 .mp := rfl
    exact gives_mp he (decide_eq_true hi) hh hc (by rw [Block.writePlan_change hb hn hv])
  case planElse =>
    intro s i v hh hc hi hb
    have he : exec (.agePlanWrite i v) s = s.access (decide (i < 24)) 0 .mp fun k =>
      (k.writePlan s.env.build i v).answerWrite 0 .mp := rfl
    exact gives_mp he (decide_eq_true hi) hh hc (by rw [Block.writePlan_unbuilt hb])
  case change =>
    intro s i n two policy hh hi hn hc ht
    refine ⟨s.blk.segmentChanged i two, gives_of_run (exec_segmentModeChange i s) (decide_eq_true hi) hh ?_,
      s.blk.segmentChanged_frame i two, s.blk.regsKept_segmentChanged i two, (s.blk.agePlan_segmentChanged i two).1,
      (s.blk.agePlan_segmentChanged i two).2, ?_⟩
    · rw [hn]
      exact if_pos ⟨hc, ht⟩
    · exact look_put_same none s.blk.hlth.planNext i none
  case changeElse =>
    intro s i hh hi h
    refine gives_of_run (exec_segmentModeChange i s) (decide_eq_true hi) hh ?_
    split
    · rfl
    · next hn => exact if_neg (by simp_all)

end Sys2Proof.Machine
end

section
/-!
The statement about stress hours and the end of life (R515 to R517).
-/

namespace Sys2Proof.Machine

/-- A counter that is not at its bound counts. -/
theorem Block.rf_bump_room (k : Block) (r : RegName) {hi lo pg : Nat} {ix : List Nat} {n : Nat} (h : lo ≤ hi + 1)
    (hh : hi < 64) (hn : k.rf r hi lo pg ix + n ≤ 2 ^ (hi + 1 - lo) - 1) :
    (k.bump r hi lo pg ix n).rf r hi lo pg ix = k.rf r hi lo pg ix + n := by
  have hsat : satAdd (2 ^ (hi + 1 - lo) - 1) (k.rf r hi lo pg ix) n = k.rf r hi lo pg ix + n := Nat.min_eq_right hn
  have hpos := Nat.two_pow_pos (hi + 1 - lo)
  rw [Block.bump, hsat, k.rf_setRf_fits r hi lo pg ix h hh (by omega)]

/-! ### The fit (R517) -/

theorem searchHours_succ (n lo : Nat) (slope gap : Int) : searchHours slope gap (n + 1) lo =
    if (log2Fixed (lo + 2 ^ n) : Int) * slope ≤ gap * 2 ^ logBits then searchHours slope gap n (lo + 2 ^ n)
    else searchHours slope gap n lo := rfl

theorem searchHours_bounds (n lo : Nat) (slope gap : Int) :
    lo ≤ searchHours slope gap n lo ∧ searchHours slope gap n lo < lo + 2 ^ n := by
  induction n generalizing lo with
  | zero => exact ⟨Nat.le_refl _, Nat.lt_succ_self _⟩
  | succ n ih =>
    have hpow : 2 ^ (n + 1) = 2 ^ n + 2 ^ n := by ring
    rw [searchHours_succ]
    split
    · have := ih (lo + 2 ^ n)
      omega
    · have := ih lo
      omega

/-- An hour the search has moved to meets the bound. -/
theorem searchHours_meets (n lo : Nat) (slope gap : Int) : searchHours slope gap n lo = lo ∨
    (log2Fixed (searchHours slope gap n lo) : Int) * slope ≤ gap * 2 ^ logBits := by
  induction n generalizing lo with
  | zero => exact .inl rfl
  | succ n ih =>
    rw [searchHours_succ]
    split
    · next h =>
      rcases ih (lo + 2 ^ n) with he | hm
      · exact .inr (he.symm ▸ h)
      · exact .inr hm
    · exact ih lo

theorem endOfLife_flat {f : Int × Int × Int} (h : f.1 ≤ 0) (d : Nat) : endOfLife f d = 0xFFFFFFFF := if_pos h

theorem endOfLife_lt (f : Int × Int × Int) (d : Nat) : endOfLife f d < 2 ^ 32 := by
  unfold endOfLife
  split
  · omega
  · have := (searchHours_bounds 32 0 f.1 (f.2.2 * (log2Fixed d : Int) - f.2.1)).2
    omega

theorem Block.refit_none {k : Block} {b : Nat} (h : (k.samples b).length < 2) :
    k.refit b = k.setReg .AGE_FIT b [] (regReset .AGE_FIT []) := if_pos h

/-- The fit changes AGE_FIT and takes free values. -/
theorem Block.refit_eq (k : Block) (b : Nat) : ∃ w n, k.refit b = ({ k with free := n } : Block).setReg .AGE_FIT b [] w := by
  by_cases h : (k.samples b).length < 2
  · exact ⟨_, k.free, Block.refit_none h⟩
  · exact ⟨_, k.free + 2, if_neg h⟩

theorem Block.reg_refit_other (k : Block) (b : Nat) {r : RegName} {pg : Nat} {ix : List Nat}
    (h : regAddr r pg ix ≠ regAddr .AGE_FIT b []) : (k.refit b).reg r pg ix = k.reg r pg ix := by
  obtain ⟨w, n, he⟩ := k.refit_eq b
  rw [he]
  exact Block.reg_setReg_other _ w h

theorem Block.refit_frame (k : Block) (b : Nat) :
    k.refit b = { k with regs := (k.refit b).regs, free := (k.refit b).free } := by
  obtain ⟨w, n, he⟩ := k.refit_eq b
  rw [he]
  rfl

/-! ### An hour (R515, R516) -/

/-- The block after an hour has been counted, with its drift. -/
def Block.hourCounted (k : Block) (b d : Nat) : Block :=
  (({ k with free := k.free + 1 } : Block).bump .AGE_DRIFT 63 32 b).setRf .AGE_DRIFT 31 0 b [] d

/-- The block with the hour in its history, if the hour is a power of two. -/
def Block.hourKept (k : Block) (b d : Nat) : Block :=
  match (List.range 20).find? fun i => 2 ^ i == k.rf .AGE_DRIFT 63 32 b with
  | some i => (k.setReg .AGE_HIST b [i] (mkWord [(63, 1), (0, d)])).refit b
  | none => k

theorem driftOf_slow {f g : Nat} (hg : 0 < g) (h : g < f) (w : Word) : driftOf f g w = (f - g) * 1000000 / f := by
  rw [driftOf, if_neg (by omega), if_neg (by omega)]

theorem driftOf_fast {f g : Nat} (hg : 0 < g) (h : f ≤ g) (w : Word) : driftOf f g w = 0 := if_pos ⟨h, hg⟩

theorem Block.hourCounted_frame (k : Block) (b d : Nat) :
    k.hourCounted b d = { k with regs := (k.hourCounted b d).regs, free := k.free + 1 } := by
  apply Block.ext_groups <;> simp [Block.hourCounted]

theorem Block.regsKept_hourCounted (k : Block) (b d : Nat) {l : List Nat} (h : regAddr .AGE_DRIFT b [] ∈ l) :
    k.regsKept (k.hourCounted b d) l :=
  Block.regsKept_trans (Block.regsKept_setRf { k with free := k.free + 1 } .AGE_DRIFT 63 32 b [] _ h)
    (Block.regsKept_setRf _ .AGE_DRIFT 31 0 b [] d h)

theorem Block.drift_hourCounted (k : Block) (b d : Nat) : (k.hourCounted b d).rf .AGE_DRIFT 31 0 b = d % 2 ^ 32 :=
  Block.rf_setRf_same _ .AGE_DRIFT 31 0 b [] d (by omega) (by omega)

theorem Block.hours_hourCounted {k : Block} {b : Nat} (h : k.rf .AGE_DRIFT 63 32 b < 2 ^ 32 - 1) (d : Nat) :
    (k.hourCounted b d).rf .AGE_DRIFT 63 32 b = k.rf .AGE_DRIFT 63 32 b + 1 :=
  (Block.rf_setRf_other _ .AGE_DRIFT 31 0 b [] d 63 32 (by omega) (by omega) (by omega)).trans
    (Block.rf_bump_room { k with free := k.free + 1 } .AGE_DRIFT (by omega) (by omega) (Nat.succ_le_of_lt h))

theorem regAddr_ageDrift_ne_ageFit (b : Nat) : regAddr .AGE_DRIFT b [] ≠ regAddr .AGE_FIT b [] := by
  simp [regAddr, regRow, pageBase, elemOff]

theorem regAddr_ageDrift_ne_ageHist (b i : Nat) : regAddr .AGE_DRIFT b [] ≠ regAddr .AGE_HIST b [i] := by
  simp [regAddr, regRow, pageBase, elemOff]
  omega

theorem regAddr_ageHist_ne_ageFit (b i : Nat) : regAddr .AGE_HIST b [i] ≠ regAddr .AGE_FIT b [] := by
  simp [regAddr, regRow, pageBase, elemOff]
  omega

section
variable (k : Block) (b d i : Nat)

/-- The block with hour 2^i in its history, fitted again. -/
def Block.hourSampled : Block := (k.setReg .AGE_HIST b [i] (mkWord [(63, 1), (0, d)])).refit b

theorem Block.hourSampled_frame : k.hourSampled b d i =
    { k with regs := (k.hourSampled b d i).regs, free := (k.hourSampled b d i).free } :=
  Block.refit_frame _ b

theorem Block.regsKept_hourSampled {l : List Nat} (hh : regAddr .AGE_HIST b [i] ∈ l) (hf : regAddr .AGE_FIT b [] ∈ l) :
    k.regsKept (k.hourSampled b d i) l :=
  Block.regsKept_trans (k.regsKept_setReg .AGE_HIST b [i] _ hh)
    (fun _ _ _ hr => Block.reg_refit_other _ b fun e => hr (e ▸ hf))

theorem Block.reg_ageDrift_hourSampled : (k.hourSampled b d i).reg .AGE_DRIFT b = k.reg .AGE_DRIFT b :=
  (Block.reg_refit_other _ b (regAddr_ageDrift_ne_ageFit b)).trans
    (k.reg_setReg_other _ (regAddr_ageDrift_ne_ageHist b i))

theorem Block.reg_ageHist_hourSampled : (k.hourSampled b d i).reg .AGE_HIST b [i] = mkWord [(63, 1), (0, d)] :=
  (Block.reg_refit_other _ b (regAddr_ageHist_ne_ageFit b i)).trans (k.reg_setReg ..)

/-- The history is left, or takes one of its twenty samples. -/
theorem Block.hourKept_cases : k.hourKept b d = k ∨ ∃ i, i < 20 ∧ k.hourKept b d = k.hourSampled b d i := by
  unfold Block.hourKept
  split
  · next i h => exact .inr ⟨i, List.mem_range.1 (List.mem_of_find?_eq_some h), rfl⟩
  · exact .inl rfl

end

/-! ### What an hour leaves -/

section
variable (k : Block) (b d : Nat)

/-- An hour with drift `d`: it is counted, and kept if it is a power of two. -/
def Block.hour : Block := (k.hourCounted b d).hourKept b d

theorem Block.hour_frame : k.hour b d = { k with regs := (k.hour b d).regs, free := (k.hour b d).free } := by
  rcases (k.hourCounted b d).hourKept_cases b d with he | ⟨i, -, he⟩
  · rw [Block.hour, he, Block.hourCounted_frame]
  · rw [Block.hour, he, Block.hourSampled_frame, Block.hourCounted_frame]

theorem Block.regsKept_hour : k.regsKept (k.hour b d) (regAddr .AGE_DRIFT b [] :: regAddr .AGE_FIT b [] ::
    (List.range 20).map fun i => regAddr .AGE_HIST b [i]) := by
  have hc := k.regsKept_hourCounted b d (l := regAddr .AGE_DRIFT b [] :: regAddr .AGE_FIT b [] ::
    (List.range 20).map fun i => regAddr .AGE_HIST b [i]) (.head _)
  rcases (k.hourCounted b d).hourKept_cases b d with he | ⟨i, hi, he⟩
  · rwa [Block.hour, he]
  · rw [Block.hour, he]
    exact Block.regsKept_trans hc (Block.regsKept_hourSampled _ b d i
      (.tail _ (.tail _ (List.mem_map_of_mem (f := fun i => regAddr .AGE_HIST b [i]) (List.mem_range.2 hi))))
      (.tail _ (.head _)))

theorem Block.reg_ageDrift_hour : (k.hour b d).reg .AGE_DRIFT b = (k.hourCounted b d).reg .AGE_DRIFT b := by
  rcases (k.hourCounted b d).hourKept_cases b d with he | ⟨i, -, he⟩
  · rw [Block.hour, he]
  · rw [Block.hour, he, Block.reg_ageDrift_hourSampled]

theorem Block.drift_hour : (k.hour b d).rf .AGE_DRIFT 31 0 b = d % 2 ^ 32 := by
  rw [Block.rf, Block.reg_ageDrift_hour, ← Block.rf, Block.drift_hourCounted]

theorem Block.hours_hour {k : Block} {b : Nat} (h : k.rf .AGE_DRIFT 63 32 b < 2 ^ 32 - 1) (d : Nat) :
    (k.hour b d).rf .AGE_DRIFT 63 32 b = k.rf .AGE_DRIFT 63 32 b + 1 := by
  rw [Block.rf, Block.reg_ageDrift_hour, ← Block.rf, Block.hours_hourCounted h]

end

theorem exec_stressHour (b f g : Nat) (s : State) : exec (.stressHour b f g) s = s.run (brickOk s.env.build b) fun k =>
    k.hour b (driftOf f g (Config.freeWord k.free)) := rfl

theorem find_twoPow {i : Nat} (h : i < 20) : ((List.range 20).find? fun j => 2 ^ j == 2 ^ i) = some i := by
  revert i
  decide

/-- Settles O54: an hour by its count and its sample, the fit by AGE_FIT alone, the search by induction on its steps. -/
theorem stressAndEndOfLife : Obligations.StressAndEndOfLife := by
  unfold Obligations.StressAndEndOfLife
  refine ⟨?hour, ?sample, ?write, fun k b h => Block.refit_none h, endOfLife_lt, fun f d h => endOfLife_flat h d,
    fun n lo slope gap => ⟨(searchHours_bounds n lo slope gap).1, (searchHours_bounds n lo slope gap).2,
      searchHours_meets n lo slope gap⟩⟩
  case hour =>
    intro s b f g hr hg hf _ hn
    exact ⟨_, gives_of_run (exec_stressHour b f g s) hr.2 hr.1 (by rw [driftOf_slow hg hf]), s.blk.hour_frame b _,
      s.blk.regsKept_hour b _, s.blk.drift_hour b _, Block.hours_hour hn _⟩
  case sample =>
    intro s b f g i hr hg hf hi hn
    have hd := driftOf_fast hg hf (Config.freeWord s.blk.free)
    have hpow : 2 ^ i ≤ 2 ^ 19 := Nat.pow_le_pow_right (by omega) (by omega)
    have hh : s.blk.hour b 0 = (s.blk.hourCounted b 0).hourSampled b 0 i := by
      rw [Block.hour, Block.hourKept, Block.hours_hourCounted (by omega), hn, find_twoPow hi]
      rfl
    refine ⟨_, gives_of_run (exec_stressHour b f g s) hr.2 hr.1 (by rw [hd, hh]), ?_, ?_, ?_, ?_⟩
    · rw [Block.hourSampled_frame, Block.hourCounted_frame]
    · exact Block.regsKept_trans (s.blk.regsKept_hourCounted b 0 (.head _))
        (Block.regsKept_hourSampled _ b 0 i (.tail _ (.tail _ (.head _))) (.tail _ (.head _)))
    · exact Block.reg_ageHist_hourSampled ..
    · rw [Block.rf, Block.reg_ageDrift_hourSampled, ← Block.rf, Block.drift_hourCounted, Nat.zero_mod]
  case write =>
    intro s b i v hr hc hi
    have he : exec (.ageHistWrite b i v) s = s.access (brickOk s.env.build b && decide (i < 20)) b .mp fun k =>
      ((k.applyWrite .AGE_HIST b [i] v).refit b).answerWrite b .mp := rfl
    exact gives_mp he (by rw [hr.2, decide_eq_true hi, Bool.and_self]) hr.1 hc rfl

end Sys2Proof.Machine
end

section
/-!
The statement about the black box (R533 to R537).
-/

namespace Sys2Proof.Machine

/-! ### Entries that are written (R534) -/

/-- What holds between a block and itself, and along two steps, holds along a fold whose steps it holds along. -/
theorem foldl_relates {α σ : Type} {R : σ → σ → Prop} (hrefl : ∀ k, R k k) (htrans : ∀ k m n, R k m → R m n → R k n)
    {f : σ → α → σ} (hf : ∀ k x, R k (f k x)) (xs : List α) (k : σ) : R k (xs.foldl f k) := by
  induction xs generalizing k with
  | nil => exact hrefl k
  | cons x xs ih => exact htrans _ _ _ (hf k x) (ih (f k x))

/-- The two blocks differ in the box, the MCLK in which the SRAM was written, and register words alone. -/
def Block.BoxOnly (k n : Block) : Prop :=
  n = { k with regs := n.regs, flt.box := n.flt.box, hlth.sramAt := n.hlth.sramAt }

theorem Block.BoxOnly.trans {k m n : Block} (h : k.BoxOnly m) (h' : m.BoxOnly n) : k.BoxOnly n := by
  unfold Block.BoxOnly at *
  rw [h', h]

theorem Block.boxOnly_boxWrite (k : Block) (en : BoxEntry) : k.BoxOnly (k.boxWrite en) := by
  rw [Block.BoxOnly, Block.boxWrite_frame]
  rfl

theorem Block.boxOnly_setRf (k : Block) (r : RegName) (hi lo pg : Nat) (ix : List Nat) (v : Nat) :
    k.BoxOnly (k.setRf r hi lo pg ix v) :=
  k.setRf_frame r hi lo pg ix v

theorem Block.regsKept_boxWrite (k : Block) (en : BoxEntry) : k.regsKept (k.boxWrite en) [regAddr .BBX_STAT 0 []] := by
  have hb : k.regsKept (k.boxed en) [regAddr .BBX_STAT 0 []] := Block.regsKept_of_regs rfl _
  by_cases h : k.rf .BBX_STAT 11 0 = 4095
  · rw [Block.boxWrite_last h]
    exact Block.regsKept_trans hb (Block.regsKept_trans (Block.regsKept_setRf _ _ _ _ _ _ _ (.head _))
      (Block.regsKept_setRf _ _ _ _ _ _ _ (.head _)))
  · rw [Block.boxWrite_next h]
    exact Block.regsKept_trans hb (Block.regsKept_setRf _ _ _ _ _ _ _ (.head _))

theorem Block.box_boxWrite (k : Block) (en : BoxEntry) :
    (k.boxWrite en).flt.box = put none k.flt.box (k.rf .BBX_STAT 11 0) (some en) := by
  rw [Block.boxWrite_frame]
  rfl

theorem Block.boxWait_boxWrite (k : Block) (en : BoxEntry) : (k.boxWrite en).flt.boxWait = k.flt.boxWait := by
  rw [Block.boxWrite_frame]
  rfl

theorem Block.next_boxWrite {k : Block} (h : k.rf .BBX_STAT 11 0 < 4095) (en : BoxEntry) :
    (k.boxWrite en).rf .BBX_STAT 11 0 = k.rf .BBX_STAT 11 0 + 1 := by
  rw [Block.boxWrite_next (by omega), Block.rf_setRf_fits _ _ _ _ _ _ (by omega) (by omega) (by omega)]

/-- Behind the last place NEXT is 0, and the box has wrapped. -/
theorem Block.wrap_boxWrite {k : Block} (h : k.rf .BBX_STAT 11 0 = 4095) (en : BoxEntry) :
    (k.boxWrite en).rf .BBX_STAT 11 0 = 0 ∧ flag ((k.boxWrite en).reg .BBX_STAT) 12 = true := by
  rw [Block.boxWrite_last h]
  constructor
  · rw [Block.setBit, Block.rf_setRf_other _ _ _ _ _ _ _ _ _ (by omega) (by omega) (by omega),
      Block.rf_setRf_fits _ _ _ _ _ _ (by omega) (by omega) (by omega)]
  · exact Block.flag_setBit_same _ _ _ _ (by omega)

/-! ### An entry arrives (R534, R536) -/

theorem Block.boxArrive_open {k : Block} (h : flag (k.reg .BBX_STAT) 63 = false) (hf : k.flt.freezing = none)
    (en : BoxEntry) : k.boxArrive en = k.boxWrite en := by
  rw [Block.boxArrive, if_neg (ne_true_of_eq_false h), hf]

theorem Block.boxArrive_frozen {k : Block} (h : flag (k.reg .BBX_STAT) 63 = true) (en : BoxEntry) :
    k.boxArrive en = k := if_pos h

/-- The entry `x` has left those that wait. -/
def Block.boxLeft (k : Block) (x : BoxEntry) : Block := { k with flt.boxWait := k.flt.boxWait.erase x }

theorem gives_blackBoxEntry {s : State} {b : Nat} {x : BoxEntry} (hh : s.blk.held = false)
    (hb : brickOk s.env.build b = true ∨ b = 0xFFFF) (hx : s.blk.flt.boxWait.find? (fun y => y.source == b) = some x) :
    Gives (.blackBoxEntry b) s ((s.blk.boxLeft x).boxArrive x) := by
  have he : exec (.blackBoxEntry b) s = s.run (brickOk s.env.build b || decide (b = 0xFFFF)) fun k =>
    match k.flt.boxWait.find? fun en => en.source == b with
    | none => k
    | some en => (k.boxLeft en).boxArrive en := rfl
  exact gives_of_run he (by simpa using hb) hh (by rw [hx])

/-! ### Freezes (R535 to R537) -/

theorem Block.writeBbxCtl_freeze {v : Word} (h0 : flag v 0 = true) (h1 : flag v 1 = false) (k : Block) :
    k.writeBbxCtl v = (k.applyWrite .BBX_CTL 0 [] v).freezeFor 15 := by
  simp [Block.writeBbxCtl, h0, h1]

/-- The box takes entries again, and its counts are 0. -/
def Block.boxThawed (k : Block) : Block :=
  ((k.setRf .BBX_STAT 63 59 0 [] 0).setRf .BBX_STAT 47 32 0 [] 0).setRf .BBX_STAT 31 24 0 [] 0

theorem Block.writeBbxCtl_unfreeze {v : Word} (h0 : flag v 0 = false) (h1 : flag v 1 = true) (k : Block) :
    k.writeBbxCtl v = (k.applyWrite .BBX_CTL 0 [] v).boxThawed := by
  simp [Block.writeBbxCtl, h0, h1, Block.boxThawed]

theorem Block.regsKept_boxThawed (k : Block) {l : List Nat} (h : regAddr .BBX_STAT 0 [] ∈ l) :
    k.regsKept k.boxThawed l :=
  Block.regsKept_trans (k.regsKept_setRf .BBX_STAT 63 59 0 [] 0 h)
    (Block.regsKept_trans (Block.regsKept_setRf _ .BBX_STAT 47 32 0 [] 0 h) (Block.regsKept_setRf _ .BBX_STAT 31 24 0 [] 0 h))

theorem Block.boxThawed_frame (k : Block) : k.boxThawed = { k with regs := k.boxThawed.regs } :=
  Block.only_regs_trans (Block.only_regs_trans (Block.setRf_frame ..) (Block.setRf_frame ..)) (Block.setRf_frame ..)

/-- A field that a thaw sets to 0, or a part of it. -/
theorem Block.rf_boxThawed_zero (k : Block) : k.boxThawed.rf .BBX_STAT 63 59 = 0 ∧ k.boxThawed.rf .BBX_STAT 47 32 = 0 ∧
    k.boxThawed.rf .BBX_STAT 31 24 = 0 := by
  refine ⟨?_, ?_, ?_⟩
  · rw [Block.boxThawed, Block.rf_setRf_other _ _ _ _ _ _ _ _ _ (by omega) (by omega) (by omega),
      Block.rf_setRf_other _ _ _ _ _ _ _ _ _ (by omega) (by omega) (by omega),
      Block.rf_setRf_fits _ _ _ _ _ _ (by omega) (by omega) (by omega)]
  · rw [Block.boxThawed, Block.rf_setRf_other _ _ _ _ _ _ _ _ _ (by omega) (by omega) (by omega),
      Block.rf_setRf_fits _ _ _ _ _ _ (by omega) (by omega) (by omega)]
  · rw [Block.boxThawed, Block.rf_setRf_fits _ _ _ _ _ _ (by omega) (by omega) (by omega)]

/-- A part of a field that is 0. -/
theorem fld_within_zero {w : Word} {hi lo i j : Nat} (h : fld w hi lo = 0) (hj : lo ≤ j) (hle : i ≤ hi) : fld w i j = 0 := by
  refine Nat.eq_of_testBit_eq fun t => ?_
  have hb : (fld w hi lo).testBit (t + (j - lo)) = false := by rw [h, Nat.zero_testBit]
  simp only [fld, bits, Nat.testBit_mod_two_pow, Nat.testBit_shiftRight, Nat.zero_testBit, Bool.and_eq_false_iff,
    decide_eq_false_iff_not] at hb ⊢
  rw [show lo + (t + (j - lo)) = j + t by omega] at hb
  exact hb.imp_left (by omega)

/-- A write to a register changes its word, and the status of the image where a locked field is written. -/
theorem Block.regsKept_applyWrite (k : Block) (r : RegName) (pg : Nat) (ix : List Nat) (v : Word) {l : List Nat}
    (hr : regAddr r pg ix ∈ l) (hl : regAddr .GLB_IMAGE 0 [] ∈ l) : k.regsKept (k.applyWrite r pg ix v) l := by
  refine Block.regsKept_foldl (fun k f _ => ?_) k
  dsimp only
  split
  · exact Block.regsKept_trans (k.regsKept_setRf _ _ _ _ _ _ hr) (Block.regsKept_setRf _ _ _ _ _ _ _ hl)
  · exact k.regsKept_setRf _ _ _ _ _ _ hr

theorem Block.applyWrite_only_regs (k : Block) (r : RegName) (pg : Nat) (ix : List Nat) (v : Word) :
    k.applyWrite r pg ix v = { k with regs := (k.applyWrite r pg ix v).regs } :=
  Block.only_regs_foldl (fun k f => by
    dsimp only
    split
    · exact Block.only_regs_trans (Block.setRf_frame ..) (Block.setRf_frame ..)
    · exact Block.setRf_frame ..) (regFields r) k

theorem Block.thawWrite_frame (k : Block) (v : Word) : (k.applyWrite .BBX_CTL 0 [] v).boxThawed =
    { k with regs := (k.applyWrite .BBX_CTL 0 [] v).boxThawed.regs } :=
  Block.only_regs_trans (k.applyWrite_only_regs ..) (Block.boxThawed_frame _)

theorem Block.regsKept_thawWrite (k : Block) (v : Word) : k.regsKept (k.applyWrite .BBX_CTL 0 [] v).boxThawed
    [regAddr .BBX_CTL 0 [], regAddr .BBX_STAT 0 [], regAddr .GLB_IMAGE 0 []] :=
  Block.regsKept_trans (k.regsKept_applyWrite .BBX_CTL 0 [] v (.head _) (.tail _ (.tail _ (.head _))))
    (Block.regsKept_boxThawed _ (.tail _ (.head _)))

/-- An answer beside register writes. -/
theorem Block.answerWrite_frame {k n : Block} (h : n = { k with regs := n.regs }) (b : Nat) : n.answerWrite b .mp =
    { k with regs := (n.answerWrite b .mp).regs, out := (n.answerWrite b .mp).out } := by
  generalize n.regs = r at h
  subst h
  rfl

/-- The entries later than GTIME `g` wait on, and the freeze is over. -/
def Block.lateWait (k : Block) (g : Nat) : Block :=
  { k with flt.boxWait := k.flt.boxWait.filter fun en => decide (g < en.gtime), flt.freezing := none }

/-- What came up to GTIME `g` is written. -/
def Block.earlyWritten (k : Block) (g : Nat) : Block :=
  (k.flt.boxWait.filter fun en => decide (en.gtime ≤ g)).foldl Block.boxWrite (k.lateWait g)

/-- The box freezes at GTIME `g` for cause `c`: the FREEZE entry is the last. -/
def Block.boxFrozen (k : Block) (g c : Nat) : Block :=
  (((k.earlyWritten g).boxWrite { gtime := g, kind := 8, arg0 := c }).setBit .BBX_STAT 63).setRf .BBX_STAT 62 59 0 [] c

theorem exec_freezeComplete (s : State) : exec .freezeComplete s = s.run true fun k =>
    match k.flt.freezing with
    | none => k
    | some (g, c) => k.boxFrozen g c := rfl

theorem Block.boxOnly_boxFrozen (k : Block) (g c : Nat) : (k.lateWait g).BoxOnly (k.boxFrozen g c) := by
  have hearly : (k.lateWait g).BoxOnly (k.earlyWritten g) :=
    foldl_relates (R := Block.BoxOnly) (fun _ => rfl) (fun _ _ _ => Block.BoxOnly.trans) Block.boxOnly_boxWrite _ _
  exact hearly.trans ((Block.boxOnly_boxWrite ..).trans ((Block.boxOnly_setRf ..).trans (Block.boxOnly_setRf ..)))

theorem Block.regsKept_boxFrozen (k : Block) (g c : Nat) : k.regsKept (k.boxFrozen g c) [regAddr .BBX_STAT 0 []] := by
  have hwait : k.regsKept (k.lateWait g) [regAddr .BBX_STAT 0 []] := Block.regsKept_of_regs rfl _
  have hearly : (k.lateWait g).regsKept (k.earlyWritten g) [regAddr .BBX_STAT 0 []] :=
    Block.regsKept_foldl (fun k en _ => k.regsKept_boxWrite en) _
  exact Block.regsKept_trans (Block.regsKept_trans hwait hearly) (Block.regsKept_trans (Block.regsKept_boxWrite _ _)
    (Block.regsKept_trans (Block.regsKept_setRf _ _ _ _ _ _ _ (.head _)) (Block.regsKept_setRf _ _ _ _ _ _ _ (.head _))))

theorem Block.BoxOnly.flt {k n : Block} (h : k.BoxOnly n) : n.flt = { k.flt with box := n.flt.box } :=
  congrArg (·.flt) h

theorem Block.boxFrozen_frame (k : Block) (g c : Nat) : k.boxFrozen g c =
    { k with regs := (k.boxFrozen g c).regs, flt := (k.boxFrozen g c).flt, hlth.sramAt := (k.boxFrozen g c).hlth.sramAt } := by
  have h := k.boxOnly_boxFrozen g c
  generalize k.boxFrozen g c = n at h ⊢
  rw [h]
  rfl

theorem Block.bbxStat_boxFrozen (k : Block) (g : Nat) {c : Nat} (hc : c < 16) :
    flag ((k.boxFrozen g c).reg .BBX_STAT) 63 = true ∧ (k.boxFrozen g c).rf .BBX_STAT 62 59 = c := by
  constructor
  · rw [Block.boxFrozen, Block.flag_setRf_other _ _ _ _ _ _ _ _ (by omega) (by omega) (by omega)]
    exact Block.flag_setBit_same _ _ _ _ (by omega)
  · rw [Block.boxFrozen, Block.rf_setRf_fits _ _ _ _ _ _ (by omega) (by omega) (by omega)]

theorem ownEntry_gtime (i : Nat) (en : BoxEntry) (g : Nat) : ownEntry i { en with gtime := g } = ownEntry i en := by
  unfold ownEntry
  split <;> rfl

/-- An event's own entry, the newest that waits, is written at once. -/
theorem Block.writeOwn_boxPost {k : Block} {en : BoxEntry} {i : Nat} (ho : ownEntry i en = true) :
    (k.boxPost en).writeOwn i = k.boxWrite { en with gtime := k.gtime } := by
  have hrev : (k.boxPost en).flt.boxWait.reverse = { en with gtime := k.gtime } :: k.flt.boxWait.reverse := by
    simp [Block.boxPost]
  have hown : (ownEntry i { en with gtime := k.gtime } && k.gtime == (k.boxPost en).gtime) = true := by
    rw [ownEntry_gtime, ho, show (k.boxPost en).gtime = k.gtime from rfl, beq_self_eq_true, Bool.and_self]
  have hfind : ({ en with gtime := k.gtime } :: k.flt.boxWait.reverse).find?
      (fun x => ownEntry i x && x.gtime == (k.boxPost en).gtime) = some { en with gtime := k.gtime } :=
    List.find?_cons_of_pos hown
  rw [Block.writeOwn, hrev, hfind]
  dsimp only
  rw [List.erase_cons_head, List.reverse_reverse]
  rfl

theorem Block.freezeFor_open {k : Block} (h : flag (k.reg .BBX_STAT) 63 = false) (hf : k.flt.freezing = none) (i : Nat) :
    k.freezeFor i = { k.writeOwn i with flt.freezing := some (k.gtime, i) } := by
  rw [Block.freezeFor, if_neg (ne_true_of_eq_false h), hf]

/-- Settles O56: an entry by `boxWrite` at the place and at the wrap, a freeze by the fold of the entries that wait. -/
theorem blackBoxRecordsAndFreezes : Obligations.BlackBoxRecordsAndFreezes := by
  unfold Obligations.BlackBoxRecordsAndFreezes
  refine ⟨?entry, ?last, ?frozen, ?freeze, ?unfreeze, ?complete, ?noFreeze, ?own⟩
  case entry =>
    intro s b x hh hb hx hs hf hn
    have h := gives_blackBoxEntry hh hb hx
    rw [Block.boxArrive_open (k := s.blk.boxLeft x) hs hf] at h
    refine ⟨_, h, ?_, (s.blk.boxLeft x).regsKept_boxWrite x, Block.boxWait_boxWrite .., ?_,
      Block.next_boxWrite (k := s.blk.boxLeft x) hn x, fun i hi => ?_⟩
    · rw [Block.boxWrite_frame]
      rfl
    · rw [Block.box_boxWrite]
      exact look_put_same ..
    · rw [Block.box_boxWrite]
      exact look_put_other _ _ _ _ hi
  case last =>
    intro s b x hh hb hx hs hf hn
    have h := gives_blackBoxEntry hh hb hx
    rw [Block.boxArrive_open (k := s.blk.boxLeft x) hs hf] at h
    obtain ⟨hnext, hwrap⟩ := Block.wrap_boxWrite (k := s.blk.boxLeft x) hn x
    refine ⟨_, h, ?_, (s.blk.boxLeft x).regsKept_boxWrite x, ?_, hnext, hwrap⟩
    · rw [Block.boxWrite_frame]
      rfl
    · rw [Block.box_boxWrite, show (s.blk.boxLeft x).rf .BBX_STAT 11 0 = 4095 from hn, look_put_same]
  case frozen =>
    intro s b x hh hb hx hs
    have h := gives_blackBoxEntry hh hb hx
    rw [Block.boxArrive_frozen (k := s.blk.boxLeft x) hs] at h
    exact ⟨_, h, rfl, rfl, rfl, rfl⟩
  case freeze =>
    intro s v hh hc h0 h1
    have he : exec (.freeze v) s = s.access true 0 .mp fun k => (k.writeBbxCtl v).answerWrite 0 .mp := rfl
    exact gives_mp he rfl hh hc (by rw [Block.writeBbxCtl_freeze h0 h1])
  case unfreeze =>
    intro s v hh hc h0 h1
    have he : exec (.unfreeze v) s = s.access true 0 .mp fun k => (k.writeBbxCtl v).answerWrite 0 .mp := rfl
    have h := gives_mp he rfl hh hc rfl
    rw [Block.writeBbxCtl_unfreeze h0 h1] at h
    obtain ⟨hstat, hlost, hcount⟩ := (s.blk.applyWrite .BBX_CTL 0 [] v).rf_boxThawed_zero
    have hframe := s.blk.thawWrite_frame v
    refine ⟨_, h, ?_, ?_, ?_, ?_, ?_, ?_, ?_⟩
    · exact Block.answerWrite_frame hframe 0
    · exact fun r pg ix hr => (Block.reg_answerWrite_mp ..).trans (s.blk.regsKept_thawWrite v r pg ix hr)
    · rw [Block.reg_answerWrite_mp, flag_eq_fld, fld_within_zero hstat (by omega) (by omega)]
      rfl
    · rw [Block.rf_answerWrite_mp]
      exact fld_within_zero hstat (by omega) (by omega)
    · rw [Block.rf_answerWrite_mp, hlost]
    · rw [Block.rf_answerWrite_mp, hcount]
    · exact congrArg (·.flt.box) (Block.answerWrite_frame hframe 0)
  case complete =>
    intro s g c hh hf hc
    obtain ⟨hbit, hcause⟩ := s.blk.bbxStat_boxFrozen g hc
    have hflt := (s.blk.boxOnly_boxFrozen g c).flt
    exact ⟨s.blk.boxFrozen g c, gives_of_run (exec_freezeComplete s) rfl hh (by rw [hf]), s.blk.boxFrozen_frame g c,
      s.blk.regsKept_boxFrozen g c, hbit, hcause, congrArg (·.freezing) hflt, congrArg (·.boxWait) hflt⟩
  case noFreeze =>
    exact fun s hh hf => gives_of_run (exec_freezeComplete s) rfl hh (by rw [hf])
  case own =>
    intro k en i ho hs hf
    dsimp only
    rw [Block.freezeFor_open (k := k.boxPost en) hs hf, Block.writeOwn_boxPost ho]
    refine ⟨rfl, Block.boxWait_boxWrite .., ?_⟩
    show look none (k.boxWrite _).flt.box _ = _
    rw [Block.box_boxWrite, look_put_same]

end Sys2Proof.Machine
end

section
/-!
The statement about retired ports, the end of an episode and the fault log (R464, R468, R478, R479).
-/

namespace Sys2Proof.Machine

theorem Block.retirePort_first {k : Block} {br : Bool} {n : Nat} (h : k.portRetired br n = false) (d : Build) :
    k.retirePort d br n = (k.markPort br n).portDown d br n := if_neg (ne_true_of_eq_false h)

theorem Block.retirePort_again {k : Block} {br : Bool} {n : Nat} (h : k.portRetired br n = true) (d : Build) :
    k.retirePort d br n = k := if_pos h

theorem Block.releasePort_retired {k : Block} {br : Bool} {n : Nat} (h : k.portRetired br n = true) (d : Build) :
    k.releasePort d br n =
      (k.setRf (if br then .GLB_PORTRET1 else .GLB_PORTRET0) n n 0 [] 0).portTrain d br n := if_pos h

theorem gives_portRetire {s : State} {br : Bool} {n : Nat} (hh : s.blk.held = false)
    (hc : s.blk.crosses .managementPort = true) (hp : portOk s.env.build br n = true) :
    Gives (.portRetire br n) s ((s.blk.retirePort s.env.build br n).answerWrite 0 .mp) := by
  have he : exec (.portRetire br n) s = s.access true 0 .mp fun k =>
    (if portOk s.env.build br n then k.retirePort s.env.build br n else k).answerWrite 0 .mp := rfl
  exact gives_mp he rfl hh hc (by rw [if_pos hp])

theorem gives_portRelease {s : State} {br : Bool} {n : Nat} (hh : s.blk.held = false)
    (hc : s.blk.crosses .managementPort = true) (hp : portOk s.env.build br n = true) :
    Gives (.portRelease br n) s ((s.blk.releasePort s.env.build br n).answerWrite 0 .mp) := by
  have he : exec (.portRelease br n) s = s.access true 0 .mp fun k =>
    (if portOk s.env.build br n then k.releasePort s.env.build br n else k).answerWrite 0 .mp := rfl
  exact gives_mp he rfl hh hc (by rw [if_pos hp])

theorem Block.flt_applyWrite (k : Block) (r : RegName) (pg : Nat) (ix : List Nat) (v : Word) :
    (k.applyWrite r pg ix v).flt = k.flt :=
  k.applyWrite_keeps (·.flt) (fun _ _ _ _ _ => rfl) r pg ix v

theorem Block.writeFltctl_done {k : Block} {v : Word} (hv : flag v 0 = true) (hr : k.flt.recovering = true) :
    k.writeFltctl v = { k.applyWrite .GLB_FLTCTL 0 [] v with flt.donePend := true } :=
  if_pos (by rw [Block.flt_applyWrite, hv, hr]; rfl)

theorem Block.writeFltctl_idle {k : Block} {v : Word} (hr : k.flt.recovering = false) :
    k.writeFltctl v = k.applyWrite .GLB_FLTCTL 0 [] v :=
  if_neg (by simp [Block.flt_applyWrite, hr])

theorem gives_faultDone {s : State} (v : Word) (hh : s.blk.held = false) (hc : s.blk.crosses .managementPort = true) :
    Gives (.faultDone v) s ((s.blk.writeFltctl v).answerWrite 0 .mp) := by
  have he : exec (.faultDone v) s = s.access true 0 .mp fun k => (k.writeFltctl v).answerWrite 0 .mp := rfl
  exact gives_mp he rfl hh hc rfl

/-- An entry of the fault log changes the log, what waits for the black box, and the count of those lost. -/
theorem Block.faultLog_flt (k : Block) (cls kind loc sub : Nat) : (k.faultLog cls kind loc sub).flt =
    { k.flt with log := (k.faultLog cls kind loc sub).flt.log, boxWait := (k.faultLog cls kind loc sub).flt.boxWait } := by
  unfold Block.faultLog
  dsimp only
  split
  · rfl
  · rw [Block.boxPost, Block.bump_flt]

/-- The recovery episode is over. -/
def Block.episodeOver (k : Block) : Block :=
  ({ k with flt.recovering := false, flt.donePend := false, flt.triggers := 0 } : Block).faultLog 4 0 0 0

theorem exec_episodeEnd (s : State) : exec .episodeEnd s = s.run true fun k =>
    if k.clk.cyc = 0 ∧ k.flt.recovering = true ∧ k.flt.donePend = true ∧ k.recovered s.env.build = true then
      k.episodeOver else k := rfl

theorem gives_fltlogPop {s : State} (hh : s.blk.held = false) (hc : s.blk.crosses .managementPort = true) :
    Gives .fltlogPop s (s.blk.popFault.2.answerRead 0 .mp s.blk.popFault.1) := by
  have he : exec .fltlogPop s = s.access true 0 .mp fun k => k.popFault.2.answerRead 0 .mp k.popFault.1 := rfl
  exact gives_mp he rfl hh hc rfl

/-- Settles O47: each write by the branch it takes, the end of an episode by what an entry of the log leaves. -/
theorem episodesEndAndLogsAreRead : Obligations.EpisodesEndAndLogsAreRead := by
  unfold Obligations.EpisodesEndAndLogsAreRead
  refine ⟨?retire, ?retired, ?release, ?done, ?idle, ?finish, ?goesOn, ?pop, ?empty⟩
  case retire =>
    intro s br n hh hc hp hr
    have h := gives_portRetire hh hc hp
    rwa [Block.retirePort_first hr] at h
  case retired =>
    intro s br n hh hc hp hr
    have h := gives_portRetire hh hc hp
    rwa [Block.retirePort_again hr] at h
  case release =>
    intro s br n hh hc hp hr
    have h := gives_portRelease hh hc hp
    rwa [Block.releasePort_retired hr] at h
  case done =>
    intro s v hh hc hv hr
    have h := gives_faultDone v hh hc
    rw [Block.writeFltctl_done hv hr] at h
    exact ⟨_, h, rfl, rfl, (congrArg (·.recovering) (s.blk.flt_applyWrite .GLB_FLTCTL 0 [] v)).trans hr⟩
  case idle =>
    intro s v hh hc hr
    have h := gives_faultDone v hh hc
    rwa [Block.writeFltctl_idle hr] at h
  case finish =>
    intro s hh hcyc hr hd hrec
    have hflt : s.blk.episodeOver.flt = _ := Block.faultLog_flt _ 4 0 0 0
    exact ⟨s.blk.episodeOver, gives_of_run (exec_episodeEnd s) rfl hh (if_pos ⟨hcyc, hr, hd, hrec⟩), rfl,
      congrArg (·.recovering) hflt, congrArg (·.donePend) hflt, congrArg (·.triggers) hflt⟩
  case goesOn =>
    intro s hh h
    refine gives_of_run (exec_episodeEnd s) rfl hh (if_neg ?_)
    rcases h with h | h <;> simp [h]
  case pop =>
    intro s w r hh hc hl
    have h := gives_fltlogPop hh hc
    rw [Block.popFault, hl] at h
    exact ⟨_, h, rfl, rfl, rfl⟩
  case empty =>
    intro s hh hc hl
    have h := gives_fltlogPop hh hc
    rw [Block.popFault, hl] at h
    exact ⟨_, h, rfl, hl, rfl⟩

end Sys2Proof.Machine
end

section
/-!
SUPPORT. The states of links (R427, R439): what `setLink` changes and what it leaves.
-/

namespace Sys2Proof.Machine

/-- The address of the status register of a port. -/
def linkStatAddr (br : Bool) (n : Nat) : Nat := if br then regAddr .D2D_STAT 0 [n] else regAddr .LNK_STAT n []

/-- The state field of a link takes `st`. -/
def Block.linkStateSet (k : Block) (br : Bool) (n st : Nat) : Block :=
  if br then k.setRf .D2D_STAT 1 0 0 [n] st else k.setRf .LNK_STAT 49 48 n [] st

theorem Block.linkStateSet_lane (k : Block) (n st : Nat) :
    k.linkStateSet false n st = k.setRf .LNK_STAT 49 48 n [] st := if_neg (by decide)

theorem Block.linkStateSet_bridge (k : Block) (n st : Nat) :
    k.linkStateSet true n st = k.setRf .D2D_STAT 1 0 0 [n] st := if_pos rfl

theorem Block.reg_boxPost (k : Block) (en : BoxEntry) (r : RegName) (pg : Nat) (ix : List Nat) :
    (k.boxPost en).reg r pg ix = k.reg r pg ix := Block.reg_congr rfl r pg ix

theorem Block.setLink_same {k : Block} {br : Bool} {n st : Nat} (h : k.linkState br n = st) : k.setLink br n st = k :=
  if_pos h

theorem Block.setLink_change {k : Block} {br : Bool} {n st : Nat} (h : k.linkState br n ≠ st) : k.setLink br n st =
    ((k.linkStateSet br n st).boxPost { kind := 6, arg0 := b2n br * 64 + n, arg1 := st }).irq 6 := if_neg h

theorem Block.linkStateSet_frame (k : Block) (br : Bool) (n st : Nat) :
    k.linkStateSet br n st = { k with regs := (k.linkStateSet br n st).regs } := by
  cases br
  · exact k.setRf_frame .LNK_STAT 49 48 n [] st
  · exact k.setRf_frame .D2D_STAT 1 0 0 [n] st

theorem Block.regsKept_linkStateSet (k : Block) (br : Bool) (n st : Nat) {l : List Nat} (h : linkStatAddr br n ∈ l) :
    k.regsKept (k.linkStateSet br n st) l := by
  cases br
  · exact k.regsKept_setRf .LNK_STAT 49 48 n [] st h
  · exact k.regsKept_setRf .D2D_STAT 1 0 0 [n] st h

theorem Block.setLink_frame (k : Block) (br : Bool) (n st : Nat) : k.setLink br n st = { k with
    regs := (k.setLink br n st).regs, flt.boxWait := (k.setLink br n st).flt.boxWait
    fresh := (k.setLink br n st).fresh } := by
  by_cases h : k.linkState br n = st
  · rw [Block.setLink_same h]
  · rw [Block.setLink_change h, Block.linkStateSet_frame]
    rfl

theorem Block.regsKept_setLink (k : Block) (br : Bool) (n st : Nat) {l : List Nat} (h : linkStatAddr br n ∈ l)
    (hi : regAddr .GLB_IRQSTAT 0 [] ∈ l) : k.regsKept (k.setLink br n st) l := by
  by_cases hs : k.linkState br n = st
  · rw [Block.setLink_same hs]
    exact Block.regsKept_of_regs rfl l
  · rw [Block.setLink_change hs]
    refine Block.regsKept_trans (k.regsKept_linkStateSet br n st h) (Block.regsKept_irq _ 6 hi)

/-- A register beside the port's status and the causes of interrupts. -/
theorem Block.reg_setLink_other (k : Block) {br : Bool} {n : Nat} (st : Nat) {r : RegName} {pg : Nat} {ix : List Nat}
    (h : regAddr r pg ix ≠ linkStatAddr br n) (hi : regAddr r pg ix ≠ regAddr .GLB_IRQSTAT 0 []) :
    (k.setLink br n st).reg r pg ix = k.reg r pg ix :=
  k.regsKept_setLink br n st (l := [linkStatAddr br n, regAddr .GLB_IRQSTAT 0 []]) (.head _) (.tail _ (.head _)) r pg ix
    (by simp [h, hi])

theorem regAddr_linkStat_ne_irqStat (p : Nat) : regAddr .LNK_STAT p [] ≠ regAddr .GLB_IRQSTAT 0 [] := by
  simp [regAddr, regRow, pageBase, elemOff]
  omega

theorem regAddr_bridgeStat_ne_irqStat (n : Nat) : regAddr .D2D_STAT 0 [n] ≠ regAddr .GLB_IRQSTAT 0 [] := by
  simp [regAddr, regRow, pageBase, elemOff]
  omega

theorem Block.reg_laneStat_setLink (k : Block) {p st : Nat} (h : k.linkState false p ≠ st) :
    (k.setLink false p st).reg .LNK_STAT p = (k.setRf .LNK_STAT 49 48 p [] st).reg .LNK_STAT p := by
  rw [Block.setLink_change h, Block.irq, Block.reg_event_other _ _ (regAddr_linkStat_ne_irqStat p),
    Block.reg_boxPost, Block.linkStateSet_lane]

theorem Block.reg_bridgeStat_setLink (k : Block) {n st : Nat} (h : k.linkState true n ≠ st) :
    (k.setLink true n st).reg .D2D_STAT 0 [n] = (k.setRf .D2D_STAT 1 0 0 [n] st).reg .D2D_STAT 0 [n] := by
  rw [Block.setLink_change h, Block.irq, Block.reg_event_other _ _ (regAddr_bridgeStat_ne_irqStat n),
    Block.reg_boxPost, Block.linkStateSet_bridge]

/-- A link is in the state that it is set to. -/
theorem Block.linkState_setLink (k : Block) (br : Bool) (n : Nat) {st : Nat} (hst : st < 4) :
    (k.setLink br n st).linkState br n = st := by
  by_cases h : k.linkState br n = st
  · rw [Block.setLink_same h, h]
  · cases br
    · show fld ((k.setLink false n st).reg .LNK_STAT n) 49 48 = st
      rw [k.reg_laneStat_setLink h]
      exact k.rf_setRf_fits .LNK_STAT 49 48 n [] (by omega) (by omega) (by omega)
    · show fld ((k.setLink true n st).reg .D2D_STAT 0 [n]) 1 0 = st
      rw [k.reg_bridgeStat_setLink h]
      exact k.rf_setRf_fits .D2D_STAT 1 0 0 [n] (by omega) (by omega) (by omega)

/-- The other fields of a bridge link's status stand. -/
theorem Block.rf_bridgeStat_setLink (k : Block) (n st : Nat) {i j : Nat} (h : 1 < j) :
    (k.setLink true n st).rf .D2D_STAT i j 0 [n] = k.rf .D2D_STAT i j 0 [n] := by
  by_cases hs : k.linkState true n = st
  · rw [Block.setLink_same hs]
  · rw [Block.rf, k.reg_bridgeStat_setLink hs]
    exact k.rf_setRf_other .D2D_STAT 1 0 0 [n] st i j (by omega) (by omega) (.inr h)

end Sys2Proof.Machine
end

section
/-!
The statement about bridge links (R438 to R440, R452).
-/

namespace Sys2Proof.Machine

/-! ### Bridge control fields (R438) -/

theorem controlField_eq (t c : Nat) : controlField t c = 2 * (t * 2 ^ 19 + c) + controlParity (2 * (t * 2 ^ 19 + c)) := by
  have h : (t <<< 20) + (c <<< 1) = 2 * (t * 2 ^ 19 + c) := by
    rw [Nat.shiftLeft_eq, Nat.shiftLeft_eq]
    omega
  rw [controlField, h]

/-- Above its parity bit a field is its type and its content. -/
theorem controlField_half (t c : Nat) : controlField t c / 2 = t * 2 ^ 19 + c := by
  have hp : controlParity (2 * (t * 2 ^ 19 + c)) < 2 := Nat.mod_lt _ (by omega)
  rw [controlField_eq]
  omega

/-- Above its parity bit the fields are those of its type and content. -/
theorem bits_controlField (t c : Nat) {hi lo : Nat} (h : 1 ≤ lo) (hl : lo ≤ hi) :
    bits (controlField t c) hi lo = bits (t * 2 ^ 19 + c) (hi - 1) (lo - 1) := by
  obtain ⟨lo, rfl⟩ := Nat.exists_eq_add_of_le' h
  obtain ⟨hi, rfl⟩ := Nat.exists_eq_add_of_le' (h.trans hl)
  rw [bits, bits, Nat.shiftRight_succ_inside, controlField_half, Nat.add_sub_add_right, Nat.add_sub_cancel, Nat.add_sub_cancel]

/-- The parity of a field is the number of ones above it. -/
theorem controlOk_controlField {t c : Nat} (ht : t < 16) (hc : c < 2 ^ 19) : controlOk (controlField t c) = true := by
  have hp : controlParity (2 * (t * 2 ^ 19 + c)) < 2 := Nat.mod_lt _ (by omega)
  have he : controlParity (controlField t c) = controlParity (2 * (t * 2 ^ 19 + c)) := by
    rw [controlParity, controlField_half, controlParity, Nat.mul_div_cancel_left _ (by omega)]
  rw [controlOk, he, controlField_eq]
  generalize controlParity (2 * (t * 2 ^ 19 + c)) = p at hp
  rw [Bool.and_eq_true, decide_eq_true_iff, beq_iff_eq]
  omega

/-- The fields of the INIT fragments of a bridge port of die `die`. -/
theorem initFragments {d : Build} {n : Nat} (hd : dieOf (coord d 0 0) < 2 ^ 19) (hn : n < 16) :
    let f0 := controlField 4 (initFragment d n 0)
    let f1 := controlField 4 (2 ^ 16 + initFragment d n 1)
    controlOk f0 = true ∧ controlOk f1 = true ∧ initPair f0 f1 = true ∧
      bits f0 16 1 * 8 + bits f1 16 14 = dieOf (coord d 0 0) ∧ bits f1 13 10 = n := by
  have h0 : initFragment d n 0 = dieOf (coord d 0 0) / 8 := rfl
  have h1 : initFragment d n 1 = dieOf (coord d 0 0) % 8 * 2 ^ 13 + n % 16 * 2 ^ 9 := rfl
  rw [h0, h1]
  generalize dieOf (coord d 0 0) = die at hd
  refine ⟨controlOk_controlField (by omega) (by omega), controlOk_controlField (by omega) (by omega), ?_, ?_, ?_⟩ <;>
    simp (disch := omega) only [initPair, bits_controlField, Bool.and_eq_true, beq_iff_eq] <;>
    simp only [bits, Nat.shiftRight_eq_div_pow] <;>
    omega

/-! ### States of a bridge link -/

section
variable {s : State} {n : Nat}

theorem Block.reg_sendFragments (k : Block) (d : Build) (n : Nat) (r : RegName) (pg : Nat) (ix : List Nat) :
    (k.sendFragments d n).reg r pg ix = k.reg r pg ix := Block.reg_congr rfl r pg ix

theorem gives_phyLinkUp (hh : s.blk.held = false) (hn : n < s.env.build.bridgePorts) :
    Gives (.phyLinkUp n) s ((s.blk.setBit .D2D_STAT 2 0 [n]).bridgeEnterInit s.env.build n) := by
  have he : exec (.phyLinkUp n) s = s.run (bridgeOk s.env.build n) fun k =>
    (k.setBit .D2D_STAT 2 0 [n]).bridgeEnterInit s.env.build n := rfl
  exact gives_of_run he (decide_eq_true hn) hh rfl

end

theorem Block.linkState_phyUp (k : Block) (n : Nat) : (k.setBit .D2D_STAT 2 0 [n]).linkState true n = k.linkState true n :=
  k.rf_setRf_other .D2D_STAT 2 2 0 [n] 1 1 0 (by omega) (by omega) (by omega)

/-- A link in TRAINING behind a FIFO whose handshake is over enters INIT as its PHY comes up. -/
theorem Block.bridgeEnterInit_phyUp {k : Block} {n : Nat} (hs : k.linkState true n = linkTraining)
    (hc : k.crosses (.bridge n) = true) (d : Build) : (k.setBit .D2D_STAT 2 0 [n]).bridgeEnterInit d n =
    ((k.setBit .D2D_STAT 2 0 [n]).setLink true n linkInit).sendFragments d n :=
  if_pos ⟨(k.linkState_phyUp n).trans hs, k.flag_setBit_same .D2D_STAT 0 [n] (by omega), hc⟩

theorem Block.port_bump (k : Block) (r : RegName) (hi lo pg : Nat) (ix : List Nat) (c : Nat) (br : Bool) (n : Nat) :
    (k.bump r hi lo pg ix c).port br n = k.port br n := rfl

/-- What a good pair of INIT fragments tells is shown and kept. -/
def Block.initTaken (k : Block) (n die port : Nat) : Block :=
  ((k.setRf .D2D_STAT 45 27 0 [n] die).setRf .D2D_STAT 26 23 0 [n] port).setPort true n
    { k.port true n with init := some (die, port, false, []) }

/-- Two pairs in a row that are alike bring the link up; else its own go out again. -/
def Block.initStep (k : Block) (d : Build) (n die port : Nat) : Block :=
  if (k.port true n).init = some (die, port, false, []) then (k.initTaken n die port).setLink true n linkUpCode
  else (k.initTaken n die port).sendFragments d n

theorem exec_bridgeInit (n f0 f1 : Nat) (s : State) : exec (.bridgeInit n f0 f1) s = s.run (bridgeOk s.env.build n) fun k =>
    let bad := ([f0, f1].filter fun f => !controlOk f).length
    let k := k.bump .D2D_ERR 63 48 0 [n] bad
    if k.linkState true n ≠ linkInit ∨ bad ≠ 0 ∨ initPair f0 f1 = false then k
    else k.initStep s.env.build n (bits f0 16 1 * 8 + bits f1 16 14) (bits f1 13 10) := rfl

theorem regAddr_bridgeStat_ne_bridgeErr (n : Nat) : regAddr .D2D_STAT 0 [n] ≠ regAddr .D2D_ERR 0 [n] := by
  simp [regAddr, regRow, pageBase, elemOff]

theorem Block.linkState_bridgeErr (k : Block) (n c : Nat) :
    (k.bump .D2D_ERR 63 48 0 [n] c).linkState true n = k.linkState true n :=
  k.rf_setRf_ne 63 48 0 [n] _ 1 0 (regAddr_bridgeStat_ne_bridgeErr n)

theorem gives_bridgeInit {s : State} {n f0 f1 : Nat} (hh : s.blk.held = false) (hn : n < s.env.build.bridgePorts)
    (hs : s.blk.linkState true n = linkInit) (h0 : controlOk f0 = true) (h1 : controlOk f1 = true)
    (hp : initPair f0 f1 = true) : Gives (.bridgeInit n f0 f1) s ((s.blk.bump .D2D_ERR 63 48 0 [n] 0).initStep s.env.build n
      (bits f0 16 1 * 8 + bits f1 16 14) (bits f1 13 10)) := by
  have hbad : ([f0, f1].filter fun f => !controlOk f).length = 0 := by simp [h0, h1]
  refine gives_of_run (exec_bridgeInit n f0 f1 s) (decide_eq_true hn) hh ?_
  dsimp only
  rw [hbad]
  exact if_neg (by simp [s.blk.linkState_bridgeErr, hs, hp])

/-- A pair of which one fragment fails parity is counted, and ignored. -/
theorem gives_bridgeInit_bad {s : State} {n f0 f1 : Nat} (hh : s.blk.held = false) (hn : n < s.env.build.bridgePorts)
    (h0 : controlOk f0 = true) (h1 : controlOk f1 = false) :
    Gives (.bridgeInit n f0 f1) s (s.blk.bump .D2D_ERR 63 48 0 [n]) := by
  have hbad : ([f0, f1].filter fun f => !controlOk f).length = 1 := by simp [h0, h1]
  refine gives_of_run (exec_bridgeInit n f0 f1 s) (decide_eq_true hn) hh ?_
  dsimp only
  rw [hbad]
  exact if_pos (by simp)

theorem exec_bridgeCredit (n ctl : Nat) (s : State) : exec (.bridgeCredit n ctl) s = s.run (bridgeOk s.env.build n) fun k =>
    if !controlOk ctl then k.controlError n
    else if bits ctl 23 20 = 1 ∧ bits ctl 19 17 < 6 ∧ k.portUp true n = true then
      k.takeTotal true n (bits ctl 19 17 + 2) (bits ctl 16 5)
    else k := rfl

theorem Block.takeTotal_shared (k : Block) (br : Bool) (n tot : Nat) {vc : Nat} (h : 2 ≤ vc) (h' : vc ≤ 7) :
    k.takeTotal br n vc tot = k.mapPort br n fun v => { v with peer := put 0 v.peer vc (tot % 4096) } :=
  if_neg (by omega)

theorem Block.writeD2dCtl_enable {k : Block} {n : Nat} {v : Word}
    (he : (k.applyWrite .D2D_CTL 0 [n] v).portEnabled true n = true) (hv : flag v 1 = false) (d : Build) :
    k.writeD2dCtl d n v = (k.applyWrite .D2D_CTL 0 [n] v).bridgeLeaveDown d n := by
  simp [Block.writeD2dCtl, he, hv]

theorem Block.writeD2dCtl_disable {k : Block} {n : Nat} {v : Word}
    (he : (k.applyWrite .D2D_CTL 0 [n] v).portEnabled true n = false)
    (hs : (k.applyWrite .D2D_CTL 0 [n] v).linkState true n ≠ linkDownCode) (d : Build) :
    k.writeD2dCtl d n v = (k.applyWrite .D2D_CTL 0 [n] v).bridgeDown d n := by
  simp [Block.writeD2dCtl, he, hs]

theorem Block.writeD2dCtl_retrain {k : Block} {n : Nat} {v : Word}
    (he : (k.applyWrite .D2D_CTL 0 [n] v).portEnabled true n = true) (hv : flag v 1 = true) (d : Build) :
    k.writeD2dCtl d n v = (k.applyWrite .D2D_CTL 0 [n] v).bridgeDown d n := by
  simp [Block.writeD2dCtl, he, hv]

/-- Settles O26: the branches of each command, the INIT fragments by the arithmetic of a control field. -/
theorem bridgeLinksStartStopAndCredit : Obligations.BridgeLinksStartStopAndCredit := by
  unfold Obligations.BridgeLinksStartStopAndCredit
  refine ⟨?up, ?upElse, ?fragments, ?down, ?init, ?bad, ?timeout, ?credit, ?badCredit, ?write⟩
  case up =>
    intro s n hh hn _ hs hc
    have h := gives_phyLinkUp hh hn
    rw [Block.bridgeEnterInit_phyUp hs hc] at h
    refine ⟨_, h, rfl, ?_, ?_⟩
    · show fld ((Block.sendFragments _ _ n).reg .D2D_STAT 0 [n]) 1 0 = _
      rw [Block.reg_sendFragments]
      exact Block.linkState_setLink _ true n (by decide)
    · have hup := s.blk.flag_setBit_same .D2D_STAT 0 [n] (i := 2) (by omega)
      rw [flag_eq_fld, ← Block.rf] at hup
      rw [Block.reg_sendFragments, flag_eq_fld, ← Block.rf, Block.rf_bridgeStat_setLink _ n linkInit (by omega), hup]
  case upElse =>
    intro s n hh hn _ hc
    have h := gives_phyLinkUp hh hn
    rwa [Block.bridgeEnterInit, if_neg fun ⟨_, _, hx⟩ => Bool.false_ne_true (hc.symm.trans hx)] at h
  case fragments =>
    exact fun k d n hd hn => ⟨_, _, List.append_assoc .., initFragments hd hn⟩
  case down =>
    intro s n hh hn _ hf
    have he : exec (.phyLinkDown n) s = s.run (bridgeOk s.env.build n) fun k =>
      if flag (k.reg .D2D_STAT 0 [n]) 2 then (k.setRf .D2D_STAT 2 2 0 [n] 0).bridgeDown s.env.build n else k := rfl
    exact gives_of_run he (decide_eq_true hn) hh (if_pos hf)
  case init =>
    intro s n f0 f1 hh hn _ hs h0 h1 hp
    have h := gives_bridgeInit hh hn hs h0 h1 hp
    refine ⟨fun hv => ?_, fun hv => ?_⟩
    · rw [Block.initStep, Block.initTaken, Block.port_bump, if_pos hv] at h
      exact ⟨_, h, rfl, Block.linkState_setLink _ true n (by decide)⟩
    · rwa [Block.initStep, Block.initTaken, Block.port_bump, if_neg hv] at h
  case bad =>
    exact fun s n f0 f1 hh hn _ h0 h1 => gives_bridgeInit_bad hh hn h0 h1
  case timeout =>
    intro s n hh hn _ hs
    have he : exec (.bridgeInitTimeout n) s = s.run (bridgeOk s.env.build n) fun k =>
      if k.linkState true n = linkInit then k.setBit .D2D_ERR 0 0 [n] else k := rfl
    exact gives_of_run he (decide_eq_true hn) hh (if_pos hs)
  case credit =>
    intro s n ctl hh hn _ hok ht hv hu
    refine ⟨_, gives_of_run (exec_bridgeCredit n ctl s) (decide_eq_true hn) hh ?_, rfl, ?_, ?_⟩
    · rw [hok, if_neg (by decide), if_pos ⟨ht, hv, hu⟩]
    · rw [Block.takeTotal_shared _ _ _ _ (by omega) (by omega), Block.mapPort, Block.port_setPort, look_put_same]
    · rw [Block.takeTotal_shared _ _ _ _ (by omega) (by omega)]
      rfl
  case badCredit =>
    intro s n ctl hh hn _ hok
    exact gives_of_run (exec_bridgeCredit n ctl s) (decide_eq_true hn) hh (if_pos (by rw [hok]; rfl))
  case write =>
    intro s n v hh hc hn _
    refine ⟨fun he hv => ?_, fun he hs => ?_, fun he hv => ?_⟩
    · have hx : exec (.bridgeEnable n v) s = s.access (bridgeOk s.env.build n) 0 .mp fun k =>
        (k.writeD2dCtl s.env.build n v).answerWrite 0 .mp := rfl
      exact gives_mp hx (decide_eq_true hn) hh hc (by rw [Block.writeD2dCtl_enable he hv])
    · have hx : exec (.bridgeDisable n v) s = s.access (bridgeOk s.env.build n) 0 .mp fun k =>
        (k.writeD2dCtl s.env.build n v).answerWrite 0 .mp := rfl
      exact gives_mp hx (decide_eq_true hn) hh hc (by rw [Block.writeD2dCtl_disable he hs])
    · have hx : exec (.bridgeRetrain n v) s = s.access (bridgeOk s.env.build n) 0 .mp fun k =>
        (k.writeD2dCtl s.env.build n v).answerWrite 0 .mp := rfl
      exact gives_mp hx (decide_eq_true hn) hh hc (by rw [Block.writeD2dCtl_retrain he hv])

end Sys2Proof.Machine
end

section
/-!
The statement about link retry, credits and time (R428, R430 to R432): an LCTL in a store of links out of order.
-/

namespace Sys2Proof.Machine

/-- A die with one lane port, behind output 1 of brick 0. -/
def laneDie : Build := { meshX := 4, meshY := 4, roles := [(1, .lane 0)] }

/-- A state with lane port 0 UP without LLR, its link layer listed behind that of port 1: a total of 5 stands for VC2. -/
def strayLinkState : State where
  env := { build := laneDie }
  blk := {
    regs := [(regAddr .LNK_CTL 0 [], 1), (regAddr .LNK_STAT 0 [], BitVec.ofNat 64 (3 * 2 ^ 48))]
    lnk.port := [(1, { peer := [(2, 1)] }), (0, { peer := [(2, 5)] })] }

/-- The totals 0, 1, 0, 0, 0, 0: the first leaves no link layer to keep, the second makes one at its place in order. -/
theorem gives_lctl_strayLinkState : Gives (.lctl 0 false 0 [0, 1, 0, 0, 0, 0]) strayLinkState
    { strayLinkState.blk with lnk.port := [(0, { peer := [(3, 1)] }), (1, { peer := [(2, 1)] })] } := by
  have he : exec (.lctl 0 false 0 [0, 1, 0, 0, 0, 0]) strayLinkState =
    strayLinkState.run (laneOk laneDie 0) fun k =>
      if !k.portUp false 0 then k
      else ((List.range 6).foldl (fun k i => match [0, 1, 0, 0, 0, 0][i]? with
        | some t => k.takeTotal false 0 (i + 2) t
        | none => k) k).takeLack 0 0 := rfl
  exact gives_of_run he (by decide) (by decide) (by decide)

/-- Refutes O25: its clause on an LCTL without LLR says that the link layer is replaced at once, in whatever store; but
the totals are taken one by one, and one that leaves the layer at its defaults removes its entry. The counterexample:
the entry of lane port 0 stands behind that of port 1 and holds a total of VC2 alone, which the LCTL sets to 0. -/
theorem not_linkRetryCreditsAndTime : ¬ Obligations.LinkRetryCreditsAndTime := by
  unfold Obligations.LinkRetryCreditsAndTime
  rintro ⟨-, -, -, -, -, -, hlctl, -⟩
  obtain ⟨k, hgives, hport, -, -⟩ := hlctl strayLinkState 0 0 1 0 0 0 0 0 (by decide) (by decide) (by decide) (by decide)
  rw [← gives_unique gives_lctl_strayLinkState hgives] at hport
  have hlen := congrArg (fun k : Block => k.lnk.port.length) hport
  exact absurd hlen (by decide)

end Sys2Proof.Machine
end

section
/-!
The statement about traces and congestion maps (R528 to R532): a TELEMETRY packet at port L for an endpoint that is not
behind it.
-/

namespace Sys2Proof.Machine

/-- A good TELEMETRY packet for EP 3 of brick 0. -/
def strayTelemetry : Packet := sealPacket { op := opTelemetry, vc := 6, dst := 3 }

/-- A state of a die with that packet alone in the receive FIFO of port L of brick 0. -/
def strayTelemetryState : State where
  env := { build := { meshX := 4, meshY := 4, roles := [] } }
  blk := { net.rx := [(0, [strayTelemetry])] }

/-- Port L takes it as for EP 1, where it is not for the endpoint (R78): it is discarded and counted as illegal. -/
theorem gives_telemetry_stray : Gives (.telemetry 0) strayTelemetryState
    (({} : Block).countFlaw 0 15 0) := by
  have he : exec (.telemetry 0) strayTelemetryState = strayTelemetryState.run
    (brickOk strayTelemetryState.env.build 0) fun k =>
      let head (c : Nat) : Bool := match k.rxQueue 0 c with
        | p :: _ => p.op == opTelemetry || (c == 5 && unclaimed 0 c p)
        | [] => false
      match [0, 2, 3, 4, 5].find? head with
      | none => k
      | some c => match k.rxTake 0 c [opTelemetry] with
        | none => k
        | some (p, k) => k.consume strayTelemetryState.env.build 0 (if c = 0 then min 1 (cEp p.dst) else c) p
          (p.op == opTelemetry) false id := rfl
  exact gives_of_run he (by decide) (by decide) (by decide +kernel)

/-- Refutes O55: its last clause has a good TELEMETRY packet at port L consumed with no other effect, whatever endpoint
of the brick it names; but behind port L are EP 0 and EP 1 alone, and one for another endpoint is counted as illegal
(R78). The counterexample: a packet for EP 3 in the FIFO of port L of brick 0. -/
theorem not_tracesAndMapsAreGathered : ¬ Obligations.TracesAndMapsAreGathered := by
  unfold Obligations.TracesAndMapsAreGathered
  rintro ⟨-, -, -, -, -, -, -, -, -, -, -, -, -, htelemetry⟩
  have hgives := htelemetry strayTelemetryState 0 strayTelemetry [] ⟨by decide, by decide⟩ (by decide +kernel) (by decide)
  have hcount := congrArg (fun k : Block => k.rf .BRK_PKTERR 15 0 0) (gives_unique gives_telemetry_stray hgives)
  exact absurd hcount (by decide)

end Sys2Proof.Machine
end

section
/-!
SUPPORT. Lanes (R426): the addresses of the registers of a lane port, the states of its lanes, and what of them a write
to another register leaves.
-/

namespace Sys2Proof.Machine

/-! ### Addresses of a lane port's page (R578) -/

theorem regAddr_lnStat_ne_lnkStat (p l : Nat) : regAddr .LN_STAT p [l] ≠ regAddr .LNK_STAT p [] := by
  simp [regAddr, regRow, pageBase, elemOff]
  omega

theorem regAddr_lnCtl_ne_lnkStat (p l : Nat) : regAddr .LN_CTL p [l] ≠ regAddr .LNK_STAT p [] := by
  simp [regAddr, regRow, pageBase, elemOff]
  omega

theorem regAddr_lnCtl_ne_lnStat (p l j : Nat) : regAddr .LN_CTL p [l] ≠ regAddr .LN_STAT p [j] := by
  simp [regAddr, regRow, pageBase, elemOff]
  omega

theorem regAddr_lnStat_ne {p l j : Nat} (h : j ≠ l) : regAddr .LN_STAT p [j] ≠ regAddr .LN_STAT p [l] := by
  simp [regAddr, regRow, pageBase, elemOff]
  omega

theorem regAddr_lnkStat_ne_lnkPeer (p : Nat) : regAddr .LNK_STAT p [] ≠ regAddr .LNK_PEER p [] := by
  simp [regAddr, regRow, pageBase, elemOff]

theorem regAddr_lnkStat_ne_lnkErr (p : Nat) : regAddr .LNK_STAT p [] ≠ regAddr .LNK_ERR p [] := by
  simp [regAddr, regRow, pageBase, elemOff]

theorem regAddr_lnkCtl_ne_lnkPeer (p : Nat) : regAddr .LNK_CTL p [] ≠ regAddr .LNK_PEER p [] := by
  simp [regAddr, regRow, pageBase, elemOff]

theorem regAddr_lnkCred_ne_lnkPeer (p : Nat) : regAddr .LNK_CRED p [] ≠ regAddr .LNK_PEER p [] := by
  simp [regAddr, regRow, pageBase, elemOff]

theorem regAddr_lnkCtl_ne_lnkErr (p : Nat) : regAddr .LNK_CTL p [] ≠ regAddr .LNK_ERR p [] := by
  simp [regAddr, regRow, pageBase, elemOff]

theorem regAddr_lnkCred_ne_lnkErr (p : Nat) : regAddr .LNK_CRED p [] ≠ regAddr .LNK_ERR p [] := by
  simp [regAddr, regRow, pageBase, elemOff]

theorem regAddr_lnkCtl_ne_lnkStat (p : Nat) : regAddr .LNK_CTL p [] ≠ regAddr .LNK_STAT p [] := by
  simp [regAddr, regRow, pageBase, elemOff]

theorem regAddr_lnkCred_ne_lnkStat (p : Nat) : regAddr .LNK_CRED p [] ≠ regAddr .LNK_STAT p [] := by
  simp [regAddr, regRow, pageBase, elemOff]

/-- A register of a lane port's page lies above every register of the global page. -/
theorem regAddr_lane_ne {r : RegName} (h : (regRow r).win = .lane) (p : Nat) (ix : List Nat) {a : Nat} (ha : a < 0x02000000) :
    regAddr r p ix ≠ a := by
  rw [regAddr, h, pageBase]
  omega

theorem regAddr_lane_ne_irqStat {r : RegName} (h : (regRow r).win = .lane) (p : Nat) (ix : List Nat) :
    regAddr r p ix ≠ regAddr .GLB_IRQSTAT 0 [] := regAddr_lane_ne h p ix (by decide)

/-! ### States of lanes -/

theorem Block.laneState_setLaneState (k : Block) (p l j : Nat) {st : Nat} (h : st < 8) :
    (k.setLaneState p l st).laneState p j = if j = l then st else k.laneState p j := by
  by_cases hj : j = l
  · rw [if_pos hj, hj]
    exact k.rf_setRf_fits .LN_STAT 63 61 p [l] (by omega) (by omega) (by omega)
  · rw [if_neg hj]
    exact k.rf_setRf_ne _ _ _ _ _ _ _ (regAddr_lnStat_ne hj)

/-- Blocks whose word of a lane's status is one have the lane in one state. -/
theorem Block.laneState_of_reg {k n : Block} {p l : Nat} (h : n.reg .LN_STAT p [l] = k.reg .LN_STAT p [l]) :
    n.laneState p l = k.laneState p l := by
  simp only [Block.laneState, Block.rf, h]

theorem Block.setLaneState_frame (k : Block) (p l st : Nat) :
    k.setLaneState p l st = { k with regs := (k.setLaneState p l st).regs } :=
  k.setRf_frame .LN_STAT 63 61 p [l] st

theorem Block.regsKept_setLaneState (k : Block) (p st : Nat) {l : Nat} {addrs : List Nat}
    (h : regAddr .LN_STAT p [l] ∈ addrs) : k.regsKept (k.setLaneState p l st) addrs :=
  k.regsKept_setRf .LN_STAT 63 61 p [l] st h

/-- The other registers stand as a lane changes its state. -/
theorem Block.reg_setLaneState (k : Block) (p l st : Nat) {r : RegName} {pg : Nat} {ix : List Nat}
    (h : regAddr r pg ix ≠ regAddr .LN_STAT p [l]) : (k.setLaneState p l st).reg r pg ix = k.reg r pg ix :=
  k.reg_setRf_other 63 61 p [l] st h

theorem Block.laneState_setRf_lnkStat (k : Block) (hi lo p v l : Nat) :
    (k.setRf .LNK_STAT hi lo p [] v).laneState p l = k.laneState p l :=
  k.rf_setRf_ne _ _ _ _ _ _ _ (regAddr_lnStat_ne_lnkStat p l)

theorem Block.reg_setPort (k : Block) (br : Bool) (n : Nat) (v : LinkLayer) (r : RegName) (pg : Nat) (ix : List Nat) :
    (k.setPort br n v).reg r pg ix = k.reg r pg ix := Block.reg_congr rfl r pg ix

theorem Block.reg_mapPort (k : Block) (br : Bool) (n : Nat) (f : LinkLayer → LinkLayer) (r : RegName) (pg : Nat)
    (ix : List Nat) : (k.mapPort br n f).reg r pg ix = k.reg r pg ix := Block.reg_congr rfl r pg ix

theorem Block.reg_setLaneRx (k : Block) (p l : Nat) (v : LaneRx) (r : RegName) (pg : Nat) (ix : List Nat) :
    (k.setLaneRx p l v).reg r pg ix = k.reg r pg ix := Block.reg_congr rfl r pg ix

/-- Blocks with one store of link layers. -/
theorem Block.port_congr {k m : Block} (h : m.lnk.port = k.lnk.port) (br : Bool) (n : Nat) : m.port br n = k.port br n := by
  rw [Block.port, h, Block.port]

theorem Block.port_setLink (k : Block) (br : Bool) (n st : Nat) (br' : Bool) (i : Nat) :
    (k.setLink br n st).port br' i = k.port br' i := Block.port_congr (by rw [Block.setLink_frame]) br' i

theorem Block.reg_send (k : Block) (x : Answer) (r : RegName) (pg : Nat) (ix : List Nat) :
    (k.send x).reg r pg ix = k.reg r pg ix := Block.reg_congr rfl r pg ix

end Sys2Proof.Machine
end

section
/-!
The statement about lane links and electrical idle (R427, R433 to R435, R442).
-/

namespace Sys2Proof.Machine

/-! ### INIT (R427) -/

/-- What an INIT block tells is shown and kept. -/
def Block.peerTold (k : Block) (p die port : Nat) (llr : Bool) (cred : List Nat) : Block :=
  (k.setReg .LNK_PEER p [] (mkWord [(27, die % 2 ^ 19), (21, port % 64), (1, b2n llr), (0, 1)])).setPort false p
    { k.port false p with init := some (die % 2 ^ 19, port % 64, llr, cred) }

/-- The sum of the credits that a port tells. -/
def Block.ownCredits (k : Block) (p : Nat) : Nat := ((List.range 6).map fun i => k.rf .LNK_CRED (8 * i + 7) (8 * i) p).sum

/-- What an INIT block does to a link in INIT. -/
def Block.initRow (k : Block) (d : Build) (p : Nat) (was : LinkLayer) (now : Nat × Nat × Bool × List Nat) : Block :=
  if was.init = none then k.sendInit d p
  else if was.init = some now ∧ now.2.2.1 = k.llr p ∧ k.ownCredits p ≤ 256 then
    (k.mapPort false p fun v => { v with cred := now.2.2.2 }).setLink false p linkUpCode
  else (k.setBit .LNK_ERR 0 p).sendInit d p

theorem gives_init {s : State} {p : Nat} (die port : Nat) (llr : Bool) (cred : List Nat) (hh : s.blk.held = false)
    (hp : p < s.env.build.lanePorts) (hs : s.blk.linkState false p = linkInit) :
    Gives (.init p die port llr cred) s ((s.blk.peerTold p die port llr cred).initRow s.env.build p (s.blk.port false p)
      (die % 2 ^ 19, port % 64, llr, cred)) := by
  have he : exec (.init p die port llr cred) s = s.run (laneOk s.env.build p) fun k =>
    if k.linkState false p = linkDownCode then k
    else if k.linkState false p ≠ linkInit then k.peerTold p die port llr cred
    else (k.peerTold p die port llr cred).initRow s.env.build p (k.port false p) (die % 2 ^ 19, port % 64, llr, cred) := rfl
  refine gives_of_run he (decide_eq_true hp) hh ?_
  rw [hs, if_neg (by decide), if_neg (by decide)]

section
variable (k : Block) (p die port : Nat) (llr : Bool) (cred : List Nat)

theorem Block.reg_peerTold {r : RegName} {pg : Nat} {ix : List Nat} (h : regAddr r pg ix ≠ regAddr .LNK_PEER p []) :
    (k.peerTold p die port llr cred).reg r pg ix = k.reg r pg ix :=
  (Block.reg_setPort ..).trans (k.reg_setReg_other _ h)

theorem Block.regsKept_peerTold {l : List Nat} (h : regAddr .LNK_PEER p [] ∈ l) :
    k.regsKept (k.peerTold p die port llr cred) l :=
  fun _ _ _ hr => k.reg_peerTold p die port llr cred fun e => hr (e ▸ h)

theorem Block.linkState_peerTold : (k.peerTold p die port llr cred).linkState false p = k.linkState false p :=
  congrArg (fld · 49 48) (k.reg_peerTold p die port llr cred (regAddr_lnkStat_ne_lnkPeer p))

theorem Block.llr_peerTold : (k.peerTold p die port llr cred).llr p = k.llr p :=
  congrArg (flag · 2) (k.reg_peerTold p die port llr cred (regAddr_lnkCtl_ne_lnkPeer p))

theorem Block.cred_peerTold : (k.peerTold p die port llr cred).reg .LNK_CRED p = k.reg .LNK_CRED p :=
  k.reg_peerTold p die port llr cred (regAddr_lnkCred_ne_lnkPeer p)

theorem Block.port_peerTold : (k.peerTold p die port llr cred).port false p =
    { k.port false p with init := some (die % 2 ^ 19, port % 64, llr, cred) } := Block.port_setPort ..

end

theorem Block.peerTold_frame (k : Block) (p die port : Nat) (llr : Bool) (cred : List Nat) :
    k.peerTold p die port llr cred = { k with
      regs := (k.peerTold p die port llr cred).regs, lnk := (k.peerTold p die port llr cred).lnk } := by
  apply Block.ext_groups <;> simp [Block.peerTold, Block.setReg]

/-- An INIT tells the credits and the mode of the port alone. -/
theorem Block.out_sendInit_congr {k m : Block} {p : Nat} (hout : m.out = k.out) (hl : m.llr p = k.llr p)
    (hc : m.reg .LNK_CRED p = k.reg .LNK_CRED p) (d : Build) : (m.sendInit d p).out = (k.sendInit d p).out := by
  simp only [Block.sendInit, Block.send, Block.rf, hout, hl, hc]

theorem Block.reg_sendInit (k : Block) (d : Build) (p : Nat) (r : RegName) (pg : Nat) (ix : List Nat) :
    (k.sendInit d p).reg r pg ix = k.reg r pg ix := Block.reg_send ..

theorem Block.port_sendInit (k : Block) (d : Build) (p : Nat) (br : Bool) (n : Nat) :
    (k.sendInit d p).port br n = k.port br n := Block.port_congr rfl br n

theorem Block.linkState_sendInit (k : Block) (d : Build) (p : Nat) :
    (k.sendInit d p).linkState false p = k.linkState false p := congrArg (fld · 49 48) (k.reg_sendInit d p .LNK_STAT p [])

theorem Block.linkState_lnkErr (k : Block) (p : Nat) : (k.setBit .LNK_ERR 0 p).linkState false p = k.linkState false p :=
  k.rf_setRf_ne 0 0 p [] 1 49 48 (regAddr_lnkStat_ne_lnkErr p)

theorem Block.enterInit_ready {k : Block} {p : Nat} (h : k.linkState false p = linkTraining) (hr : k.rxSet p ≠ 0)
    (ht : k.txSet p ≠ 0) (d : Build) : k.enterInit d p = (k.setLink false p linkInit).sendInit d p := if_pos ⟨h, hr, ht⟩

/-! ### Active sets and the writes of LNK_CTL (R435, R442) -/

theorem gives_lset {s : State} {p mask : Nat} (hh : s.blk.held = false) (hp : p < s.env.build.lanePorts)
    (hs : s.blk.linkState false p ≠ linkDownCode) (h0 : 0 < mask) (h : mask < 16) : Gives (.lset p mask) s
      ((((s.blk.wakeTx p).send (.lset p mask true)).setRf .LNK_STAT 55 52 p [] mask).enterInit s.env.build p) := by
  have he : exec (.lset p mask) s = s.run (laneOk s.env.build p) fun k =>
    if k.linkState false p = linkDownCode then k
    else if mask % 16 = 0 then ((k.wakeTx p).send (.lset p (mask % 16) true)).laneDown s.env.build p
    else (((k.wakeTx p).send (.lset p (mask % 16) true)).setRf .LNK_STAT 55 52 p [] (mask % 16)).enterInit s.env.build p := rfl
  refine gives_of_run he (decide_eq_true hp) hh ?_
  rw [if_neg hs, Nat.mod_eq_of_lt h, if_neg (by omega)]

theorem gives_lsetEcho {s : State} {p mask : Nat} (hh : s.blk.held = false) (hp : p < s.env.build.lanePorts)
    (hs : s.blk.linkState false p ≠ linkDownCode) (h0 : 0 < mask) (h : mask < 16) : Gives (.lsetEcho p mask) s
      (((s.blk.mapPort false p fun v => if v.asked = some mask then { v with asked := none } else v).setRf
        .LNK_STAT 59 56 p [] mask).enterInit s.env.build p) := by
  have he : exec (.lsetEcho p mask) s = s.run (laneOk s.env.build p) fun k =>
    if k.linkState false p = linkDownCode then k
    else if mask % 16 = 0 then
      (k.mapPort false p fun v => if v.asked = some (mask % 16) then { v with asked := none } else v).laneDown s.env.build p
    else ((k.mapPort false p fun v => if v.asked = some (mask % 16) then { v with asked := none } else v).setRf
      .LNK_STAT 59 56 p [] (mask % 16)).enterInit s.env.build p := rfl
  refine gives_of_run he (decide_eq_true hp) hh ?_
  rw [if_neg hs, Nat.mod_eq_of_lt h, if_neg (by omega)]

theorem Block.writeLnkCtl_enable {k : Block} {p : Nat} {v : Word}
    (he : (k.applyWrite .LNK_CTL p [] v).portEnabled false p = true) (hv : flag v 1 = false) (d : Build) :
    k.writeLnkCtl d p v = (k.applyWrite .LNK_CTL p [] v).leaveDown d p := by
  simp [Block.writeLnkCtl, he, hv]

theorem Block.writeLnkCtl_disable {k : Block} {p : Nat} {v : Word}
    (he : (k.applyWrite .LNK_CTL p [] v).portEnabled false p = false)
    (hs : (k.applyWrite .LNK_CTL p [] v).linkState false p ≠ linkDownCode) (d : Build) :
    k.writeLnkCtl d p v = (k.applyWrite .LNK_CTL p [] v).laneDown d p := by
  simp [Block.writeLnkCtl, he, hs]

theorem Block.writeLnkCtl_retrain {k : Block} {p : Nat} {v : Word}
    (he : (k.applyWrite .LNK_CTL p [] v).portEnabled false p = true) (hv : flag v 1 = true) (d : Build) :
    k.writeLnkCtl d p v = (k.applyWrite .LNK_CTL p [] v).laneDown d p := by
  simp [Block.writeLnkCtl, he, hv]

/-! ### Electrical idle (R433, R434) -/

/-- A transmit direction in electrical idle begins its exit burst. -/
theorem Block.wakeTx_idle {k : Block} {p : Nat} (h : flag (k.reg .LNK_STAT p) 50 = true) : k.wakeTx p =
    ((k.setRf .LNK_STAT 50 50 p [] 0).mapPort false p fun v => { v with bursts := v.bursts ++ [true] }).send (.burst p) :=
  if_pos h

/-- The lanes of the list enter state `st`. -/
def Block.lanesEnter (k : Block) (p st : Nat) (l : List Nat) : Block := l.foldl (fun k l => k.setLaneState p l st) k

theorem Block.lanesEnter_cons (k : Block) (p st i : Nat) (l : List Nat) :
    k.lanesEnter p st (i :: l) = (k.setLaneState p i st).lanesEnter p st l := by
  rw [Block.lanesEnter, List.foldl_cons, Block.lanesEnter]

theorem Block.lanesEnter_frame (k : Block) (p st : Nat) (l : List Nat) :
    k.lanesEnter p st l = { k with regs := (k.lanesEnter p st l).regs } := by
  unfold Block.lanesEnter
  exact Block.only_regs_foldl (fun k l => k.setLaneState_frame p l st) l k

theorem Block.lnk_lanesEnter (k : Block) (p st : Nat) (l : List Nat) : (k.lanesEnter p st l).lnk = k.lnk := by
  rw [Block.lanesEnter_frame]

theorem Block.reg_lanesEnter (k : Block) (p st : Nat) (l : List Nat) {r : RegName} {pg : Nat} {ix : List Nat}
    (h : ∀ i, regAddr r pg ix ≠ regAddr .LN_STAT p [i]) : (k.lanesEnter p st l).reg r pg ix = k.reg r pg ix :=
  foldl_keeps (fun k : Block => k.reg r pg ix) (fun k i => k.reg_setLaneState p i st (h i)) l k

theorem Block.laneState_lanesEnter (k : Block) (p : Nat) {st : Nat} (h : st < 8) {l : List Nat} {i : Nat} (hi : i ∈ l) :
    (k.lanesEnter p st l).laneState p i = st := by
  refine foldl_sets (fun (k : Block) i => k.laneState p i = st) (fun k i => ?_) (fun k i j hk => ?_) hi k
  · rw [k.laneState_setLaneState p i i h, if_pos rfl]
  · rw [k.laneState_setLaneState p j i h]
    split
    · rfl
    · exact hk

theorem Block.regsKept_lanesEnter (k : Block) (p st : Nat) {l addrs : List Nat}
    (h : ∀ i ∈ l, regAddr .LN_STAT p [i] ∈ addrs) : k.regsKept (k.lanesEnter p st l) addrs :=
  Block.regsKept_foldl (fun k i hi => k.regsKept_setLaneState p st (h i hi)) k

theorem exec_idlein (p : Nat) (s : State) : exec (.idlein p) s = s.run (laneOk s.env.build p) fun k =>
    if k.portUp false p then (k.setBit .LNK_STAT 51 p).lanesEnter p laneIdle (k.lanesOf p) else k := rfl

/-- The lane leaves IDLE for EXIT. -/
def Block.wakeLane (k : Block) (p l : Nat) : Block := if k.laneState p l = laneIdle then k.setLaneState p l laneExit else k

/-- The partner's exit burst begins. -/
def Block.burstBegun (k : Block) (p : Nat) : Block :=
  (k.setRf .LNK_STAT 51 51 p [] 0).mapPort false p fun v => { v with bursts := v.bursts ++ [false] }

theorem exec_wakePattern (p : Nat) (s : State) : exec (.wakePattern p) s = s.run (laneOk s.env.build p) fun k =>
    if flag (k.reg .LNK_STAT p) 51 then (List.range 4).foldl (fun k l => k.wakeLane p l) (k.burstBegun p) else k := rfl

/-- Four lanes that all are in IDLE enter EXIT. -/
theorem Block.wakeLanes_idle {k : Block} {p : Nat} (h : ∀ l < 4, k.laneState p l = laneIdle) :
    (List.range 4).foldl (fun k l => k.wakeLane p l) k = k.lanesEnter p laneExit (List.range 4) := by
  have hwake : ∀ (l : List Nat) (k : Block), l.Nodup → (∀ i ∈ l, k.laneState p i = laneIdle) →
      l.foldl (fun k l => k.wakeLane p l) k = k.lanesEnter p laneExit l := by
    intro l
    induction l with
    | nil =>
      intro k _ _
      rw [Block.lanesEnter, List.foldl_nil, List.foldl_nil]
    | cons i l ih =>
      intro k hn hk
      obtain ⟨hi, hl⟩ := List.nodup_cons.1 hn
      have hone : k.wakeLane p i = k.setLaneState p i laneExit := if_pos (hk i (.head _))
      rw [List.foldl_cons, hone, Block.lanesEnter_cons, ih _ hl fun j hj => ?_]
      have hji : j ≠ i := fun e => hi (e ▸ hj)
      rw [Block.laneState_setLaneState _ _ _ _ (by decide), if_neg hji, hk j (.tail _ hj)]
  exact hwake _ k (by decide) fun i hi => h i (List.mem_range.1 hi)

theorem Block.laneState_burstBegun (k : Block) (p l : Nat) : (k.burstBegun p).laneState p l = k.laneState p l :=
  (Block.laneState_of_reg (Block.reg_mapPort ..)).trans (k.laneState_setRf_lnkStat 51 51 p 0 l)

theorem Block.regsKept_burstBegun (k : Block) (p : Nat) {l : List Nat} (h : regAddr .LNK_STAT p [] ∈ l) :
    k.regsKept (k.burstBegun p) l :=
  Block.regsKept_trans (k.regsKept_setRf .LNK_STAT 51 51 p [] 0 h) (fun _ _ _ _ => Block.reg_mapPort ..)

theorem Block.burstBegun_frame (k : Block) (p : Nat) :
    k.burstBegun p = { k with regs := (k.burstBegun p).regs, lnk := (k.burstBegun p).lnk } := by
  apply Block.ext_groups <;> simp [Block.burstBegun, Block.mapPort]

theorem Block.lnk_burstBegun (k : Block) (p : Nat) :
    (k.burstBegun p).lnk = (k.mapPort false p fun v => { v with bursts := v.bursts ++ [false] }).lnk := by
  simp [Block.burstBegun, Block.mapPort, Block.setPort, Block.port]

/-- The lanes that an exit burst has left in EXIT hunt. -/
def Block.lateHunt (k : Block) (p : Nat) : Block :=
  ((List.range 4).filter fun l => k.laneState p l == laneExit).foldl
    (fun k l => (k.setLaneState p l laneHunt).setLaneRx p l {}) k

/-- The lanes asked for that are LOCKED. -/
def Block.lockedWanted (k : Block) (p : Nat) : Nat :=
  laneMask ((List.range 4).filter fun l => (k.wantedSet p).testBit l && k.laneState p l == laneLocked)

/-- What the end of the partner's exit burst brings. -/
def Block.partnerBurstOver (k : Block) (d : Build) (p : Nat) : Block :=
  if k.wantedSet p = 0 ∨ k.lockedWanted p = k.wantedSet p then k else k.askSet d p (k.lockedWanted p)

/-- The burst that began first is over. -/
def Block.burstOver (k : Block) (p : Nat) : Block :=
  k.setPort false p { k.port false p with bursts := (k.port false p).bursts.tail }

theorem exec_exitBurstEnd (p : Nat) (s : State) : exec (.exitBurstEnd p) s = s.run (laneOk s.env.build p) fun k =>
    match (k.port false p).bursts with
    | [] => k.burstOver p
    | true :: _ => (k.burstOver p).send (.mark p ((k.burstOver p).lanesOf p))
    | false :: _ => ((k.burstOver p).lateHunt p).partnerBurstOver s.env.build p := rfl

theorem Block.laneState_burstOver (k : Block) (p l : Nat) : (k.burstOver p).laneState p l = k.laneState p l :=
  Block.laneState_of_reg (Block.reg_setPort ..)

theorem Block.wantedSet_burstOver (k : Block) (p : Nat) : (k.burstOver p).wantedSet p = k.wantedSet p := by
  have hrx : (k.burstOver p).rxSet p = k.rxSet p := congrArg (fld · 59 56) (Block.reg_setPort ..)
  rw [Block.wantedSet, hrx, Block.burstOver, Block.port_setPort, Block.wantedSet]

theorem laneMask_filter_testBit {w : Nat} (h : w < 16) : laneMask ((List.range 4).filter fun l => w.testBit l) = w := by
  revert w
  decide

/-- With every lane LOCKED nothing hunts, and the set asked for stands. -/
theorem Block.partnerBurstOver_locked {k : Block} {p : Nat} (h : ∀ l < 4, k.laneState p l = laneLocked)
    (hw : k.wantedSet p < 16) (d : Build) : (k.lateHunt p).partnerBurstOver d p = k := by
  have hlate : (List.range 4).filter (fun l => k.laneState p l == laneExit) = [] := by
    rw [List.filter_eq_nil_iff]
    intro l hl
    rw [h l (List.mem_range.1 hl)]
    decide
  have hkeep : k.lockedWanted p = k.wantedSet p := by
    have hf : (List.range 4).filter (fun l => (k.wantedSet p).testBit l && k.laneState p l == laneLocked) =
        (List.range 4).filter fun l => (k.wantedSet p).testBit l :=
      List.filter_congr fun l hl => by rw [h l (List.mem_range.1 hl), beq_self_eq_true, Bool.and_true]
    rw [Block.lockedWanted, hf, laneMask_filter_testBit hw]
  rw [Block.lateHunt, hlate]
  exact if_pos (.inr hkeep)

/-- Lane 3 hunts. -/
def Block.huntThree (k : Block) (p : Nat) : Block := (k.setLaneState p 3 laneHunt).setLaneRx p 3 {}

theorem Block.laneState_huntThree (k : Block) (p l : Nat) :
    (k.huntThree p).laneState p l = if l = 3 then laneHunt else k.laneState p l := by
  rw [Block.huntThree, Block.laneState_of_reg (Block.reg_setLaneRx ..), Block.laneState_setLaneState _ _ _ _ (by decide)]

theorem Block.wantedSet_huntThree (k : Block) (p : Nat) : (k.huntThree p).wantedSet p = k.wantedSet p := by
  have hreg : (k.huntThree p).reg .LNK_STAT p = k.reg .LNK_STAT p :=
    (Block.reg_setLaneRx ..).trans (k.reg_setLaneState p 3 laneHunt (regAddr_lnStat_ne_lnkStat p 3).symm)
  have hport : (k.huntThree p).port false p = k.port false p :=
    Block.port_congr (by rw [Block.huntThree, Block.setLaneRx, Block.setLaneState_frame]) false p
  rw [Block.wantedSet, Block.rxSet, Block.rf, hreg, hport, ← Block.rf, ← Block.rxSet, ← Block.wantedSet]

theorem Block.lateHunt_three {k : Block} {p : Nat} (h : ∀ l < 4, l ≠ 3 → k.laneState p l = laneLocked)
    (h3 : k.laneState p 3 = laneExit) : k.lateHunt p = k.huntThree p := by
  have hlate : (List.range 4).filter (fun l => k.laneState p l == laneExit) = (List.range 4).filter (fun l => l == 3) := by
    refine List.filter_congr fun l hl => ?_
    by_cases hl3 : l = 3
    · rw [hl3, h3, beq_self_eq_true, beq_self_eq_true]
    · rw [h l (List.mem_range.1 hl) hl3, beq_false_of_ne hl3]
      rfl
  have hthree : (List.range 4).filter (fun l => l == 3) = [3] := by decide
  rw [Block.lateHunt, hlate, hthree, List.foldl_cons, List.foldl_nil, Block.huntThree]

theorem Block.lockedWanted_three {k : Block} {p : Nat} (h : ∀ l < 4, l ≠ 3 → k.laneState p l = laneLocked)
    (h3 : k.laneState p 3 = laneHunt) (hw : k.wantedSet p = 15) : k.lockedWanted p = 7 := by
  have hbit : ∀ l < 4, Nat.testBit 15 l = true := by decide
  have hkeep : (List.range 4).filter (fun l => (k.wantedSet p).testBit l && k.laneState p l == laneLocked) =
      (List.range 4).filter (fun l => l != 3) := by
    refine List.filter_congr fun l hl => ?_
    rw [hw, hbit l (List.mem_range.1 hl), Bool.true_and]
    by_cases hl3 : l = 3
    · rw [hl3, h3]
      rfl
    · rw [h l (List.mem_range.1 hl) hl3, beq_self_eq_true, bne, beq_false_of_ne hl3]
      rfl
  rw [Block.lockedWanted, hkeep]
  decide

/-- With lane 3 left in EXIT, it hunts, and the others are asked for. -/
theorem Block.partnerBurstOver_late {k : Block} {p : Nat} (h : ∀ l < 4, l ≠ 3 → k.laneState p l = laneLocked)
    (h3 : k.laneState p 3 = laneExit) (hw : k.wantedSet p = 15) (d : Build) :
    (k.lateHunt p).partnerBurstOver d p = (k.huntThree p).askSet d p 7 := by
  have hwant : (k.huntThree p).wantedSet p = 15 := (k.wantedSet_huntThree p).trans hw
  have hkeep : (k.huntThree p).lockedWanted p = 7 :=
    Block.lockedWanted_three (fun l hl hl3 => by rw [k.laneState_huntThree, if_neg hl3, h l hl hl3])
      (by rw [k.laneState_huntThree, if_pos rfl]) hwant
  rw [Block.lateHunt_three h h3, Block.partnerBurstOver, hwant, hkeep, if_neg (by omega)]

/-- Settles O24: a link by the row of INIT it takes, electrical idle by the folds over the lanes. -/
theorem laneLinksAndElectricalIdle : Obligations.LaneLinksAndElectricalIdle := by
  unfold Obligations.LaneLinksAndElectricalIdle
  refine ⟨?initUp, ?initFirst, ?initMis, ?enter, ?lset, ?echo, ?again, ?write, ?idle, ?idlein, ?wake, ?pattern, ?own,
    ?locked, ?late⟩
  case initUp =>
    intro s p die port llr cred hh hp hs hv hl hc
    have h := gives_init die port llr cred hh hp hs
    generalize hm : s.blk.peerTold p die port llr cred = m at h
    have hown : m.ownCredits p ≤ 256 := by
      rw [Block.ownCredits, ← hm]
      simpa only [Block.rf, Block.cred_peerTold] using hc
    have hllr : m.llr p = llr := by rw [← hm, Block.llr_peerTold, hl]
    have hframe : m = { s.blk with regs := m.regs, lnk := m.lnk } := by rw [← hm, Block.peerTold_frame]
    rw [Block.initRow, hv, if_neg (by simp), if_pos ⟨rfl, hllr.symm, hown⟩] at h
    refine ⟨_, h, ?_, ?_, Block.linkState_setLink _ false p (by decide), ?_⟩
    · rw [Block.setLink_frame, Block.mapPort, Block.setPort, hframe]
    · refine Block.regsKept_trans (hm ▸ s.blk.regsKept_peerTold p die port llr cred (.head _)) ?_
      exact Block.regsKept_trans (fun _ _ _ _ => Block.reg_mapPort ..)
        (Block.regsKept_setLink _ false p linkUpCode (.tail _ (.head _)) (.tail _ (.tail _ (.head _))))
    · rw [Block.port_setLink, Block.mapPort, Block.port_setPort]
  case initFirst =>
    intro s p die port llr cred hh hp hs hv
    have h := gives_init die port llr cred hh hp hs
    rw [Block.initRow, if_pos hv] at h
    refine ⟨_, h, ?_, ?_, ?_, ?_, ?_⟩
    · apply Block.ext_groups <;> simp [Block.sendInit, Block.send, Block.peerTold, Block.setReg]
    · exact fun r pg ix hr => (Block.reg_sendInit ..).trans (s.blk.regsKept_peerTold p die port llr cred (.head _) r pg ix hr)
    · exact Block.out_sendInit_congr (by rw [Block.peerTold_frame]) (Block.llr_peerTold ..) (Block.cred_peerTold ..) _
    · rw [Block.linkState_sendInit, Block.linkState_peerTold, hs]
    · rw [Block.port_sendInit, Block.port_peerTold]
  case initMis =>
    intro s p die port llr cred x hh hp hs hv hx
    have h := gives_init die port llr cred hh hp hs
    generalize hm : s.blk.peerTold p die port llr cred = m at h
    have hllr : m.llr p = s.blk.llr p := by rw [← hm, Block.llr_peerTold]
    have hcred : m.reg .LNK_CRED p = s.blk.reg .LNK_CRED p := by rw [← hm, Block.cred_peerTold]
    have hlink : m.linkState false p = linkInit := by rw [← hm, Block.linkState_peerTold, hs]
    have hkept := hm ▸ s.blk.regsKept_peerTold p die port llr cred
      (l := [regAddr .LNK_PEER p [], regAddr .LNK_ERR p []]) (.head _)
    rw [Block.initRow, hv, if_neg (by simp), if_neg (by
      rintro ⟨he, hl, -⟩
      rcases hx with hx | hx
      · exact hx (Option.some.inj he)
      · exact hx (hl.trans hllr))] at h
    refine ⟨_, h, ?_, ?_, ?_, ?_, ?_⟩
    · rw [← hm]
      apply Block.ext_groups <;> simp [Block.sendInit, Block.send, Block.peerTold, Block.setReg]
    · exact fun r pg ix hr => (Block.reg_sendInit ..).trans
        (Block.regsKept_trans hkept (m.regsKept_setRf .LNK_ERR 0 0 p [] 1 (.tail _ (.head _))) r pg ix hr)
    · rw [Block.reg_sendInit]
      exact m.flag_setBit_same .LNK_ERR p [] (by omega)
    · refine Block.out_sendInit_congr (k := s.blk) ?_ ?_ ?_ _
      · rw [Block.setBit, Block.setRf_out, ← hm, Block.peerTold_frame]
      · exact (congrArg (flag · 2) (m.reg_setRf_other 0 0 p [] 1 (regAddr_lnkCtl_ne_lnkErr p))).trans hllr
      · exact (m.reg_setRf_other 0 0 p [] 1 (regAddr_lnkCred_ne_lnkErr p)).trans hcred
    · rw [Block.linkState_sendInit, Block.linkState_lnkErr, hlink]
  case enter =>
    intro k d p hs hr ht
    rw [Block.enterInit_ready hs hr ht]
    refine ⟨?_, ?_⟩
    · rw [Block.linkState_sendInit, Block.linkState_setLink _ _ _ (by decide)]
    · refine (Block.out_sendInit_congr (k := k) ?_ ?_ ?_ d).trans rfl
      · rw [Block.setLink_frame]
      · exact congrArg (flag · 2) (k.reg_setLink_other linkInit (regAddr_lnkCtl_ne_lnkStat p)
          (regAddr_lane_ne_irqStat rfl p []))
      · exact k.reg_setLink_other linkInit (regAddr_lnkCred_ne_lnkStat p) (regAddr_lane_ne_irqStat rfl p [])
  case lset =>
    exact fun s p mask hh hp hs h0 h => gives_lset hh hp hs h0 h
  case echo =>
    exact fun s p mask hh hp hs h0 h => gives_lsetEcho hh hp hs h0 h
  case again =>
    intro s p m hh hp ha
    have he : exec (.lsetRepeat p) s = s.run (laneOk s.env.build p) fun k =>
      match (k.port false p).asked with
      | some m => (k.wakeTx p).send (.lset p m false)
      | none => k := rfl
    exact gives_of_run he (decide_eq_true hp) hh (by rw [ha])
  case write =>
    intro s p v hh hc hp
    refine ⟨fun he hv => ?_, fun he hs => ?_, fun he hv => ?_⟩
    · have hx : exec (.linkEnable p v) s = s.access (laneOk s.env.build p) 0 .mp fun k =>
        (k.writeLnkCtl s.env.build p v).answerWrite 0 .mp := rfl
      exact gives_mp hx (decide_eq_true hp) hh hc (by rw [Block.writeLnkCtl_enable he hv])
    · have hx : exec (.linkDisable p v) s = s.access (laneOk s.env.build p) 0 .mp fun k =>
        (k.writeLnkCtl s.env.build p v).answerWrite 0 .mp := rfl
      exact gives_mp hx (decide_eq_true hp) hh hc (by rw [Block.writeLnkCtl_disable he hs])
    · have hx : exec (.linkRetrain p v) s = s.access (laneOk s.env.build p) 0 .mp fun k =>
        (k.writeLnkCtl s.env.build p v).answerWrite 0 .mp := rfl
      exact gives_mp hx (decide_eq_true hp) hh hc (by rw [Block.writeLnkCtl_retrain he hv])
  case idle =>
    intro s p hh hp hm hf hb
    have he : exec (.idleEntry p) s = s.run (laneOk s.env.build p) fun k =>
      if k.mayIdle s.env.build p && !flag (k.reg .LNK_STAT p) 50 && !(k.port false p).burst then
        (k.setBit .LNK_STAT 50 p).send (.idlein p)
      else k := rfl
    exact gives_of_run he (decide_eq_true hp) hh (if_pos (by simp [hm, hf, hb]))
  case idlein =>
    intro s p hh hp hu hl
    have hmem : ∀ i ∈ [0, 1, 2, 3], regAddr .LN_STAT p [i] ∈
        regAddr .LNK_STAT p [] :: (List.range 4).map fun l => regAddr .LN_STAT p [l] :=
      fun i hi => .tail _ (List.mem_map_of_mem (f := fun l => regAddr .LN_STAT p [l]) hi)
    refine ⟨_, gives_of_run (exec_idlein p s) (decide_eq_true hp) hh (by rw [if_pos hu, hl]), ?_, ?_, ?_, fun l h => ?_⟩
    · exact Block.only_regs_trans (Block.setRf_frame ..) (Block.lanesEnter_frame ..)
    · exact Block.regsKept_trans (s.blk.regsKept_setRf .LNK_STAT 51 51 p [] 1 (.head _))
        (Block.regsKept_lanesEnter _ p laneIdle hmem)
    · rw [Block.reg_lanesEnter _ _ _ _ fun i => (regAddr_lnStat_ne_lnkStat p i).symm]
      exact s.blk.flag_setBit_same .LNK_STAT p [] (by omega)
    · exact Block.laneState_lanesEnter _ p (by decide) (List.mem_range.2 h)
  case wake =>
    intro s p hh hp hm hf
    have he : exec (.idleExit p) s = s.run (laneOk s.env.build p) fun k =>
      if !k.mayIdle s.env.build p || (k.clk.course % 64 == 0 && k.clk.cyc == 0) then k.wakeTx p else k := rfl
    exact gives_of_run he (decide_eq_true hp) hh (by rw [if_pos (by rw [hm]; rfl), Block.wakeTx_idle hf])
  case pattern =>
    intro s p hh hp hf hl
    have hidle : ∀ l < 4, (s.blk.burstBegun p).laneState p l = laneIdle :=
      fun l h => (s.blk.laneState_burstBegun p l).trans (hl l h)
    have hmem : ∀ i ∈ List.range 4, regAddr .LN_STAT p [i] ∈
        regAddr .LNK_STAT p [] :: (List.range 4).map fun l => regAddr .LN_STAT p [l] :=
      fun i hi => .tail _ (List.mem_map_of_mem (f := fun l => regAddr .LN_STAT p [l]) hi)
    have hframe := (s.blk.burstBegun p).lanesEnter_frame p laneExit (List.range 4)
    refine ⟨_, gives_of_run (exec_wakePattern p s) (decide_eq_true hp) hh (by rw [if_pos hf, Block.wakeLanes_idle hidle]),
      ?_, ?_, ?_, ?_, fun l h => ?_⟩
    · rw [hframe, Block.burstBegun_frame]
    · exact (Block.lnk_lanesEnter ..).trans (s.blk.lnk_burstBegun p)
    · exact Block.regsKept_trans (s.blk.regsKept_burstBegun p (.head _)) (Block.regsKept_lanesEnter _ p laneExit hmem)
    · rw [Block.reg_lanesEnter _ _ _ _ fun i => (regAddr_lnStat_ne_lnkStat p i).symm, Block.burstBegun, Block.reg_mapPort]
      exact s.blk.flag_setRf_same .LNK_STAT 51 p [] false (by omega)
    · exact Block.laneState_lanesEnter _ p (by decide) (List.mem_range.2 h)
  case own =>
    intro s p r hh hp hb
    have hover : s.blk.burstOver p = s.blk.setPort false p { s.blk.port false p with bursts := r } := by
      rw [Block.burstOver, hb]
      rfl
    refine gives_of_run (exec_exitBurstEnd p s) (decide_eq_true hp) hh ?_
    rw [hb, hover]
    rfl
  case locked =>
    intro s p r hh hp hb hl hw
    have hover : s.blk.burstOver p = s.blk.setPort false p { s.blk.port false p with bursts := r } := by
      rw [Block.burstOver, hb]
      rfl
    refine gives_of_run (exec_exitBurstEnd p s) (decide_eq_true hp) hh ?_
    rw [hb, ← hover]
    exact Block.partnerBurstOver_locked (fun l h => (s.blk.laneState_burstOver p l).trans (hl l h))
      (by rw [Block.wantedSet_burstOver]; exact hw) _
  case late =>
    intro s p r hh hp hb hl h3 hw
    have hover : s.blk.burstOver p = s.blk.setPort false p { s.blk.port false p with bursts := r } := by
      rw [Block.burstOver, hb]
      rfl
    refine gives_of_run (exec_exitBurstEnd p s) (decide_eq_true hp) hh ?_
    rw [hb, ← hover]
    exact Block.partnerBurstOver_late (fun l h hne => (s.blk.laneState_burstOver p l).trans (hl l h hne))
      ((s.blk.laneState_burstOver p 3).trans h3) (by rw [Block.wantedSet_burstOver, hw]) _

end Sys2Proof.Machine
end

section
/-!
SUPPORT. What the retirement of a lane leaves (R436, R461 to R468): the words of the lane port's page through the fault
log, the black box, an episode, the time states and the links.
-/

namespace Sys2Proof.Machine

/-! ### What changes no register -/

theorem Block.regs_boxEvent (k : Block) (b : Nat) (ev : Event) : (k.boxEvent b ev).regs = k.regs := by
  unfold Block.boxEvent
  split <;> rfl

theorem Block.regs_lpiTrigger (k : Block) (b line : Nat) : (k.lpiTrigger b line).regs = k.regs := rfl

theorem Block.regs_ite (c : Prop) [Decidable c] (k m : Block) : (if c then k else m).regs = if c then k.regs else m.regs := by
  split <;> rfl

/-- An event's posting changes no register. -/
theorem Block.regs_postEvent (k : Block) (b : Nat) (ev : Event) : (k.postEvent b ev).regs = k.regs := by
  unfold Block.postEvent
  extract_lets v q r _ k₁ k₂ k₃ k₄
  have h₄ : k₄.regs = k.regs := by
    simp [k₄, k₃, k₂, k₁, Block.regs_boxEvent, Block.regs_lpiTrigger, Block.regs_ite]
  split
  · rw [Block.regs_ite, Block.regs_boxEvent, ite_self, h₄]
  · exact h₄

theorem Block.regs_enterTime (k : Block) (t : TimeState) : (k.enterTime t).regs = k.regs := by
  unfold Block.enterTime
  dsimp only
  split
  · rw [Block.regs_postEvent]
  · rfl

/-! ### The fault log and the black box -/

section
variable (k : Block) {r : RegName} {p : Nat} {ix : List Nat}

theorem Block.reg_lane_setRf (h : (regRow r).win = .lane) {g : RegName} (hg : regAddr g 0 [] < 0x02000000)
    (hi lo v : Nat) : (k.setRf g hi lo 0 [] v).reg r p ix = k.reg r p ix :=
  k.reg_setRf_other hi lo 0 [] v (regAddr_lane_ne h p ix hg)

theorem Block.reg_lane_faultLog (h : (regRow r).win = .lane) (cls kind loc sub : Nat) :
    (k.faultLog cls kind loc sub).reg r p ix = k.reg r p ix := by
  unfold Block.faultLog
  dsimp only
  rw [Block.reg_boxPost]
  split
  · exact Block.reg_congr rfl r p ix
  · exact k.reg_lane_setRf h (by decide) ..

theorem Block.reg_lane_boxWrite (h : (regRow r).win = .lane) (en : BoxEntry) :
    (k.boxWrite en).reg r p ix = k.reg r p ix :=
  k.regsKept_boxWrite en r p ix (by simpa using regAddr_lane_ne h p ix (by decide : regAddr .BBX_STAT 0 [] < 0x02000000))

theorem Block.reg_lane_writeOwn (h : (regRow r).win = .lane) (i : Nat) : (k.writeOwn i).reg r p ix = k.reg r p ix := by
  unfold Block.writeOwn
  split
  · exact (Block.reg_lane_boxWrite _ h _).trans (Block.reg_congr rfl r p ix)
  · rfl

theorem Block.reg_lane_freezeOn (h : (regRow r).win = .lane) (i : Nat) : (k.freezeOn i).reg r p ix = k.reg r p ix := by
  unfold Block.freezeOn
  split
  · unfold Block.freezeFor
    split
    · rfl
    · split
      · exact (Block.reg_congr (k := k.writeOwn i) rfl r p ix).trans (k.reg_lane_writeOwn h i)
      · split
        · exact Block.reg_congr rfl r p ix
        · rfl
  · rfl

theorem Block.reg_lane_permanent (h : (regRow r).win = .lane) (kind loc sub : Nat) :
    (k.permanent kind loc sub).reg r p ix = k.reg r p ix :=
  (Block.reg_lane_freezeOn _ h _).trans ((Block.reg_congr (k := k.faultLog 1 kind loc sub) rfl r p ix).trans
    (k.reg_lane_faultLog h ..))

/-! ### Retired ports and links that go down -/

/-- A lane port that is marked retired. -/
def Block.portMarked (n : Nat) : Block := (k.setBit .GLB_PORTRET0 n).permanent 3 n 0

theorem Block.markPort_lane (n : Nat) : k.markPort false n = if k.portRetired false n then k
    else if (k.portMarked n).timeSource false n && ((k.portMarked n).clk.st == .tracking || (k.portMarked n).clk.st == .locked)
      then (k.portMarked n).enterTime .holdover
    else k.portMarked n := rfl

theorem Block.reg_lane_markPort (h : (regRow r).win = .lane) (n : Nat) :
    (k.markPort false n).reg r p ix = k.reg r p ix := by
  have hmark : (k.portMarked n).reg r p ix = k.reg r p ix :=
    (Block.reg_lane_permanent _ h ..).trans (k.reg_lane_setRf h (by decide) ..)
  rw [Block.markPort_lane]
  split
  · rfl
  · split
    · exact (Block.reg_congr (Block.regs_enterTime ..) r p ix).trans hmark
    · exact hmark

/-- A lane port's exit from UP is logged and kept. -/
def Block.exitLogged (n : Nat) : Block :=
  let m := (k.faultLog 3 3 n 0).episode
  { m with flt.portHist := (m.failures m.flt.portHist (portKey false n) 1000000).2 }

theorem Block.regs_exitLogged (n : Nat) : (k.exitLogged n).regs = (k.faultLog 3 3 n 0).regs := rfl

theorem Block.portExit_lane (n : Nat) : ∃ c : Nat, k.portExit false n =
    if (k.exitLogged n).rf .GLB_FLTCTL 39 36 ≤ c then (k.exitLogged n).markPort false n else k.exitLogged n := ⟨_, rfl⟩

theorem Block.reg_lane_portExit (h : (regRow r).win = .lane) (n : Nat) :
    (k.portExit false n).reg r p ix = k.reg r p ix := by
  have hlog : (k.exitLogged n).reg r p ix = k.reg r p ix :=
    (Block.reg_congr (k.regs_exitLogged n) r p ix).trans (k.reg_lane_faultLog h ..)
  obtain ⟨c, he⟩ := k.portExit_lane n
  rw [he]
  split
  · exact (Block.reg_lane_markPort _ h n).trans hlog
  · exact hlog

end

/-! ### LN_CTL through the states of a link (R427, R435, R436) -/

section
variable (k : Block) (d : Build) (p l : Nat)

theorem regAddr_lnCtl_ne_lnkErr : regAddr .LN_CTL p [l] ≠ regAddr .LNK_ERR p [] := by
  simp [regAddr, regRow, pageBase, elemOff]
  omega

theorem regAddr_lnCtl_ne_lnkPeer : regAddr .LN_CTL p [l] ≠ regAddr .LNK_PEER p [] := by
  simp [regAddr, regRow, pageBase, elemOff]
  omega

theorem Block.lnCtl_setLink (st : Nat) : (k.setLink false p st).reg .LN_CTL p [l] = k.reg .LN_CTL p [l] :=
  k.reg_setLink_other st (regAddr_lnCtl_ne_lnkStat p l) (regAddr_lane_ne_irqStat rfl p [l])

theorem Block.lnCtl_setLnkStat (hi lo v : Nat) :
    (k.setRf .LNK_STAT hi lo p [] v).reg .LN_CTL p [l] = k.reg .LN_CTL p [l] :=
  k.reg_setRf_other hi lo p [] v (regAddr_lnCtl_ne_lnkStat p l)

theorem Block.lnCtl_laneToOff (j : Nat) : (k.laneToOff p j).reg .LN_CTL p [l] = k.reg .LN_CTL p [l] :=
  (Block.reg_setLaneRx ..).trans (k.reg_setLaneState p j laneOff (regAddr_lnCtl_ne_lnStat p l j))

theorem Block.lnCtl_enterTrain (j : Nat) (c : Bool) : (k.enterTrain p j c).reg .LN_CTL p [l] = k.reg .LN_CTL p [l] :=
  (Block.reg_setLaneRx ..).trans (k.reg_setLaneState p j laneTrain (regAddr_lnCtl_ne_lnStat p l j))

theorem Block.lnCtl_leaveDown : (k.leaveDown d p).reg .LN_CTL p [l] = k.reg .LN_CTL p [l] := by
  unfold Block.leaveDown
  split
  · refine (foldl_keeps (fun k : Block => k.reg .LN_CTL p [l]) (fun k j => ?_) _ _).trans (k.lnCtl_setLink p l _)
    exact (Block.reg_handshake ..).trans (k.lnCtl_enterTrain p l j false)
  · rfl

/-- The first of what a link's way to DOWN does: an exit is counted, and the state is shown. -/
def Block.laneExited : Block :=
  let n := (if linkInit ≤ k.linkState false p then k.bump .LNK_ERR 15 8 p else k).setLink false p linkDownCode
  if k.linkState false p = linkUpCode then n.portExit false p else n

/-- The second: the link layer, the sets and the lanes are cleared. -/
def Block.laneCleared : Block :=
  let n := k.setPort false p { stale := (k.rxBuffer false p).length, answered := (k.port false p).answered }
  let n := ((n.setRf .LNK_STAT 59 50 p [] 0).setRf .LNK_STAT 43 0 p [] 0).setRf .LNK_PEER 0 0 p [] 0
  (List.range 4).foldl (fun k l => k.laneToOff p l) n

theorem Block.laneDown_eq : k.laneDown d p = ((k.laneExited p).laneCleared p).leaveDown d p := by
  unfold Block.laneDown Block.laneCleared Block.laneExited
  rfl

theorem Block.lnCtl_laneExited : (k.laneExited p).reg .LN_CTL p [l] = k.reg .LN_CTL p [l] := by
  have hcount : (if linkInit ≤ k.linkState false p then k.bump .LNK_ERR 15 8 p else k).reg .LN_CTL p [l] =
      k.reg .LN_CTL p [l] := by
    split
    · exact k.reg_setRf_other 15 8 p [] _ (regAddr_lnCtl_ne_lnkErr p l)
    · rfl
  unfold Block.laneExited
  dsimp only
  split
  · exact (Block.reg_lane_portExit _ rfl p).trans ((Block.lnCtl_setLink _ p l _).trans hcount)
  · exact (Block.lnCtl_setLink _ p l _).trans hcount

theorem Block.lnCtl_laneCleared : (k.laneCleared p).reg .LN_CTL p [l] = k.reg .LN_CTL p [l] := by
  refine (foldl_keeps (fun k : Block => k.reg .LN_CTL p [l]) (fun k j => k.lnCtl_laneToOff p l j) _ _).trans ?_
  exact (Block.reg_setRf_other _ 0 0 p [] 0 (regAddr_lnCtl_ne_lnkPeer p l)).trans ((Block.lnCtl_setLnkStat _ p l ..).trans
    ((Block.lnCtl_setLnkStat _ p l ..).trans (Block.reg_setPort ..)))

theorem Block.lnCtl_laneDown : (k.laneDown d p).reg .LN_CTL p [l] = k.reg .LN_CTL p [l] := by
  rw [Block.laneDown_eq, Block.lnCtl_leaveDown, Block.lnCtl_laneCleared, Block.lnCtl_laneExited]

theorem Block.lnCtl_wakeTx : (k.wakeTx p).reg .LN_CTL p [l] = k.reg .LN_CTL p [l] := by
  unfold Block.wakeTx
  split
  · exact (Block.reg_send ..).trans ((Block.reg_mapPort ..).trans (k.lnCtl_setLnkStat p l ..))
  · rfl

theorem Block.lnCtl_askSet (mask : Nat) : (k.askSet d p mask).reg .LN_CTL p [l] = k.reg .LN_CTL p [l] := by
  have hsend : ((k.wakeTx p).send (.lset p mask false)).reg .LN_CTL p [l] = k.reg .LN_CTL p [l] :=
    (Block.reg_send ..).trans (k.lnCtl_wakeTx p l)
  unfold Block.askSet
  dsimp only
  split
  · exact (Block.lnCtl_laneDown _ d p l).trans hsend
  · exact (Block.reg_mapPort ..).trans hsend

theorem Block.lnCtl_dropLane (j : Nat) : (k.dropLane d p j).reg .LN_CTL p [l] = k.reg .LN_CTL p [l] := by
  unfold Block.dropLane
  dsimp only
  split
  · exact k.lnCtl_askSet d p l _
  · rfl

theorem Block.lnCtl_chooseIfAll : (k.chooseIfAll d p).reg .LN_CTL p [l] = k.reg .LN_CTL p [l] := by
  unfold Block.chooseIfAll Block.chooseSet
  dsimp only
  split
  · split
    · exact k.lnCtl_askSet d p l _
    · rfl
  · rfl

/-! ### The retirement of a lane (R436) -/

/-- The lane is marked retired and off. -/
def Block.laneMarked : Block := (k.setRf .LN_CTL 0 0 p [l] 1).laneToOff p l

theorem Block.laneRetired_laneMarked : (k.laneMarked p l).laneRetired p l = true := by
  rw [Block.laneRetired, Block.laneMarked, Block.lnCtl_laneToOff]
  exact k.flag_setRf_same .LN_CTL 0 p [l] true (by omega)

/-- The marked lane, with a permanent classification as its cause. -/
def Block.laneMarkedFor (perm : Bool) : Block :=
  if perm then (k.laneMarked p l).permanent 2 p l else k.laneMarked p l

theorem Block.retireLane_again {k : Block} {p l : Nat} (h : k.laneRetired p l = true) (d : Build) (perm : Bool) :
    k.retireLane d p l perm = k := if_pos h

/-- The last lane's retirement retires the port; another one's takes the lane out of the set asked for. -/
theorem Block.retireLane_first {k : Block} {p l : Nat} (h : k.laneRetired p l = false) (d : Build) (perm : Bool) :
    k.retireLane d p l perm = if (k.laneMarkedFor p l perm).lanesOf p = [] then
      ((k.laneMarkedFor p l perm).markPort false p).laneDown d p
    else ((k.laneMarkedFor p l perm).dropLane d p l).chooseIfAll d p := by
  have he : k.retireLane d p l perm = if k.laneRetired p l then k
    else if ((k.laneMarkedFor p l perm).lanesOf p).isEmpty then ((k.laneMarkedFor p l perm).markPort false p).laneDown d p
    else ((k.laneMarkedFor p l perm).dropLane d p l).chooseIfAll d p := rfl
  rw [he, if_neg (ne_true_of_eq_false h)]
  simp only [List.isEmpty_iff]

/-- A lane that is retired stands retired in LN_CTL. -/
theorem Block.laneRetired_retireLane (perm : Bool) : (k.retireLane d p l perm).laneRetired p l = true := by
  by_cases h : k.laneRetired p l = true
  · rw [Block.retireLane_again h, h]
  · have hmark : flag ((k.laneMarkedFor p l perm).reg .LN_CTL p [l]) 0 = true := by
      unfold Block.laneMarkedFor
      split
      · rw [Block.reg_lane_permanent _ rfl]
        exact k.laneRetired_laneMarked p l
      · exact k.laneRetired_laneMarked p l
    rw [Block.retireLane_first (Bool.eq_false_iff.2 h), Block.laneRetired]
    split
    · rw [Block.lnCtl_laneDown, Block.reg_lane_markPort _ rfl, hmark]
    · rw [Block.lnCtl_chooseIfAll, Block.lnCtl_dropLane, hmark]

end

end Sys2Proof.Machine
end

section
/-!
The statement about the training, the locking and the retirement of lanes (R426, R427, R435, R436, R450, R524).
-/

namespace Sys2Proof.Machine

/-! ### Lane states (R425 to R427) -/

theorem laneLOk_of {d : Build} {p l : Nat} (hp : p < d.lanePorts) (hl : l < 4) : laneLOk d p l = true := by
  simp [laneLOk, laneOk, hp, hl]

theorem Block.laneRx_setLaneRx (k : Block) (p l : Nat) (v : LaneRx) : (k.setLaneRx p l v).laneRx p l = v :=
  look_put_same ..

/-- A lane with its training results kept, waiting for a MARK. -/
def Block.laneTrained (k : Block) (p l : Nat) (eq : Word) : Block :=
  ({ k with lnk.eq := put 0 k.lnk.eq (p * 4 + l) eq } : Block).setLaneRx p l { k.laneRx p l with trained := true }

/-- A message alone leaves the links and the registers. -/
theorem Block.lnk_regs_sendIf (c : Prop) [Decidable c] (k : Block) (a : Answer) :
    (if c then k.send a else k).lnk = k.lnk ∧ (if c then k.send a else k).regs = k.regs := by
  split <;> exact ⟨rfl, rfl⟩

theorem exec_trainingDone (p l : Nat) (eq : Word) (s : State) : exec (.trainingDone p l eq) s =
    s.run (laneLOk s.env.build p l) fun k =>
      if k.laneState p l = laneTrain then
        if (k.laneTrained p l eq).trainingOver p then (k.laneTrained p l eq).send (.mark p ((k.laneTrained p l eq).lanesOf p))
        else k.laneTrained p l eq
      else k := rfl

/-- The lane takes a MARK in its state (R425, R426). -/
def Block.takesMark (k : Block) (p l : Nat) : Prop := (k.laneState p l = laneTrain ∧ (k.laneRx p l).trained = true) ∨
  k.laneState p l = laneExit ∨ k.laneState p l = laneHunt

/-- The lane hunts, kept there for its skew or not. -/
def Block.laneHunts (k : Block) (p l : Nat) (skewed : Bool) : Block :=
  (k.setLaneState p l laneHunt).setLaneRx p l { k.laneRx p l with skewed := skewed }

theorem exec_markCodeword (p l n : Nat) (skewed : Bool) (s : State) : exec (.markCodeword p l n skewed) s =
    s.run (laneLOk s.env.build p l) fun k =>
      if k.crosses (.lane p l) = true ∧ ((k.laneState p l = laneTrain ∧ (k.laneRx p l).trained = true) ∨
          k.laneState p l = laneExit ∨ k.laneState p l = laneHunt) then
        if skewed then (k.laneHunts p l skewed).bump .LN_CNT 15 0 p [l] else k.laneHunts p l skewed
      else k := rfl

section
variable {s : State} {p l n : Nat} {skewed : Bool}

theorem gives_markCodeword (hh : s.blk.held = false) (hp : p < s.env.build.lanePorts) (hl : l < 4)
    (hc : s.blk.crosses (.lane p l) = true) (ht : s.blk.takesMark p l) : Gives (.markCodeword p l n skewed) s
      (if skewed then (s.blk.laneHunts p l skewed).bump .LN_CNT 15 0 p [l] else s.blk.laneHunts p l skewed) :=
  gives_of_run (exec_markCodeword p l n skewed s) (laneLOk_of hp hl) hh (if_pos ⟨hc, ht⟩)

/-- Nothing comes from a lane before the handshake at its boundary is over (R497). -/
theorem gives_markCodeword_shut (hh : s.blk.held = false) (hp : p < s.env.build.lanePorts) (hl : l < 4)
    (hc : s.blk.crosses (.lane p l) = false) : Gives (.markCodeword p l n skewed) s s.blk :=
  gives_of_run (exec_markCodeword p l n skewed s) (laneLOk_of hp hl) hh
    (if_neg fun ⟨hx, _⟩ => Bool.false_ne_true (hc.symm.trans hx))

end

theorem exec_huntLock (p l : Nat) (s : State) : exec (.huntLock p l) s = s.run (laneLOk s.env.build p l) fun k =>
    if k.crosses (.lane p l) = true ∧ k.laneState p l = laneHunt ∧ (k.laneRx p l).skewed = false then
      ((k.setLaneState p l laneLocked).setLaneRx p l {}).chooseIfAll s.env.build p
    else k := rfl

theorem Block.laneState_enterTrain (k : Block) (p l : Nat) (c : Bool) : (k.enterTrain p l c).laneState p l = laneTrain := by
  rw [Block.enterTrain, Block.laneState_of_reg (Block.reg_setLaneRx ..), Block.laneState_setLaneState _ _ _ _ (by decide),
    if_pos rfl]

theorem Block.chooseSet_due {k : Block} {p : Nat} (hs : k.linkState false p = linkTraining) (hr : k.rxSet p = 0)
    (ha : (k.port false p).asked = none) (hm : laneMask ((k.lanesOf p).filter fun l => k.laneState p l == laneLocked) ≠ 0)
    (d : Build) : k.chooseSet d p =
      k.askSet d p (laneMask ((k.lanesOf p).filter fun l => k.laneState p l == laneLocked)) :=
  if_pos ⟨hs, hr, ha, hm⟩

/-! ### Signals (R436, R450) -/

theorem signalBit_range (sig : LaneSignal) : 57 ≤ signalBit sig ∧ signalBit sig ≤ 60 := by
  cases sig <;> decide

/-- A signal's bit is beside a lane's state. -/
theorem Block.laneState_signal (k : Block) (p l : Nat) (sig : LaneSignal) (v : Nat) :
    (k.setRf .LN_STAT (signalBit sig) (signalBit sig) p [l] v).laneState p l = k.laneState p l := by
  obtain ⟨hlo, hhi⟩ := signalBit_range sig
  exact k.rf_setRf_other .LN_STAT _ _ p [l] v 63 61 (by omega) (by omega) (by omega)

theorem Block.endLoss_over {k : Block} {p l : Nat} {lost : Bool} (h : lost = true ∧ k.laneLost p l = false ∧
    (k.laneState p l = laneHunt ∨ k.laneState p l = laneLocked)) (d : Build) :
    k.endLoss d p l lost = (k.enterTrain p l true).dropLane d p l :=
  if_pos (by simp [h])

theorem Block.endLoss_stays {k : Block} {p l : Nat} {lost : Bool} (h : ¬(lost = true ∧ k.laneLost p l = false ∧
    (k.laneState p l = laneHunt ∨ k.laneState p l = laneLocked))) (d : Build) : k.endLoss d p l lost = k :=
  if_neg (by simpa [and_assoc] using h)

theorem gives_losLolClear {s : State} {p l : Nat} (sig : LaneSignal) (hh : s.blk.held = false)
    (hp : p < s.env.build.lanePorts) (hl : l < 4) : Gives (.losLolClear p l sig) s
      ((s.blk.setRf .LN_STAT (signalBit sig) (signalBit sig) p [l] 0).endLoss s.env.build p l (s.blk.laneLost p l)) := by
  have he : exec (.losLolClear p l sig) s = s.run (laneLOk s.env.build p l) fun k =>
    (k.setRf .LN_STAT (signalBit sig) (signalBit sig) p [l] 0).endLoss s.env.build p l (k.laneLost p l) := rfl
  exact gives_of_run he (laneLOk_of hp hl) hh rfl

/-! ### FEC intervals (R436, R450, R524) -/

section
variable (k : Block) (p l : Nat)

theorem regAddr_lnMargin_ne_lnStat : regAddr .LN_MARGIN p [l] ≠ regAddr .LN_STAT p [l] := by
  simp [regAddr, regRow, pageBase, elemOff]

theorem regAddr_lnMargin_ne_lnCnt : regAddr .LN_MARGIN p [l] ≠ regAddr .LN_CNT p [l] := by
  simp [regAddr, regRow, pageBase, elemOff]

theorem regAddr_lnMargin_ne_lnkErr : regAddr .LN_MARGIN p [l] ≠ regAddr .LNK_ERR p [] := by
  simp [regAddr, regRow, pageBase, elemOff]
  omega

theorem regAddr_lnStat_ne_lnCnt : regAddr .LN_STAT p [l] ≠ regAddr .LN_CNT p [l] := by
  simp [regAddr, regRow, pageBase, elemOff]

theorem regAddr_lnStat_ne_lnkErr : regAddr .LN_STAT p [l] ≠ regAddr .LNK_ERR p [] := by
  simp [regAddr, regRow, pageBase, elemOff]
  omega

/-- The interval's codewords are counted, and UC100 shows it. -/
def Block.fecCounted (corr uncorr : Nat) : Block :=
  (((k.bump .LN_CNT 63 32 p [l] corr).bump .LN_CNT 31 16 p [l] uncorr).bump .LNK_ERR 31 16 p [] uncorr).setRf
    .LN_STAT 47 32 p [l] (min 65535 uncorr)

/-- The margin's peak and the length of its run are shown. -/
def Block.marginShown (pk run : Nat) : Block :=
  (k.setRf .LN_MARGIN 19 16 p [l] pk).setRf .LN_MARGIN 47 40 p [l] run

theorem Block.margin_fecCounted (corr uncorr : Nat) :
    (k.fecCounted p l corr uncorr).reg .LN_MARGIN p [l] = k.reg .LN_MARGIN p [l] := by
  rw [Block.fecCounted, Block.reg_setRf_other _ _ _ _ _ _ (regAddr_lnMargin_ne_lnStat p l), Block.bump,
    Block.reg_setRf_other _ _ _ _ _ _ (regAddr_lnMargin_ne_lnkErr p l), Block.bump,
    Block.reg_setRf_other _ _ _ _ _ _ (regAddr_lnMargin_ne_lnCnt p l), Block.bump,
    Block.reg_setRf_other _ _ _ _ _ _ (regAddr_lnMargin_ne_lnCnt p l)]

/-- The lane's state is no part of what is counted. -/
theorem Block.laneState_fecCounted (corr uncorr : Nat) :
    (k.fecCounted p l corr uncorr).laneState p l = k.laneState p l := by
  refine (Block.rf_setRf_other _ .LN_STAT 47 32 p [l] _ 63 61 (by omega) (by omega) (by omega)).trans ?_
  refine (Block.rf_setRf_ne _ 31 16 p [] _ 63 61 (regAddr_lnStat_ne_lnkErr p l)).trans ?_
  exact (Block.rf_setRf_ne _ 31 16 p [l] _ 63 61 (regAddr_lnStat_ne_lnCnt p l)).trans
    (Block.rf_setRf_ne _ 63 32 p [l] _ 63 61 (regAddr_lnStat_ne_lnCnt p l))

theorem Block.uc100_fecCounted (corr uncorr : Nat) :
    (k.fecCounted p l corr uncorr).rf .LN_STAT 47 32 p [l] = min 65535 uncorr :=
  Block.rf_setRf_fits _ .LN_STAT 47 32 p [l] (by omega) (by omega) (by omega)

theorem Block.stat_marginShown (pk run : Nat) : (k.marginShown p l pk run).reg .LN_STAT p [l] = k.reg .LN_STAT p [l] :=
  (Block.reg_setRf_other _ 47 40 p [l] run (regAddr_lnMargin_ne_lnStat p l).symm).trans
    (k.reg_setRf_other 19 16 p [l] pk (regAddr_lnMargin_ne_lnStat p l).symm)

theorem Block.run_marginShown (pk : Nat) {run : Nat} (h : run < 256) :
    (k.marginShown p l pk run).rf .LN_MARGIN 47 40 p [l] = run :=
  Block.rf_setRf_fits _ .LN_MARGIN 47 40 p [l] (by omega) (by omega) (by omega)

theorem Block.peak_marginShown {pk : Nat} (h : pk < 16) (run : Nat) :
    (k.marginShown p l pk run).rf .LN_MARGIN 19 16 p [l] = pk :=
  (Block.rf_setRf_other _ .LN_MARGIN 47 40 p [l] run 19 16 (by omega) (by omega) (by omega)).trans
    (k.rf_setRf_fits .LN_MARGIN 19 16 p [l] (by omega) (by omega) (by omega))

theorem Block.low_marginShown (pk run : Nat) :
    flag ((k.marginShown p l pk run).reg .LN_MARGIN p [l]) 20 = flag (k.reg .LN_MARGIN p [l]) 20 :=
  (Block.flag_setRf_other _ .LN_MARGIN 47 40 p [l] run 20 (by omega) (by omega) (by omega)).trans
    (k.flag_setRf_other .LN_MARGIN 19 16 p [l] pk 20 (by omega) (by omega) (by omega))

/-- The part of an interval that shows its margin: a run of sixteen highs raises the interrupt. -/
def Block.marginRow (pk run : Nat) (high : Bool) : Block :=
  if 16 ≤ run ∧ flag ((k.marginShown p l pk run).reg .LN_MARGIN p [l]) 20 = false then
    ((k.marginShown p l pk run).setBit .LN_MARGIN 20 p [l]).irq 1
  else if high then k.marginShown p l pk run else (k.marginShown p l pk run).setRf .LN_MARGIN 20 20 p [l] 0

theorem Block.fecCount_eq (corr uncorr peak : Nat) : k.fecCount p l corr uncorr peak =
    (k.fecCounted p l corr uncorr).marginRow p l (min 15 peak)
      (if decide ((k.fecCounted p l corr uncorr).rf .LN_MARGIN 35 32 p [l] < min 15 peak) then
        satAdd 255 ((k.fecCounted p l corr uncorr).rf .LN_MARGIN 47 40 p [l]) 1 else 0)
      (decide ((k.fecCounted p l corr uncorr).rf .LN_MARGIN 35 32 p [l] < min 15 peak)) := rfl

end

section
variable {k : Block} {p l peak : Nat}

/-- No high peak: the run is over, and the flag is clear. -/
theorem Block.fecCount_low (hpk : peak < 16) (h : peak ≤ k.rf .LN_MARGIN 35 32 p [l]) (corr uncorr : Nat) :
    k.fecCount p l corr uncorr peak =
      ((k.fecCounted p l corr uncorr).marginShown p l peak 0).setRf .LN_MARGIN 20 20 p [l] 0 := by
  have hm : (k.fecCounted p l corr uncorr).rf .LN_MARGIN 35 32 p [l] = k.rf .LN_MARGIN 35 32 p [l] := by
    rw [Block.rf, Block.margin_fecCounted, Block.rf]
  rw [Block.fecCount_eq, hm, Nat.min_eq_right (by omega), decide_eq_false (by omega), if_neg Bool.false_ne_true,
    Block.marginRow, if_neg (by omega), if_neg Bool.false_ne_true]

/-- A high peak lengthens the run; at sixteen the flag is set, once, with its interrupt. -/
theorem Block.fecCount_high (hpk : peak < 16) (h : k.rf .LN_MARGIN 35 32 p [l] < peak) (corr uncorr : Nat) :
    k.fecCount p l corr uncorr peak =
      (k.fecCounted p l corr uncorr).marginRow p l peak (min 255 (k.rf .LN_MARGIN 47 40 p [l] + 1)) true := by
  have hm : (k.fecCounted p l corr uncorr).reg .LN_MARGIN p [l] = k.reg .LN_MARGIN p [l] := k.margin_fecCounted ..
  rw [Block.fecCount_eq, Block.rf, Block.rf, hm, ← Block.rf, ← Block.rf, Nat.min_eq_right (by omega),
    decide_eq_true h, if_pos rfl, satAdd]

end

theorem Block.regsKept_fecCounted (k : Block) (p l corr uncorr : Nat) {addrs : List Nat}
    (hc : regAddr .LN_CNT p [l] ∈ addrs) (he : regAddr .LNK_ERR p [] ∈ addrs) (hs : regAddr .LN_STAT p [l] ∈ addrs) :
    k.regsKept (k.fecCounted p l corr uncorr) addrs :=
  Block.regsKept_trans (k.regsKept_setRf .LN_CNT 63 32 p [l] _ hc)
    (Block.regsKept_trans (Block.regsKept_setRf _ .LN_CNT 31 16 p [l] _ hc)
      (Block.regsKept_trans (Block.regsKept_setRf _ .LNK_ERR 31 16 p [] _ he)
        (Block.regsKept_setRf _ .LN_STAT 47 32 p [l] _ hs)))

theorem Block.regsKept_marginShown (k : Block) (p l pk run : Nat) {addrs : List Nat}
    (hm : regAddr .LN_MARGIN p [l] ∈ addrs) : k.regsKept (k.marginShown p l pk run) addrs :=
  Block.regsKept_trans (k.regsKept_setRf .LN_MARGIN 19 16 p [l] pk hm)
    (Block.regsKept_setRf _ .LN_MARGIN 47 40 p [l] run hm)

theorem Block.fecCounted_frame (k : Block) (p l corr uncorr : Nat) :
    k.fecCounted p l corr uncorr = { k with regs := (k.fecCounted p l corr uncorr).regs } :=
  Block.only_regs_trans (Block.only_regs_trans (Block.only_regs_trans (Block.setRf_frame ..) (Block.setRf_frame ..))
    (Block.setRf_frame ..)) (Block.setRf_frame ..)

theorem Block.marginShown_frame (k : Block) (p l pk run : Nat) :
    k.marginShown p l pk run = { k with regs := (k.marginShown p l pk run).regs } :=
  Block.only_regs_trans (Block.setRf_frame ..) (Block.setRf_frame ..)

theorem Block.marginRow_frame (k : Block) (p l pk run : Nat) : k.marginRow p l pk run true =
    { k with regs := (k.marginRow p l pk run true).regs, fresh := (k.marginRow p l pk run true).fresh } := by
  unfold Block.marginRow
  split
  · exact Block.only_regs_fresh_trans (Block.only_regs_trans (k.marginShown_frame ..) (Block.setRf_frame ..))
      (Block.irq_frame _ 1)
  · rw [if_pos rfl, Block.marginShown_frame]

/-- The run of a margin row that is high. -/
theorem Block.run_marginRow (k : Block) (p l pk : Nat) {run : Nat} (h : run < 256) :
    (k.marginRow p l pk run true).rf .LN_MARGIN 47 40 p [l] = run := by
  unfold Block.marginRow
  split
  · rw [Block.rf, Block.irq, Block.reg_event_other _ _ (regAddr_lane_ne_irqStat rfl p [l])]
    exact (Block.rf_setRf_other _ .LN_MARGIN 20 20 p [l] 1 47 40 (by omega) (by omega) (by omega)).trans
      (k.run_marginShown p l pk h)
  · rw [if_pos rfl, k.run_marginShown p l pk h]

/-- The flag of a margin row that is high: set from sixteen on, else as before. -/
theorem Block.low_marginRow (k : Block) (p l pk run : Nat) : flag ((k.marginRow p l pk run true).reg .LN_MARGIN p [l]) 20 =
    (decide (16 ≤ run) || flag (k.reg .LN_MARGIN p [l]) 20) := by
  unfold Block.marginRow
  rw [Block.low_marginShown]
  split
  · next h =>
    rw [Block.irq, Block.reg_event_other _ _ (regAddr_lane_ne_irqStat rfl p [l]),
      Block.flag_setBit_same _ .LN_MARGIN p [l] (by omega), decide_eq_true h.1, Bool.true_or]
  · next h =>
    rw [if_pos rfl, Block.low_marginShown]
    by_cases hr : 16 ≤ run
    · rw [decide_eq_true hr, Bool.true_or]
      exact (Bool.eq_false_or_eq_true _).resolve_right fun hf => h ⟨hr, hf⟩
    · rw [decide_eq_false hr, Bool.false_or]

theorem exec_fecInterval (p l corr uncorr peak : Nat) (s : State) : exec (.fecInterval p l corr uncorr peak) s =
    s.run (laneLOk s.env.build p l) fun k =>
      if k.laneState p l = laneOff then k.fecCount p l 0 0 0
      else if k.rf .LN_CTL 47 40 p [l] < uncorr then (k.fecCount p l corr uncorr peak).retireLane s.env.build p l true
      else k.fecCount p l corr uncorr peak := rfl

/-! ### Active sets (R435) -/

theorem Block.wantedSet_mapPort (k : Block) (p mask : Nat) :
    (k.mapPort false p fun v => { v with asked := some mask }).wantedSet p = mask := by
  rw [Block.wantedSet, Block.mapPort, Block.port_setPort, Option.getD_some]

theorem Block.askSet_some {mask : Nat} (h : mask ≠ 0) (k : Block) (d : Build) (p : Nat) : k.askSet d p mask =
    ((k.wakeTx p).send (.lset p mask false)).mapPort false p fun v => { v with asked := some mask } := if_neg h

theorem Block.dropLane_asked {k : Block} {p l : Nat} (h : (k.wantedSet p).testBit l = true) (d : Build) :
    k.dropLane d p l = k.askSet d p (k.wantedSet p - 2 ^ l) := if_pos h

/-- Settles O23: each command by the branch it takes, a lane's retirement by LN_CTL, which nothing behind it changes. -/
theorem lanesTrainLockAndRetire : Obligations.LanesTrainLockAndRetire := by
  unfold Obligations.LanesTrainLockAndRetire
  refine ⟨?trained, ?skewed, ?mark, ?lock, ?unlock, ?timeout, ?retrain, ?add, ?firstSet, ?shut, ?los, ?clear, ?losTimeout,
    ?fec, ?fecOff, ?fecLow, ?fecHigh, ?retire, ?release, fun k d p l h => Block.retireLane_again h d true, ?retireRow,
    ?drop, ?dropLast⟩
  case trained =>
    intro s p l eq hh hp hl hs
    obtain ⟨hlnk, hregs⟩ := Block.lnk_regs_sendIf ((s.blk.laneTrained p l eq).trainingOver p = true)
      (s.blk.laneTrained p l eq) (.mark p ((s.blk.laneTrained p l eq).lanesOf p))
    refine ⟨_, gives_of_run (exec_trainingDone p l eq s) (laneLOk_of hp hl) hh (if_pos hs), rfl, ?_, ?_, hregs⟩
    · rw [hlnk]
      exact look_put_same ..
    · rw [Block.laneRx, hlnk, ← Block.laneRx, Block.laneTrained, Block.laneRx_setLaneRx]
  case skewed =>
    intro s p l n hh hp hl hc ht
    exact gives_markCodeword hh hp hl hc ht
  case mark =>
    intro s p l n hh hp hl hc ht
    refine ⟨s.blk.laneHunts p l false, gives_markCodeword hh hp hl hc ht, ?_, ?_, ?_⟩
    · rw [Block.laneHunts, Block.laneRx_setLaneRx]
    · rw [Block.laneHunts, Block.laneState_of_reg (Block.reg_setLaneRx ..),
        Block.laneState_setLaneState _ _ _ _ (by decide), if_pos rfl]
    · rw [Block.laneHunts, Block.laneRx_setLaneRx]
  case lock =>
    exact fun s p l hh hp hl hc hs hk => gives_of_run (exec_huntLock p l s) (laneLOk_of hp hl) hh (if_pos ⟨hc, hs, hk⟩)
  case unlock =>
    intro s p l hh hp hl hs
    have he : exec (.huntUnlock p l) s = s.run (laneLOk s.env.build p l) fun k =>
      if k.laneState p l = laneLocked then
        ((k.setLaneState p l laneHunt).bump .LN_CNT 15 0 p [l]).dropLane s.env.build p l else k := rfl
    exact gives_of_run he (laneLOk_of hp hl) hh (if_pos hs)
  case timeout =>
    intro s p l hh hp hl hs
    have he : exec (.huntTimeout p l) s = s.run (laneLOk s.env.build p l) fun k =>
      if k.laneState p l = laneHunt then k.enterTrain p l true else k := rfl
    refine ⟨_, gives_of_run he (laneLOk_of hp hl) hh (if_pos hs), rfl, s.blk.laneState_enterTrain p l true, ?_⟩
    rw [Block.enterTrain, Block.laneRx_setLaneRx]
  case retrain =>
    intro s p l n h hh hp hl hs hr hf k
    have he : exec (.retrainCheck p l) s = s.run (laneLOk s.env.build p l) fun k =>
      if (k.laneRx p l).retrain && (k.laneState p l == laneTrain || k.laneState p l == laneHunt) then
        let f := k.failures k.flt.laneHist (p * 4 + l) 1000000
        let k := ({ k with flt.laneHist := f.2 } : Block).setRf .LN_STAT 51 48 p [l] (min 15 f.1)
        if k.rf .LN_CTL 35 32 p [l] ≤ f.1 then k.retireLane s.env.build p l true else k.enterTrain p l true
      else k := rfl
    refine gives_of_run he (laneLOk_of hp hl) hh ?_
    rw [hr, hs, hf, if_pos (by decide)]
  case add =>
    intro s p l hh hp hl hs hr hw h0
    have he : exec (.laneAddTimer p l) s = s.run (laneLOk s.env.build p l) fun k =>
      if k.laneState p l == laneLocked && !k.laneRetired p l && !(k.wantedSet p).testBit l && k.wantedSet p != 0 then
        k.askSet s.env.build p (k.wantedSet p + 2 ^ l) else k := rfl
    exact gives_of_run he (laneLOk_of hp hl) hh (if_pos (by simp [hs, hr, hw, h0]))
  case firstSet =>
    intro s p hh hp hs hr ha m hm
    have he : exec (.firstLockTimeout p) s = s.run (laneOk s.env.build p) fun k => k.chooseSet s.env.build p := rfl
    exact gives_of_run he (decide_eq_true hp) hh (Block.chooseSet_due hs hr ha hm _)
  case shut =>
    intro s p l n skewed hh hp hl hc
    refine ⟨gives_markCodeword_shut hh hp hl hc, ?_⟩
    exact gives_of_run (exec_huntLock p l s) (laneLOk_of hp hl) hh
      (if_neg fun ⟨hx, _⟩ => Bool.false_ne_true (hc.symm.trans hx))
  case los =>
    intro s p l sig hh hp hl
    have he : exec (.losLol p l sig) s = s.run (laneLOk s.env.build p l) fun k =>
      k.setBit .LN_STAT (signalBit sig) p [l] := rfl
    obtain ⟨-, hhi⟩ := signalBit_range sig
    exact ⟨_, gives_of_run he (laneLOk_of hp hl) hh rfl, rfl, s.blk.flag_setBit_same .LN_STAT p [l] (by omega),
      s.blk.laneState_signal p l sig 1⟩
  case clear =>
    intro s p l sig hh hp hl k
    have h := gives_losLolClear sig hh hp hl
    have hstate : k.laneState p l = s.blk.laneState p l := s.blk.laneState_signal p l sig 0
    split
    · next hc =>
      rwa [Block.endLoss_over (k := k) (by rw [hstate]; exact hc)] at h
    · next hc =>
      rwa [Block.endLoss_stays (k := k) (by rw [hstate]; exact hc)] at h
  case losTimeout =>
    intro s p l hh hp hl hs
    have he : exec (.losTimeout p l) s = s.run (laneLOk s.env.build p l) fun k =>
      if k.laneLost p l then k.retireLane s.env.build p l true else k := rfl
    exact gives_of_run he (laneLOk_of hp hl) hh (if_pos hs)
  case fec =>
    intro s p l corr uncorr peak hh hp hl hs n
    refine ⟨_, gives_of_run (exec_fecInterval p l corr uncorr peak s) (laneLOk_of hp hl) hh (if_neg hs), fun h => ?_,
      fun h => ?_⟩
    · exact if_neg (by omega)
    · rw [if_pos h]
      exact ⟨rfl, Block.laneRetired_retireLane ..⟩
  case fecOff =>
    exact fun s p l corr uncorr peak hh hp hl hs =>
      gives_of_run (exec_fecInterval p l corr uncorr peak s) (laneLOk_of hp hl) hh (if_pos hs)
  case fecLow =>
    intro k p l corr uncorr peak _ hpk h n
    have hn : n = ((k.fecCounted p l corr uncorr).marginShown p l peak 0).setRf .LN_MARGIN 20 20 p [l] 0 :=
      Block.fecCount_low hpk h corr uncorr
    have hstat : n.reg .LN_STAT p [l] = (k.fecCounted p l corr uncorr).reg .LN_STAT p [l] := by
      rw [hn, Block.reg_setRf_other _ _ _ _ _ _ (regAddr_lnMargin_ne_lnStat p l).symm, Block.stat_marginShown]
    refine ⟨?_, ?_, ?_, ?_, ?_, ?_, ?_⟩
    · rw [hn]
      exact Block.only_regs_trans (Block.only_regs_trans (k.fecCounted_frame ..) (Block.marginShown_frame ..))
        (Block.setRf_frame ..)
    · rw [hn]
      exact Block.regsKept_trans (k.regsKept_fecCounted p l corr uncorr (.head _) (.tail _ (.head _))
          (.tail _ (.tail _ (.head _))))
        (Block.regsKept_trans (Block.regsKept_marginShown _ p l peak 0 (.tail _ (.tail _ (.tail _ (.head _)))))
          (Block.regsKept_setRf _ _ _ _ _ _ _ (.tail _ (.tail _ (.tail _ (.head _))))))
    · rw [Block.rf, hstat, ← Block.rf, Block.uc100_fecCounted]
    · rw [Block.laneState_of_reg hstat, Block.laneState_fecCounted]
    · rw [hn, Block.rf_setRf_other _ _ _ _ _ _ _ _ _ (by omega) (by omega) (by omega), Block.peak_marginShown _ _ _ hpk]
    · rw [hn, Block.rf_setRf_other _ _ _ _ _ _ _ _ _ (by omega) (by omega) (by omega),
        Block.run_marginShown _ _ _ _ (by omega)]
    · rw [hn]
      exact Block.flag_setRf_same _ .LN_MARGIN 20 p [l] false (by omega)
  case fecHigh =>
    intro k p l corr uncorr peak _ hpk h n
    have hn : n = (k.fecCounted p l corr uncorr).marginRow p l peak (min 255 (k.rf .LN_MARGIN 47 40 p [l] + 1)) true :=
      Block.fecCount_high hpk h corr uncorr
    refine ⟨?_, ?_, fun hr => ?_, fun hr => ?_⟩
    · rw [hn, Block.marginRow_frame, Block.fecCounted_frame]
    · rw [hn, Block.run_marginRow _ _ _ _ (by omega)]
    · rw [hn, Block.low_marginRow, decide_eq_true (by omega), Bool.true_or]
    · rw [hn, Block.low_marginRow, decide_eq_false (by omega), Bool.false_or, Block.margin_fecCounted]
  case retire =>
    intro s p l v hh hc hp hl hv
    have he : exec (.laneRetire p l v) s = s.access (laneLOk s.env.build p l) 0 .mp fun k =>
      (k.writeLnCtl s.env.build p l v).answerWrite 0 .mp := rfl
    exact gives_mp he (laneLOk_of hp hl) hh hc (by rw [Block.writeLnCtl, if_pos hv])
  case release =>
    intro s p l v hh hc hp hl hv
    have he : exec (.laneRelease p l v) s = s.access (laneLOk s.env.build p l) 0 .mp fun k =>
      (k.writeLnCtl s.env.build p l v).answerWrite 0 .mp := rfl
    exact gives_mp he (laneLOk_of hp hl) hh hc (by rw [Block.writeLnCtl, if_neg (ne_true_of_eq_false hv)])
  case retireRow =>
    exact fun k d p l perm h => Block.retireLane_first h d perm
  case drop =>
    intro k d p l hb hw
    have hle : 2 ^ l ≤ k.wantedSet p := Nat.ge_two_pow_of_testBit hb
    rw [Block.dropLane_asked hb, Block.askSet_some (by omega)]
    exact ⟨Block.wantedSet_mapPort .., rfl⟩
  case dropLast =>
    intro k d p l hb hw
    rw [Block.dropLane_asked hb, hw, Nat.sub_self]
    rfl

end Sys2Proof.Machine
end


section
/-!
The statement about the reset state (R45, R68, R122, R210, R221, R373, R427, R534).
-/

namespace Sys2Proof.Machine

theorem memByte_nil (key : Nat) : memByte [] key = 0 := rfl

theorem resetStateOfTheBlock : Obligations.ResetStateOfTheBlock := by
  have hs : ∀ b u, State.reset.blk.stream b u = {} := fun _ _ => rfl
  have ht : ∀ b t, State.reset.blk.tracker b t = {} := fun _ _ => rfl
  have hr : ∀ b r, State.reset.blk.ringOf b r = {} := fun _ _ => rfl
  exact ⟨rfl, rfl, rfl, rfl, rfl, rfl, fun b u => by rw [hs], fun _ _ => rfl, fun b t => by rw [ht],
    fun b r => by rw [hr]; exact ⟨rfl, rfl⟩, fun _ => rfl, rfl, fun _ _ => rfl, memByte_nil, fun _ _ _ => rfl⟩

end Sys2Proof.Machine
end


section
/-!
Program words from their fields: what the fields of an encoded word read, and that decoding gives the instruction back
(R31 to R33, R98, R202, R254).
-/

namespace Sys2Proof.Machine

/-! ### Fields of a sum of fields -/

theorem bits_eq (n hi lo : Nat) : bits n hi lo = n / 2 ^ lo % 2 ^ (hi + 1 - lo) := by
  rw [bits, Nat.shiftRight_eq_div_pow]

theorem bits_lt (n hi lo : Nat) : bits n hi lo < 2 ^ (hi + 1 - lo) := Nat.mod_lt _ (Nat.two_pow_pos _)

theorem bits_self {n hi : Nat} (h : n < 2 ^ (hi + 1)) : bits n hi 0 = n := by
  rw [bits_eq, Nat.pow_zero, Nat.div_one, Nat.sub_zero, Nat.mod_eq_of_lt h]

theorem bits_high {n hi lo : Nat} (h : n < 2 ^ lo) : bits n hi lo = 0 := by
  rw [bits_eq, Nat.div_eq_of_lt h, Nat.zero_mod]

/-- A field at or above a cut reads the number above it. -/
theorem bits_above (a : Nat) {x k hi lo : Nat} (hx : x < 2 ^ k) (hk : k ≤ lo) (hl : lo ≤ hi) :
    bits (a * 2 ^ k + x) hi lo = bits a (hi - k) (lo - k) := by
  obtain ⟨j, rfl⟩ := Nat.exists_eq_add_of_le hk
  have hd : (a * 2 ^ k + x) / 2 ^ k = a := by
    rw [Nat.mul_comm, Nat.mul_add_div (Nat.two_pow_pos k), Nat.div_eq_of_lt hx, Nat.add_zero]
  rw [bits_eq, bits_eq, Nat.pow_add, ← Nat.div_div_eq_div_mul, hd, Nat.add_sub_cancel_left]
  congr 2
  omega

/-- A field depends on the bits up to its highest alone. -/
theorem bits_mod (n : Nat) {k hi lo : Nat} (h : hi < k) : bits (n % 2 ^ k) hi lo = bits n hi lo := by
  rcases Nat.lt_or_ge hi lo with hl | hl
  · simp [bits_eq, show hi + 1 - lo = 0 by omega, Nat.mod_one]
  · obtain ⟨j, rfl⟩ := Nat.exists_eq_add_of_le (show lo ≤ k by omega)
    rw [bits_eq, bits_eq, Nat.pow_add, Nat.mod_mul_right_div_self, Nat.mod_mod_of_dvd]
    exact Nat.pow_dvd_pow 2 (by omega)

/-- A field below a cut reads the number below it. -/
theorem bits_below (a x : Nat) {k hi lo : Nat} (hk : hi < k) : bits (a * 2 ^ k + x) hi lo = bits x hi lo := by
  rw [← bits_mod (a * 2 ^ k + x) hk, Nat.mul_add_mod_self_right, bits_mod x hk]

theorem bits_mul_above (a : Nat) {k hi lo : Nat} (hk : k ≤ lo) (hl : lo ≤ hi) :
    bits (a * 2 ^ k) hi lo = bits a (hi - k) (lo - k) := bits_above a (Nat.two_pow_pos k) hk hl

theorem bits_mul_below (a : Nat) {k hi lo : Nat} (hk : hi < k) : bits (a * 2 ^ k) hi lo = 0 :=
  (bits_below a 0 hk).trans (bits_high (Nat.two_pow_pos lo))

/-- A field is its upper part and its lower part. -/
theorem bits_split (n hi m lo : Nat) (hl : lo < m) (hm : m ≤ hi) :
    bits n hi lo = bits n hi m * 2 ^ (m - lo) + bits n (m - 1) lo := by
  obtain ⟨j, rfl⟩ := Nat.exists_eq_add_of_lt hl
  obtain ⟨i, rfl⟩ := Nat.exists_eq_add_of_le hm
  rw [bits_eq, bits_eq, bits_eq, show lo + j + 1 + i + 1 - lo = j + 1 + (i + 1) by omega,
    show lo + j + 1 + i + 1 - (lo + j + 1) = i + 1 by omega, show lo + j + 1 - lo = j + 1 by omega,
    show lo + j + 1 - 1 + 1 - lo = j + 1 by omega, show lo + j + 1 = lo + (j + 1) by omega, Nat.pow_add 2 lo,
    ← Nat.div_div_eq_div_mul, Nat.pow_add 2 (j + 1), Nat.mod_mul, Nat.mul_comm, Nat.add_comm]

theorem testBit_eq_bits (n i : Nat) : n.testBit i = decide (bits n i i = 1) := by
  simp [bits, Nat.testBit, bne]

theorem b2n_testBit (n i : Nat) : b2n (n.testBit i) = bits n i i := by
  have h := bits_lt n i i
  rw [show i + 1 - i = 1 by omega] at h
  rw [testBit_eq_bits, b2n]
  by_cases hb : bits n i i = 1
  · simp [hb]
  · simp only [hb, decide_false, Bool.false_eq_true, if_false]
    omega

theorem b2n_lt (c : Bool) : b2n c < 2 := by cases c <;> decide

theorem bits_b2n (c : Bool) : bits (b2n c) 0 0 = b2n c := bits_self (b2n_lt c)

theorem b2n_eq_one (c : Bool) : b2n c = 1 ↔ c = true := by cases c <;> decide

/-- The upper fields of a word, its operands below (R31). -/
theorem frame_eq (cls op : Nat) (evt : Bool) (sf x : Nat) :
    frame cls op evt sf x = cls * 2 ^ 62 + (op * 2 ^ 56 + (b2n evt * 2 ^ 54 + (sf * 2 ^ 48 + x))) := by
  simp only [frame, Nat.add_assoc]

/-- What the fields of a word read (R31): its class, OP, EVT and SFLAGS, and below them those of the operands `x`. -/
structure IsFrame (cls op : Nat) (evt : Bool) (sf x w : Nat) : Prop where
  ok : frameOk cls w = true
  op : wf w 61 56 = op
  evt : wordEvt w = evt
  flags : ∀ hi lo, 48 ≤ lo → lo ≤ hi → hi < 52 → bits w hi lo = bits sf (hi - 48) (lo - 48)
  low : ∀ hi lo, hi < 48 → bits w hi lo = bits x hi lo
  halt : bits w 51 0 = sf * 2 ^ 48 + x

theorem isFrame_frame {cls op sf x : Nat} (evt : Bool) (hc : cls < 4) (ho : op < 2 ^ 6) (hs : sf < 2 ^ 4)
    (hx : x < 2 ^ 48) (he : cls = 1 → evt = false) : IsFrame cls op evt sf x (frame cls op evt sf x) := by
  rw [frame_eq]
  have hb := b2n_lt evt
  generalize hw : cls * 2 ^ 62 + (op * 2 ^ 56 + (b2n evt * 2 ^ 54 + (sf * 2 ^ 48 + x))) = w
  have hcls : bits w 63 62 = cls := by rw [← hw, bits_above _ (by omega) (by omega) (by omega), bits_self (by omega)]
  have hop : bits w 61 56 = op := by
    rw [← hw, bits_below _ _ (by omega), bits_above _ (by omega) (by omega) (by omega), bits_self ho]
  have hlow : ∀ hi lo, hi < 54 → bits w hi lo = bits (sf * 2 ^ 48 + x) hi lo := fun hi lo hh => by
    rw [← hw, bits_below _ _ (by omega), bits_below _ _ (by omega), bits_below _ _ hh]
  have h5554 : ∀ hi lo, 54 ≤ lo → lo ≤ hi → hi < 56 → bits w hi lo = bits (b2n evt) (hi - 54) (lo - 54) :=
    fun hi lo hl hm hh => by
      rw [← hw, bits_below _ _ (by omega), bits_below _ _ (by omega), bits_above _ (by omega) hl hm]
  have h54 : bits w 54 54 = b2n evt := by rw [h5554 _ _ (by omega) (by omega) (by omega), bits_b2n]
  refine ⟨?_, hop, ?_, ?_, ?_, ?_⟩
  · have h55 : bits w 55 55 = 0 := by rw [h5554 _ _ (by omega) (by omega) (by omega), bits_high hb]
    have h53 : bits w 53 52 = 0 := by rw [hlow _ _ (by omega), bits_high (by omega)]
    have hz : cls = 1 → b2n evt = 0 := fun h => by rw [he h]; rfl
    simpa [frameOk, hcls, h55, h53, h54, Decidable.or_iff_not_imp_left] using hz
  · rw [wordEvt, wf, h54]
    cases evt <;> rfl
  · intro hi lo hl hm hh
    rw [hlow _ _ (by omega), bits_above _ hx hl hm]
  · intro hi lo hh
    rw [hlow _ _ (by omega), bits_below _ _ hh]
  · rw [hlow _ _ (by omega), bits_self (by omega)]

/-- A word that the decoder reads from the fields of its frame comes back; its frame is legal and its EVT bit is read. -/
theorem decode_frame {α : Type} {f : Nat → Option α} {i : α} {cls op sf x : Nat} {evt : Bool} (hc : cls < 4)
    (ho : op < 2 ^ 6) (hs : sf < 2 ^ 4) (hx : x < 2 ^ 48) (he : cls = 1 → evt = false)
    (h : ∀ w, IsFrame cls op evt sf x w → f w = some i) :
    f (frame cls op evt sf x) = some i ∧ frameOk cls (frame cls op evt sf x) = true ∧
      wordEvt (frame cls op evt sf x) = evt :=
  have F := isFrame_frame evt hc ho hs hx he
  ⟨h _ F, F.ok, F.evt⟩

/-- SFLAGS as a sum of fields, the highest flag first. -/
theorem sflags2 (p q : Bool) : b2n p + 2 * b2n q = b2n q * 2 ^ 1 + b2n p := by omega

theorem sflags3 (p q r : Bool) : b2n p + 2 * b2n q + 4 * b2n r = b2n r * 2 ^ 2 + (b2n q * 2 ^ 1 + b2n p) := by omega

theorem sflags4 (p q r s : Bool) : b2n p + 2 * b2n q + 4 * b2n r + 8 * b2n s =
    b2n s * 2 ^ 3 + (b2n r * 2 ^ 2 + (b2n q * 2 ^ 1 + b2n p)) := by omega

theorem decodeCtl_encodeCtl {cls : Nat} (hc : cls < 4) (h1 : cls ≠ 1) {r : Bool} (o : CtlOp) (evt : Bool)
    (h : o.fits r = true) : decodeCtl r (encodeCtl cls evt o) = some o ∧
      frameOk cls (encodeCtl cls evt o) = true ∧ wordEvt (encodeCtl cls evt o) = evt := by
  cases o <;> simp only [CtlOp.fits, Bool.and_eq_true, decide_eq_true_eq] at h <;>
    refine decode_frame hc (by omega) (by omega) (by omega) (fun h => absurd h h1) fun w F => ?_
  case wait | loop =>
    simp only [decodeCtl, F.op]
    refine (if_pos ?_).trans ?_ <;>
    simp (disch := omega) only [F.flags, F.low, Nat.add_assoc, bits_above, bits_below,
      bits_self, bits_high, Nat.reduceSub, and_self]
  case signal c n =>
    simp only [decodeCtl, F.op]
    refine (if_pos ?_).trans ((if_pos ?_).trans ?_) <;>
    simp (disch := omega) only [F.flags, F.low, bits_above, bits_below,
      bits_self, bits_high, Nat.reduceSub]
  case signalR c en n =>
    have hs : wf w 51 48 = 1 := (F.flags 51 48 (by omega) (by omega) (by omega)).trans (bits_self (by omega))
    simp only [decodeCtl, F.op]
    refine (if_neg (by rw [hs]; decide)).trans ((if_pos ?_).trans ?_) <;>
    simp (disch := omega) only [F.flags, F.low, Nat.add_assoc, bits_above, bits_below,
      bits_self, Nat.reduceSub, h, and_self]
  case halt =>
    simp only [decodeCtl, F.op]
    exact if_pos F.halt

/-- By the flags that the instruction has in SFLAGS: none, one, two, and those of a segment's begin and end. -/
theorem decodeRdc_encodeRdc (i : RdcInstr) (evt : Bool) (h : i.fits = true) : decodeRdc (encodeRdc evt i) = some i ∧
    frameOk 2 (encodeRdc evt i) = true ∧ wordEvt (encodeRdc evt i) = evt := by
  cases i <;> simp only [RdcInstr.fits, Bool.and_eq_true, decide_eq_true_eq, bufOk, fmtOk, ktypeOk, beq_iff_eq] at h
  case ctl o =>
    obtain ⟨hd, hf, he⟩ := decodeCtl_encodeCtl (cls := 2) (by omega) (by omega) o evt h
    refine ⟨?_, hf, he⟩
    show decodeRdc (encodeCtl 2 evt o) = _
    rw [decodeRdc, if_pos hf, hd]
  case add | max | min | scale | expmax | align | gather | emit =>
    refine decode_frame (by omega) (by omega) (by omega) (by omega) nofun fun w F => ?_
    simp only [decodeRdc, decodeCtl, F.ok, F.op, if_true]
    refine (if_pos ?_).trans ?_ <;>
    simp (disch := omega) only [F.flags, F.low, Nat.add_assoc, bits_above, bits_below, bits_mul_above, bits_mul_below,
      bits_self, bits_high, Nat.reduceSub, bufOk, fmtOk, h, decide_true, and_self, ← Nat.pos_iff_ne_zero]
  case sort p _ _ | merge p _ _ | filter p _ _ _ | topk p _ _ _ _ =>
    have hp := b2n_lt p
    refine decode_frame (by omega) (by omega) (by omega) (by omega) nofun fun w F => ?_
    simp only [decodeRdc, decodeCtl, F.ok, F.op, if_true]
    refine (if_pos ?_).trans ?_ <;>
    simp (disch := omega) only [F.flags, F.low, Nat.add_assoc, bits_above, bits_below, bits_mul_above, bits_mul_below,
      bits_self, bits_high, Nat.reduceSub, bufOk, ktypeOk, h, decide_true, and_self, testBit_eq_bits,
      b2n_eq_one, Bool.decide_eq_true, ← Nat.pos_iff_ne_zero]
  case cvt p q _ _ _ _ =>
    have hp := b2n_lt p
    have hq := b2n_lt q
    refine decode_frame (by omega) (by omega) (by omega) (by omega) nofun fun w F => ?_
    rw [sflags2] at F
    simp only [decodeRdc, decodeCtl, F.ok, F.op, if_true]
    refine (if_pos ?_).trans ?_ <;>
    simp (disch := omega) only [F.flags, F.low, Nat.add_assoc, bits_above, bits_below, bits_mul_above, bits_mul_below,
      bits_self, bits_high, Nat.reduceSub, bufOk, fmtOk, h, decide_true, and_self, testBit_eq_bits, b2n_eq_one,
      Bool.decide_eq_true]
  case segin p q x _ _ _ =>
    have hp := b2n_lt p
    have hq := b2n_lt q
    have hx := b2n_lt x
    refine decode_frame (by omega) (by omega) (by omega) (by omega) nofun fun w F => ?_
    rw [sflags3] at F
    simp only [decodeRdc, decodeCtl, F.ok, F.op, if_true]
    refine (if_pos ?_).trans ?_ <;>
    simp (disch := omega) only [F.flags, F.low, Nat.add_assoc, bits_above, bits_below,
      bits_self, bits_high, Nat.reduceSub, and_self, testBit_eq_bits, b2n_eq_one, Bool.decide_eq_true]
  case segout p q x y _ _ flow =>
    obtain ⟨h, hflow⟩ := h
    have hz : flow = 0 ↔ x = true := by rw [hflow, beq_iff_eq]
    have hp := b2n_lt p
    have hq := b2n_lt q
    have hx := b2n_lt x
    have hy := b2n_lt y
    refine decode_frame (by omega) (by omega) (by omega) (by omega) nofun fun w F => ?_
    rw [sflags4] at F
    simp only [decodeRdc, decodeCtl, F.ok, F.op, if_true]
    refine (if_pos ?_).trans ?_ <;>
    simp (disch := omega) only [F.flags, F.low, Nat.add_assoc, bits_above, bits_below, bits_mul_above, bits_mul_below,
      bits_self, bits_high, Nat.reduceSub, bufOk, fmtOk, h, decide_true, and_self, testBit_eq_bits, b2n_eq_one,
      Bool.decide_eq_true, hz]

theorem descOpOf_opOfDesc (o : DescOp) : descOpOf (opOfDesc o) = some o := by cases o <;> rfl

theorem opOfDesc_range (o : DescOp) : 5 ≤ opOfDesc o ∧ opOfDesc o < 13 := by cases o <;> decide

theorem decodeCtl_none {r : Bool} {w : Nat} (h : 5 ≤ wf w 61 56) : decodeCtl r w = none := by
  unfold decodeCtl
  dsimp only
  split
  · omega
  · omega
  · omega
  · omega
  · rfl

theorem decodeXfer_encodeXfer (i : XferInstr) (evt : Bool) (h : i.fits = true) :
    decodeXfer (encodeXfer evt i) = some i ∧ frameOk 3 (encodeXfer evt i) = true ∧ wordEvt (encodeXfer evt i) = evt := by
  cases i with simp only [XferInstr.fits, Bool.and_eq_true, decide_eq_true_eq] at h
  | ctl o =>
    obtain ⟨hd, hf, he⟩ := decodeCtl_encodeCtl (cls := 3) (by omega) (by omega) o evt h
    refine ⟨?_, hf, he⟩
    show decodeXfer (encodeCtl 3 evt o) = _
    rw [decodeXfer, if_pos hf, hd]
  | desc o st da =>
    have ho := opOfDesc_range o
    refine decode_frame (by omega) (by omega) (by omega) (by omega) nofun fun w F => ?_
    have hop := F.op
    rw [decodeXfer, if_pos F.ok, decodeCtl_none (by omega), F.op]
    dsimp only
    rw [if_neg (by omega), descOpOf_opOfDesc]
    refine (if_pos ?_).trans ?_ <;>
    simp (disch := omega) only [F.flags, F.low, bits_above, bits_below, bits_self, bits_high, Nat.reduceSub, and_self]
  | fence =>
    refine decode_frame (by omega) (by omega) (by omega) (by omega) nofun fun w F => ?_
    have hop := F.op
    rw [decodeXfer, if_pos F.ok, decodeCtl_none (by omega), F.op]
    dsimp only
    rw [if_pos rfl]
    exact if_pos F.halt

theorem decodeCourse_encodeCourse (i : CourseInstr) (h : i.fits = true) : decodeCourse (encodeCourse i) = some i := by
  cases i <;> simp only [CourseInstr.fits, Bool.and_eq_true, decide_eq_true_eq] at h
  case mark wr =>
    have hwr := b2n_lt wr
    refine (decode_frame (by omega) (by omega) (by omega) (by omega) (fun _ => rfl) fun w F => ?_).1
    simp only [decodeCourse, F.ok, F.op, if_true]
    refine (if_pos ?_).trans ?_ <;>
    simp (disch := omega) only [F.flags, F.low,
      bits_self, bits_high, Nat.reduceSub, and_self, testBit_eq_bits, b2n_eq_one, Bool.decide_eq_true]
  all_goals
    refine (decode_frame (by omega) (by omega) (by omega) (by omega) (fun _ => rfl) fun w F => ?_).1
    simp only [decodeCourse, F.ok, F.op, if_true]
    refine (if_pos ?_).trans ?_ <;>
    simp (disch := omega) only [F.flags, F.low, Nat.add_assoc, bits_above, bits_below, bits_mul_above, bits_mul_below,
      bits_self, bits_high, Nat.reduceSub, h, and_self, ← Nat.pos_iff_ne_zero]

/-- Settles O9: each class of words by its instructions, a word's fields being those of the frame that it is built from. -/
theorem wiloriDecodeOfEncode : Obligations.WiloriDecodeOfEncode := by
  refine ⟨fun i evt h => ?_, fun i evt h => ?_, decodeCourse_encodeCourse⟩
  · obtain ⟨hd, _, he⟩ := decodeXfer_encodeXfer i evt h
    exact ⟨hd, he⟩
  · obtain ⟨hd, _, he⟩ := decodeRdc_encodeRdc i evt h
    exact ⟨hd, he⟩

end Sys2Proof.Machine
end


section
/-!
Program words to their fields: a legal word is the sum of the fields that its instruction carries (R31 to R33, R98, R202,
R254).
-/

namespace Sys2Proof.Machine

/-! ### From the fields of a word to the word -/

theorem bits_width {n hi lo k : Nat} (h : hi + 1 = lo + k) : bits n hi lo < 2 ^ k := by
  have := bits_lt n hi lo
  rwa [h, Nat.add_sub_cancel_left] at this

theorem bits_bit_lt (n i : Nat) : bits n i i < 2 := bits_width (k := 1) rfl

theorem b2n_wordEvt (w : Nat) : b2n (wordEvt w) = bits w 54 54 := by
  rw [← b2n_testBit, testBit_eq_bits]
  rfl

/-- A word with a legal frame is built from its own fields. -/
theorem frame_of_fields {cls op sf x w : Nat} (hw : w < 2 ^ 64) (hf : frameOk cls w = true) (ho : wf w 61 56 = op)
    (hs : wf w 51 48 = sf) (hx : wf w 47 0 = x) : frame cls op (wordEvt w) sf x = w := by
  simp only [frameOk, Bool.and_eq_true, beq_iff_eq] at hf
  obtain ⟨⟨⟨hc, h55⟩, h53⟩, -⟩ := hf
  rw [frame, b2n_wordEvt]
  simp only [bits_eq] at *
  omega

/-- A control operation that a word spells has that word, and fits. -/
theorem encodeCtl_decodeCtl {cls w : Nat} {r : Bool} {o : CtlOp} (hw : w < 2 ^ 64) (hf : frameOk cls w = true)
    (h : decodeCtl r w = some o) : encodeCtl cls (wordEvt w) o = w ∧ o.fits r = true := by
  unfold decodeCtl at h
  dsimp only at h
  split at h
  · next hop =>
    split at h
    · next hc =>
      cases h
      refine ⟨frame_of_fields hw hf hop hc ?_, ?_⟩
      · simp only [bits_eq] at *; omega
      · simp (disch := omega) only [CtlOp.fits, Bool.and_eq_true, decide_eq_true_eq, bits_width, and_self]
    · cases h
  · next hop =>
    split at h
    · next hs =>
      split at h
      · next hc =>
        cases h
        refine ⟨frame_of_fields hw hf hop hs ?_, ?_⟩
        · simp only [bits_eq] at *; omega
        · simp (disch := omega) only [CtlOp.fits, Bool.and_eq_true, decide_eq_true_eq, bits_width, and_self]
      · cases h
    · split at h
      · next hc =>
        cases h
        obtain ⟨hs, hr⟩ := hc
        refine ⟨frame_of_fields hw hf hop hs ?_, ?_⟩
        · simp only [bits_eq] at *; omega
        · simp (disch := omega) only [CtlOp.fits, Bool.and_eq_true, decide_eq_true_eq, bits_width, hr, and_self]
      · cases h
  · next hop =>
    split at h
    · next hc =>
      cases h
      obtain ⟨hs, hz⟩ := hc
      refine ⟨frame_of_fields hw hf hop hs ?_, ?_⟩
      · simp only [bits_eq] at *; omega
      · simp (disch := omega) only [CtlOp.fits, Bool.and_eq_true, decide_eq_true_eq, bits_width, and_self]
    · cases h
  · next hop =>
    split at h
    · next hc =>
      cases h
      refine ⟨frame_of_fields hw hf hop ?_ ?_, rfl⟩
      · simp only [bits_eq] at *; omega
      · simp only [bits_eq] at *; omega
    · cases h
  · cases h

/-! ### A word cut into adjoining fields -/

/-- The value of bits [hi-1:0] of a number as the sum of the fields that begin at the bits of a list, highest first, and
of what is below them. -/
def cutSum (n : Nat) : Nat → List Nat → Nat
  | hi, [] => bits n (hi - 1) 0
  | hi, m :: l => bits n (hi - 1) m * 2 ^ m + cutSum n m l

/-- The list falls from below `hi` and stays above bit 0. -/
def cutsFall : Nat → List Nat → Bool
  | _, [] => true
  | hi, m :: l => decide (0 < m) && decide (m < hi) && cutsFall m l

theorem bits_cut (n : Nat) {hi m : Nat} (h0 : 0 < m) (hm : m < hi) :
    bits n (hi - 1) 0 = bits n (hi - 1) m * 2 ^ m + bits n (m - 1) 0 := by
  have hpow : 2 ^ hi = 2 ^ m * 2 ^ (hi - m) := by rw [← Nat.pow_add, Nat.add_sub_cancel' hm.le]
  simp only [bits, Nat.shiftRight_eq_div_pow, pow_zero, Nat.div_one, Nat.sub_zero, Nat.sub_add_cancel h0,
    Nat.sub_add_cancel (h0.trans hm)]
  rw [hpow, Nat.mod_mul, Nat.mul_comm, Nat.add_comm]

theorem bits_eq_cutSum (n : Nat) {hi : Nat} {l : List Nat} (h : cutsFall hi l = true) :
    bits n (hi - 1) 0 = cutSum n hi l := by
  induction l generalizing hi with
  | nil => rfl
  | cons m l ih =>
    simp only [cutsFall, Bool.and_eq_true, decide_eq_true_eq] at h
    obtain ⟨⟨h0, hm⟩, hl⟩ := h
    rw [cutSum, ← ih hl, bits_cut n h0 hm]

/-- Where the fields of a reducer instruction's operands begin, its zero fields among them, by opcode (R254). -/
def rdcCuts : Nat → List Nat
  | 5 => [36, 28, 25, 24, 10]
  | 6 => [44, 40, 32, 20]
  | 7 => [44, 40, 36, 28]
  | 8 => [44, 40, 36, 28]
  | 9 => [44, 40, 36, 28]
  | 10 => [44, 40, 36, 32]
  | 11 => [44, 40, 36, 32]
  | 12 => [44, 40, 36, 28]
  | 13 => [44, 40, 36, 32]
  | 14 => [44, 40]
  | 15 => [44, 40, 36, 28]
  | 16 => [44, 40, 8]
  | 17 => [44, 40, 36, 32, 16]
  | 18 => [44, 40, 36, 32, 16]
  | 19 => [44, 16, 8]
  | _ => []

theorem cutsFall_rdcCuts (op : Nat) : cutsFall 48 (rdcCuts op) = true := by
  unfold rdcCuts
  split <;> rfl

theorem encodeRdc_of_decodeRdc {w : Nat} {i : RdcInstr} (hw : w < 2 ^ 64) (h : decodeRdc w = some i) :
    encodeRdc (wordEvt w) i = w := by
  unfold decodeRdc at h
  split at h
  case isFalse => cases h
  next hf =>
  split at h
  · next o ho =>
    cases h
    exact (encodeCtl_decodeCtl hw hf ho).1
  dsimp only at h
  have hcut := bits_eq_cutSum w (cutsFall_rdcCuts (wf w 61 56))
  split at h
  case h_16 => cases h
  all_goals
    next hop =>
    split at h
    case isFalse => cases h
    next hc =>
    cases h
    refine frame_of_fields hw hf hop ?_ ?_
    · clear hcut hop hw
      simp only [b2n_testBit, bits_eq] at hc ⊢
      omega
    · rw [hop] at hcut
      simpa only [rdcCuts, cutSum, Nat.reduceSub, hc, zero_mul, zero_add, add_zero, ← add_assoc, b2n_testBit] using hcut

theorem fits_of_decodeRdc {w : Nat} {i : RdcInstr} (hw : w < 2 ^ 64) (h : decodeRdc w = some i) : i.fits = true := by
  unfold decodeRdc at h
  split at h
  case isFalse => cases h
  next hf =>
  split at h
  · next o ho =>
    cases h
    exact (encodeCtl_decodeCtl hw hf ho).2
  dsimp only at h
  split at h
  case h_16 => cases h
  all_goals
    split at h
    case isFalse => cases h
    next hc =>
    cases h
    simp (disch := omega) only [RdcInstr.fits, Bool.and_eq_true, decide_eq_true_eq, bits_width, hc, and_self,
      Nat.pos_iff_ne_zero, ne_eq, not_false_eq_true, bits_bit_lt, testBit_eq_bits, beq_eq_decide]

theorem opOfDesc_of_descOpOf {n : Nat} {o : DescOp} (h : descOpOf n = some o) : opOfDesc o = n := by
  unfold descOpOf at h
  split at h <;> cases h <;> rfl

theorem encodeXfer_decodeXfer {w : Nat} {i : XferInstr} (hw : w < 2 ^ 64) (h : decodeXfer w = some i) :
    encodeXfer (wordEvt w) i = w ∧ i.fits = true := by
  unfold decodeXfer at h
  split at h
  case isFalse => cases h
  next hf =>
  split at h
  · next o ho =>
    cases h
    exact encodeCtl_decodeCtl hw hf ho
  split at h
  · next hop =>
    split at h
    · next hc =>
      cases h
      refine ⟨frame_of_fields hw hf hop ?_ ?_, rfl⟩
      · simp only [bits_eq] at *; omega
      · simp only [bits_eq] at *; omega
    · cases h
  split at h
  · next o ho =>
    split at h
    · next hc =>
      cases h
      refine ⟨frame_of_fields hw hf (opOfDesc_of_descOpOf ho).symm hc.1 ?_, ?_⟩
      · simp only [bits_eq] at *; omega
      · simp (disch := omega) only [XferInstr.fits, Bool.and_eq_true, decide_eq_true_eq, bits_width, and_self]
    · cases h
  · cases h

/-- A course word carries no EVT. -/
theorem wordEvt_of_course {w : Nat} (h : frameOk 1 w = true) : wordEvt w = false := by
  simp only [frameOk, Bool.and_eq_true, Bool.or_eq_true, bne_self_eq_false, Bool.false_eq_true, false_or, beq_iff_eq] at h
  simp [wordEvt, h.2]

theorem course_frame_of_fields {op sf x w : Nat} (hw : w < 2 ^ 64) (hf : frameOk 1 w = true) (ho : wf w 61 56 = op)
    (hs : wf w 51 48 = sf) (hx : wf w 47 0 = x) : frame 1 op false sf x = w :=
  wordEvt_of_course hf ▸ frame_of_fields hw hf ho hs hx

theorem encodeCourse_decodeCourse {w : Nat} {i : CourseInstr} (hw : w < 2 ^ 64) (h : decodeCourse w = some i) :
    encodeCourse i = w ∧ i.fits = true := by
  unfold decodeCourse at h
  split at h
  case isFalse => cases h
  next hf =>
  have hin : wf w 47 45 < 8 := bits_lt w 47 45
  dsimp only at h
  split at h
  case h_7 => cases h
  all_goals
    next hop =>
    split at h
    case isFalse => cases h
    next hc =>
    cases h
    refine ⟨course_frame_of_fields hw hf hop ?_ ?_, ?_⟩
    · simp only [b2n_testBit, bits_eq] at hc ⊢
      omega
    · simp only [bits_eq] at hc ⊢
      omega
    · simp (disch := omega) only [CourseInstr.fits, Bool.and_eq_true, decide_eq_true_eq, bits_width, hc, and_self,
        Nat.pos_iff_ne_zero, ne_eq, not_false_eq_true, hin]

/-- Settles O10: a word is the sum of its fields, and those that its instruction does not carry are zero. -/
theorem wiloriEncodeOfDecode : Obligations.WiloriEncodeOfDecode :=
  ⟨fun _ _ hw h => encodeXfer_decodeXfer hw h, fun _ _ hw h => ⟨encodeRdc_of_decodeRdc hw h, fits_of_decodeRdc hw h⟩,
    fun _ _ hw h => encodeCourse_decodeCourse hw h⟩

end Sys2Proof.Machine
end


section
/-!
What the control instructions leave of a stream, comparisons of counters and the iteration index (R29, R31, R35 to R37,
R40, R41).
-/

namespace Sys2Proof.Machine

/-! ### A second write of one entry -/

section
variable {α : Type}

theorem insert_insert (m : Store α) (k : Nat) (v w : α) : insert (insert m k v) k w = insert m k w := by
  induction m with
  | nil => simp [insert]
  | cons e r ih =>
    obtain ⟨j, x⟩ := e
    by_cases hj : j = k
    · simp [insert, hj]
    · by_cases hk : k < j <;> simp [insert, hj, hk, ih]

theorem erase_insert (m : Store α) (k : Nat) (v : α) : erase (insert m k v) k = erase m k := by
  induction m with
  | nil => simp [insert, erase]
  | cons e r ih =>
    obtain ⟨j, x⟩ := e
    by_cases hj : j = k
    · simp [insert, erase, hj]
    · by_cases hk : k < j <;> simp [insert, erase, hj, hk, ih]

/-- Of two writes of one entry the last stands, where the first is not of the default. -/
theorem put_put [DecidableEq α] {d v : α} (hv : v ≠ d) (m : Store α) (k : Nat) (w : α) :
    put d (put d m k v) k w = put d m k w := by
  have hput : put d m k v = insert m k v := if_neg hv
  rw [hput, put, put, erase_insert, insert_insert]

end

theorem Block.setStream_setStream {k : Block} {b u : Nat} {v : Stream} (hv : v ≠ {}) (w : Stream) :
    (k.setStream b u v).setStream b u w = k.setStream b u w := by
  simp only [Block.setStream, put_put hv]

theorem Stream.ne_default_of_running {v : Stream} (h : v.st = .running) : v ≠ {} := by
  rintro rfl
  cases h

/-! ### What a stream's own record leaves alone -/

/-- The record of a stream holds no program word: the word that a fetch finds stands. -/
theorem Block.curWord_mapStream {k : Block} {b u : Nat} {f : Stream → Stream} (hw : (f (k.stream b u)).word = (k.stream b u).word)
    (hp : (f (k.stream b u)).pc = (k.stream b u).pc) : (k.mapStream b u f).curWord b u = k.curWord b u := by
  rw [Block.curWord, Block.stream_mapStream, hw, hp]
  rfl

/-! ### Events leave the streams alone (R373 to R375) -/

theorem Block.streams_boxEvent (k : Block) (b : Nat) (ev : Event) : (k.boxEvent b ev).prog.streams = k.prog.streams := by
  unfold Block.boxEvent
  split <;> rfl

theorem Block.streams_ite (c : Prop) [Decidable c] (k m : Block) :
    (if c then k else m).prog.streams = if c then k.prog.streams else m.prog.streams := by
  split <;> rfl

theorem Block.streams_counterAdd (k : Block) (b c n : Nat) : (k.counterAdd b c n).prog.streams = k.prog.streams := rfl

theorem Block.streams_lpiTrigger (k : Block) (b line : Nat) : (k.lpiTrigger b line).prog.streams = k.prog.streams := rfl

theorem Block.streams_postEvent (k : Block) (b : Nat) (ev : Event) : (k.postEvent b ev).prog.streams = k.prog.streams := by
  unfold Block.postEvent
  extract_lets v q r _ k₁ k₂ k₃ k₄
  have h₄ : k₄.prog.streams = k.prog.streams := by
    simp [k₄, k₃, k₂, k₁, Block.streams_boxEvent, Block.streams_ite, Block.streams_lpiTrigger]
  split
  · rw [Block.streams_ite, Block.streams_boxEvent, ite_self, h₄]
  · exact h₄

theorem Block.streams_evtEvent (k : Block) (b u a : Nat) (evt : Bool) :
    (k.evtEvent b u a evt).prog.streams = k.prog.streams := by
  rw [Block.evtEvent, Block.streams_ite, Block.streams_postEvent, ite_self]

@[simp] theorem Block.stream_evtEvent (k : Block) (b u a : Nat) (evt : Bool) (b' u' : Nat) :
    (k.evtEvent b u a evt).stream b' u' = k.stream b' u' := by
  rw [Block.stream, Block.streams_evtEvent, Block.stream]

/-! ### Retiring (R31) -/

/-- The stream after its instruction has retired, from the next address on. -/
theorem Block.stream_retire (k : Block) (b u : Nat) (evt : Bool) : (k.retire b u evt).stream b u =
    { k.stream b u with st := .running, pc := (k.stream b u).pc + 1, hold := .none, word := none } := by
  rw [Block.retire, Block.stream_mapStream, Block.stream_evtEvent]

theorem Block.retire_quiet (k : Block) (b u : Nat) : k.retire b u false = k.setStream b u
    { k.stream b u with st := .running, pc := (k.stream b u).pc + 1, hold := .none, word := none } := rfl

/-! ### Loop counts (R35, R36) -/

/-- A lookup in a list without the entries of `a`. -/
theorem find?_without (l : List (Nat × Nat)) (a a' : Nat) :
    (l.filter fun x => x.1 != a).find? (fun x => x.1 == a') = if a' = a then none else l.find? fun x => x.1 == a' := by
  induction l with
  | nil => simp
  | cons x l ih =>
    by_cases hx : x.1 = a
    · by_cases ha : a' = a
      · simp [ha]
      · simp [hx, ih, ha, Ne.symm ha]
    · by_cases hx' : x.1 = a'
      · subst hx'
        simp [hx]
      · simp [hx, hx', ih]

/-- Without the count of a loop, its count is 0 and the others stand. -/
theorem Stream.taken_of_left {v w : Stream} {a : Nat} (h : w.loops = v.loops.filter fun x => x.1 != a) (a' : Nat) :
    w.taken a' = if a' = a then 0 else v.taken a' := by
  rw [Stream.taken, h, find?_without]
  split <;> rfl

/-- The count of a loop as last written, and the others as they were. -/
theorem Stream.taken_of_branch {v w : Stream} {a n : Nat} (h : w.loops = (v.loops.filter fun x => x.1 != a) ++ [(a, n)])
    (a' : Nat) : w.taken a' = if a' = a then n else v.taken a' := by
  rw [Stream.taken, h, List.find?_append, find?_without]
  by_cases ha : a' = a
  · simp [ha]
  · simp [ha, Ne.symm ha, Stream.taken]

/-! ### What a stream stands at -/

/-- A stream that stands at a control operation runs, and nothing holds it. -/
theorem Block.running_of_ctlFetch {k : Block} {b u : Nat} {x : CtlOp × Bool} (h : k.ctlFetch b u = some x) :
    (k.stream b u).st = .running ∧ (k.stream b u).hold = .none := by
  unfold Block.ctlFetch at h
  dsimp only at h
  split at h
  · next hr => exact ⟨hr.1, hr.2.1⟩
  · cases h

theorem State.run_stream {s : State} {b u : Nat} (hr : Ready s b) (hu : streamOk u = true) (f : Block → Block) :
    s.run (brickOk s.env.build b && streamOk u) f = .next { s with blk := f s.blk } := by
  rw [hr.2, hu]
  exact State.run_next s f hr.1

section
variable {s : State} {b u : Nat} {evt : Bool} (hr : Ready s b) (hu : streamOk u = true)
include hr hu

theorem gives_wait {o : CtlOp} (hf : s.blk.ctlFetch b u = some (o, evt)) :
    Gives (.wait b u) s (s.blk.waitOp b u o evt) := by
  have he : exec (.wait b u) s = s.run (brickOk s.env.build b && streamOk u) fun k =>
    match k.ctlFetch b u with
    | some (o, evt) => k.waitOp b u o evt
    | none => k := rfl
  rw [Gives, he, State.run_stream hr hu, hf]

theorem gives_loopBack {o : CtlOp} (hf : s.blk.ctlFetch b u = some (o, evt)) :
    Gives (.loopBack b u) s (s.blk.loopOp b u o evt) := by
  have he : exec (.loopBack b u) s = s.run (brickOk s.env.build b && streamOk u) fun k =>
    match k.ctlFetch b u with
    | some (o, evt) => k.loopOp b u o evt
    | none => k := rfl
  rw [Gives, he, State.run_stream hr hu, hf]

theorem gives_halt {o : CtlOp} (hf : s.blk.ctlFetch b u = some (o, evt)) :
    Gives (.halt b u) s (s.blk.haltOp s.env.build b u o evt) := by
  have he : exec (.halt b u) s = s.run (brickOk s.env.build b && streamOk u) fun k =>
    match k.ctlFetch b u with
    | some (o, evt) => k.haltOp s.env.build b u o evt
    | none => k := rfl
  rw [Gives, he, State.run_stream hr hu, hf]

theorem gives_waitSatisfied {k : Block} (hk : (if (s.blk.stream b u).st = .waiting ∧ (s.blk.stream b u).hold = .none ∧
    waitMet (s.blk.counter b (s.blk.stream b u).wcnt) (s.blk.stream b u).wtarget = true then
      s.blk.retire b u (wordEvt (s.blk.curWord b u).toNat) else s.blk) = k) : Gives (.waitSatisfied b u) s k :=
  (State.run_stream hr hu _).trans (by rw [← hk])

end

/-! ### WAIT (R36, R40) -/

/-- The block after a WAIT has computed its target. -/
def Block.targetSet (k : Block) (b u c st v : Nat) : Block :=
  k.mapStream b u fun x => { x with wcnt := c, wtarget := (v + st * k.iterIndex b u (k.stream b u).pc) % 2 ^ 32 }

theorem Block.waitOp_eq {k : Block} {b u : Nat} (hq : ¬(k.img.st = .quiescing ∧ isReducer u = false)) (c st v : Nat)
    (evt : Bool) : k.waitOp b u (.wait c st v) evt =
      if waitMet (k.counter b c) ((v + st * k.iterIndex b u (k.stream b u).pc) % 2 ^ 32) = true then
        (k.targetSet b u c st v).retire b u evt
      else (k.targetSet b u c st v).stay b u .waiting .none := if_neg hq

theorem Block.stay_targetSet (k : Block) (b u c st v : Nat) : (k.targetSet b u c st v).stay b u .waiting .none =
    (k.targetSet b u c st v).mapStream b u fun x =>
      { x with st := .waiting, hold := .none, word := some (k.curWord b u) } := by
  rw [Block.stay, Block.targetSet, Block.curWord_mapStream rfl rfl]

theorem waitMet_eq {c t : Nat} (ht : t < 2 ^ 32) : waitMet c t = decide ((c + 2 ^ 32 - t) % 2 ^ 32 < 2 ^ 31) := by
  rw [waitMet, serialLe, Nat.mod_eq_of_lt ht]

/-! ### LOOP (R35) -/

/-- The stream after a LOOP has branched to `t`. -/
def Stream.branched (v : Stream) (t : Nat) : Stream :=
  { v with pc := t, loops := (v.loops.filter fun x => x.1 != v.pc) ++ [(v.pc, v.taken v.pc + 1)] }

/-- The stream as a LOOP is left: its count starts again. -/
def Stream.loopLeft (v : Stream) : Stream := { v with loops := v.loops.filter fun x => x.1 != v.pc }

theorem Stream.taken_branched (v : Stream) (t a : Nat) :
    (v.branched t).taken a = if a = v.pc then v.taken v.pc + 1 else v.taken a := Stream.taken_of_branch rfl a

theorem Block.loopOp_branch {k : Block} {b u n : Nat} (h : n = 0 ∨ (k.stream b u).taken (k.stream b u).pc < n) (t : Nat)
    (evt : Bool) : k.loopOp b u (.loop n t) evt =
      (k.evtEvent b u (k.stream b u).pc evt).setStream b u ((k.stream b u).branched t) := by
  refine (if_pos h).trans ?_
  rw [Block.mapStream, Block.stream_evtEvent]
  rfl

theorem Block.loopOp_leave {k : Block} {b u n : Nat} (h : ¬(n = 0 ∨ (k.stream b u).taken (k.stream b u).pc < n)) (t : Nat)
    (evt : Bool) : k.loopOp b u (.loop n t) evt = (k.setStream b u (k.stream b u).loopLeft).retire b u evt := if_neg h

theorem Block.retire_loopLeft {k : Block} {b u : Nat} (h : (k.stream b u).st = .running) :
    (k.setStream b u (k.stream b u).loopLeft).retire b u false = k.setStream b u
      { (k.stream b u).loopLeft with st := .running, pc := (k.stream b u).pc + 1, hold := .none, word := none } := by
  have hne : (k.stream b u).loopLeft ≠ {} := Stream.ne_default_of_running h
  rw [Block.retire_quiet, Block.stream_setStream, Block.setStream_setStream hne]
  rfl

/-- Settles O11: each instruction by the branch it takes, and the stream as that leaves it. -/
theorem streamsWaitLoopHaltAndRetire : Obligations.StreamsWaitLoopHaltAndRetire := by
  unfold Obligations.StreamsWaitLoopHaltAndRetire
  refine ⟨?wait, ?satisfied, ?unsatisfied, ?branch, ?leave, ?halt, ?haltSlot, ?retire⟩
  case wait =>
    intro s b u c st v evt hr hu hq hf target k
    have hgives := gives_wait hr hu hf
    rw [Block.waitOp_eq hq, waitMet_eq (Nat.mod_lt _ (by omega)), Block.stay_targetSet] at hgives
    simp only [decide_eq_true_eq] at hgives
    exact hgives
  case satisfied =>
    exact fun s b u hr hu hst hh hm => gives_waitSatisfied hr hu (if_pos ⟨hst, hh, hm⟩)
  case unsatisfied =>
    exact fun s b u hr hu hm => gives_waitSatisfied hr hu (if_neg fun h => Bool.false_ne_true (hm.symm.trans h.2.2))
  case branch =>
    intro s b u n t hr hu hf hn
    refine ⟨_, gives_loopBack hr hu hf, ?_⟩
    obtain ⟨hrun, -⟩ := Block.running_of_ctlFetch hf
    rw [Block.loopOp_branch hn, Block.stream_setStream]
    exact ⟨rfl, rfl, hrun, (Stream.taken_branched _ _ _).trans (if_pos rfl)⟩
  case leave =>
    intro s b u n t hr hu hf hn hle
    refine ⟨_, gives_loopBack hr hu hf, ?_⟩
    obtain ⟨hrun, -⟩ := Block.running_of_ctlFetch hf
    rw [Block.loopOp_leave (by omega), Block.retire_loopLeft hrun, Block.stream_setStream]
    exact ⟨rfl, rfl, rfl⟩
  case halt =>
    intro s b u hr hu hq hf
    have hok : streamOk u = true := by simp [streamOk, hu]
    have hred : isReducer u = false := by simp [isReducer]; omega
    have hstop : ∀ k : Block, k.img = s.blk.img → k.quiesceStop b u = k := fun k h => if_neg fun h' => hq (h ▸ h'.1)
    have hgives := gives_halt hr hok hf
    simp only [Block.haltOp, hred, Block.evtEvent, Bool.false_eq_true, if_false] at hgives
    rwa [hstop (s.blk.mapStream b u _) rfl] at hgives
  case haltSlot =>
    intro s b sl hr hsl hf k
    have hok : streamOk (0x100 + sl) = true := by simp [streamOk]; omega
    have hred : isReducer (0x100 + sl) = true := by simp [isReducer]
    have hgives := gives_halt hr hok hf
    simp only [Block.haltOp, hred, Block.evtEvent, if_true, Bool.false_eq_true, if_false, Nat.add_sub_cancel_left] at hgives
    exact hgives
  case retire =>
    intro k b u
    exact ⟨k.retire_quiet b u, by rw [Block.stream_retire]⟩

/-! ### Adds and comparisons of counters (R29, R40) -/

theorem Block.counter_counterAdd (k : Block) (b c n : Nat) : (k.counterAdd b c n).counter b c = (k.counter b c + n) % 2 ^ 32 :=
  Block.counter_putCounter ..

/-- Settles O58: an add takes the sum modulo 2^32, and a WAIT's comparison is the difference modulo 2^32. -/
theorem incrementsCountAndWaitsCompare : Obligations.IncrementsCountAndWaitsCompare := by
  unfold Obligations.IncrementsCountAndWaitsCompare
  have hmet : ∀ c t : Nat, c < 2 ^ 32 → t < 2 ^ 32 → (waitMet c t = true ↔ (c + 2 ^ 32 - t) % 2 ^ 32 < 2 ^ 31) :=
    fun c t _ ht => by rw [waitMet_eq ht, decide_eq_true_eq]
  refine ⟨?adds, ?modular, ?reached, ?notReached⟩
  case adds =>
    intro k b c m n
    simp only [Block.counter_counterAdd]
    omega
  case modular =>
    intro c t hc ht
    rw [hmet c t hc ht]
    omega
  case reached =>
    intro c t hle hlt
    rw [hmet _ _ (Nat.mod_lt _ (by omega)) (Nat.mod_lt _ (by omega))]
    omega
  case notReached =>
    intro c t hlt hle
    rw [← Bool.not_eq_true, hmet _ _ (Nat.mod_lt _ (by omega)) (Nat.mod_lt _ (by omega))]
    omega

/-! ### The iteration index (R36) -/

/-- The loop at `a` has `pc` in its body. -/
def Block.loopAround (k : Block) (b u pc a : Nat) : Bool :=
  match k.loopTarget b u a with
  | some t => decide (t ≤ pc)
  | none => false

theorem Block.loopAround_iff (k : Block) (b u pc a : Nat) :
    k.loopAround b u pc a = true ↔ ∃ t, k.loopTarget b u a = some t ∧ t ≤ pc := by
  unfold Block.loopAround
  cases k.loopTarget b u a <;> simp

theorem Block.iterIndex_eq (k : Block) (b u pc : Nat) : k.iterIndex b u pc =
    match ((List.range (progSize u - pc)).map (· + pc)).find? (k.loopAround b u pc) with
    | some a => (k.stream b u).taken a
    | none => 0 := rfl

theorem mem_addressesFrom (n pc a : Nat) : a ∈ (List.range (n - pc)).map (· + pc) ↔ pc ≤ a ∧ a < n := by
  simp only [List.mem_map, List.mem_range]
  constructor
  · rintro ⟨i, hi, rfl⟩
    omega
  · exact fun h => ⟨a - pc, by omega, by omega⟩

/-- Outside every body the index is 0. -/
theorem Block.iterIndex_outside {k : Block} {b u pc : Nat}
    (h : ∀ a, pc ≤ a → a < progSize u → k.loopAround b u pc a = false) : k.iterIndex b u pc = 0 := by
  have hnone : ((List.range (progSize u - pc)).map (· + pc)).find? (k.loopAround b u pc) = none := by
    rw [List.find?_eq_none]
    intro a ha
    obtain ⟨hle, hlt⟩ := (mem_addressesFrom _ _ _).1 ha
    simp [h a hle hlt]
  rw [Block.iterIndex_eq, hnone]

/-- Of the loops around an address, the index is that of the lowest. -/
theorem Block.iterIndex_lowest {k : Block} {b u pc a : Nat} (hle : pc ≤ a) (hlt : a < progSize u)
    (ha : k.loopAround b u pc a = true) (hmin : ∀ a', pc ≤ a' → a' < a → k.loopAround b u pc a' = false) :
    k.iterIndex b u pc = (k.stream b u).taken a := by
  have hfind : ((List.range (progSize u - pc)).map (· + pc)).find? (k.loopAround b u pc) = some a := by
    have hrange : (List.range (progSize u - pc)).find? (k.loopAround b u pc ∘ (· + pc)) = some (a - pc) := by
      rw [List.find?_range_eq_some]
      refine ⟨?_, List.mem_range.2 (by omega), fun j hj => ?_⟩
      · simpa [Nat.sub_add_cancel hle] using ha
      · simp [hmin (j + pc) (by omega) (by omega)]
    rw [List.find?_map, hrange, Option.map_some, Nat.sub_add_cancel hle]
  rw [Block.iterIndex_eq, hfind]

/-- Settles O59: the lowest loop around an address is the innermost, and a LOOP changes its own count alone. -/
theorem iterationIndexIsTheInnermostLoops : Obligations.IterationIndexIsTheInnermostLoops := by
  unfold Obligations.IterationIndexIsTheInnermostLoops
  refine ⟨?outside, ?innermost, ?loop, ?wait⟩
  case outside =>
    intro k b u pc h
    refine Block.iterIndex_outside fun a hle hlt => ?_
    rw [← Bool.not_eq_true, Block.loopAround_iff]
    rintro ⟨t, ht, htle⟩
    have := h a t hle hlt ht
    omega
  case innermost =>
    intro k b u pc a t hle hlt ht htle hin
    refine Block.iterIndex_lowest hle hlt ((k.loopAround_iff ..).2 ⟨t, ht, htle⟩) fun a' hle' hlt' => ?_
    rw [← Bool.not_eq_true, Block.loopAround_iff]
    rintro ⟨t', ht', htle'⟩
    have := (hin a' t' hle' (by omega) ht' htle').2
    omega
  case loop =>
    intro s b u n t evt hr hu hf a branches
    refine ⟨_, gives_loopBack hr hu hf, ?_⟩
    by_cases hn : n = 0 ∨ (s.blk.stream b u).taken (s.blk.stream b u).pc < n
    · rw [Block.loopOp_branch hn]
      beta_reduce
      rw [Block.stream_setStream]
      refine ⟨fun _ => ⟨rfl, (Stream.taken_branched _ _ _).trans (if_pos rfl)⟩, fun h => absurd hn h, fun a' ha => ?_⟩
      exact (Stream.taken_branched _ _ _).trans (if_neg ha)
    · rw [Block.loopOp_leave hn]
      beta_reduce
      rw [Block.stream_retire, Block.stream_setStream]
      refine ⟨fun h => absurd h hn, fun _ => ⟨rfl, (Stream.taken_of_left rfl _).trans (if_pos rfl)⟩, fun a' ha => ?_⟩
      exact (Stream.taken_of_left rfl _).trans (if_neg ha)
  case wait =>
    intro s b u c st v evt hr hu hq hf
    refine ⟨_, gives_wait hr hu hf, ?_⟩
    rw [Block.waitOp_eq hq]
    split
    · rw [Block.stream_retire, Block.targetSet, Block.stream_mapStream]
      exact ⟨rfl, rfl⟩
    · rw [Block.stay_targetSet, Block.stream_mapStream, Block.targetSet, Block.stream_mapStream]
      exact ⟨rfl, rfl⟩

end Sys2Proof.Machine
end


section
/-!
RESTART while the compute domain is not ON (R49, R498, R499).
-/

namespace Sys2Proof.Machine

/-! ### RESTART while the compute domain is not ON (R49, R498, R499) -/

/-- A stream that cannot run stands at a RESTART. -/
theorem Block.restart_off {k : Block} {b u : Nat} (h : k.streamOn b u = false) (v : Word) : k.restart b u v = k := by
  simp [Block.restart, h]

theorem gives_restart_off {s : State} {b u : Nat} {v : Word} (hr : Ready s b) (hc : s.blk.crosses .managementPort = true)
    (hu : streamOk u = true) (h : s.blk.streamOn b u = false) : Gives (.restart b u v) s (s.blk.answerWrite b .mp) :=
  gives_mp (f := fun k => (k.restart b u v).answerWrite b .mp) rfl (by rw [hr.2, hu]; rfl) hr.1 hc (by
    rw [Block.restart_off h])

/-- A brick whose compute domain is OFF, with the stream of its slot 0 halted. -/
def haltedSlotOff : State :=
  { State.reset with
    blk := { regs := [(regAddr .PWR_BRK 0 [], 0x100)], prog := { streams := [(streamKey 0 0x100, { st := .halted })] } } }

/-- Refutes O12: its clause on RESTART has every halted stream run again, whatever its brick; but a slot's stream stands
while the compute domain of its brick is not ON (R498, R499). The counterexample: slot 0 of brick 0 halted, the domain
OFF. -/
theorem not_countersAddAndStreamsRestart : ¬ Obligations.CountersAddAndStreamsRestart := by
  unfold Obligations.CountersAddAndStreamsRestart
  rintro ⟨-, -, -, -, -, -, -, -, -, -, -, -, -, hrestart⟩
  have hr : Ready haltedSlotOff 0 := ⟨rfl, by decide⟩
  obtain ⟨k, hgives, -, hruns, -⟩ :=
    hrestart haltedSlotOff 0 0x100 (BitVec.ofNat 64 (2 ^ 63)) hr (by decide) (by decide) (by decide) (.inl (by decide))
  have hstands := gives_restart_off (v := BitVec.ofNat 64 (2 ^ 63)) hr (by decide) (by decide : streamOk 0x100 = true)
    (by decide : haltedSlotOff.blk.streamOn 0 0x100 = false)
  have hk : haltedSlotOff.blk.answerWrite 0 .mp = k := congrArg State.blk (Host.Outcome.next.inj (hstands.symm.trans hgives))
  rw [← hk] at hruns
  exact absurd hruns (by decide)

end Sys2Proof.Machine
end


section
/-!
What the target channel of the Local Port takes and answers (R58, R225, R228, R550, R551).
-/

namespace Sys2Proof.Machine

/-! ### Which requests the target channel takes (R495, R551) -/

/-- A request that stalls at the front of those owed keeps the later ones of its identifier out. -/
theorem Block.lpServes_stalled {k : Block} {b rid : Nat} {x : LpDue} {l : List LpDue}
    (h : look [] k.xfr.lpDue (b * 64 + rid % 64) = x :: l) (hx : x.stalls = true) (d : Build) : k.lpServes d b rid = false := by
  simp [Block.lpServes, h, hx]

theorem Block.lpServes_mod (k : Block) (d : Build) (b rid : Nat) : k.lpServes d b (rid % 64) = k.lpServes d b rid := by
  rw [Block.lpServes, Nat.mod_mod, Block.lpServes]

theorem Block.freePool_owe (k : Block) (b rid tag : Nat) (w : LpWait) (b' : Nat) :
    (k.owe b rid tag w).freePool b' = k.freePool b' := rfl

/-! ### LP operations (R225, R228, R550) -/

section
variable {k : Block} {e : Env} {b : Nat} {o : LpOp} (hs : k.lpServes e.build b o.rid = true)
include hs

theorem Block.lpOperation_illegal (h : lpRange o.addr o.len = false) : k.lpOperation e b o = k.badRequest b o.rid o.tag := by
  simp [Block.lpOperation, hs, h]

variable (h : lpRange o.addr o.len = true)
include h

theorem Block.lpOperation_starts {t : Nat} (hp : k.freePool b = some t) (hn : look [] k.xfr.lpHeld b = []) :
    k.lpOperation e b o = (k.owe b o.rid o.tag .held).startLp e b t o := by
  have hp' : (k.owe b o.rid o.tag .held).freePool b = some t := hp
  have hn' : look [] (k.owe b o.rid o.tag .held).xfr.lpHeld b = [] := hn
  simp [Block.lpOperation, hs, h, hp', hn']

theorem Block.lpOperation_held (hp : k.freePool b = none) : k.lpOperation e b o = { k.owe b o.rid o.tag .held with
    xfr.lpHeld := put [] (k.owe b o.rid o.tag .held).xfr.lpHeld b
      (look [] (k.owe b o.rid o.tag .held).xfr.lpHeld b ++ [o]) } := by
  have hp' : (k.owe b o.rid o.tag .held).freePool b = none := hp
  simp [Block.lpOperation, hs, h, hp']

end

theorem Block.lpOperation_shut {k : Block} {e : Env} {b : Nat} {o : LpOp} (h : k.lpServes e.build b o.rid = false) :
    k.lpOperation e b o = k := by
  simp [Block.lpOperation, h]

section
variable {s : State} {b : Nat} (hr : Ready s b)
include hr

theorem gives_lpLoad (rid tag addr n : Nat) : Gives (.lpLoad b rid tag addr n) s
    (s.blk.lpOperation s.env b { rid := rid % 64, tag := tag, addr := addr, len := n, data := none }) :=
  State.run_brick hr fun k =>
    k.lpOperation s.env b { rid := rid % 64, tag := tag, addr := addr, len := n, data := none }

theorem gives_lpStore (rid tag addr : Nat) (data : List Byte) : Gives (.lpStore b rid tag addr data) s
    (s.blk.lpOperation s.env b { rid := rid % 64, tag := tag, addr := addr, len := data.length, data := some data }) :=
  State.run_brick hr fun k =>
    k.lpOperation s.env b { rid := rid % 64, tag := tag, addr := addr, len := data.length, data := some data }

end

/-! ### Answers in the order of the requests (R551) -/

/-- Behind a response still owed a response that is there joins it. -/
theorem Block.lpDue_respond_behind {k : Block} {b rid : Nat} (tag status : Nat) (data : List Byte)
    (h : look [] k.xfr.lpDue (b * 64 + rid % 64) ≠ []) :
    look [] (k.respond b rid tag status data).xfr.lpDue (b * 64 + rid % 64) =
      look [] k.xfr.lpDue (b * 64 + rid % 64) ++ [.ready tag status data] := by
  unfold Block.respond
  cases hd : look [] k.xfr.lpDue (b * 64 + rid % 64) with
  | nil => exact absurd hd h
  | cons x l => simp [hd]

/-- A request that is not legal joins the responses still owed to its identifier. -/
theorem Block.badRequest_behind {k : Block} {b rid : Nat} (hr : rid < 64) (tag : Nat)
    (h : look [] k.xfr.lpDue (b * 64 + rid) ≠ []) :
    (k.badRequest b rid tag).out = k.out ∧ look [] (k.badRequest b rid tag).xfr.lpDue (b * 64 + rid) =
      look [] k.xfr.lpDue (b * 64 + rid) ++ [.ready tag stProgramFault []] := by
  have h' : look [] (k.bump .NI_LPERR 31 16 b).xfr.lpDue (b * 64 + rid % 64) ≠ [] := by
    rwa [Block.bump_xfr, Nat.mod_eq_of_lt hr]
  have hdue := Block.lpDue_respond_behind tag stProgramFault [] h'
  rw [Block.bump_xfr, Nat.mod_eq_of_lt hr] at hdue
  rw [Block.badRequest, Block.answerStatus]
  exact ⟨(Block.respond_behind tag stProgramFault [] h').trans (Block.bump_out ..), hdue⟩

theorem settleDue_front (w : LpWait) (f : Nat → LpDue) (tag : Nat) (l : List LpDue) :
    settleDue w f (.waits tag w :: l) = f tag :: l := if_pos rfl

theorem settleDue_behind {w v : LpWait} (h : v ≠ w) (f : Nat → LpDue) (tag : Nat) (l : List LpDue) :
    settleDue w f (.waits tag v :: l) = .waits tag v :: settleDue w f l := if_neg h

/-- A response at the front leaves with those behind it that are there. -/
theorem Block.settleLp_front {k : Block} {b rid tag : Nat} {w : LpWait} {l : List LpDue} (hr : rid < 64)
    (h : look [] k.xfr.lpDue (b * 64 + rid) = .waits tag w :: l) (st : Nat) (data : List Byte) :
    k.settleLp b rid w st data =
      { k with out := k.out ++ .lp b rid tag st data :: (releaseDue b rid l).1
               xfr.lpDue := put [] k.xfr.lpDue (b * 64 + rid) (releaseDue b rid l).2 } := by
  simp only [Block.settleLp, Nat.mod_eq_of_lt hr, h, settleDue_front, releaseDue]

/-- A response behind one that still waits does not leave. -/
theorem Block.out_settleLp_behind {k : Block} {b rid tag : Nat} {w v : LpWait} {l : List LpDue} (hr : rid < 64) (hv : v ≠ w)
    (h : look [] k.xfr.lpDue (b * 64 + rid) = .waits tag v :: l) (st : Nat) (data : List Byte) :
    (k.settleLp b rid w st data).out = k.out := by
  simp only [Block.settleLp, Nat.mod_eq_of_lt hr, h, settleDue_behind hv, releaseDue_waits, List.append_nil]

/-! ### Fence reads (R228) -/

/-- The block that has taken a fence read, the only one of its brick. -/
def Block.fenceTaken (k : Block) (b rid tag : Nat) : Block :=
  { k.owe b rid tag .fence with xfr.fenceReads := put [] k.xfr.fenceReads b [k.fenceOf b rid tag] }

theorem gives_fenceRead {s : State} {b rid tag : Nat} (hr : Ready s b) (hs : s.blk.lpServes s.env.build b rid = true)
    (h64 : rid < 64) (hn : look [] s.blk.xfr.fenceReads b = []) :
    Gives (.fenceRead b rid tag) s ((s.blk.fenceTaken b rid tag).answerFences b) := by
  have hn' : look [] (s.blk.owe b rid tag .fence).xfr.fenceReads b = [] := hn
  show execFenceRead b rid tag s = _
  simp only [execFenceRead, State.run_brick hr, hs, Bool.not_true, Bool.false_eq_true, if_false, Nat.mod_eq_of_lt h64, hn',
    List.nil_append]
  rfl

theorem Block.lpDue_fenceTaken_store {k : Block} {b rid : Nat} (tag : Nat) (h : rid < 64) :
    (k.fenceTaken b rid tag).xfr.lpDue =
      put [] k.xfr.lpDue (b * 64 + rid) (look [] k.xfr.lpDue (b * 64 + rid) ++ [.waits tag .fence]) := by
  simp only [Block.fenceTaken, Block.owe, Nat.mod_eq_of_lt h]

theorem Block.lpDue_fenceTaken {k : Block} {b rid : Nat} (tag : Nat) (h : rid < 64) :
    look [] (k.fenceTaken b rid tag).xfr.lpDue (b * 64 + rid) = look [] k.xfr.lpDue (b * 64 + rid) ++ [.waits tag .fence] := by
  rw [Block.lpDue_fenceTaken_store tag h, look_put_same]

/-- A fence read that awaits nothing is over, and the next one starts from no failure. -/
def Block.fenceOver (k : Block) (b rid tag : Nat) : Block :=
  { k.fenceTaken b rid tag with
    xfr.fenceReads := put [] (k.fenceTaken b rid tag).xfr.fenceReads b []
    xfr.lpFail := put 0 k.xfr.lpFail (b * 64 + rid) 0 }

theorem Block.answerFences_ready {k : Block} {b rid tag : Nat} (h : k.fenceReady b (k.fenceOf b rid tag) = true) :
    (k.fenceTaken b rid tag).answerFences b =
      (k.fenceOver b rid tag).settleLp b rid .fence (look 0 k.xfr.lpFail (b * 64 + rid)) [] := by
  have hl : look [] (k.fenceTaken b rid tag).xfr.fenceReads b = [k.fenceOf b rid tag] := by
    rw [Block.fenceTaken, look_put_same]
  have hr : (k.fenceTaken b rid tag).fenceReady b (k.fenceOf b rid tag) = true := h
  simp only [Block.answerFences, hl, List.filter_cons, List.filter_nil, hr, if_true, Bool.not_true, Bool.false_eq_true,
    if_false, List.foldl_cons, List.foldl_nil]
  rfl

theorem Block.answerFences_waits {k : Block} {b rid tag : Nat} (h : k.fenceReady b (k.fenceOf b rid tag) = false) :
    (k.fenceTaken b rid tag).answerFences b = k.fenceTaken b rid tag := by
  have hl : look [] (k.fenceTaken b rid tag).xfr.fenceReads b = [k.fenceOf b rid tag] := by
    rw [Block.fenceTaken, look_put_same]
  have hr : (k.fenceTaken b rid tag).fenceReady b (k.fenceOf b rid tag) = false := h
  simp only [Block.answerFences, hl, List.filter_cons, List.filter_nil, hr, if_true, Bool.not_false, Bool.false_eq_true,
    if_false, List.foldl_nil]
  simp only [Block.fenceTaken, put_put (List.cons_ne_nil _ _)]

/-- A fence read over at once leaves its brick without one, and its response at once. -/
theorem Block.settleLp_fenceOver {k : Block} {b rid : Nat} (tag : Nat) (hr : rid < 64)
    (hd : look [] k.xfr.lpDue (b * 64 + rid) = []) (st : Nat) :
    (k.fenceOver b rid tag).settleLp b rid .fence st [] = { k with
      xfr.fenceReads := put [] (put [] k.xfr.fenceReads b [k.fenceOf b rid tag]) b []
      xfr.lpFail := put 0 k.xfr.lpFail (b * 64 + rid) 0
      xfr.lpDue := put [] (put [] k.xfr.lpDue (b * 64 + rid)
        (look [] k.xfr.lpDue (b * 64 + rid) ++ [.waits tag .fence])) (b * 64 + rid) []
      out := k.out ++ [.lp b rid tag st []] } := by
  have hfront : look [] (k.fenceOver b rid tag).xfr.lpDue (b * 64 + rid) = [.waits tag .fence] :=
    (Block.lpDue_fenceTaken tag hr).trans (by rw [hd, List.nil_append])
  have hdue : (k.fenceOver b rid tag).xfr.lpDue = (k.fenceTaken b rid tag).xfr.lpDue := rfl
  rw [Block.settleLp_front hr hfront, hdue, Block.lpDue_fenceTaken_store tag hr]
  rfl

/-- An entry that held nothing holds nothing after what was written to it has gone. -/
theorem look_put_put_nil {α : Type} [DecidableEq α] (m : Store (List α)) {a : Nat} (l : List α) (h : look [] m a = [])
    (i : Nat) : look [] (put [] (put [] m a l) a []) i = look [] m i := by
  rw [look_put, look_put]
  split
  · next hi => rw [hi, h]
  · rfl

/-! ### Program words through the Local Port (R58, R550) -/

section
variable {s : State} {b rid tag off : Nat} {v : Word} (hr : Ready s b) (hs : s.blk.lpServes s.env.build b rid = true)
include hr hs

theorem gives_lpProgramWrite (ho : off < 4096 ∧ flag (look 0 s.blk.prog.openRange b) 63 = true ∧
    fld (look 0 s.blk.prog.openRange b) 11 0 ≤ off ∧ off ≤ fld (look 0 s.blk.prog.openRange b) 27 16) :
    Gives (.lpProgramWrite b rid tag off v) s ((s.blk.writeXferWord b off v).answerStatus b rid tag stOk) := by
  show execLpProgramWrite b rid tag off v s = _
  simp only [execLpProgramWrite, State.run_brick hr, hs, Bool.not_true, Bool.false_eq_true, if_false, if_pos ho]

theorem gives_lpProgramWrite_outside (ho : ¬(off < 4096 ∧ flag (look 0 s.blk.prog.openRange b) 63 = true ∧
    fld (look 0 s.blk.prog.openRange b) 11 0 ≤ off ∧ off ≤ fld (look 0 s.blk.prog.openRange b) 27 16)) :
    Gives (.lpProgramWrite b rid tag off v) s (s.blk.badRequest b rid tag) := by
  show execLpProgramWrite b rid tag off v s = _
  simp only [execLpProgramWrite, State.run_brick hr, hs, Bool.not_true, Bool.false_eq_true, if_false, if_neg ho]

end

/-! ### Who takes an idle pool tracker (R225) -/

/-- The streams of a brick that a SIGNAL.R holds for a pool tracker. -/
def Block.poolWaiters (k : Block) (b : Nat) : List Nat :=
  (List.range 0x140).filter fun u => streamOk u && (k.stream b u).st == .running && (k.stream b u).hold == .pool

/-- The lowest stream held for a pool tracker is the first of those. -/
theorem Block.poolWaiters_first {k : Block} {b u : Nat} (hu : streamOk u = true) (hst : (k.stream b u).st = .running)
    (hh : (k.stream b u).hold = .pool) (hlow : ∀ u' < u, (k.stream b u').hold ≠ .pool) :
    ∃ r, k.poolWaiters b = u :: r := by
  have hlt : u < 0x140 := by
    simp only [streamOk, Bool.or_eq_true, Bool.and_eq_true, decide_eq_true_eq] at hu
    omega
  have hbelow : (List.range u).filter (fun u => streamOk u && (k.stream b u).st == .running && (k.stream b u).hold == .pool) =
      [] := by
    rw [List.filter_eq_nil_iff]
    intro u' hu'
    simp [hlow u' (List.mem_range.1 hu')]
  obtain ⟨n, hn⟩ := Nat.exists_eq_add_of_lt hlt
  rw [Block.poolWaiters, hn, Nat.add_assoc, List.range_add, List.filter_append, hbelow, List.nil_append, List.range_succ_eq_map,
    List.map_cons, List.filter_cons]
  simp only [Nat.add_zero, hu, hst, hh, beq_self_eq_true, Bool.and_self, if_true]
  exact ⟨_, rfl⟩

theorem Block.poolWaiters_none {k : Block} (h : k.prog.streams = []) (b : Nat) : k.poolWaiters b = [] := by
  have hst : ∀ u, (k.stream b u).st = .stopped := fun u => by rw [Block.stream, h]; rfl
  rw [Block.poolWaiters, List.filter_eq_nil_iff]
  intro u _
  simp [hst u]

/-- A DIRREQ that starts leaves the directory and its coordinators as they are. -/
theorem Block.gpd_startAsk (k : Block) (e : Env) (b t dst addr : Nat) (l : List Byte) :
    (k.startAsk e b t dst addr l).gpd = k.gpd := by
  rw [Block.startAsk, Block.issue, Block.openTracker, Block.tracker_setTracker]
  exact congrArg Steady.gpd (Block.course_issueFrom ..)

section
variable {s : State} {b t : Nat} (hr : Ready s b)
include hr

theorem gives_poolTrackerClaim_none (hp : s.blk.freePool b = none) : Gives (.poolTrackerClaim b) s s.blk := by
  show execPoolTrackerClaim b s = _
  simp only [execPoolTrackerClaim, State.run_brick hr, hp]

variable (hp : s.blk.freePool b = some t)
include hp

theorem gives_poolTrackerClaim_held {o : LpOp} {r : List LpOp} (hl : look [] s.blk.xfr.lpHeld b = o :: r) :
    Gives (.poolTrackerClaim b) s (({ s.blk with xfr.lpHeld := put [] s.blk.xfr.lpHeld b r }).startLp s.env b t o) := by
  show execPoolTrackerClaim b s = _
  simp only [execPoolTrackerClaim, State.run_brick hr, hp, hl]

variable (hl : look [] s.blk.xfr.lpHeld b = [])
include hl

theorem gives_poolTrackerClaim_signal {u c en n : Nat} {r : List Nat} (hu : s.blk.poolWaiters b = u :: r)
    (ho : ctlOf u (s.blk.curWord b u) = some (.signalR c en n)) (he : en < 4096) : Gives (.poolTrackerClaim b) s
      (((s.blk.mapStream b u fun v => { v with hold := .none, word := none }).startSignal s.env b u t c en n).retire b u
        (wordEvt (s.blk.curWord b u).toNat)) := by
  have hp' : (s.blk.mapStream b u fun v => { v with hold := .none, word := none }).freePool b = some t := hp
  show execPoolTrackerClaim b s = _
  rw [Block.poolWaiters] at hu
  simp only [execPoolTrackerClaim, State.run_brick hr, hp, hl, hu, ho, Block.signalRemote, if_neg (Nat.not_le.2 he), hp']

theorem gives_poolTrackerClaim_ask {dst a : Nat} {l : List Byte} {r : List (Nat × Nat × List Byte)}
    (hu : s.blk.poolWaiters b = []) (ha : look [] s.blk.gpd.asks b = (dst, a, l) :: r)
    (hc : look none s.blk.gpd.coord b = none) : Gives (.poolTrackerClaim b) s
      (({ s.blk with gpd.asks := put [] s.blk.gpd.asks b r } : Block).startAsk s.env b t dst a l) := by
  have hc' : look none (({ s.blk with gpd.asks := put [] s.blk.gpd.asks b r } : Block).startAsk s.env b t dst a l).gpd.coord b =
      none := by rwa [Block.gpd_startAsk]
  show execPoolTrackerClaim b s = _
  rw [Block.poolWaiters] at hu
  simp only [execPoolTrackerClaim, State.run_brick hr, hp, hl, hu, ha, hc']

end

/-- Settles O14: an operation by what is idle and what waits, an answer by what is owed before it, an idle tracker by who
takes it. -/
theorem localPortRequestsAreServed : Obligations.LocalPortRequestsAreServed := by
  unfold Obligations.LocalPortRequestsAreServed
  refine ⟨?load, ?store, ?illegal, ?fence, ?fenceWaits, ?illegalBehind, ?front, ?behind, ?word, ?wordOutside, ?shut, ?stalled,
    ?claimHeld, ?claimSignal, ?claimAsk, ?claimNone, ?loadHeld, ?storeHeld⟩
  case load =>
    intro s b rid tag addr n t hr hs h64 hl hp hn
    have hgives := gives_lpLoad hr rid tag addr n
    rw [Nat.mod_eq_of_lt h64] at hgives
    rwa [Block.lpOperation_starts hs hl hp hn] at hgives
  case store =>
    intro s b rid tag addr t data hr hs h64 hl hp hn
    have hgives := gives_lpStore hr rid tag addr data
    rw [Nat.mod_eq_of_lt h64] at hgives
    rwa [Block.lpOperation_starts hs hl hp hn] at hgives
  case illegal =>
    intro s b rid tag addr n hr hs h64 hl hd
    have hgives := gives_lpLoad hr rid tag addr n
    rw [Nat.mod_eq_of_lt h64, Block.lpOperation_illegal hs hl] at hgives
    have hfree := Block.badRequest_free (k := s.blk) (b := b) (rid := rid) (by rwa [Nat.mod_eq_of_lt h64]) tag
    refine ⟨_, hgives, rfl, ?_⟩
    rw [hfree]
    dsimp only
    exact ⟨rfl, Block.bump_xfr .., Block.bump_net ..⟩
  case fence =>
    intro s b rid tag hr hs h64 hn hd hrdy
    refine ⟨_, gives_fenceRead hr hs h64 hn, ?_⟩
    rw [Block.answerFences_ready hrdy, Block.settleLp_fenceOver tag h64 hd]
    dsimp only
    exact ⟨rfl, look_put_put_nil _ _ hn, look_put_put_nil _ _ hd, fun i hi => look_put_other _ _ _ _ hi, rfl,
      look_put_same _ _ _ _⟩
  case fenceWaits =>
    intro s b rid tag hr hs h64 hn hrdy
    refine ⟨_, gives_fenceRead hr hs h64 hn, ?_⟩
    rw [Block.answerFences_waits hrdy]
    exact ⟨rfl, Block.lpDue_fenceTaken tag h64⟩
  case illegalBehind =>
    intro s b rid tag addr n hr hs h64 hl hd
    have hgives := gives_lpLoad hr rid tag addr n
    rw [Nat.mod_eq_of_lt h64, Block.lpOperation_illegal hs hl] at hgives
    exact ⟨_, hgives, rfl, Block.badRequest_behind h64 tag hd⟩
  case front =>
    intro k b rid tag st w data l r o h64 hd hrel
    rw [Block.settleLp_front h64 hd, hrel]
    exact ⟨rfl, look_put_same _ _ _ _⟩
  case behind =>
    exact fun k b rid tag st w v data l h64 hv hd => Block.out_settleLp_behind h64 hv hd st data
  case word =>
    intro s b rid tag off v hr hs hlt hop hlo hhi hd
    refine ⟨_, gives_lpProgramWrite hr hs ⟨hlt, hop, hlo, hhi⟩, ?_⟩
    have hd' : look [] (s.blk.writeXferWord b off v).xfr.lpDue (b * 64 + rid % 64) = [] := hd
    rw [Block.answerStatus_free hd']
    exact ⟨rfl, look_put_same _ _ _ _, fun a ha => look_put_other _ _ _ _ ha, rfl⟩
  case wordOutside =>
    intro s b rid tag off v hr hs ho hd
    have ho' : ¬(off < 4096 ∧ flag (look 0 s.blk.prog.openRange b) 63 = true ∧
        fld (look 0 s.blk.prog.openRange b) 11 0 ≤ off ∧ off ≤ fld (look 0 s.blk.prog.openRange b) 27 16) := by
      rintro ⟨hlt, hop, hlo, hhi⟩
      rcases ho with h | h | h | h
      · exact Bool.false_ne_true (h.symm.trans hop)
      · omega
      · omega
      · omega
    refine ⟨_, gives_lpProgramWrite_outside hr hs ho', rfl, ?_⟩
    rw [Block.badRequest_free hd]
    dsimp only
    exact ⟨Block.bump_prog .., rfl⟩
  case shut =>
    intro s b rid tag a v l hr hs
    have hs' : s.blk.lpServes s.env.build b (rid % 64) = false := by rwa [Block.lpServes_mod]
    refine ⟨?_, ?_, ?_, ?_, ?_⟩
    · show execLpProgramWrite b rid tag a v s = _
      simp only [execLpProgramWrite, State.run_brick hr, hs, Bool.not_false, if_true]
    · have hgives := gives_lpLoad hr rid tag a a
      rwa [Block.lpOperation_shut hs'] at hgives
    · have hgives := gives_lpStore hr rid tag a l
      rwa [Block.lpOperation_shut hs'] at hgives
    · show execFenceRead b rid tag s = _
      simp only [execFenceRead, State.run_brick hr, hs, Bool.not_false, if_true]
    · show execMqSend b rid tag l s = _
      simp only [execMqSend, State.run_brick hr, hs, Bool.not_false, if_true]
  case stalled =>
    rintro k d b rid tag c l (h | h)
    · exact Block.lpServes_stalled h rfl d
    · exact Block.lpServes_stalled h rfl d
  case claimHeld =>
    exact fun s b t o r hr hp hl => gives_poolTrackerClaim_held hr hp hl
  case claimSignal =>
    intro s b t u c en n hr hp hl hu hst hh hlow ho he
    obtain ⟨r, hw⟩ := Block.poolWaiters_first hu hst hh hlow
    exact gives_poolTrackerClaim_signal hr hp hl hw ho he
  case claimAsk =>
    exact fun s b t dst a l r hr hp hl hn ha hc => gives_poolTrackerClaim_ask hr hp hl (Block.poolWaiters_none hn b) ha hc
  case claimNone =>
    exact fun s b hr hp => gives_poolTrackerClaim_none hr hp
  case loadHeld =>
    intro s b rid tag addr n hr hs h64 hl hp
    have hgives := gives_lpLoad hr rid tag addr n
    rw [Nat.mod_eq_of_lt h64] at hgives
    rwa [Block.lpOperation_held hs hl hp] at hgives
  case storeHeld =>
    intro s b rid tag addr data hr hs h64 hl hp
    have hgives := gives_lpStore hr rid tag addr data
    rw [Nat.mod_eq_of_lt h64] at hgives
    rwa [Block.lpOperation_held hs hl hp] at hgives

end Sys2Proof.Machine
end


section
/-!
IMAGE_ABORT back to RUNNING (R67, R574).
-/

namespace Sys2Proof.Machine

/-! ### IMAGE_ABORT back to RUNNING (R67, R574) -/

/-- An abort that returns to RUNNING raises the IMAGE interrupt. -/
theorem Block.imageAbort_running {k : Block} (hst : k.img.st = .checking) (hp : k.img.prev = .running) :
    k.imageAbort =
      ({ k with img.cur := [], img.checked := [], img.writeAsked := false, img.st := .running } : Block).irq 4 := by
  simp [Block.imageAbort, Block.loadEnter, hst, hp]

theorem gives_imageAbort {s : State} (hh : s.blk.held = false) (hc : s.blk.crosses .managementPort = true) :
    Gives .imageAbort s (s.blk.imageAbort.answerWrite 0 .mp) :=
  gives_mp (f := fun k => k.imageAbort.answerWrite 0 .mp) rfl rfl hh hc rfl

/-- A check pass that began while an image ran. -/
def recheck : State := { State.reset with blk := { img := { st := .checking, prev := .running } } }

/-- Refutes O43: its clause on an abort has every register stand; but an abort that returns to RUNNING enters that state,
which raises GLB_IRQSTAT.IMAGE (R574). The counterexample: a check pass that began in RUNNING is aborted. -/
theorem not_checkPassJudgesTheImage : ¬ Obligations.CheckPassJudgesTheImage := by
  unfold Obligations.CheckPassJudgesTheImage
  rintro ⟨-, habort, -⟩
  obtain ⟨k, hgives, hk, -⟩ := habort recheck rfl (by decide) (.inr (.inr rfl))
  have hregs : k.regs = [] := by rw [hk]; rfl
  have hraised : recheck.blk.imageAbort.answerWrite 0 .mp = k :=
    congrArg State.blk (Host.Outcome.next.inj ((gives_imageAbort rfl (by decide)).symm.trans hgives))
  rw [Block.imageAbort_running rfl rfl] at hraised
  rw [← hraised] at hregs
  exact absurd hregs (by decide)

end Sys2Proof.Machine
end


section
/-!
What the check of an image reports (R59).
-/

namespace Sys2Proof.Machine

/-! ### What the check reports (R59) -/

theorem firstFailure_none {l : List (Nat × Nat × Nat)} : firstFailure l = none ↔ l = [] := by
  cases l <;> simp [firstFailure]

theorem lowest_eq_min? : ∀ l : List Nat, lowest l = l.min?
  | [] => rfl
  | _ :: _ => List.min?_cons'.symm

theorem lowest_none {l : List Nat} : lowest l = none ↔ l = [] := by rw [lowest_eq_min?, List.min?_eq_none_iff]

/-- The lowest of some codes is one of them, and none is lower. -/
theorem lowest_cons (c : Nat) (r : List Nat) : ∃ m, lowest (c :: r) = some m ∧ m ∈ c :: r ∧ ∀ x ∈ c :: r, m ≤ x :=
  ⟨_, rfl, List.min?_eq_some_iff.1 ((lowest_eq_min? _).symm.trans rfl)⟩

/-- What an image that the check accepts keeps. -/
theorem checkImage_none {d : Build} {h : Nat} {idle : Bool} {img : List Byte} (hc : checkImage d h idle img = none) :
    headerCodes d img = [] ∧
    ¬(img.length ≠ imgLength img ∨ (sectionsOf img).1.length ≠ natAt img 10 2 ∨ (sectionsOf img).2 ≠ []) ∧
    ((sectionsOf img).1.flatMap fun s =>
      (({ d := d, secs := (sectionsOf img).1 } : ImageView).sectionCodes h s).map fun c => (c, s.idx, s.brick)) = [] ∧
    ¬(imgSkew img < 20 ∨ (idle = true ∧ imgSkew img < 40)) := by
  unfold checkImage at hc
  split at hc
  · cases hc
  · next hl =>
    dsimp only at hc
    split at hc
    · cases hc
    · next hs =>
      rw [firstFailure_none, List.append_eq_nil_iff] at hc
      obtain ⟨hcodes, hskew⟩ := hc
      refine ⟨lowest_none.1 hl, hs, hcodes, fun hlow => ?_⟩
      rw [if_pos hlow] at hskew
      cases hskew

/-- Settles O44: a check that reports nothing has an empty list of failures, and the header's lowest code comes first. -/
theorem acceptedImagesBreakNoRule : Obligations.AcceptedImagesBreakNoRule := by
  unfold Obligations.AcceptedImagesBreakNoRule
  refine ⟨?accepted, ?header⟩
  case accepted =>
    intro d h idle img hc
    obtain ⟨hheader, hwhole, hcodes, hskew⟩ := checkImage_none hc
    simp only [ne_eq, not_or, not_not, not_and, not_lt] at hwhole hskew
    obtain ⟨hlen, hcount, hrest⟩ := hwhole
    obtain ⟨hskew, hidle⟩ := hskew
    refine ⟨hheader, hlen, hcount, hrest, hskew, hidle, fun s hs => ?_⟩
    exact List.map_eq_nil_iff.1 (List.flatMap_eq_nil_iff.1 hcodes s hs)
  case header =>
    intro d h idle img c r hcodes
    obtain ⟨m, hm, hin, hle⟩ := lowest_cons c r
    exact ⟨m, by simp only [checkImage, hcodes, hm]; rfl, hin, hle⟩

end Sys2Proof.Machine
end


section
/-!
What leaves the image loader as it is: what follows once a tracker moved, a flip of the routes, and the steps of an image
start (R65, R137, R179, R245).
-/

namespace Sys2Proof.Machine

/-! ### What leaves the loader alone: packets, trackers and placement -/

theorem Block.img_of_steady {k n : Block} (h : n.steady = k.steady) : n.img = k.img := congrArg Steady.img h

theorem Block.img_of_course {k n : Block} (h : n.steady.course = k.steady.course) : n.img = k.img := congrArg Steady.img h

theorem Block.img_foldl {α : Type} {f : Block → α → Block} (hf : ∀ (k : Block) x, (f k x).img = k.img) (l : List α)
    (k : Block) : (l.foldl f k).img = k.img := foldl_keeps Block.img hf l k

@[simp] theorem Block.img_openTracker (k : Block) (b t : Nat) (v : Tracker) : (k.openTracker b t v).img = k.img := rfl

@[simp] theorem Block.img_setRec (k : Block) (b r : Nat) (v : MoveRec) : (k.setRec b r v).img = k.img := rfl

@[simp] theorem Block.img_entryState (k : Block) (b i : Nat) (st : GpdState) : (k.entryState b i st).img = k.img := rfl

@[simp] theorem Block.img_issue (k : Block) (e : Env) (b t : Nat) : (k.issue e b t).img = k.img := by
  unfold Block.issue
  split
  · exact Block.img_of_course (k.course_issueFrom ..)
  · exact Block.img_of_course (k.course_pumpEngine ..)

@[simp] theorem Block.img_ask (k : Block) (e : Env) (b dst addr : Nat) (l : List Byte) :
    (k.ask e b dst addr l).2.img = k.img := by
  unfold Block.ask
  split
  · exact Block.img_issue ..
  · rfl

@[simp] theorem Block.img_coordAsk (k : Block) (e : Env) (b : Nat) (c : Coordinator) (dst : Nat) (l : List Byte) :
    (k.coordAsk e b c dst l).img = k.img := k.img_ask ..

@[simp] theorem Block.img_tell (k : Block) (e : Env) (b i dst : Nat) (l : List Byte) : (k.tell e b i dst l).img = k.img :=
  k.img_ask ..

@[simp] theorem Block.img_endMove (k : Block) (e : Env) (b : Nat) (c : Coordinator) : (k.endMove e b c).img = k.img :=
  Block.img_tell ..

@[simp] theorem Block.img_releaseFrame (k : Block) (e : Env) (b : Nat) (c : Coordinator) :
    (k.releaseFrame e b c).img = k.img := Block.img_tell ..

@[simp] theorem Block.img_cancelEntry (k : Block) (e : Env) (b : Nat) (c : Coordinator) :
    (k.cancelEntry e b c).img = k.img := Block.img_tell ..

@[simp] theorem Block.img_coordReport (k : Block) (e : Env) (b : Nat) (c : Coordinator) (ok : Bool) :
    (k.coordReport e b c ok).img = k.img := by
  cases ok with
  | true => exact k.img_coordAsk ..
  | false => simp [Block.coordReport]

@[simp] theorem Block.img_coordAnswer (k : Block) (e : Env) (b : Nat) (c : Coordinator) (ok : Bool) (f x : Nat) :
    (k.coordAnswer e b c ok f x).img = k.img := by
  unfold Block.coordAnswer
  dsimp only
  split
  case h_7 => split <;> simp
  all_goals simp

@[simp] theorem Block.img_pumpChunks (k : Block) (e : Env) (b r n : Nat) : (k.pumpChunks e b r n).img = k.img := by
  induction n generalizing k with
  | zero => rfl
  | succ n ih =>
    rw [Block.pumpChunks]
    dsimp only
    split
    · split
      · rfl
      · simp [ih]
    · rfl

@[simp] theorem Block.img_pumpAll (k : Block) (e : Env) (b r : Nat) : (k.pumpAll e b r).img = k.img :=
  Block.img_foldl (fun k _ => k.img_pumpChunks ..) _ k

@[simp] theorem Block.img_chunkEnded (k : Block) (e : Env) (b t : Nat) : (k.chunkEnded e b t).img = k.img := by
  unfold Block.chunkEnded
  split
  · rfl
  · exact Block.img_pumpAll ..

@[simp] theorem Block.img_settlePlacement (k : Block) (e : Env) (b t : Nat) : (k.settlePlacement e b t).img = k.img := by
  unfold Block.settlePlacement
  dsimp only
  split
  · rfl
  · split
    · exact k.img_chunkEnded e b t
    · split
      · split
        · split
          · exact k.img_coordAnswer ..
          · rfl
        · rfl
      · rfl

@[simp] theorem Block.img_beginGather (k : Block) (e : Env) (b t : Nat) : (k.beginGather e b t).img = k.img := by
  have hzero : ∀ (l : List Nat) (f : Nat → List (Nat × List Byte)) (n : Block),
      (l.foldl (fun k n => k.memIssue b (.gatherRow t n) (f n)) n).img = n.img :=
    fun l f n => Block.img_of_steady (Block.steady_foldl (fun k n => k.steady_memIssue b _ _) l n)
  unfold Block.beginGather
  dsimp only
  rw [Block.img_issue]
  split
  · exact hzero ..
  · rw [Block.img_of_steady (Block.steady_postEvent ..), Block.mapTracker_img, Block.img_of_steady (Block.steady_event ..),
      Block.img_of_steady (Block.steady_event ..)]
    exact hzero ..

@[simp] theorem Block.img_pumpGathers (k : Block) (e : Env) (b : Nat) : (k.pumpGathers e b).img = k.img := by
  unfold Block.pumpGathers
  split
  · split
    · rfl
    · exact k.img_beginGather ..
  · rfl

@[simp] theorem Block.img_checkMember (k : Block) (b t : Nat) : (k.checkMember b t).img = k.img := by
  unfold Block.checkMember
  dsimp only
  split
  · exact Block.img_of_steady (k.steady_completeTracker ..)
  · rfl

@[simp] theorem Block.img_answerFences (k : Block) (b : Nat) : (k.answerFences b).img = k.img := by
  unfold Block.answerFences
  dsimp only
  refine (Block.img_foldl (fun k x => ?_) _ _).trans rfl
  exact (Block.img_of_steady (Block.steady_settleLp ..)).trans rfl

/-- What follows once a tracker moved leaves the loader as it is. -/
@[simp] theorem Block.img_settle (k : Block) (e : Env) (b t : Nat) : (k.settle e b t).img = k.img := by
  rw [Block.settle, Block.img_answerFences, Block.img_of_course (Block.course_pumpEngines ..), Block.img_settlePlacement,
    Block.img_pumpGathers, Block.img_of_steady (Block.steady_checkGather ..), Block.img_checkMember]

@[simp] theorem Block.img_pumpNi (k : Block) (e : Env) (b : Nat) : (k.pumpNi e b).img = k.img :=
  Block.img_of_course (k.course_pumpNi e b)

/-! ### What leaves the loader alone: a flip of the routes (R179, R182) -/

@[simp] theorem Block.img_leaveHeads (k : Block) (b pt : Nat) : (k.leaveHeads b pt).img = k.img :=
  Block.img_foldl (fun k i => by
    split
    · split
      · rfl
      · exact Block.img_of_course (k.course_headLost ..)
    · rfl) _ k

@[simp] theorem Block.img_noteEpoch (k : Block) (d : Build) (b : Nat) (x : Staged) : (k.noteEpoch d b x).img = k.img := by
  unfold Block.noteEpoch
  dsimp only
  split
  · rfl
  · split
    · rfl
    · split <;> rfl

@[simp] theorem Block.img_subLost (k : Block) (b i vc : Nat) (o : Option Nat) : (k.subLost b i vc o).img = k.img :=
  Block.img_of_course (k.course_subLost b i vc o)

@[simp] theorem Block.img_reinject (k : Block) (d : Build) (b pt : Nat) (x : Staged) : (k.reinject d b pt x).img = k.img := by
  unfold Block.reinject
  split
  · rfl
  · split
    · exact Block.img_subLost ..
    · extract_lets k₁
      have h₁ : k₁.img = k.img := by
        unfold k₁
        split
        · exact k.img_noteEpoch d b x
        · rfl
      clear_value k₁
      split
      · next h => exact (Block.img_of_course (Block.course_enterDie h)).trans h₁
      · next n h =>
        rw [Block.img_of_course (Block.course_answerError ..), Block.bump_img, Block.img_subLost,
          Block.img_of_course (Block.course_enterDie h), h₁]

@[simp] theorem Block.img_flipRoutes (k : Block) (e : Env) : (k.flipRoutes e).img = k.img := by
  have hleave : ∀ (l : List (Nat × List Staged)) (k : Block),
      (l.foldl (fun k x => k.leaveHeads (x.1 / 2) (x.1 % 2)) k).img = k.img :=
    Block.img_foldl fun k x => k.img_leaveHeads ..
  have hinject : ∀ (l : List (Nat × List Staged)) (k : Block),
      (l.foldl (fun k x => x.2.foldl (fun k y => k.reinject e.build (x.1 / 2) (x.1 % 2) y) k) k).img = k.img :=
    Block.img_foldl fun k x => Block.img_foldl (fun k y => k.img_reinject ..) x.2 k
  exact (Block.img_foldl (fun k b => k.img_pumpNi e b) _ _).trans ((hinject _ _).trans (hleave _ _))

/-! ### The loader at an image start (R65, R137, R245) -/

@[simp] theorem Block.img_startSlots (k : Block) (b : Nat) : (k.startSlots b).img = k.img := by
  unfold Block.startSlots
  exact Block.img_foldl (fun k s => by simp) _ k

@[simp] theorem Block.img_startEngines (k : Block) (b : Nat) : (k.startEngines b).img = k.img :=
  Block.img_foldl (fun k en => by dsimp only; split <;> rfl) _ k

theorem Block.img_foldl_startSlots (l : List Nat) (k : Block) : (l.foldl (fun k b => k.startSlots b) k).img = k.img :=
  Block.img_foldl (fun k b => k.img_startSlots b) l k

theorem Block.img_foldl_startEngines (l : List Nat) (k : Block) :
    (l.foldl (fun k b => k.startEngines b) k).img = k.img :=
  Block.img_foldl (fun k b => k.img_startEngines b) l k

theorem Block.img_foldl_settle (e : Env) (l : List Nat) (k : Block) :
    (l.foldl (fun k t => k.settle e (t / 1024) (t % 1024)) k).img = k.img :=
  Block.img_foldl (fun k _ => k.img_settle ..) l k

theorem Block.img_foldl_pumpNi (e : Env) (l : List Nat) (k : Block) : (l.foldl (fun k b => k.pumpNi e b) k).img = k.img :=
  Block.img_foldl (fun k b => k.img_pumpNi e b) l k

theorem Block.img_started (k : Block) (en : BoxEntry) :
    ((k.loadEnter .running).boxPost en).img = { k.img with st := .running } := by
  simp only [Block.loadEnter, reduceCtorEq, or_true, true_or, if_true]
  rfl

/-- What an image start leaves in the loader: the image runs and locks its registers. -/
theorem Block.img_imageStart (k : Block) (e : Env) : ∃ v : Loader, v.run = true ∧ (k.imageStart e).img = { v with
    st := .running, locked := true, imageId := imgId k.img.checked, skewNs := imgSkew k.img.checked
    flat := imgFlat k.img.checked, written := false, flipsEpoch := false, cur := [] } := by
  unfold Block.imageStart
  extract_lets d img trks old k₁ k₂ k₃ l₃ n₃ k₄ k₅ k₆ l₆ k₇ c₇ k₈ k₉ k₁₀ k₁₁
  have hrun : k₆.img.run = true := by
    have h₅ : k₅.img = k₄.img := Block.img_foldl_startSlots _ k₄
    have h₆ : k₆.img = k₅.img := by
      unfold k₆
      split
      · exact k₅.img_flipRoutes e
      · rfl
    rw [h₆, h₅]
  have h₈ : k₈.img = k₇.img := by
    unfold k₈
    split <;> rfl
  have h₁₁ : k₁₁.img = k₇.img := by
    unfold k₁₁ k₁₀ k₉
    rw [Block.img_foldl_pumpNi, Block.img_foldl_settle, Block.img_foldl_startEngines, h₈]
  refine ⟨k₆.img, hrun, ?_⟩
  rw [Block.img_started, h₁₁]

end Sys2Proof.Machine
end


section
/-!
The write pass and the image start (R60 to R67, R136, R137, R179, R245, R306).
-/

namespace Sys2Proof.Machine

/-! ### Streams at rest (R50, R62, R63) -/

/-- A read finds the default, or an entry of the array. -/
theorem look_default_or_mem {α : Type} (d : α) (m : Store α) (i : Nat) : look d m i = d ∨ (i, look d m i) ∈ m := by
  induction m with
  | nil => exact .inl rfl
  | cons x m ih =>
    obtain ⟨j, v⟩ := x
    by_cases h : j = i
    · subst h
      exact .inr (by simp [look])
    · simp only [look, h, if_false]
      exact ih.imp_right (List.mem_cons_of_mem _)

/-- A key below all of an array's keys reads the default. -/
theorem look_below {α : Type} (d : α) {m : Store α} {i : Nat} (h : ∀ x ∈ m, i < x.1) : look d m i = d := by
  rcases look_default_or_mem d m i with hd | hmem
  · exact hd
  · exact absurd (h _ hmem) (lt_irrefl i)

/-- Each entry changed by a function that keeps the default, entries that are the default then dropped. -/
theorem look_map_filter {α : Type} [DecidableEq α] {d : α} {f : α → α} (hf : f d = d) {m : Store α}
    (h : keysRise m = true) (i : Nat) :
    look d ((m.map fun x => (x.1, f x.2)).filter fun x => x.2 != d) i = f (look d m i) := by
  induction m with
  | nil => exact hf.symm
  | cons x m ih =>
    obtain ⟨j, v⟩ := x
    obtain ⟨hlow, hrise⟩ := (keysRise_cons j v m).1 h
    rw [List.map_cons, List.filter_cons]
    by_cases hj : j = i
    · subst hj
      have hrest : look d m j = d := look_below d hlow
      by_cases hv : f v = d
      · simp [hv, look, ih hrise, hrest, hf]
      · simp [hv, look]
    · by_cases hv : f v = d
      · simp [hv, look, hj, ih hrise]
      · simp [hv, look, hj, ih hrise]

theorem Block.st_stopStreams (k : Block) (b u : Nat) : (k.stopStreams.stream b u).st = .stopped := by
  rcases look_default_or_mem {} k.stopStreams.prog.streams (streamKey b u) with h | h
  · rw [Block.stream, h]
  · obtain ⟨x, -, hx⟩ := List.mem_map.1 (List.mem_filter.1 h).1
    exact congrArg (fun y : Nat × Stream => y.2.st) hx.symm

theorem Block.stream_stopStreams {k : Block} (h : keysRise k.prog.streams = true) (b u : Nat) :
    k.stopStreams.stream b u = (k.stream b u).atRest .stopped :=
  look_map_filter (f := fun v : Stream => v.atRest .stopped) rfl h (streamKey b u)

/-! ### IMAGE_WRITE and quiescing (R62, R63, R67) -/

section
variable {s : State} (hh : s.blk.held = false)
include hh

theorem gives_imageWrite (hc : s.blk.crosses .managementPort = true) :
    Gives .imageWrite s ((s.blk.imageWrite s.env.build).answerWrite 0 .mp) :=
  gives_mp (f := fun k => (k.imageWrite s.env.build).answerWrite 0 .mp) rfl rfl hh hc rfl

theorem gives_writePassRelease (hst : s.blk.img.st = .checked) (ha : s.blk.img.writeAsked = true)
    (hw : s.blk.writeHeld s.env.build = false) : Gives .writePassRelease s s.blk.startQuiesce :=
  gives_of_run (ok := true) rfl rfl hh (if_pos ⟨hst, ha, hw⟩)

theorem gives_quiesceDone (hst : s.blk.img.st = .quiescing) (hq : s.blk.isQuiet = true) : Gives .quiesceDone s
    ({ s.blk with img.st := .writing, img.cur := [], img.saved := [] } : Block).stopStreams :=
  gives_of_run (ok := true) rfl rfl hh (if_pos ⟨hst, hq⟩)

theorem gives_quiesceDone_busy (hq : s.blk.isQuiet = false) : Gives .quiesceDone s s.blk :=
  gives_of_run (ok := true) rfl rfl hh (if_neg (by simp [hq]))

end

theorem Block.imageWrite_quiesces {k : Block} {d : Build} (hst : k.img.st = .checked) (hw : k.writeHeld d = false) :
    k.imageWrite d = k.startQuiesce := by
  simp [Block.imageWrite, hst, hw]

theorem Block.imageWrite_held {k : Block} {d : Build} (hst : k.img.st = .checked) (hw : k.writeHeld d = true) :
    k.imageWrite d = { k with img.writeAsked := true } := by
  simp [Block.imageWrite, hst, hw]

theorem Block.imageWrite_ignored {k : Block} (hst : k.img.st ≠ .checked) (d : Build) : k.imageWrite d = k := if_pos hst

/-- What a load that has found the die busy leaves. -/
def Block.busyLoad (k : Block) : Block :=
  ({ k with img.saved := [], img.err := errBusy, img.errSec := 0, img.errBrick := dieWide, img.st := .rejected } : Block).irq 4

theorem gives_quiesceTimeout {s : State} (hh : s.blk.held = false) (hst : s.blk.img.st = .quiescing)
    (hs : s.blk.img.saved = []) : Gives .quiesceTimeout s s.blk.busyLoad := by
  refine gives_of_run (ok := true) rfl rfl hh ?_
  simp only [hst, hs, if_true, List.foldl_nil, Block.loadError, Block.loadEnter, true_or, or_true]
  rfl

/-! ### Bytes of the write pass (R60, R64) -/

theorem gives_imageData {s : State} (hh : s.blk.held = false) (hc : s.blk.crosses .managementPort = true) (v : Word) :
    Gives (.imageData v) s ((s.blk.imageBytes s.env.build (leBytes 8 v.toNat)).answerWrite 0 .mp) :=
  gives_mp (f := fun k => (k.imageBytes s.env.build (leBytes 8 v.toNat)).answerWrite 0 .mp) rfl rfl hh hc rfl

/-- Bytes other than those of the checked image fail the load. -/
theorem Block.imageBytes_differ {k : Block} {l : List Byte} (hst : k.img.st = .writing)
    (h : k.img.checked.take (k.img.cur ++ l).length ≠ k.img.cur ++ l) (d : Build) :
    ∃ sec brick, k.imageBytes d l = k.failLoad sec brick := by
  simp only [Block.imageBytes, hst, reduceCtorEq, if_false, if_true, h]
  split
  · exact ⟨_, _, rfl⟩
  · exact ⟨_, _, rfl⟩

/-- Bytes of the header alone write nothing yet. -/
theorem Block.imageBytes_header {k : Block} {l : List Byte} (hst : k.img.st = .writing)
    (h : k.img.checked.take (k.img.cur ++ l).length = k.img.cur ++ l) (hl : (k.img.cur ++ l).length < 64)
    (hn : (k.img.cur ++ l).length ≠ k.img.checked.length) (d : Build) :
    k.imageBytes d l = { k with img.cur := k.img.cur ++ l } := by
  simp only [Block.imageBytes, hst, reduceCtorEq, if_false, if_true, h, hl, Block.writeOn, List.foldl_nil, if_neg hn]

/-- Where the load fails: the default course everywhere, every stream stopped, no image. -/
def Block.loadStopped (k : Block) : Block :=
  ({ k with img.run := false, img.imageId := 0, img.written := false, net.seq := [] } : Block).stopStreams

/-- The failure of a load as it is reported: GLB_IMAGE, the interrupt, and the entry of the black box. -/
def Block.failReported (k : Block) (sec brick : Nat) (en : BoxEntry) : Block :=
  (({ k with img.err := errDataChanged, img.errSec := sec, img.errBrick := brick, img.st := .loadFailed } : Block).irq 4).boxPost
    en

theorem Block.failLoad_eq (k : Block) (sec brick : Nat) : k.failLoad sec brick =
    (k.loadStopped.failReported sec brick
      { kind := 7, status := stProgramFault, arg1 := imgId k.img.checked }).freezeOn 2 := by
  simp only [Block.failLoad, Block.loadError, Block.loadEnter, reduceCtorEq, or_true, if_true]
  rfl

/-! ### Tree nodes (R306) -/

/-- A lookup in the FCLK of a write of tree nodes finds them as they were. -/
theorem Block.asStood_writeTree (k : Block) (f : Store Word → Store Word) :
    asStood (k.writeTree f).clk.now (k.writeTree f).rdc.treeOld (k.writeTree f).rdc.tree =
      asStood k.clk.now k.rdc.treeOld k.rdc.tree := if_pos rfl

/-- The two blocks differ in registers, in what holds events back, and in the black box alone. -/
def Block.ReportOnly (k n : Block) : Prop :=
  n = { k with regs := n.regs, fresh := n.fresh, flt := n.flt, hlth.sramAt := n.hlth.sramAt }

theorem Block.ReportOnly.trans {k m n : Block} (h : k.ReportOnly m) (h' : m.ReportOnly n) : k.ReportOnly n := by
  unfold Block.ReportOnly at *
  rw [h', h]

theorem Block.reportOnly_failReported (k : Block) (sec brick : Nat) (en : BoxEntry) :
    Block.ReportOnly { k with img := (k.failReported sec brick en).img } (k.failReported sec brick en) := rfl

theorem Block.reportOnly_boxWrite (k : Block) (en : BoxEntry) : k.ReportOnly (k.boxWrite en) := by
  rw [Block.ReportOnly, Block.boxWrite_frame]

theorem Block.reportOnly_writeOwn (k : Block) (i : Nat) : k.ReportOnly (k.writeOwn i) := by
  unfold Block.writeOwn
  split
  · next en _ =>
    have hwait : k.ReportOnly { k with flt.boxWait := (k.flt.boxWait.reverse.erase en).reverse } := rfl
    exact hwait.trans (Block.reportOnly_boxWrite _ _)
  · rfl

theorem Block.reportOnly_freezeOn (k : Block) (i : Nat) : k.ReportOnly (k.freezeOn i) := by
  unfold Block.freezeOn Block.freezeFor
  split
  · split
    · rfl
    · split
      · exact (k.reportOnly_writeOwn i).trans rfl
      · split <;> rfl
  · rfl

theorem Block.regsKept_mono {k n : Block} {l l' : List Nat} (h : k.regsKept n l) (hl : ∀ a ∈ l, a ∈ l') :
    k.regsKept n l' := fun r pg ix hr => h r pg ix fun hm => hr (hl _ hm)

theorem Block.regsKept_writeOwn (k : Block) (i : Nat) : k.regsKept (k.writeOwn i) [regAddr .BBX_STAT 0 []] := by
  unfold Block.writeOwn
  split
  · exact Block.regsKept_trans (Block.regsKept_of_regs rfl _) (Block.regsKept_boxWrite _ _)
  · exact Block.regsKept_of_regs rfl _

theorem Block.regsKept_freezeOn (k : Block) (i : Nat) : k.regsKept (k.freezeOn i) [regAddr .BBX_STAT 0 []] := by
  unfold Block.freezeOn Block.freezeFor
  split
  · split
    · exact Block.regsKept_of_regs rfl _
    · split
      · exact Block.regsKept_trans (k.regsKept_writeOwn i) (Block.regsKept_of_regs rfl _)
      · split <;> exact Block.regsKept_of_regs rfl _
  · exact Block.regsKept_of_regs rfl _

theorem Block.regsKept_failReported (k : Block) (sec brick : Nat) (en : BoxEntry) :
    k.regsKept (k.failReported sec brick en) [regAddr .GLB_IRQSTAT 0 []] :=
  Block.regsKept_trans (Block.regsKept_of_regs rfl _)
    (Block.regsKept_trans (Block.regsKept_irq _ 4 (.head _)) (Block.regsKept_of_regs rfl _))

theorem Block.regsKept_failLoad (k : Block) (sec brick : Nat) :
    k.regsKept (k.failLoad sec brick) [regAddr .GLB_IRQSTAT 0 [], regAddr .BBX_STAT 0 []] := by
  rw [Block.failLoad_eq]
  refine Block.regsKept_trans (Block.regsKept_of_regs (n := k.loadStopped) rfl _) (Block.regsKept_trans
    (Block.regsKept_mono (Block.regsKept_failReported _ _ _ _) fun a ha => ?_)
    (Block.regsKept_mono (Block.regsKept_freezeOn _ 2) fun a ha => .tail _ ha))
  exact List.mem_singleton.1 ha ▸ .head _

theorem Block.img_failLoad (k : Block) (sec brick : Nat) : (k.failLoad sec brick).img = { k.img with
    run := false, imageId := 0, written := false, err := errDataChanged, errSec := sec, errBrick := brick
    st := .loadFailed } := by
  rw [Block.failLoad_eq, Block.img_of_steady (Block.steady_freezeOn ..)]
  rfl

theorem Block.prog_failLoad (k : Block) (sec brick : Nat) : (k.failLoad sec brick).prog = k.loadStopped.prog := by
  rw [Block.failLoad_eq, Block.reportOnly_freezeOn]
  rfl

theorem Block.out_failLoad (k : Block) (sec brick : Nat) : (k.failLoad sec brick).out = k.out := by
  rw [Block.failLoad_eq, Block.reportOnly_freezeOn]
  rfl

/-- A failed load stops the streams and the sequencers, and is reported. -/
theorem Block.failLoad_frame (k : Block) (sec brick : Nat) : k.failLoad sec brick = { k with
    img := (k.failLoad sec brick).img, prog.streams := (k.failLoad sec brick).prog.streams, net.seq := []
    regs := (k.failLoad sec brick).regs, fresh := (k.failLoad sec brick).fresh, flt := (k.failLoad sec brick).flt
    hlth.sramAt := (k.failLoad sec brick).hlth.sramAt, out := (k.failLoad sec brick).out } := by
  rw [Block.img_failLoad, Block.prog_failLoad, Block.out_failLoad, Block.failLoad_eq]
  exact Eq.trans (Block.reportOnly_freezeOn _ 2) rfl

/-- Settles O45: the commands by the STATE they find, a differing byte by what its failure reports, an image start by what it
leaves in the loader. -/
theorem writePassAndImageStart : Obligations.WritePassAndImageStart := by
  unfold Obligations.WritePassAndImageStart
  refine ⟨?quiesces, ?held, ?ignored, ?released, ?quiet, ?busy, ?timeout, ?differs, ?header, ?start, ?running, ?notYet,
    ?tree⟩
  case quiesces =>
    intro s hh hc hst hw
    have hgives := gives_imageWrite hh hc
    rw [Block.imageWrite_quiesces hst hw] at hgives
    exact ⟨_, hgives, rfl, rfl, rfl, rfl, rfl, rfl⟩
  case held =>
    intro s hh hc hst hw
    have hgives := gives_imageWrite hh hc
    rw [Block.imageWrite_held hst hw] at hgives
    exact ⟨_, hgives, rfl, hst, rfl, rfl⟩
  case ignored =>
    intro s hh hc hst
    have hgives := gives_imageWrite hh hc
    rw [Block.imageWrite_ignored hst] at hgives
    exact ⟨_, hgives, rfl, rfl, rfl, rfl⟩
  case released =>
    exact fun s hh hst ha hw => ⟨_, gives_writePassRelease hh hst ha hw, rfl, rfl, rfl⟩
  case quiet =>
    intro s hh hst hq
    exact ⟨_, gives_quiesceDone hh hst hq, rfl, rfl, rfl, Block.st_stopStreams _,
      fun h b u => Block.stream_stopStreams (k := { s.blk with img.st := .writing, img.cur := [], img.saved := [] }) h b u, rfl⟩
  case busy =>
    exact fun s hh hst hq => gives_quiesceDone_busy hh hq
  case timeout =>
    exact fun s hh hst hs => ⟨_, gives_quiesceTimeout hh hst hs, rfl, rfl, rfl, rfl, rfl⟩
  case differs =>
    intro s v hh hc hst hd
    have hgives := gives_imageData hh hc v
    obtain ⟨sec, brick, hfail⟩ := Block.imageBytes_differ hst hd s.env.build
    rw [hfail] at hgives
    have hframe := s.blk.failLoad_frame sec brick
    have hkept := s.blk.regsKept_failLoad sec brick
    have himg := s.blk.img_failLoad sec brick
    have hstreams : ∀ b u, ((s.blk.failLoad sec brick).stream b u).st = .stopped := by
      intro b u
      rw [Block.stream, Block.prog_failLoad]
      exact Block.st_stopStreams _ b u
    generalize s.blk.failLoad sec brick = n at *
    refine ⟨_, hgives, congrArg (fun k : Block => k.answerWrite 0 .mp) hframe, hkept, ?_⟩
    exact ⟨congrArg Loader.st himg, congrArg Loader.run himg, congrArg Loader.imageId himg, hstreams⟩
  case header =>
    intro s v hh hc hst
    dsimp only
    intro hsame hshort hmore
    have hgives := gives_imageData hh hc v
    rwa [Block.imageBytes_header hst hsame hshort hmore] at hgives
  case start =>
    exact fun s hh hc hs => gives_of_run (ok := true) rfl rfl hh (if_pos ⟨hc, hs⟩)
  case running =>
    intro s hh hc hs
    obtain ⟨v, hrun, himg⟩ := s.blk.img_imageStart s.env
    refine ⟨s.blk.imageStart s.env, gives_of_run (ok := true) rfl rfl hh (if_pos ⟨hc, hs⟩), ?_⟩
    beta_reduce
    rw [himg]
    exact ⟨rfl, hrun, rfl, rfl, rfl⟩
  case notYet =>
    intro s hh hn
    refine gives_of_run (ok := true) rfl rfl hh (if_neg ?_)
    rintro ⟨hc, hs⟩
    exact hn.elim (fun h => h hc) fun h => Bool.false_ne_true (h.symm.trans hs)
  case tree =>
    intro k f b i w
    exact ⟨by rw [Block.treeWord, Block.treeWord, Block.asStood_writeTree], rfl⟩

end Sys2Proof.Machine
end


section
/-!
The program-memory window, flips of the routes and writes of the route tables (R71, R169, R178 to R180, R196, R197).
-/

namespace Sys2Proof.Machine

/-! ### The program-memory window (R71) -/

section
variable {s : State} {b : Nat} (hr : Ready s b) (hc : s.blk.crosses .managementPort = true)
include hr hc

theorem gives_programWindowWrite {off : Nat} (ho : off < 0x10000) (v : Word) :
    Gives (.programWindowWrite b off v) s ((s.blk.windowWrite b off v).answerWrite 0 .mp) :=
  gives_mp (f := fun k => (k.windowWrite b off v).answerWrite 0 .mp) rfl (by rw [hr.2, decide_eq_true ho]; rfl) hr.1 hc rfl

theorem gives_routeEntryCommit (v : Word) :
    Gives (.routeEntryCommit b v) s ((s.blk.commitRoute b v).answerWrite b .mp) :=
  gives_mp (f := fun k => (k.commitRoute b v).answerWrite b .mp) rfl hr.2 hr.1 hc rfl

end

/-- The window takes a word of the reducer memory while its slots' streams are idle. -/
theorem Block.windowWrite_reducer {k : Block} {b off : Nat} (hp : k.rf .GLB_PMSEL 1 0 = 1) (ho : off < 0x2000)
    (hi : k.streamsIdle b true = true) (v : Word) :
    k.windowWrite b off v = { k with prog.rdcMem := put 0 k.prog.rdcMem (b * 1024 + off / 8) v } := by
  simp only [Block.windowWrite, hp, if_pos (And.intro ho hi)]

theorem Block.windowWrite_reducer_busy {k : Block} {b : Nat} (hp : k.rf .GLB_PMSEL 1 0 = 1)
    (hi : k.streamsIdle b true = false) (off : Nat) (v : Word) : k.windowWrite b off v = k.lockVio := by
  simp [Block.windowWrite, hp, hi]

/-- The window takes a word of the transfer memory while its engines' streams are idle, or inside the open range. -/
theorem Block.windowWrite_transfer {k : Block} {b off : Nat} (hp : k.rf .GLB_PMSEL 1 0 = 2) (ho : off < 0x8000)
    (hi : k.streamsIdle b false = true ∨ (flag (look 0 k.prog.openRange b) 63 = true ∧
      fld (look 0 k.prog.openRange b) 11 0 ≤ off / 8 ∧ off / 8 ≤ fld (look 0 k.prog.openRange b) 27 16)) (v : Word) :
    k.windowWrite b off v = k.writeXferWord b (off / 8) v := by
  simp only [Block.windowWrite, hp]
  refine if_pos ⟨ho, hi.symm.imp_left fun hopen => ?_⟩
  simpa [and_assoc] using hopen

theorem Block.windowWrite_course {k : Block} (hp : k.rf .GLB_PMSEL 1 0 = 0) (b off : Nat) (v : Word) :
    k.windowWrite b off v = k.lockVio := by
  simp only [Block.windowWrite, hp]

/-! ### Flips (R179) -/

/-- The access codes of a write leave the network as it is. -/
theorem Block.net_applyWrite (k : Block) (r : RegName) (pg : Nat) (ix : List Nat) (v : Word) :
    (k.applyWrite r pg ix v).net = k.net := congrArg Steady.net (k.steady_applyWrite r pg ix v)

theorem Block.epoch_flipAsked (k : Block) :
    (({ k with net.flipPending := true } : Block).episode.answerWrite 0 .mp).net.epoch = k.net.epoch := rfl

theorem gives_routeFlipWrite {s : State} (hh : s.blk.held = false) (hc : s.blk.crosses .managementPort = true) (v : Word) :
    Gives (.routeFlipWrite v) s ((s.blk.writeGlbRoute v).answerWrite 0 .mp) :=
  gives_mp (f := fun k => (k.writeGlbRoute v).answerWrite 0 .mp) rfl rfl hh hc rfl

section
variable {s : State} (hh : s.blk.held = false)
include hh

theorem gives_routeFlip (hc : s.blk.clk.cyc = 0) (hf : s.blk.net.flipPending = true)
    (hi : (s.blk.img.flipsEpoch && s.blk.startsAt s.blk.clk.course) = false) :
    Gives .routeFlip s (s.blk.flipRoutes s.env) :=
  gives_of_run (ok := true) (f := fun k => if k.clk.cyc = 0 ∧ k.net.flipPending = true ∧
    (k.img.flipsEpoch && k.startsAt k.clk.course) = false then k.flipRoutes s.env else k) rfl rfl hh (if_pos ⟨hc, hf, hi⟩)

theorem gives_routeFlip_not (hn : ¬(s.blk.clk.cyc = 0 ∧ s.blk.net.flipPending = true ∧
    (s.blk.img.flipsEpoch && s.blk.startsAt s.blk.clk.course) = false)) : Gives .routeFlip s s.blk :=
  gives_of_run (ok := true) (f := fun k => if k.clk.cyc = 0 ∧ k.net.flipPending = true ∧
    (k.img.flipsEpoch && k.startsAt k.clk.course) = false then k.flipRoutes s.env else k) rfl rfl hh (if_neg hn)

end

/-- With no packet staged a flip is the epoch's alone, and what the NIs send then. -/
theorem Block.flipRoutes_empty {k : Block} (e : Env) (h : k.net.stage = []) :
    k.flipRoutes e = (bricks e.build).foldl (fun k b => k.pumpNi e b) k.flipEpoch := by
  have hstage : ({ k.flipEpoch with net.stage := [] } : Block) = k.flipEpoch := by
    rw [← h]
    rfl
  simp only [Block.flipRoutes, h, List.foldl_nil, hstage]

/-! ### The package and system tables (R178, R180, R201) -/

theorem tableAt_package {bank i : Nat} (hb : bank < 2) (hi : i < 4) :
    tableAt (0x400 + 0x20 * bank + 8 * i) = some (false, bank, i) := by
  have hbank : (0x400 + 0x20 * bank + 8 * i - 0x400) / 0x20 = bank := by omega
  have hentry : (0x400 + 0x20 * bank + 8 * i - 0x400) % 0x20 / 8 = i := by omega
  rw [tableAt, if_neg (by omega), if_pos (by omega), hbank, hentry]

theorem tableAt_system {bank i : Nat} (hb : bank < 2) (hi : i < 768) :
    tableAt (0x10000 + 0x2000 * bank + 8 * i) = some (true, bank, i) := by
  have hbank : (0x10000 + 0x2000 * bank + 8 * i - 0x10000) / 0x2000 = bank := by omega
  have hentry : (0x10000 + 0x2000 * bank + 8 * i - 0x10000) % 0x2000 / 8 = i := by omega
  rw [tableAt, if_neg (by omega), if_neg (by omega), if_pos (by omega), hbank, hentry]

theorem gives_routeTableWrite {s : State} {addr bank i : Nat} {sys : Bool} (hh : s.blk.held = false)
    (hc : s.blk.crosses .managementPort = true) (ha : tableAt addr = some (sys, bank, i)) (v : Word) :
    Gives (.routeTableWrite addr v) s ((s.blk.writeTable sys bank i v).answerWrite 0 .mp) :=
  gives_mp (f := fun k => match tableAt addr with
    | some (sys, bank, i) => (k.writeTable sys bank i v).answerWrite 0 .mp
    | none => k) rfl (by rw [ha]; rfl) hh hc (by simp only [ha])

section
variable {k : Block} {bank : Nat}

theorem Block.writeTable_locked (h : bank = b2n k.net.epoch ∨ k.net.holdLeft ≠ 0) (sys : Bool) (i : Nat) (v : Word) :
    k.writeTable sys bank i v = k.lockVio := if_pos h

variable (hb : bank ≠ b2n k.net.epoch) (hl : k.net.holdLeft = 0)
include hb hl

theorem Block.writeTable_package (i : Nat) (v : Word) : k.writeTable false bank i v =
    { k with net.pkgTable := put 0 k.net.pkgTable (bank * 4 + i) (withFld v 58 56 0) } := by
  simp [Block.writeTable, hb, hl]

theorem Block.writeTable_system (i : Nat) (v : Word) : k.writeTable true bank i v =
    { k with net.sysTable := put 0 k.net.sysTable (bank * 768 + i) (withFld v 58 56 0) } := by
  simp [Block.writeTable, hb, hl]

end

/-! ### Source route entries (R169, R196, R197) -/

/-- A field that takes its own value leaves the word as it is. -/
theorem withFld_fld (w : Word) (hi lo : Nat) : withFld w hi lo (fld w hi lo) = w := by
  have hle : bits w.toNat hi lo <<< lo ≤ w.toNat := by
    rw [bits, Nat.shiftLeft_eq, Nat.shiftRight_eq_div_pow]
    exact (Nat.mul_le_mul_right _ (Nat.mod_le _ _)).trans (Nat.div_mul_le_self _ _)
  have hmod : bits w.toNat hi lo % 2 ^ (hi + 1 - lo) = bits w.toNat hi lo := Nat.mod_mod _ _
  rw [withFld, fld, setBits, hmod, Nat.sub_add_cancel hle, BitVec.ofNat_toNat, BitVec.setWidth_eq]

/-- Key of source route entry `e` of a bank of a brick. -/
def routeKey (b : Nat) (bank : Bool) (e : Nat) : Nat := (b * 2 + b2n bank) * 4096 + e

/-- The entry that NI_RTSEL selects, as a key. -/
def Block.routePicked (k : Block) (b : Nat) : Nat :=
  routeKey b (k.net.bank != flag (k.reg .NI_RTSEL b) 13) (k.rf .NI_RTSEL 11 0 b)

theorem Block.selectedRoute_eq (k : Block) (b : Nat) : k.selectedRoute b = k.routePicked b * 2 := rfl

/-- What a lookup finds of an entry, both words. -/
def Block.routeSeen (k : Block) (i : Nat) : Word × Word :=
  asStood k.clk.now (look ((0 : Nat), (0 : Word), (0 : Word)) k.net.routeOld i)
    (look 0 k.net.routeMem (i * 2), look 0 k.net.routeMem (i * 2 + 1))

theorem asStood_map {α β : Type} (f : α → β) (now : Nat) (x : Nat × α) (c : α) :
    asStood now (x.1, f x.2) (f c) = f (asStood now x c) := (apply_ite f _ _ _).symm

/-- Either word of an entry is that word of what a lookup finds. -/
theorem Block.routeWord_eq (k : Block) (b : Nat) (bank : Bool) (e : Nat) {w : Nat} (hw : w < 2) :
    k.routeWord b bank e w = if w = 0 then (k.routeSeen (routeKey b bank e)).1 else (k.routeSeen (routeKey b bank e)).2 := by
  obtain rfl | rfl : w = 0 ∨ w = 1 := by omega
  · rw [if_pos rfl]
    exact asStood_map Prod.fst k.clk.now (look ((0 : Nat), (0 : Word), (0 : Word)) k.net.routeOld (routeKey b bank e))
      (look 0 k.net.routeMem (routeKey b bank e * 2), look 0 k.net.routeMem (routeKey b bank e * 2 + 1))
  · rw [if_neg one_ne_zero]
    exact asStood_map Prod.snd k.clk.now (look ((0 : Nat), (0 : Word), (0 : Word)) k.net.routeOld (routeKey b bank e))
      (look 0 k.net.routeMem (routeKey b bank e * 2), look 0 k.net.routeMem (routeKey b bank e * 2 + 1))

/-- The words that a commit with a MODE of the spec writes. -/
theorem Block.commitRoute_eq {k : Block} {b : Nat} {v : Word} (hm : fld v 61 60 ≤ 1) : k.commitRoute b v = { k with
    net.routeOld := put ((0 : Nat), (0 : Word), (0 : Word)) k.net.routeOld (k.routePicked b)
      (k.clk.now + 1, k.routeSeen (k.routePicked b))
    net.routeMem := put 0 (put 0 k.net.routeMem (k.selectedRoute b) (k.reg .NI_RTLO b)) (k.selectedRoute b + 1)
      (withFld (withFld v 59 54 0) 23 8 0) } := by
  have hkey : k.selectedRoute b / 2 = k.routePicked b := by
    rw [Block.selectedRoute_eq]
    exact Nat.mul_div_left _ two_pos
  simp only [Block.commitRoute, if_pos hm, withFld_fld, hkey]
  rfl

/-- A lookup in the FCLK of a commit finds every entry as it was. -/
theorem Block.routeSeen_commitRoute {k : Block} {b : Nat} {v : Word} (hm : fld v 61 60 ≤ 1) (i : Nat) :
    (k.commitRoute b v).routeSeen i = k.routeSeen i := by
  rw [Block.commitRoute_eq hm, Block.routeSeen]
  dsimp only
  by_cases hi : i = k.routePicked b
  · rw [hi, look_put_same, asStood]
    exact if_pos rfl
  · rw [Block.selectedRoute_eq, look_put_other _ _ _ _ hi, look_put_other _ _ _ _ (by omega : i * 2 ≠ _),
      look_put_other _ _ _ _ (by omega : i * 2 ≠ _), look_put_other _ _ _ _ (by omega : i * 2 + 1 ≠ _),
      look_put_other _ _ _ _ (by omega : i * 2 + 1 ≠ _), Block.routeSeen]

/-- Settles O46: the window by what PMSEL selects, a flip by what stands at the boundary, a table by its bank, an entry by
the words that its key holds. -/
theorem programWindowAndRouteTables : Obligations.ProgramWindowAndRouteTables := by
  unfold Obligations.ProgramWindowAndRouteTables
  refine ⟨?reducer, ?transfer, ?course, ?reducerBusy, ?flipAsked, ?noFlip, ?flip, ?notPending, ?withImage, ?package, ?system,
    ?locked, ?entry⟩
  case reducer =>
    intro s b off v hr hc ho hp hi
    have hgives := gives_programWindowWrite hr hc (by omega : off < 0x10000) v
    rw [Block.windowWrite_reducer hp ho hi] at hgives
    exact ⟨_, hgives, rfl, look_put_same _ _ _ _, fun a ha => look_put_other _ _ _ _ ha, rfl⟩
  case transfer =>
    intro s b off v hr hc ho hp hi
    have hgives := gives_programWindowWrite hr hc (by omega : off < 0x10000) v
    rw [Block.windowWrite_transfer hp ho hi] at hgives
    exact ⟨_, hgives, rfl, look_put_same _ _ _ _, fun a ha => look_put_other _ _ _ _ ha, rfl⟩
  case course =>
    intro s b off v hr hc ho hp
    have hgives := gives_programWindowWrite hr hc ho v
    rwa [Block.windowWrite_course hp] at hgives
  case reducerBusy =>
    intro s b off v hr hc ho hp hi
    have hgives := gives_programWindowWrite hr hc (by omega : off < 0x10000) v
    rwa [Block.windowWrite_reducer_busy hp hi] at hgives
  case flipAsked =>
    intro s v hh hc hf
    have hgives := gives_routeFlipWrite hh hc v
    simp only [Block.writeGlbRoute, hf, if_true] at hgives
    exact ⟨_, hgives, rfl, rfl, (Block.epoch_flipAsked _).trans (by rw [Block.net_applyWrite])⟩
  case noFlip =>
    intro s v hh hc hf
    have hgives := gives_routeFlipWrite hh hc v
    simp only [Block.writeGlbRoute, hf, Bool.false_eq_true, if_false] at hgives
    exact hgives
  case flip =>
    intro s hh hc hf hi
    exact ⟨_, gives_routeFlip hh hc hf (by rw [hi]; rfl), rfl, fun h => Block.flipRoutes_empty s.env h, rfl⟩
  case notPending =>
    intro s hh hf
    exact gives_routeFlip_not hh (by simp [hf])
  case withImage =>
    intro s hh hi hs
    exact gives_routeFlip_not hh (by simp [hi, hs])
  case package =>
    intro s bank i v hh hc hb hi hbank hl
    have hgives := gives_routeTableWrite hh hc (tableAt_package hb hi) v
    rw [Block.writeTable_package hbank hl] at hgives
    generalize withFld v 58 56 0 = w at hgives ⊢
    exact ⟨_, hgives, rfl, look_put_same _ _ _ _, fun a ha => look_put_other _ _ _ _ ha, rfl⟩
  case system =>
    intro s bank i v hh hc hb hi hbank hl
    have hgives := gives_routeTableWrite hh hc (tableAt_system hb hi) v
    rw [Block.writeTable_system hbank hl] at hgives
    generalize withFld v 58 56 0 = w at hgives ⊢
    exact ⟨_, hgives, rfl, look_put_same _ _ _ _, fun a ha => look_put_other _ _ _ _ ha, rfl⟩
  case locked =>
    intro s bank i v hh hc hb hi hl
    have hgives := gives_routeTableWrite hh hc (tableAt_system hb hi) v
    rwa [Block.writeTable_locked hl] at hgives
  case entry =>
    intro s b v hr hc hm
    have hgives := gives_routeEntryCommit hr hc v
    refine ⟨_, hgives, ?_, ?_, ?_⟩
    · rw [Block.commitRoute_eq hm]
      rfl
    · intro c bank e w hw
      have hseen : ((s.blk.commitRoute b v).answerWrite b .mp).routeWord c bank e w =
          (s.blk.commitRoute b v).routeWord c bank e w := rfl
      rw [hseen, Block.routeWord_eq _ _ _ _ hw, Block.routeWord_eq _ _ _ _ hw, Block.routeSeen_commitRoute hm]
    · rw [Block.commitRoute_eq hm]
      refine ⟨?_, look_put_same _ _ _ _, fun a ha ha' => ?_⟩
      · exact (look_put_other _ _ _ _ (by omega)).trans (look_put_same _ _ _ _)
      · exact (look_put_other _ _ _ _ ha').trans (look_put_other _ _ _ _ ha)

end Sys2Proof.Machine
end
